-- ==== Sys2Proof/Word.lean ====
section
/-!
DEFINITION. The plainest number helpers: bytes, little-endian values, bit fields of a natural number, two's complement and
saturation. Configuration registers are little-endian 32-bit words (spec/00 R7); the helpers carry no meaning of a command.
-/
namespace Sys2Proof

/-- One byte. -/
abbrev Byte := BitVec 8

/-- A 32-bit configuration word (spec/00 R7). -/
abbrev Word := BitVec 32

/-- The value of bytes, least significant byte first (spec/00 R7). -/
def leNat : List Byte → Nat
  | [] => 0
  | b :: bs => b.toNat + 256 * leNat bs

/-- `n` bytes of a value, least significant first. -/
def leBytes : Nat → Nat → List Byte
  | 0, _ => []
  | n + 1, v => BitVec.ofNat 8 v :: leBytes n (v / 256)

/-- Bits `[lo + w - 1 : lo]` of a value. -/
def bitsOf (v lo w : Nat) : Nat := v / 2 ^ lo % 2 ^ w

/-- One bit of a value. -/
def bitOf (v i : Nat) : Bool := v / 2 ^ i % 2 == 1

/-- The two's complement reading of the low `w` bits. -/
def sext (w v : Nat) : Int :=
  let m := v % 2 ^ w
  if m < 2 ^ (w - 1) then (m : Int) else (m : Int) - (2 ^ w : Nat)

/-- The low `w` bits of an integer, as two's complement. -/
def toBits (w : Nat) (x : Int) : Nat := (x % (2 ^ w : Nat)).toNat

/-- Limit an integer to `[lo, hi]`. -/
def clampInt (lo hi x : Int) : Int := if x < lo then lo else if hi < x then hi else x

/-- Limit a natural number to `[lo, hi]`. -/
def clampNat (lo hi x : Nat) : Nat := if x < lo then lo else if hi < x then hi else x

/-- Saturate a natural number at the largest value of `w` bits. -/
def satNat (w v : Nat) : Nat := min v (2 ^ w - 1)

/-- Saturate an integer to signed `w` bits. -/
def satInt (w : Nat) (x : Int) : Int := clampInt (-(2 ^ (w - 1) : Nat)) ((2 ^ (w - 1) : Nat) - 1) x

/-- Division rounding to nearest, halves away from zero; the divisor is positive. -/
def divNearest (x : Int) (d : Nat) : Int :=
  if 0 ≤ x then (2 * x + d) / (2 * d : Nat) else -((2 * (-x) + d) / (2 * d : Nat))

/-- Read the `i`th byte of a list, zero past its end. -/
def byteAt (bs : List Byte) (i : Nat) : Nat := (bs.getD i 0).toNat

/-- A little-endian field of `n` bytes at offset `off`. -/
def leAt (bs : List Byte) (off n : Nat) : Nat := leNat ((bs.drop off).take n)

/-- One bit as a number. -/
def b2n (b : Bool) : Nat := if b then 1 else 0

end Sys2Proof
end

