-- ==== Sys2Proof/Syntax.lean ====
section
/-!
DEFINITION. The commands the block takes from outside, one constructor per row of spec/opcode_table.json, and the types of their
operands. Unit numbers are bounded by the instance counts of spec/01 R19, so no command names a unit that does not exist.
-/
namespace Sys2Proof

/-- Host contexts HC0 to HC7. -/
abbrev CtxId := Fin 8
/-- Host ports HP0 and HP1. -/
abbrev PortId := Fin 2
/-- Rings Q0 to Q159. -/
abbrev RingId := Fin 160
/-- Cells, and with them lanes, 0 to 63. -/
abbrev CellId := Fin 64
/-- Motion axes 0 to 7. -/
abbrev AxisId := Fin 8
/-- Loop slots 0 to 79. -/
abbrev SlotId := Fin 80
/-- Inspection pipelines and camera ports 0 to 3. -/
abbrev PipeId := Fin 4
/-- Encoder inputs 0 to 3. -/
abbrev EncId := Fin 4
/-- Ethernet ports 0 and 1. -/
abbrev NetId := Fin 2

/-- The two Yoke cores. -/
inductive YokeCore | a | b
  deriving DecidableEq, Repr

/-- A master of the configuration fabric (spec/01): a host context, a Yoke core, the Vault, or the debug port (spec/17 R473). -/
inductive Sender
  | ctx (k : CtxId)
  | yoke (c : YokeCore)
  | vault
  | debug
  deriving DecidableEq, Repr

/-- The kinds of owned resources (spec/02 R43). -/
inductive OwnKind | cell | axis | loop | insp | lq | enc
  deriving DecidableEq, Repr

/-- How a read of host memory or of the page store ends. For an address in the page store the bytes come from the state's
memory and those given here are not used; `corrected` and `failed` are then an ECC outcome of R497, `failed` at the given 64-bit
word of the read. For host memory `failed` is a completion timeout or an Unsupported Request. -/
inductive ReadResult
  | ok (bytes : List Byte)
  | corrected (bytes : List Byte)
  | failed (word : Nat)
  deriving DecidableEq, Repr

/-- The difference counts of a scan (spec/08 R234, R235): at PHASE 0, VOFF 0, and at the points measured outward from it in each
of the four directions, in order; a direction ends with its first failing point. -/
structure EyePoints where
  centre : Nat
  left   : List Nat
  right  : List Nat
  down   : List Nat
  up     : List Nat
  deriving DecidableEq, Repr

/-- Dual-encoder pairs 0 and 1 (spec/10). -/
abbrev PairId := Fin 2

/-- The two wires of a pair and the pair's tracked mean common mode, in µV (spec/10 R290, spec/23). -/
structure WirePair where
  p    : Int
  n    : Int
  mean : Int
  deriving DecidableEq, Repr

/-- What the balls of an encoder input show at one SENSE edge (spec/10 R290 to R294): the two converters' codes, the levels of A, B
and of Z or the analogue index pair, and the wires of the SIN, COS and IDX pairs as the window comparators see them. -/
structure EncBalls where
  sin  : BitVec 14
  cos  : BitVec 14
  a    : Bool
  b    : Bool
  z    : Bool
  sinW : WirePair
  cosW : WirePair
  idxW : WirePair
  deriving DecidableEq, Repr


/-- One sample of the two current converters of an axis, in codes (spec/12 R332). -/
structure CoilCodes where
  a : BitVec 12
  b : BitVec 12
  deriving DecidableEq, Repr

/-- How an AXIS operation comes (spec/12): by the descriptor that may start on the control ring of a cell, by a write of
AXIS[a].CMD with GO, or, for ENABLE and DISABLE, by a write of AXIS[a].CTL.EN. -/
inductive AxisVia
  | ring (n : CellId)
  | cmd (who : Sender) (a : AxisId)
  | ctl (who : Sender) (a : AxisId)
  deriving DecidableEq, Repr

/-- The switch inputs of an axis (spec/12 R351). -/
inductive AxisInput | limP | limN | home
  deriving DecidableEq, Repr

/-- A CSI-2 packet as a port decodes it (spec/14 R381): short packets; a long packet of one of the RAW types with its pixels (type 0
RAW8 to 4 RAW16), of embedded data with its bytes, or of another type; a header whose error cannot be corrected. -/
inductive CsiPacket
  | frameStart (num : BitVec 16)
  | frameEnd
  | lineStart
  | lineEnd
  | raw (type : Fin 5) (pixels : List (BitVec 16)) (crcOk : Bool)
  | embedded (bytes : List Byte) (crcOk : Bool)
  | other
  | badHeader
  deriving DecidableEq, Repr

/-- What holds a pipeline back at a packet: nothing, its input buffer is full, or its write buffer is (spec/14 R386). -/
inductive CsiHeld | none | overflow | mem
  deriving DecidableEq, Repr

/-- A block whose safety-bus heartbeat the Goose watches (spec/18 R495). -/
inductive HbUnit
  | cell (n : CellId)
  | lane (n : CellId)
  | pipe (p : PipeId)
  | enc (i : EncId)
  | axis (a : AxisId)
  | loops
  | net (k : NetId)
  | nougat
  | gov
  | time
  | memc
  | host
  | vault
  | yoke
  /-- The safety-bus beats of one Yoke core, which the Coop checks (spec/19 R506). -/
  | core (c : YokeCore)
  deriving DecidableEq, Repr

/-- What one regulator answers a PMBus poll (spec/19 R518): its entry of PMB_LIST, whether STATUS_WORD reports a fault or output off, and
READ_VOUT in mV and READ_IOUT in mA. -/
structure RegReply where
  entry : Fin 32
  fault : Bool
  vout  : BitVec 16
  iout  : BitVec 16
  deriving DecidableEq, Repr

/-- What the PCI configuration space of a function holds of what spec/02 R37 names: the identification registers, the two BARs by low and high word, Bus Master
Enable, the enable and the function mask of MSI-X, the power state (0 D0, 3 D3hot), Max Payload Size and Max Read Request Size as codes of 128 bytes ×
2^code, and the L1 exit latency that the port advertises (R42). -/
inductive PciReg
  | vendorId | deviceId | classCode | interruptPin | bar0 | bar0Hi | bar2 | bar2Hi | busMaster | msixEnable | msixMask | powerState | maxPayload | maxReadRequest
  | l1ExitLatency
  deriving DecidableEq, Repr

/-- A memory error that a row meets as it reads its line (spec/05 R143, R158): the row, whether in the follower's memory of a gang, whether in a
bank or a stitch mask and not in the line buffer, and whether it is uncorrectable. -/
structure RowErr where
  row    : Fin 8
  mate   : Bool
  bank   : Bool
  uncorr : Bool
  deriving DecidableEq, Repr

/-- What an access of a master names: an address of the configuration window BAR0, or, for a function of a host, an offset of its MSI-X window
BAR2 or a register of its PCI configuration space (spec/02 R37). -/
inductive Place
  | reg (addr : BitVec 26)
  | bar2 (off : BitVec 14)
  | pci (r : PciReg)
  deriving DecidableEq, Repr

/-- Three consecutive samples of the converters of an axis (spec/12 R347). -/
structure CoilSamples where
  axis : AxisId
  i1   : CoilCodes
  i2   : CoilCodes
  i3   : CoilCodes
  deriving DecidableEq, Repr

/-- How a transaction of a write list on CCI master `port` fails (spec/14 R401): without an acknowledgement, or with SCL held low for `lowUs` µs. -/
structure CciFailure where
  port  : PipeId
  nack  : Bool
  lowUs : Fin 65536
  deriving DecidableEq, Repr

/-- What an image slot reads as (spec/17 R451): its 352-byte header and its body. -/
structure Image where
  header : List Byte
  body   : List Byte
  deriving DecidableEq, Repr

/-- The commands of the block, one constructor per row of spec/opcode_table.json: those with operands in table order, then those
without. -/
inductive Instr where
  /-- CONFIG_WRITE (R11): A write to a configuration register that has no row of its own; the device applies it by field class, lock and ownership. Operands: the place, the size in bytes (spec/00 R7) and the value written; the table has no row for a read, so a read comes by this row too, with no value (notes/assumptions/31). -/
  | configWrite (who : Sender) (addr : Place) (size : Fin 65) (value : Option Word)
  /-- OWNERSHIP_WRITE (R45): A write to a HOST ownership register changes the owner of an idle resource, or is discarded. Operands: word `word` of the ownership registers of `kind`. -/
  | ownershipWrite (who : Sender) (kind : OwnKind) (word : Fin 10) (value : Word)
  /-- ADMIN_TAKEOVER (R77): A context writes its own number to HOST.ADMIN.CTX while the administrator is in host loss with TAKEOVER set. Operands: context `who` writes `value`. -/
  | adminTakeover (who : CtxId) (value : CtxId)
  /-- PERST_ASSERT (R39): HPn_PERST_N asserts, resetting the port's PCI Express logic and putting its enabled contexts into host loss. -/
  | perstAssert (p : PortId)
  /-- PERST_DEASSERT (R40): HPn_PERST_N deasserts and the port trains its link, returning retry status until the host interface is ready. -/
  | perstDeassert (p : PortId)
  /-- CRS_TIMEOUT (R41): 900 ms pass after deassertion without readiness, and the port answers configuration requests under the restricted rules. -/
  | crsTimeout (p : PortId)
  /-- FUNCTION_LEVEL_RESET (R74): The host resets one function, putting its context into host loss. -/
  | functionLevelReset (k : CtxId)
  /-- PORT_LINK_DOWN_TIMEOUT (R74): The port's link has been down for more than 1 ms, and its contexts enter host loss. -/
  | portLinkDownTimeout (p : PortId)
  /-- BUS_MASTER_CLEAR (R74): Bus Master Enable is cleared while a ring of the context is enabled, causing host loss. -/
  | busMasterClear (k : CtxId)
  /-- WATCHDOG_EXPIRY (R74): The context watchdog expires, causing host loss. -/
  | watchdogExpiry (k : CtxId)
  /-- L1_EXIT (R42): The link returns from ASPM L1 to L0, and waiting DMA proceeds. -/
  | l1Exit (p : PortId)
  /-- CTX_ENABLE (R76): A write of CTL.EN = 1 enables the context or ends its host loss when its function is usable. Operands: `busMaster` and `flrDone` are what the function's PCI configuration space holds at the write (R76). -/
  | ctxEnable (who : Sender) (k : CtxId) (busMaster : Bool) (flrDone : Bool)
  /-- CTX_DISABLE (R78): A write of CTL.EN = 0 disables the context, disables its rings and flushes completions and events. -/
  | ctxDisable (who : Sender) (k : CtxId)
  /-- KICK (R57): A write of HOST.CTX[k].KICK starts or queues a doorbell fetch for the context. -/
  | kick (who : Sender) (k : CtxId)
  /-- POLL_EXPIRY (R57): The poll interval of a context expires and a doorbell fetch starts or is queued. -/
  | pollExpiry (k : CtxId)
  /-- DOORBELL_FETCH (R59): The read of a context's doorbell entries completes; PIs are checked and descriptor fetches are issued. Operands: `result` is the PI word of each entry read, `none` a failed read. -/
  | doorbellFetch (k : CtxId) (result : Option (List (RingId × BitVec 16)))
  /-- DESCRIPTOR_FETCH (R60): A read of descriptor slots completes and the descriptors are passed to their consumers. Operands: `result` is what host memory returns; a ring in the page store is read from the page store. -/
  | descriptorFetch (q : RingId) (result : ReadResult)
  /-- RING_ENABLE (R83): A write of RING[q].CFG.EN = 1 enables a ring, taking its indices from the doorbell entry. -/
  | ringEnable (who : Sender) (q : RingId)
  /-- RING_DISABLE (R79): A write of RING[q].CFG.EN = 0 stops fetching and completes held descriptors with ABORTED. -/
  | ringDisable (who : Sender) (q : RingId)
  /-- RING_ABORT (R80): A write of CFG.ABORT mutes the cell from the next line boundary and aborts every started and held descriptor. -/
  | ringAbort (who : Sender) (q : RingId)
  /-- NOP (R62): A NOP descriptor reaches the head of its ring and completes. -/
  | nop (q : RingId)
  /-- PAGE (R129): The cell takes a PAGE at its fetch start, checks it, and arms it. -/
  | page (n : CellId)
  /-- STRIP (R115): Nougat accepts or refuses a STRIP and queues its blocks for dispatch. Operands: the page ring of cell `n` carries it. -/
  | strip (n : CellId)
  /-- MAPLOAD (R151): A MAPLOAD reads its entries and waits for the background bank lock. -/
  | mapload (n : CellId) (result : ReadResult)
  /-- MAPLOAD_LOCK (R151): A waiting MAPLOAD takes the background lock, writes its entries and requests a swap if SWAP is set. -/
  | maploadLock (n : CellId)
  /-- WAVE (R281): A WAVE descriptor is forwarded to the head as WAVE_BEGIN, WAVE_DATA and WAVE_END commands. -/
  | wave (n : CellId) (result : ReadResult)
  /-- TRIM (R281): A TRIM descriptor is forwarded to the head as TRIM_BEGIN, TRIM_DATA and TRIM_END commands. -/
  | trim (n : CellId) (result : ReadResult)
  /-- LADDER (R404): The cell takes a LADDER and checks it, to print a Praline strip after the preceding page. -/
  | ladder (n : CellId)
  /-- SYNC (R65): A SYNC reaches the head of its ring and begins to wait for its condition. -/
  | sync (q : RingId)
  /-- SYNC_TIME_REACHED (R67): Device time reaches the VALUE of a waiting TIME SYNC, which completes. -/
  | syncTimeReached (q : RingId)
  /-- SYNC_TIMEOUT (R68): The TIMEOUT of a SYNC expires, and it and its guarded descriptors complete with TIMEOUT. -/
  | syncTimeout (q : RingId)
  /-- BUF (R396): An empty BUF descriptor is posted on a result, tap or statistics ring. -/
  | buf (q : RingId)
  /-- LAUNCH (R440): A LAUNCH reaches the head of its queue, its frame is fetched and its launch is scheduled. -/
  | launch (q : RingId) (result : ReadResult)
  /-- LAUNCH_DUE (R441): A launch time arrives and the port sends the frame, inserting the PTP stamp or handling it as late. Operands: `k`: the port whose wire takes the frame. -/
  | launchDue (k : NetId)
  /-- LOAD_DPC_MAP (R398): An INSP descriptor loads the static defect map into the shadow settings. -/
  | loadDpcMap (p : PipeId) (result : ReadResult)
  /-- LOAD_SHADING (R398): An INSP descriptor loads the shading gains into the shadow settings. -/
  | loadShading (p : PipeId) (result : ReadResult)
  /-- LOAD_MATRIX (R398): An INSP descriptor loads the colour matrix into the shadow settings. -/
  | loadMatrix (p : PipeId) (result : ReadResult)
  /-- SET_EXPOSURE (R398): An INSP descriptor loads the CCI write list into the shadow settings. -/
  | setExposure (p : PipeId) (result : ReadResult)
  /-- COMMIT (R399): An INSP COMMIT copies the shadow into pending and launches the CCI list. -/
  | inspCommit (p : PipeId)
  /-- ARM (R385): An INSP ARM arms the pipeline from the next Frame Start. -/
  | inspArm (p : PipeId)
  /-- DISARM (R385): An INSP DISARM disarms the pipeline after the present frame. -/
  | inspDisarm (p : PipeId)
  /-- EVENT_RING_SPACE (R71): Space returns in a full event ring and held events are written with OVF and LOST. Operands: `pi` is the host's consumer index as re-read (R70, R83), `none` a failed read. -/
  | eventRingSpace (k : CtxId) (pi : Option (BitVec 16))
  /-- MODERATION_HOLDOFF (R73): The HOLDOFF timer of a moderated vector expires and the vector is raised. -/
  | moderationHoldoff (k : CtxId) (vec : Fin 64)
  /-- ENTRY_READ (R93): The read of a block-table entry completes and the entry is judged valid, invalid or faulty. -/
  | entryRead (n : CellId) (result : ReadResult)
  /-- ENTRY_REPOLL (R93): The re-read interval of an invalid entry expires and the entry is read again. -/
  | entryRepoll (n : CellId)
  /-- ROW_FETCH_START (R138): Lb line-buffer slots become free and the cell starts fetching the next block row. -/
  | rowFetchStart (n : CellId)
  /-- BLOCK_READ (R111): A block read completes and the block is checked, decrypted and decoded in order. -/
  | blockRead (n : CellId) (result : ReadResult)
  /-- BLOCK_ROW_READY (R139): The last block of a row passes its checks and the row's lines become ready together. -/
  | blockRowReady (n : CellId)
  /-- NOUGAT_DISPATCH (R126): A Nougat lane becomes free and takes the next block by weighted round robin. -/
  | nougatDispatch (lane : Fin 16)
  /-- NOUGAT_BLOCK_CODED (R119): A lane finishes coding and verifying a block and chooses its payload, marking Crumbs. Operands: `result`: the raw read; `mismatch`: the verifying decoder disagrees with the input; `eccErr`: an uncorrectable error in a staging buffer. -/
  | nougatBlockCoded (lane : Fin 16) (result : ReadResult) (mismatch : Bool) (eccErr : Bool)
  /-- NOUGAT_COMMIT (R123): A coded block commits in dispatch order once the arena has space, and its entry is written valid. -/
  | nougatCommit (k : CtxId)
  /-- ARENA_TAIL (R125): A write of ARENA[k].TAIL releases arena units, or is discarded if it passes HEAD. -/
  | arenaTail (who : Sender) (k : CtxId) (value : BitVec 28)
  /-- NOUGAT_LANE_RESTORE (R121): A write of LANE_CTL.RESTORE returns a fenced Nougat lane to service. -/
  | nougatLaneRestore (who : Sender) (mask : BitVec 16)
  /-- CELL_ENABLE (R131): A write of CELL[n].CTL.EN = 1 takes an OFF cell to IDLE and restarts its counts. -/
  | cellEnable (who : Sender) (n : CellId)
  /-- CELL_DISABLE (R131): A write of CELL[n].CTL.EN = 0 takes the cell toward OFF according to its state. -/
  | cellDisable (who : Sender) (n : CellId)
  /-- SOFT_TRIG (R168): A write of FE_CTL.SOFT_TRIG delivers a SOFT trigger to the armed page. -/
  | softTrig (who : Sender) (n : CellId)
  /-- PRINT_START (R169): The print start of a page comes, fixing P0 and bringing class B:page fields into force. -/
  | printStart (n : CellId)
  /-- ROW_STEP (R179): At each observer sample the fire engine evaluates each row for commit, correction or withdrawal. Operands: `parityErr`: the observer sample fails its parity (R196); `lbErr`: a line-buffer error found when a row reads its line, uncorrectable when true (R143). -/
  | rowStep (n : CellId) (parityErr : Bool) (err : Option RowErr)
  /-- FIRE_SEND (R180): The send time t_act − LEAD of a committed row arrives and its FIRE and LINE frames are queued. -/
  | fireSend (n : CellId) (row : Fin 8)
  /-- PAGE_COMPLETE (R64): The last line of a page is fired or muted and the PAGE completion is written. -/
  | pageComplete (n : CellId)
  /-- LOCKSTEP_MISMATCH (R195): The two copies of a fire engine disagree and the cell is fenced with cause LOCKSTEP. -/
  | lockstepMismatch (n : CellId)
  /-- CELL_RELEASE (R496): A write of CTL.RELEASE asks to leave FENCED and is granted or refused. Operands: `alive`: the heartbeat of the cell and its lane has returned (R496). -/
  | cellRelease (who : Sender) (n : CellId) (alive : Bool)
  /-- CELL_SELFTEST_DONE (R159): The 20 µs fire-engine self-test of a released cell ends and the cell enters IDLE or OFF or stays FENCED. -/
  | cellSelftestDone (n : CellId) (pass : Bool)
  /-- SWAP_REQ (R152): A write of CTL.SWAP_REQ requests a bank swap, starting an overlay first when OVERLAY is set. -/
  | swapReq (who : Sender) (n : CellId)
  /-- RETIRING_END (R153): The last row maps the last line before the swap and the old foreground leaves RETIRING. -/
  | retiringEnd (n : CellId)
  /-- MIRROR_DONE (R153): The 2.048 µs mirror copy ends and the background becomes READY. -/
  | mirrorDone (n : CellId)
  /-- BG_TABLE_WRITE (R151): A register write to the background bank window is taken or discarded by the bank state. Operands: word of the MAP or MERGE background window (R163). -/
  | bgTableWrite (who : Sender) (n : CellId) (merge : Bool) (word : Fin 1024) (value : Word)
  /-- TEMP_HOLD_EXPIRY (R157): The temperature stays below TEMP_CLEAR for HOLD_TIME and the head-temperature mute ends at the next line boundary. -/
  | tempHoldExpiry (n : CellId)
  /-- MARK_EDGE (R175): A change on a MARK input qualifies after FILT samples and its time and encoder positions are latched. Operands: `age`: ns from the first sample at the new level to the qualification. -/
  | markEdge (m : Fin 4) (rising : Bool) (age : Fin 2001)
  /-- GOV_LATCH_CLEAR (R206): A write of 1 to GOV.STAT.LATCH clears the latched HOST_LOSS and UNDERRUN causes. -/
  | govLatchClear (who : Sender)
  /-- TTS_MIN_RESET (R201): A write to GOV.TTS_MIN resets it to 0xFFFF_FFFF. -/
  | ttsMinReset (who : Sender)
  /-- DS_FRAME_SEND (R258): At a downstream frame boundary the device sends the first ready frame in frame order, as VOID if past its deadline. -/
  | dsFrameSend (n : CellId)
  /-- FRAME_RECEIVE (R252): A frame arrives from frame alignment and is checked, delivered, acknowledged or replay-requested. Operands: `wire` is the bits received, first bit first; `stamp` is the time stamp T4 of R270 in 2⁻¹⁶ ns. -/
  | frameReceive (n : CellId) (wire : List Bool) (stamp : Nat)
  /-- REPLAY_TIMEOUT (R255): No ACK_SEQ has advanced for REPLAY_TO since the oldest held frame was sent. -/
  | replayTimeout (n : CellId)
  /-- ACK_TIMER (R253): 1 µs passes since an unacknowledged frame was delivered and an LCTL acknowledgement is sent. -/
  | ackTimer (n : CellId)
  /-- OC_ADJUST (R232): After 4,096 received bits the offset canceller moves its threshold one step. -/
  | ocAdjust (n : CellId)
  /-- EYE_SCAN_START (R234): A write of EYE_CTL.START begins a point measurement or sweep. -/
  | eyeScanStart (who : Sender) (n : CellId)
  /-- EYE_SCAN_DONE (R235): A scan ends and EYE_STAT reports its result. -/
  | eyeScanDone (n : CellId) (pts : EyePoints)
  /-- EYE_AUTO_SWEEP (R236): PERIOD_S seconds pass and an automatic sweep starts. -/
  | eyeAutoSweep (n : CellId)
  /-- DOZE_ENTRY (R238): DOZE_AFTER consecutive IDLE frames with nothing queued take the transmitter into DOZE. -/
  | dozeEntry (n : CellId)
  /-- SLEEP_ENTRY (R239): A direction enters SLEEP after the sleep notice and 8 IDLE frames. Operands: the upstream direction when `up`. -/
  | sleepEntry (n : CellId) (up : Bool)
  /-- WAKE (R240): A wake request makes the transmitter leave electrical idle and send the wake preamble and IDLE frames. -/
  | wake (n : CellId)
  /-- SQUELCH_ASSERT (R241): A sleeping receiver's squelch asserts and it leaves SLEEP and hunts. -/
  | squelchAssert (n : CellId)
  /-- FALSE_WAKE_TIMEOUT (R241): No LOCKED within 20 µs of a squelch assertion, so the receiver returns to SLEEP. -/
  | falseWakeTimeout (n : CellId)
  /-- LOSS_OF_SIGNAL (R242): No squelch signal for 1 µs without a sleep notice and the receiver declares loss of signal. -/
  | lossOfSignal (n : CellId)
  /-- LANE_ENABLE (R243): A write of PHY_CTL.EN = 1 powers the lane up and training begins. -/
  | laneEnable (who : Sender) (n : CellId)
  /-- LANE_DISABLE (R243): A write of PHY_CTL.EN = 0 puts both directions in OFF at once. -/
  | laneDisable (who : Sender) (n : CellId)
  /-- TIME_SYNC_SEND (R271): The time-lock period expires and a TIME SYNC frame is sent. -/
  | timeSyncSend (n : CellId)
  /-- TIME_REPLY_TIMEOUT (R269): No REPLY arrives within 20 µs of a SYNC, which counts as lost. -/
  | timeReplyTimeout (n : CellId)
  /-- LOCK_LOSS_TIMEOUT (R279): The device receiver stays out of LOCKED for 20 µs and the lane leaves UP. -/
  | lockLossTimeout (n : CellId)
  /-- RETRAIN (R279): A write of LL_CTL.RETRAIN takes the lane out of UP and into training. -/
  | retrain (who : Sender) (n : CellId)
  /-- RATE_CHANGE_TIMEOUT (R274): A receiver is not LOCKED within 100 µs of the wake at the new rate, so both ends return to DETECT. -/
  | rateChangeTimeout (n : CellId)
  /-- TRAIN_TIMEOUT (R278): A training attempt does not reach UP within TRAIN_TO and the device sends RESTART and waits. -/
  | trainTimeout (n : CellId)
  /-- RETRAIN_DELAY_EXPIRY (R278): RETRAIN_DELAY in WAIT expires and training starts again in DETECT. -/
  | retrainDelayExpiry (n : CellId)
  /-- AUTH_VERIFY_DONE (R468): The Vault finishes checking the head certificate and signature and authentication passes or fails. -/
  | authVerifyDone (n : CellId)
  /-- AUTH_TIMEOUT (R286): The authentication exchange does not complete within 100 ms. -/
  | authTimeout (n : CellId)
  /-- IDENT (R284): A mailbox IDENT command is sent to the head to read an identity page. Operands: `arg` is CMD_TX bytes 4 to 31. -/
  | ident (who : Sender) (n : CellId) (arg : BitVec 224)
  /-- PING (R284): A mailbox PING command is sent to the head to be echoed. Operands: `arg` is CMD_TX bytes 4 to 31. -/
  | ping (who : Sender) (n : CellId) (arg : BitVec 224)
  /-- TRIM_SELECT (R284): A mailbox TRIM_SELECT command selects a trim set in the head. Operands: `arg` is CMD_TX bytes 4 to 31. -/
  | trimSelect (who : Sender) (n : CellId) (arg : BitVec 224)
  /-- LEVEL_MAP (R284): A mailbox LEVEL_MAP command maps drop levels to waveform slots in the head. Operands: `arg` is CMD_TX bytes 4 to 31. -/
  | levelMap (who : Sender) (n : CellId) (arg : BitVec 224)
  /-- SENSE (R284): A mailbox SENSE command asks the head to test nozzles. Operands: `arg` is CMD_TX bytes 4 to 31. -/
  | sense (who : Sender) (n : CellId) (arg : BitVec 224)
  /-- HEATER (R284): A mailbox HEATER command sets the duty of a head zone with no bound loop. Operands: `arg` is CMD_TX bytes 4 to 31. -/
  | heater (who : Sender) (n : CellId) (arg : BitVec 224)
  /-- HEAD_DEFINED_CMD (R284): A mailbox command with OP 0xC0 to 0xFF is sent to the head. Operands: OP is 0xC0 + `op`; `arg` is CMD_TX bytes 4 to 31. -/
  | headDefinedCmd (who : Sender) (n : CellId) (op : Fin 64) (arg : BitVec 224)
  /-- MAILBOX_REFUSED (R284): A mailbox GO names an OP that is not accepted, or a command is outstanding, and REFUSED is set. Operands: OP and bytes 4 to 31 of CMD_TX. -/
  | mailboxRefused (who : Sender) (n : CellId) (op : BitVec 8) (arg : BitVec 224)
  /-- CMD_TIMEOUT (R280): A command has no response within 1 ms, or 20 ms for WAVE_END and TRIM_END. -/
  | cmdTimeout (n : CellId) (cid : BitVec 16)
  /-- UPWR (R283): PWR_CTL.US_IDLE changes or the upstream is woken and the UPWR command is sent. Operands: `wake`: to wake the upstream, else for a change of US_IDLE. -/
  | upwr (n : CellId) (wake : Bool)
  /-- TLM_GAP (R285): More than 50 µs pass between TLM frames and LINK_TLM is raised. -/
  | tlmGap (n : CellId)
  /-- OBSERVER_SAMPLE (R307): At each SENSE period an encoder input checks its wires, counts, updates its observer and issues a sample. Operands: `b` is what the balls of the input show at the SENSE edge. -/
  | observerSample (input : EncId) (b : EncBalls)
  /-- DISTURB_FAULT (R296): Four disturbances fall within 1,024 samples and the input takes cause DISTURB. -/
  | disturbFault (input : EncId)
  /-- WIRE_FAULT (R290): A pair stays in disagreement for WIRE_T samples and the input takes cause WIRE. -/
  | wireFault (input : EncId)
  /-- AMPL_FAULT (R291): 16 consecutive outlier samples make the input take cause AMPL. -/
  | amplFault (input : EncId)
  /-- COAST_FAULT (R301): The observer coasts longer than COAST_MAX and the input takes cause COAST. -/
  | coastFault (input : EncId)
  /-- PWR_FAULT (R289): ENCi_PWR_FLT_N is low for 10 µs while PWR is 1 and the input takes cause PWR. -/
  | pwrFault (input : EncId)
  /-- PWR_SETTLE_EXPIRY (R289): PWR_SETTLE elapses after the encoder supply is switched on. -/
  | pwrSettleExpiry (input : EncId)
  /-- MISSING_INDEX (R303): The count moves 1.5 index periods without an index event and a missing index is counted. -/
  | missingIndex (input : EncId)
  /-- ACQUISITION_END (R310): The 1 ms acquisition ends and the observer changes to its bandwidth. -/
  | acquisitionEnd (input : EncId)
  /-- ENC_RESTART (R298): A write of CTL.RESTART clears the held cause and starts acquisition. -/
  | encRestart (who : Sender) (input : EncId)
  /-- ENC_ENABLE (R299): A write of CTL.EN = 1 starts the input afresh. -/
  | encEnable (who : Sender) (input : EncId)
  /-- ENC_DISABLE (R299): A write of CTL.EN = 0 or CTL.PWR = 0 makes the input invalid at once. Operands: CTL.PWR is written 0 when `pwr`, else CTL.EN. -/
  | encDisable (who : Sender) (input : EncId) (pwr : Bool)
  /-- DUAL_ENABLE (R312): A write of DUAL_CTL.EN enables a pair with its primary active. Operands: `on` is the value written. -/
  | dualEnable (who : Sender) (p : PairId) (on : Bool)
  /-- DUAL_MISMATCH (R314): Disagreement exceeds DUAL_TOL for SAMPLES samples and the pair excludes one input. -/
  | dualMismatch (p : PairId)
  /-- DUAL_REARM (R315): A write of DUAL_CTL.REARM ends an exclusion. -/
  | dualRearm (who : Sender) (p : PairId)
  /-- VIRTUAL_LOAD (R316): A write of VIRT_CTL.LOAD sets the virtual position to VIRT_POS. -/
  | virtualLoad (who : Sender)
  /-- CAL_TEMP_CHECK (R320): The 1 ms temperature check starts a run when the channel temperature has moved past CAL_DT. Operands: `temp` is the channel temperature measured, sQ10.6. -/
  | calTempCheck (input : EncId) (temp : BitVec 16)
  /-- CAL_START (R320): A write of CAL_CTL.START requests a calibration run. -/
  | calStart (who : Sender) (input : EncId)
  /-- CAL_TRIM_END (R322): The 32 µs converter trim ends, offsets are adjusted and the count is re-formed. Operands: `zs` and `zc` are the trims found; `ds` and `dc`, two's complement in 2⁻² code, what they changed the raw codes by. -/
  | calTrimEnd (input : EncId) (zs : BitVec 16) (zc : BitVec 16) (ds : Fin 65536) (dc : Fin 65536)
  /-- CAL_ACCUMULATE_END (R324): Enough periods and bin samples are gathered and the compute phase begins. -/
  | calAccumulateEnd (input : EncId)
  /-- CAL_APPLY (R326): The compute phase ends and a passing run's coefficients are applied. -/
  | calApply (input : EncId)
  /-- CAL_TIMEOUT (R327): Accumulation does not end within TMAX and the run ends with TIMEOUT. -/
  | calTimeout (input : EncId)
  /-- CAL_LOAD (R328): A write of CAL_CTL.LOAD checks CAL_SET and copies it into force. -/
  | calLoad (who : Sender) (input : EncId)
  /-- LOAD_TABLE (R335): An AXIS LOAD_TABLE reads, checks and writes segment rows. Operands: the control ring of cell `n` carries it. -/
  | axisLoadTable (n : CellId) (result : ReadResult)
  /-- START (R338): An AXIS START begins or chains a move over segment rows. -/
  | axisStart (via : AxisVia)
  /-- STOP (R348): An AXIS STOP decelerates a moving or homing axis to rest. -/
  | axisStop (via : AxisVia)
  /-- RESUME (R349): An AXIS RESUME re-joins or abandons a stopped move. -/
  | axisResume (via : AxisVia)
  /-- HOME (R353): An AXIS HOME starts homing on the switch or a limit. -/
  | axisHome (via : AxisVia)
  /-- ENABLE (R357): An AXIS ENABLE releases the brake and energises the axis into READY. -/
  | axisEnable (via : AxisVia)
  /-- DISABLE (R357): An AXIS DISABLE decelerates, brakes and takes the axis toward OFF. -/
  | axisDisable (via : AxisVia)
  /-- TBL_COMMIT (R335): A write of TBL_W[3] commits a segment row through the table registers. Operands: `value` is written to TBL_W[3]. -/
  | tblCommit (who : Sender) (a : AxisId) (value : Word)
  /-- POS_LOAD (R333): A write of CTL.POS_LOAD sets the commanded position to POS_SET. -/
  | posLoad (who : Sender) (a : AxisId)
  /-- AXIS_TICK (R337): Every 1 µs an axis evaluates its running row and sets the current references. -/
  | axisTick (a : AxisId)
  /-- AXIS_AT_REST (R348): A stopping or decelerating axis comes to rest and enters its resting state. -/
  | axisAtRest (a : AxisId)
  /-- MOVE_END (R340): A move ends and waiting AXIS_END SYNCs and AT_END descriptors complete. -/
  | moveEnd (a : AxisId)
  /-- LAMB_PERIOD (R342): A Lamb-mode PWM period starts and the coil duties are computed. Operands: the codes last converted of the two coils. -/
  | lambPeriod (a : AxisId) (ia : BitVec 12) (ib : BitVec 12)
  /-- CHOP_WINDOW (R344): A window of 64 chopper periods ends and the Bull hysteresis band is adjusted. Operands: `f` is the frequency derived from the bridge changes of the window, in whole kHz. -/
  | chopWindow (a : AxisId) (f : Fin 256)
  /-- OVERCURRENT (R347): A coil exceeds IMAX in 3 consecutive samples and the axis releases its bridges and faults. -/
  | overcurrent (a : CoilSamples)
  /-- LIMIT_CHANGE (R351): A limit or home input change qualifies after LIM_FILT. Operands: the level that has qualified; `age`: evaluations of 1 µs since the commanded position of the first sample at it. -/
  | limitChange (a : AxisId) (input : AxisInput) (high : Bool) (age : Fin 65537)
  /-- HOME_TIMEOUT (R354): No home latch is made within HOME_MAX and homing fails. -/
  | homeTimeout (a : AxisId)
  /-- HOLD_DELAY_EXPIRY (R341): The axis has been at rest for HOLD_DELAY and the current moves to HOLD_CUR. -/
  | holdDelayExpiry (a : AxisId)
  /-- BRIDGE_RELEASE_TIMER (R357): 20 ms after the brake engages the bridges are released. -/
  | bridgeReleaseTimer (a : AxisId)
  /-- LOOP_ENABLE (R366): A write of LOOP CTL.EN = 1 enables a slot into WAIT, or is refused. -/
  | loopEnable (who : Sender) (slot : SlotId)
  /-- LOOP_DISABLE (R374): A write of LOOP CTL.EN = 0 turns the slot off at its next sample. -/
  | loopDisable (who : Sender) (slot : SlotId)
  /-- LOOP_COMMIT (R369): A write of CTL.COMMIT applies the coefficient set at the next sample. -/
  | loopCommit (who : Sender) (slot : SlotId)
  /-- LOOP_INPUT_FAULT (R362): STALE_N consecutive stale samples fault the slot with cause INPUT. -/
  | loopInputFault (slot : SlotId)
  /-- LOOP_FE_FAULT (R372): The following-error timer reaches FE_TIME and the slot faults. -/
  | loopFeFault (slot : SlotId)
  /-- AUX_PWM_PERIOD (R378): An AUX_PWM period starts and takes the new duty. -/
  | auxPwmPeriod (k : Fin 16)
  /-- AIN_CONVERT (R379): An auxiliary analogue input is converted every 5 µs. -/
  | ainConvert (k : Fin 16) (code : BitVec 12)
  /-- CSI_PACKET (R382): A CSI-2 packet is received and delivered to its pipeline or dropped. Operands: `corrected`: the header ECC corrected a bit; `sot`: a start-of-transmission or deskew error. -/
  | csiPacket (port : PipeId) (vc : Fin 16) (pkt : CsiPacket) (corrected : Bool) (sot : Bool) (held : CsiHeld)
  /-- INSP_ENABLE (R383): A write of INSP CTL.EN enables a pipeline, or is refused. Operands: `on` is the value written to CTL.EN. -/
  | inspEnable (who : Sender) (p : PipeId) (on : Bool)
  /-- CCI_ACK (R399): A CCI transaction of a write list is acknowledged and the next entry starts. -/
  | cciAck (m : PipeId)
  /-- CCI_FAIL (R401): A CCI transaction is not acknowledged or stretches too long and the list is abandoned. -/
  | cciFail (m : CciFailure)
  /-- CCI_MAILBOX (R402): A write of CCI_MB0.GO starts a single CCI transaction. -/
  | cciMailbox (who : Sender) (m : PipeId)
  /-- INSP_ECC_ERROR (R403): A pipeline memory error is corrected, or closes the frame and disarms the pipeline. -/
  | inspEccError (p : PipeId) (uncorr : Bool)
  /-- LADDER_ANALYSED (R416): A pending ladder is analysed, its results record written and slots freed. -/
  | ladderAnalysed (p : PipeId)
  /-- NH_APPLY (R418): A write of NH_CTL.APPLY forms an update. -/
  | nhApply (who : Sender) (n : CellId)
  /-- NH_CLEAR (R418): A write of NH_CTL.CLEAR resets unpinned nozzles and undoes compensation. -/
  | nhClear (who : Sender) (n : CellId)
  /-- VETO_HOLD_EXPIRY (R423): The veto hold of a formed update expires and the update proceeds to be written. -/
  | vetoHoldExpiry (n : CellId)
  /-- NH_VETO (R423): A write of NH_VETO discards the named update during its hold. -/
  | nhVeto (who : Sender) (n : CellId) (value : BitVec 16)
  /-- POLICY_WRITE (R422): The policy takes the POLICY lock, writes its entries and requests a swap. Operands: `ecc`: an error in the entries kept, `true` uncorrectable (R426). -/
  | policyWrite (n : CellId) (ecc : Option Bool)
  /-- SET_GO (R429): A write of TIME.CTL.SET_GO steps device time, or is refused while cells print. -/
  | setGo (who : Sender)
  /-- ADJ_GO (R430): A write of TIME.CTL.ADJ_GO loads a slew of ADJ. -/
  | adjGo (who : Sender)
  /-- ADJ_CANCEL (R430): A write of TIME.CTL.ADJ_CANCEL ends the slew. -/
  | adjCancel (who : Sender)
  /-- NET_FRAME_RECEIVE (R437): An Ethernet frame is received, filtered and classified. Operands: `bytes`: the frame without its FCS. -/
  | netFrameReceive (k : NetId) (bytes : List Byte) (fcsOk : Bool)
  /-- NET_LINK_LOSS (R436): An enabled Ethernet port loses link. -/
  | netLinkLoss (k : NetId)
  /-- PPS_IN_EDGE (R444): A qualified PPS_IN rising edge is latched. Operands: `age`: ns from the first sample at the new level to the qualification. -/
  | ppsInEdge (age : Fin 2001)
  /-- UNWRAP (R460): A VAULT CTX OP UNWRAP with GO starts unwrapping a job key record. -/
  | unwrap (who : Sender) (k : CtxId)
  /-- UNWRAP_DONE (R460): The unwrap checks end and the slot is loaded or the failure is reported. Operands: `result`: the record; `ecc`: an error in the slot store at the slot it names, `true` uncorrectable (R476). -/
  | unwrapDone (k : CtxId) (result : ReadResult) (ecc : Option Bool)
  /-- UNWRAP_HOLD_EXPIRY (R461): The 1 s unwrap hold ends and HOLD clears. -/
  | unwrapHoldExpiry (k : CtxId)
  /-- CLEAR (R463): A VAULT CTX OP CLEAR with GO empties a key slot. Operands: `slot` is written to CTX[k].CTL.SLOT. -/
  | clearSlot (who : Sender) (k : CtxId) (slot : Fin 64)
  /-- ATTEST (R457): A VAULT CTX OP ATTEST with GO starts an attestation report. -/
  | attest (who : Sender) (k : CtxId)
  /-- ATTEST_DONE (R457): The signed attestation report is written and its event posted. Operands: `result`: the nonce. -/
  | attestDone (k : CtxId) (result : ReadResult)
  /-- KEY_EXPIRY (R463): Device time reaches a slot's EXPIRY and the slot is emptied. -/
  | keyExpiry (slot : Fin 64)
  /-- ROLLBACK (R454): A write of ROLLBACK.GO starts raising RB_COUNT to TARGET. -/
  | rollback (who : Sender) (target : BitVec 7)
  /-- ROLLBACK_DONE (R454): The rollback fuses are blown and RB_BUSY clears. Operands: `otpErr`: the OTP word in which an error was corrected (R475). -/
  | rollbackDone (otpErr : Option (BitVec 16))
  /-- REVOKE (R455): A write of REVOKE.REQ revokes signing key indices in OTP. -/
  | revoke (who : Sender) (req : BitVec 4)
  /-- DEBUG_TOKEN (R471): A write of DBG_CTL.GO presents an unlock token for checking. -/
  | debugToken (who : Sender)
  /-- RELOCK (R472): A write of DBG_CTL.RELOCK returns debug to locked. -/
  | relock (who : Sender)
  /-- OWNER_PROG (R471): A write of DBG_CTL.OWNER_PROG programs the owner debug key hash into OTP. -/
  | ownerProg (who : Sender)
  /-- TAMPER (R475): A tamper cause empties key slots, latches the safe state and records the cause in OTP. Operands: the tamper cause, less 1. -/
  | tamper (cause : Fin 6)
  /-- SAFE_REL_ARM (R488): A write of 0x0000_5AFE to SAFE_REL arms a release, or sets REL_ERR. Operands: `alive`: every block that lost its heartbeat sends it again (R489). -/
  | safeRelArm (who : Sender) (alive : Bool)
  /-- SAFE_REL_GO (R488): A write of 0x0000_C1EA to SAFE_REL starts the release self-test, or sets REL_ERR. -/
  | safeRelGo (who : Sender)
  /-- SAFE_REL_SELFTEST_DONE (R488): The release self-test ends and the device leaves the safe state or records an error. -/
  | safeRelSelftestDone (pass : Bool)
  /-- FAULT_INJECT (R491): A write of INJ_CTL.GO forms an injected record, or is refused. -/
  | faultInject (who : Sender)
  /-- ARM_ANY (R493): A write of FIRST_CTL.ARM_ANY clears FIRST_ANY for a new capture. -/
  | armAny (who : Sender)
  /-- ARM_REAL (R493): A write of FIRST_CTL.ARM_REAL clears FIRST_REAL for a new capture. -/
  | armReal (who : Sender)
  /-- CLR_CNT (R480): A write of GOOSE CTL.CLR_CNT clears the Goose counters. -/
  | clrCnt (who : Sender)
  /-- GOOSE_SCRUB (R494): The 1 ms parity scrub of the Goose's words runs. Operands: `ok`: no parity error is found. -/
  | gooseScrub (ok : Bool)
  /-- HEARTBEAT_LOSS (R495): A block misses 4 consecutive safety-bus heartbeats and GOOSE_HB is raised. -/
  | heartbeatLoss (unit : HbUnit)
  /-- CONTROL_CYCLE (R501): A 10 µs control cycle starts, beats are sent and the hot or cold mode is decided. Operands: the health flags of the two cores. -/
  | controlCycle (healthA : Bool) (healthB : Bool)
  /-- STATE_COPY (R508): The state copy of the cycle is received and checked by the standby. Operands: `good`: the copy is whole and its CRC-32 is right. -/
  | stateCopy (good : Bool)
  /-- BEAT_WINDOW (R502): A beat window closes and the beat monitors judge misses and mismatches. Operands: the beats of the active core that the two paths carried in the window; whether the Coop's own copy of the mailbox beat and the standby's beat arrived good. -/
  | beatWindow (mailbox : Option Word) (board : Option Word) (coop : Bool) (standby : Bool)
  /-- ARB_GNT_CHANGE (R504): A change of the ARB_GNT inputs held for 1 µs moves the token in ARB_EXT mode. Operands: the levels of ARB_GNT_A and ARB_GNT_B. -/
  | arbGntChange (a : Bool) (b : Bool)
  /-- TAKEOVER_COMPLETE (R507): The new core runs its first cycle as active and held writes are applied. Operands: `us`: the time since the decision; `ckptOk`: a checkpoint passes its CRC. -/
  | takeoverComplete (us : BitVec 24) (ckptOk : Bool)
  /-- CHECKPOINT (R510): Every 1 ms the active core writes a checkpoint. Operands: `ok`: the write succeeded. -/
  | checkpoint (ok : Bool)
  /-- REPAIR_SELFTEST_DONE (R513): An isolated core's self-test ends and it moves to SYNCING or FAILED. -/
  | repairSelftestDone (core : YokeCore) (pass : Bool)
  /-- REPAIR_SYNC_DONE (R513): Resynchronisation ends and the core becomes a standby or FAILED. -/
  | repairSyncDone (core : YokeCore) (pass : Bool)
  /-- SWITCH (R514): A write of YOKE CTL.SWITCH moves the token to a hot-ready standby. -/
  | switchCore (who : Sender)
  /-- SUPPLY_EXCURSION (R516): A rail stays outside its range or above its maximum for the qualifying time. -/
  | supplyExcursion (rail : Fin 9) (mv : BitVec 16)
  /-- PMBUS_POLL (R518): The PMBus poll interval expires and each listed regulator is polled and judged. Operands: the regulators that answered. -/
  | pmbusPoll (replies : List RegReply)
  /-- PMBUS_ALERT (R517): ALERT_N falls and the alerting regulator is found and polled. Operands: `reply`: the regulator that answered the Alert Response Address and its poll. -/
  | pmbusAlert (seg : Bool) (reply : Option RegReply)
  /-- PMBUS_MAILBOX (R517): A write of PMB_MB0.GO starts a single PMBus transaction. -/
  | pmbusMailbox (who : Sender)
  /-- SEQUENCER_STEP (R520): A sequencer step's rail reaches range or its wait ends and the next step runs. Operands: `mv`: the voltage of the rail that the step checks. -/
  | sequencerStep (mv : BitVec 16)
  /-- SEQUENCE_DOWN (R520): A write of SEQ_CTL.DOWN runs the sequencer table backwards. -/
  | sequenceDown (who : Sender)
  /-- THERM_READ (R521): The 100 µs read of the die sensors applies the warning, trip and exclusion rules. Operands: the readings in sQ10.6 °C. -/
  | thermRead (temps : Vector (BitVec 16) 16)
  /-- COOP_SELF_FAIL (R522): A Coop self-check fails and the safe state latches. Operands: the cause, less 1. -/
  | coopSelfFail (cause : Fin 3)
  /-- GATE (R523): A write of COOP.GATE power-gates or ungates cells and lanes. Operands: `value` is written to GATE_HI or GATE_LO. -/
  | gate (who : Sender) (hi : Bool) (value : Word)
  /-- HEAD_PWR (R524): A write of COOP.HEAD_PWR.EN enables or disables the head power groups. -/
  | headPwr (who : Sender) (value : BitVec 8)
  /-- REFERENCE_LOSS (R28): The reference or root PLL fails and the Coop switches to its RC and drops FIRE_EN. Operands: `present`: the reference is present and the root PLL is unlocked. -/
  | referenceLoss (present : Bool)
  /-- COOP_RESET_RELEASE (R525): 1 ms after a feed rises the Coop leaves reset and the start-up hold begins. Operands: `table`: the sequencer table as read from the flash. -/
  | coopResetRelease (table : List Byte)
  /-- CORE_RESET_RELEASE (R529): The conditions for release hold; MODE is sampled and the boot ROM starts. Operands: `mode`: MODE1, MODE0. -/
  | coreResetRelease (mode : BitVec 2)
  /-- BOOT_COMPLETE (R531): The verified firmware starts on the active core and the start-up hold ends. Operands: what the two slots read as; `matchB`: the copy of YOKE_B matches BODY_HASH. -/
  | bootComplete (slotA : Option Image) (slotB : Option Image) (matchB : Bool)
  /-- MEM_TRAIN_DONE (R531): LPDDR5 training ends or fails its limit. Operands: the channels that trained, and the size found. -/
  | memTrainDone (channels : BitVec 4) (gib : BitVec 5)
  /-- SYS_INIT_DONE (R533): The system region has been initialised. -/
  | sysInitDone (ok : Bool)
  /-- CELL_TEST_DONE (R535): The start-up self-test of the cells ends and failing cells are fenced. Operands: the cells whose fire engine fails, and those whose memories fail. -/
  | cellTestDone (engine : BitVec 64) (memory : BitVec 64)
  /-- LEDGER_RESTORE (R551): The newest Ledger summary is loaded into the retained counters. Operands: the size of the flash, what its summary slots hold, and whether a read failed. -/
  | ledgerRestore (flashKiB : BitVec 20) (slots : List (Fin 30 × List Byte)) (readErr : Bool)
  /-- HOST_READY (R536): The firmware declares the host interface ready and retry status ends. Operands: `ms`: the time since the core-reset release. -/
  | hostReady (ms : BitVec 16)
  /-- DISCOVERY_NO_SIGNAL (R537): A lane in discovery sees no signal within 2 ms and is disabled and gated. -/
  | discoveryNoSignal (n : CellId)
  /-- RESET_N (R539): RESET_N is held low for 1 µs and the device resets. Operands: `table`: the sequencer table in flash, read when the sequence runs again. -/
  | resetN (table : List Byte)
  /-- RST_KEY (R540): A write of 0x0000_B007 to GLOBAL.RST_KEY requests a device reset. -/
  | rstKey (who : Sender) (table : List Byte)
  /-- BLK_RST (R542): A write of GLOBAL.BLK_RST resets idle named blocks. -/
  | blkRst (who : Sender) (value : Word)
  /-- FLUSH (R552): A Ledger flush starts by the hour, 60 s after ready, or on a write of CTL.FLUSH. -/
  | flush (who : Sender)
  /-- FLUSH_DONE (R552): A flush finishes writing its signed records to flash or fails a slot. Operands: `ok`: the slot was written. -/
  | flushDone (ok : Bool)
  /-- EXPORT (R553): A write of LEDGER CTL.EXPORT forms and writes a signed record to a buffer. -/
  | ledgerExport (who : Sender)
  /-- DROP_RESTORE_DONE (R551): The newest drop-count record finishes loading and RESTORED is set. Operands: what the slots of the drop-count area hold. -/
  | dropRestoreDone (slots : List (BitVec 8 × List Byte)) (readErr : Bool)
  /-- PORT_LINK_DOWN (R74): The PCI Express link of a port goes down, counting in PORT.DOWN and starting the 1 ms host-loss timer. -/
  | portLinkDown (p : PortId)
  /-- PORT_LINK_UP (R76): A port's link trains up to L0, setting PORT.UP, WIDTH and RATE and making its functions usable again. Operands: negotiated width in lanes, rate code 3 to 5. -/
  | portLinkUp (p : PortId) (width : Fin 9) (rate : Fin 6) (sris : Bool)
  /-- ASPM_L1_ENTRY (R42): A port's link enters ASPM L1, after which host DMA waits for the return to L0. -/
  | aspmL1Entry (p : PortId)
  /-- NET_LINK_UP (R436): An enabled Ethernet port gains link, after which launches and frames can be sent again. -/
  | netLinkUp (k : NetId)
  /-- PTP_MESSAGE_DUE (R433): A message interval expires and the PTP engine sends a Sync, Delay_Req or Pdelay_Req as an untimed frame. Operands: `kind`: 0 Sync, 1 Delay_Req, 2 Pdelay_Req. -/
  | ptpMessageDue (k : NetId) (kind : Fin 3)
  /-- SUPPLY_IN_RANGE (R489): A monitored rail returns into its recommended range, so its COOP_SUPPLY or COOP_VSAFE condition is no longer PRESENT. -/
  | supplyInRange (rail : Fin 9) (mv : BitVec 16)
  /-- BOOT_FAIL (R453): The boot ROM rejects both image slots, raises VAULT_BOOT and keeps both cores held. -/
  | bootFail (slotA : Option Image) (slotB : Option Image)
  /-- MAPLOAD_WRITE_DONE (R151): A MAPLOAD holding the lock writes its last entry and releases the background bank. -/
  | maploadWriteDone (n : CellId)
  /-- POLICY_WRITE_DONE (R422): The compensation policy finishes writing an update, releases the POLICY lock and requests the swap. -/
  | policyWriteDone (n : CellId)
  /-- CHOPPER_COMPARE (R343): A Bull-mode coil current crosses its hysteresis band at a comparator sample and the bridge changes state, followed by blanking. Operands: `i` is the coil current at the comparator sample, in mA. -/
  | chopperCompare (a : AxisId) (coilB : Bool) (microvolts : Int)
  /-- CCI_MAILBOX_DONE (R402): A single CCI mailbox transaction ends with DONE, NACK or TIMEOUT, and a waiting list may start. Operands: `data` is what a read returned. -/
  | cciMailboxDone (m : PipeId) (nack : Bool) (lowUs : Fin 65536) (data : Word)
  /-- PMBUS_MAILBOX_DONE (R517): A PMBus mailbox transaction ends, setting DONE, NACK or PEC_ERR. -/
  | pmbusMailboxDone (nack : Bool) (pecErr : Bool) (data : Word)
  /-- PLL_LOCK_TIMEOUT (R528): The reference is missing or the PLL unlocked 10 ms after enable, raising COOP_REF or COOP_PLL. Operands: `present`: the reference is present. -/
  | pllLockTimeout (present : Bool)
  /-- BOUNDARY_SCAN (R543): A boundary-scan drive instruction takes effect, holding FIRE_EN low and muting cells. Operands: `drive`: an instruction that drives the balls takes effect, or is left. -/
  | boundaryScan (drive : Bool)
  /-- STOP_FIRE_FALL (R198): STOP_FIRE_N falls, FIRE_EN drops and the STOP_FIRE latch is set. -/
  | stopFireFall
  /-- STOP_FIRE_RISE (R198): STOP_FIRE_N rises and the 10 µs high time begins. -/
  | stopFireRise
  /-- STOP_FIRE_CLEAR (R198): STOP_FIRE_N has been high for 10 µs and the latch clears. -/
  | stopFireClear
  /-- GOV_UPDATE (R204): The governor's 1 µs update recomputes TTS, the demand terms and STOP_REQ. -/
  | govUpdate
  /-- SLOW_REQ_PERIOD (R205): A SLOW_REQ PWM period starts and takes the demand in force. -/
  | slowReqPeriod
  /-- SPEED_FRAME_PERIODIC (R208): A periodic speed-demand frame falls due and is sent. -/
  | speedFramePeriodic
  /-- SPEED_FRAME_EVENT (R208): An event speed-demand frame is sent once its 10 µs spacing allows. -/
  | speedFrameEvent
  /-- VIRTUAL_STEP (R316): The virtual encoder takes one step at each SENSE period while valid. -/
  | virtualStep
  /-- LOOP_TICK (R361): The 10 µs loop tick takes its inputs and evaluates the slots that are due. -/
  | loopTick
  /-- DOMAIN_TRIGGER_PRESENT (R448): Device time reaches a pending trigger's TIME and it is presented to every cell. -/
  | domainTriggerPresent
  /-- HOLDOVER_EXPIRY (R434): HOLDOVER has lasted HOLDOVER_S seconds and LOCKED clears. -/
  | holdoverExpiry
  /-- PPS_IN_MISSING (R434): No PPS_IN edge comes for 1.1 s under SRC PPS. -/
  | ppsInMissing
  /-- PPS_OUT_RISE (R443): Device time reaches a whole second plus PPS_OFF and PPS_OUT rises. -/
  | ppsOutRise
  /-- PPS_OUT_FALL (R443): PPS_W after the rise PPS_OUT falls. -/
  | ppsOutFall
  /-- FAULT_REPORT (R477): A fault report reaches the Goose and becomes a counted, captured record that takes its class reaction. -/
  | faultReport
  /-- SAFE_REL_ARM_TIMEOUT (R488): 1 ms passes after an accepted arm with no GO and the arm lapses. -/
  | safeRelArmTimeout
  /-- GOOSE_SELF_FAIL (R494): A Goose self-check fails and the checker drives the safe state directly. -/
  | gooseSelfFail
  /-- RESIGN (R503): The active core resigns and the token moves. -/
  | resign
  /-- ARB_TIMEOUT (R504): Both grants stay equal for ARB_TO and YOKE_PATH is raised. -/
  | arbTimeout
  /-- SEQUENCER_WAIT_EXPIRY (R520): A step's rail is still out of range after WAIT and the sequence stops. -/
  | sequencerWaitExpiry
  /-- ARB_ALIVE_TOGGLE (R577): Every 50 µs ARB_ALIVE changes level. -/
  | arbAliveToggle
  /-- VSAFE_RISE (R525): A VSAFE feed rises above 2.9 V. -/
  | vsafeRise
  /-- VSAFE_LOSS (R525): Both VSAFE feeds fall below 2.5 V and the Coop is held in reset. -/
  | vsafeLoss
  /-- POWER_CYCLE (R487): Both VSAFE feeds stay below 1.0 V for 10 ms and LATCH4 clears. -/
  | powerCycle
  /-- PLL_LOCK (R528): The root PLL locks and device time starts running. -/
  | pllLock
  /-- MEM_INIT_DONE (R533): The background sweep of the page store ends. -/
  | memInitDone
  /-- DISCOVERY_DONE (R537): Every discovery lane is settled and READY.DISC is set. -/
  | discoveryDone
  /-- TAP_RESET (R543): TRST_N or five TCK cycles with TMS high reset the test access port. -/
  | tapReset
  /-- LEDGER_SECOND (R546): Each AON second the Ledger counts hours and temperature bins and supply extremes. -/
  | ledgerSecond
  /-- PTP_MASTER_LOST (R434): Under SRC PTP the master is lost and the servo enters HOLDOVER. -/
  | ptpMasterLost
  /-- SLEW_END (R430): ADJ_REM reaches exactly 0 and the slew term stops. -/
  | slewEnd
  /-- EXPORT_DONE (R553): A Ledger export finishes writing its signed record to the buffer, setting DONE and EXP_LEN, or ERR 3 on failure. -/
  | exportDone
  deriving DecidableEq, Repr

end Sys2Proof
end

