-- ==== Sys2Proof/Decode.lean ====
section
/-!
DEFINITION. Decoding a command from a word. The opcode table of this block gives no row any bits: a command has no encoding, and no
word spells one.
-/
namespace Sys2Proof

/-- The command that a word of `nbits` bits spells: none, for no row of the table has bits. -/
def decodeTableWord (nbits w : Nat) : Option Instr :=
  match nbits, w with
  | _, _ => none

end Sys2Proof
end

