-- ==== Sys2Proof/Config.lean ====
section
/-!
DEFINITION. The constants that one device fixes and the free values the spec leaves open. Every `opaque` constant here has no
body: no proof can see its value, so a claim about it holds for every value (notes/assumptions/6 and the rows it names).
-/
namespace Sys2Proof.Config

/-- The device serial number in OTP (spec/17, VAULT.SERIAL). -/
opaque serialNumber : Nat

/-- Word `j` of the device certificate in flash but for its PUBKEY (spec/17 R456). -/
opaque deviceCertWord : Nat → Nat

/-- Word `j` of the debug challenge drawn at reset (spec/17 R470). -/
opaque debugChallengeWord : Nat → Nat

/-- Which way an encoder input rounds the phase of a corrected point (spec/10 R292 gives no rounding). -/
opaque phaseRound : Int → Int → Nat

/-- Which way the analyser and the statistics round a quotient whose rounding the spec does not give (spec/14 R397, spec/15 R417). -/
opaque roundUp : Int → Nat → Nat

/-- What a defective pixel becomes that has no neighbour to be replaced by (spec/14 R390). -/
opaque deadPixel : Nat → Nat → Nat

/-- The shift of highest correlation of the darkness profiles of a ladder's rungs with the expected positions, in 1/16 pixel, of a search
from −n to +n; the spec does not give the correlation sum (spec/15 R410). -/
opaque bestShift (profiles : List (List Nat)) (expected : List (List Int)) (n : Nat) : Int

/-- The SHA-384 hash of Quorak's signing public key of an index, in OTP (spec/17 R452). -/
opaque signKeyHash : Nat → List Byte
/-- The Quorak debug public key in the boot ROM (spec/17 R471). -/
opaque quorakDebugKey : List Byte

/-- The secret from which the identity private key in OTP comes (spec/17, the opening). -/
opaque identitySecret : Nat

/-- The bytes of memory of a Yoke core, which the spec does not give (spec/17 R452). -/
opaque yokeMemBytes : Nat

/-- The offset from the master, in 2⁻⁸ ns, that the PTP engine measures on a message received at a stamp, if it measures one: IEEE 1588 is
named by the spec and not defined in it (spec/16 R433). -/
opaque ptpOffset (msg : List Byte) (stamp draw : Nat) : Option Int
/-- The mean path delay that the PTP engine holds after a message. -/
opaque ptpDelay (msg : List Byte) (stamp draw : Nat) : Nat
/-- The port states that the PTP engine is in after a message. -/
opaque ptpPortState (msg : List Byte) (draw : Nat) : Nat
/-- The grandmaster that the PTP engine follows after a message. -/
opaque ptpGrandmaster (msg : List Byte) (draw : Nat) : Nat
/-- The frame with which the PTP engine answers a message; empty for none. -/
opaque ptpReply (msg : List Byte) (stamp draw : Nat) : List Byte
/-- The frame of the PTP engine's next Sync, Delay_Req or Pdelay_Req on a port. -/
opaque ptpMessage (port kind draw : Nat) : List Byte
/-- The rate that the servo sets after an offset; the spec gives no servo law (spec/16 R434). -/
opaque servoRate (offset incr : Int) (draw : Nat) : Int
/-- The slew, in ns, that the servo sets after an offset. -/
opaque servoSlew (offset : Int) (draw : Nat) : Int

/-- A fresh value of unknown content: the `n`th value the block draws. -/
opaque freeNat : Nat → Nat

end Sys2Proof.Config
end

