-- ==== Sys2Proof/Machine/Crypto.lean ====
section
/-!
DEFINITION. The published algorithms that the spec names for keys, seals and signatures: AES-256 (FIPS 197) in Galois/Counter Mode
(NIST SP 800-38D, spec/03 R106) and as a key wrap (SP 800-38F, spec/17 R459), SHA-384 (FIPS 180-4, R451 to R471), HKDF (RFC 5869, R459), and
ECDH and ECDSA over P-384 (FIPS 186). The spec names them without restating them: PRESUMED from the standards (notes/assumptions/53).
Keys, signatures and hashes are bytes, most significant first (R451).
-/
namespace Sys2Proof.Machine

open Sys2Proof

/-- The value of bytes, most significant first. -/
def beNat (bs : List Byte) : Nat := leNat bs.reverse

/-- `n` bytes of a value, most significant first. -/
def beBytes (n v : Nat) : List Byte := (leBytes n v).reverse

/-! ## SHA-384 -/

/-- The eight working words. -/
structure ShaSt where
  a : BitVec 64
  b : BitVec 64
  c : BitVec 64
  d : BitVec 64
  e : BitVec 64
  f : BitVec 64
  g : BitVec 64
  h : BitVec 64
  deriving DecidableEq, Repr

/-- The round constants. -/
def shaK : List (BitVec 64) :=
  [0x428a2f98d728ae22, 0x7137449123ef65cd, 0xb5c0fbcfec4d3b2f, 0xe9b5dba58189dbbc] ++
  [0x3956c25bf348b538, 0x59f111f1b605d019, 0x923f82a4af194f9b, 0xab1c5ed5da6d8118] ++
  [0xd807aa98a3030242, 0x12835b0145706fbe, 0x243185be4ee4b28c, 0x550c7dc3d5ffb4e2] ++
  [0x72be5d74f27b896f, 0x80deb1fe3b1696b1, 0x9bdc06a725c71235, 0xc19bf174cf692694] ++
  [0xe49b69c19ef14ad2, 0xefbe4786384f25e3, 0x0fc19dc68b8cd5b5, 0x240ca1cc77ac9c65] ++
  [0x2de92c6f592b0275, 0x4a7484aa6ea6e483, 0x5cb0a9dcbd41fbd4, 0x76f988da831153b5] ++
  [0x983e5152ee66dfab, 0xa831c66d2db43210, 0xb00327c898fb213f, 0xbf597fc7beef0ee4] ++
  [0xc6e00bf33da88fc2, 0xd5a79147930aa725, 0x06ca6351e003826f, 0x142929670a0e6e70] ++
  [0x27b70a8546d22ffc, 0x2e1b21385c26c926, 0x4d2c6dfc5ac42aed, 0x53380d139d95b3df] ++
  [0x650a73548baf63de, 0x766a0abb3c77b2a8, 0x81c2c92e47edaee6, 0x92722c851482353b] ++
  [0xa2bfe8a14cf10364, 0xa81a664bbc423001, 0xc24b8b70d0f89791, 0xc76c51a30654be30] ++
  [0xd192e819d6ef5218, 0xd69906245565a910, 0xf40e35855771202a, 0x106aa07032bbd1b8] ++
  [0x19a4c116b8d2d0c8, 0x1e376c085141ab53, 0x2748774cdf8eeb99, 0x34b0bcb5e19b48a8] ++
  [0x391c0cb3c5c95a63, 0x4ed8aa4ae3418acb, 0x5b9cca4f7763e373, 0x682e6ff3d6b2b8a3] ++
  [0x748f82ee5defb2fc, 0x78a5636f43172f60, 0x84c87814a1f0ab72, 0x8cc702081a6439ec] ++
  [0x90befffa23631e28, 0xa4506cebde82bde9, 0xbef9a3f7b2c67915, 0xc67178f2e372532b] ++
  [0xca273eceea26619c, 0xd186b8c721c0c207, 0xeada7dd6cde0eb1e, 0xf57d4f7fee6ed178] ++
  [0x06f067aa72176fba, 0x0a637dc5a2c898a6, 0x113f9804bef90dae, 0x1b710b35131c471b] ++
  [0x28db77f523047d84, 0x32caab7b40c72493, 0x3c9ebe0a15c9bebc, 0x431d67c49c100d4c] ++
  [0x4cc5d4becb3e42b6, 0x597f299cfc657e2a, 0x5fcb6fab3ad6faec, 0x6c44198c4a475817]

/-- The initial words of SHA-384. -/
def sha384Init : ShaSt :=
  ⟨0xcbbb9d5dc1059ed8, 0x629a292a367cd507, 0x9159015a3070dd17, 0x152fecd8f70e5939,
   0x67332667ffc00b31, 0x8eb44a8768581511, 0xdb0c2e0d64f98fa7, 0x47b5481dbefa4fa4⟩

/-- One round with a constant and a word of the schedule. -/
def shaRound (s : ShaSt) (kw : BitVec 64 × BitVec 64) : ShaSt :=
  let s1 := s.e.rotateRight 14 ^^^ s.e.rotateRight 18 ^^^ s.e.rotateRight 41
  let ch := (s.e &&& s.f) ^^^ (~~~s.e &&& s.g)
  let t1 := s.h + s1 + ch + kw.1 + kw.2
  let s0 := s.a.rotateRight 28 ^^^ s.a.rotateRight 34 ^^^ s.a.rotateRight 39
  let maj := (s.a &&& s.b) ^^^ (s.a &&& s.c) ^^^ (s.b &&& s.c)
  ⟨t1 + (s0 + maj), s.a, s.b, s.c, s.d + t1, s.e, s.f, s.g⟩

/-- Extend a message schedule, newest word first, by `n` words. -/
def shaExtend : Nat → List (BitVec 64) → List (BitVec 64)
  | 0, w => w
  | n + 1, w =>
    let x := w.getD 1 0
    let y := w.getD 14 0
    let s1 := x.rotateRight 19 ^^^ x.rotateRight 61 ^^^ (x >>> 6)
    let s0 := y.rotateRight 1 ^^^ y.rotateRight 8 ^^^ (y >>> 7)
    shaExtend n ((s1 + w.getD 6 0 + s0 + w.getD 15 0) :: w)

/-- One block of 128 bytes. -/
def shaBlock (s : ShaSt) (block : List Byte) : ShaSt :=
  let w := (List.range 16).map (fun i => BitVec.ofNat 64 (beNat ((block.drop (8 * i)).take 8)))
  let r := (shaK.zip (shaExtend 64 w.reverse).reverse).foldl shaRound s
  ⟨s.a + r.a, s.b + r.b, s.c + r.c, s.d + r.d, s.e + r.e, s.f + r.f, s.g + r.g, s.h + r.h⟩

/-- `n` blocks of a padded message. -/
def shaBlocks : Nat → ShaSt → List Byte → ShaSt
  | 0, s, _ => s
  | n + 1, s, m => shaBlocks n (shaBlock s (m.take 128)) (m.drop 128)

/-- SHA-384 of a message: 48 bytes. -/
def sha384 (msg : List Byte) : List Byte :=
  let m := msg ++ [0x80] ++ List.replicate ((239 - msg.length % 128) % 128) 0 ++ beBytes 16 (8 * msg.length)
  let s := shaBlocks (m.length / 128) sha384Init m
  [s.a, s.b, s.c, s.d, s.e, s.f].flatMap (fun x => beBytes 8 x.toNat)

/-- HMAC-SHA-384. -/
def hmac384 (key msg : List Byte) : List Byte :=
  let k := if 128 < key.length then sha384 key else key
  let k := k ++ List.replicate (128 - k.length) 0
  sha384 (k.map (· ^^^ 0x5C) ++ sha384 (k.map (· ^^^ 0x36) ++ msg))

/-- The first 32 bytes of HKDF-SHA-384: one block of its expansion. -/
def hkdf384 (salt ikm info : List Byte) : List Byte := (hmac384 (hmac384 salt ikm) (info ++ [1])).take 32

/-! ## AES-256 -/

/-- Multiplication by x in the field of AES. -/
def aesX (b : Byte) : Byte := if b.msb then (b <<< 1) ^^^ 0x1B else b <<< 1

/-- Multiplication in the field of AES. -/
def aesMul (a b : Byte) : Byte :=
  ((List.range 8).foldl (fun (r : Byte × Byte) i => (if b.getLsbD i then r.1 ^^^ r.2 else r.1, aesX r.2)) ((0 : Byte), a)).1

/-- The inverse in the field, 0 for 0: the 254th power. -/
def aesInv (a : Byte) : Byte :=
  ((List.range 7).foldl (fun (r : Byte × Byte) _ => let sq := aesMul r.2 r.2; (aesMul r.1 sq, sq)) ((1 : Byte), a)).1

/-- SubBytes of one byte. -/
def aesSub (a : Byte) : Byte :=
  let x := aesInv a
  x ^^^ x.rotateLeft 1 ^^^ x.rotateLeft 2 ^^^ x.rotateLeft 3 ^^^ x.rotateLeft 4 ^^^ 0x63

/-- The inverse of SubBytes of one byte. -/
def aesUnsub (a : Byte) : Byte := aesInv (a.rotateLeft 1 ^^^ a.rotateLeft 3 ^^^ a.rotateLeft 6 ^^^ 0x05)

/-- Combine two lists of bytes. -/
def xorBytes (a b : List Byte) : List Byte := (a.zip b).map (fun p => p.1 ^^^ p.2)

/-- Extend a key schedule of words of 4 bytes, newest first, by `n` words; `i` is the number of the next one and `rc` the next round
constant. -/
def aesExpand : Nat → Nat → Byte → List (List Byte) → List (List Byte)
  | 0, _, _, w => w
  | n + 1, i, rc, w =>
    let t := w.headD []
    let t := if i % 8 = 0 then xorBytes ((t.drop 1 ++ t.take 1).map aesSub) [rc, 0, 0, 0] else if i % 8 = 4 then t.map aesSub else t
    aesExpand n (i + 1) (if i % 8 = 0 then aesX rc else rc) (xorBytes (w.getD 7 []) t :: w)

/-- The 15 round keys of a 32-byte key. -/
def aesKeys (key : List Byte) : List (List Byte) :=
  let w := (aesExpand 52 8 1 ((List.range 8).map (fun i => (key.drop (4 * i)).take 4)).reverse).reverse
  (List.range 15).map (fun i => ((w.drop (4 * i)).take 4).flatten)

/-- Move the rows of a state, column by column, `k` times the row number to the left. -/
def aesShift (k : Nat) (s : List Byte) : List Byte := (List.range 16).map (fun i => s.getD (i % 4 + 4 * ((i / 4 + k * (i % 4)) % 4)) 0)

/-- Multiply each column by a circulant matrix given by its first row. -/
def aesMix (m : List Byte) (s : List Byte) : List Byte :=
  (List.range 16).map (fun i => (List.range 4).foldl (fun x j => x ^^^ aesMul (m.getD ((j + 4 - i % 4) % 4) 0) (s.getD (4 * (i / 4) + j) 0)) 0)

/-- Encrypt a block of 16 bytes. -/
def aesEncrypt (keys : List (List Byte)) (block : List Byte) : List Byte :=
  let s := xorBytes block (keys.getD 0 [])
  let s := (List.range 13).foldl (fun s i => xorBytes (aesMix [2, 3, 1, 1] (aesShift 1 (s.map aesSub))) (keys.getD (i + 1) [])) s
  xorBytes (aesShift 1 (s.map aesSub)) (keys.getD 14 [])

/-- Decrypt a block of 16 bytes. -/
def aesDecrypt (keys : List (List Byte)) (block : List Byte) : List Byte :=
  let s := (aesShift 3 (xorBytes block (keys.getD 14 []))).map aesUnsub
  let s := (List.range 13).foldl (fun s i => (aesShift 3 (aesMix [14, 11, 13, 9] (xorBytes s (keys.getD (13 - i) [])))).map aesUnsub) s
  xorBytes s (keys.getD 0 [])

/-- The AES key wrap with the default integrity check value, undone: none when the check fails. -/
def keyUnwrap (kek wrapped : List Byte) : Option (List Byte) :=
  let keys := aesKeys kek
  let n := wrapped.length / 8 - 1
  let part (i : Nat) : List Byte := (wrapped.drop (8 * i)).take 8
  let r := (List.range (6 * n)).foldl (fun (r : List Byte × List (List Byte)) j =>
    let t := 6 * n - j
    let i := (t - 1) % n
    let b := aesDecrypt keys (beBytes 8 (beNat r.1 ^^^ t) ++ r.2.getD i [])
    (b.take 8, r.2.set i (b.drop 8))) (part 0, (List.range n).map (fun i => part (i + 1)))
  if r.1 = List.replicate 8 0xA6 then some r.2.flatten else none

/-! ## Galois/Counter Mode -/

/-- Multiplication in the field of GCM: bit 127 is the coefficient of 1. -/
def ghashMul (x y : Nat) : Nat :=
  ((List.range 128).foldl (fun (r : Nat × Nat) i =>
    (if bitOf x (127 - i) then r.1 ^^^ r.2 else r.1, if bitOf r.2 0 then (r.2 / 2) ^^^ (0xE1 * 2 ^ 120) else r.2 / 2)) (0, y)).1

/-- GHASH of `n` blocks of 16 bytes, the last filled with zeros. -/
def ghash (h : Nat) : Nat → Nat → List Byte → Nat
  | 0, y, _ => y
  | n + 1, y, bs =>
    let b := bs.take 16
    ghash h n (ghashMul (y ^^^ beNat (b ++ List.replicate (16 - b.length) 0)) h) (bs.drop 16)

/-- Encrypt or decrypt in counter mode: `n` blocks from a counter on. -/
def gcmCtr (keys : List (List Byte)) (iv : List Byte) : Nat → Nat → List Byte → List Byte
  | 0, _, _ => []
  | n + 1, c, bs => xorBytes (bs.take 16) (aesEncrypt keys (iv ++ beBytes 4 c)) ++ gcmCtr keys iv n (c + 1) (bs.drop 16)

/-- The payload of a block encrypted or decrypted (spec/03 R106). -/
def gcmXor (key iv payload : List Byte) : List Byte := gcmCtr (aesKeys key) iv ((payload.length + 15) / 16) 2 payload

/-- The tag of a ciphertext with its additional data: 16 bytes (R106). -/
def gcmTag (key iv aad cipher : List Byte) : List Byte :=
  let keys := aesKeys key
  let h := beNat (aesEncrypt keys (List.replicate 16 0))
  let y := ghash h ((aad.length + 15) / 16) 0 aad
  let y := ghash h ((cipher.length + 15) / 16) y cipher
  let y := ghashMul (y ^^^ (8 * aad.length * 2 ^ 64 + 8 * cipher.length)) h
  xorBytes (beBytes 16 y) (aesEncrypt keys (iv ++ beBytes 4 1))

/-! ## P-384 -/

/-- The prime of the field. -/
def p384 : Nat := 2 ^ 384 - 2 ^ 128 - 2 ^ 96 + 2 ^ 32 - 1
/-- The order of the group. -/
def n384 : Nat := 0xffffffffffffffffffffffffffffffffffffffffffffffffc7634d81f4372ddf581a0db248b0a77aecec196accc52973
/-- The coefficient b. -/
def b384 : Nat := 0xb3312fa7e23ee7e4988e056be3f82d19181d9c6efe8141120314088f5013875ac656398d8a2ed19d2a85c8edd3ec2aef

/-- A point; none is the point at infinity. -/
abbrev Point := Option (Nat × Nat)

/-- The base point. -/
def g384 : Point :=
  some (0xaa87ca22be8b05378eb1c71ef320ad746e1d3b628ba79b9859f741e082542a385502f25dbf55296c3a545e3872760ab7,
    0x3617de4a96262c6f5d9e98bf9292dc29f8f41dbd289a147ce9da3113b5f0b8c00a60b1ce1d7e819d7a431d7c90ea0e5f)

/-- A power modulo `m`, with an exponent of at most `n` bits. -/
def powMod (m : Nat) : Nat → Nat → Nat → Nat
  | 0, _, _ => 1
  | n + 1, b, e =>
    let r := powMod m n (b * b % m) (e / 2)
    if e % 2 = 1 then b * r % m else r

/-- The inverse modulo a prime of 384 bits. -/
def invMod (m x : Nat) : Nat := powMod m 384 (x % m) (m - 2)

/-- The sum of two points. -/
def addPoint : Point → Point → Point
  | none, q => q
  | p, none => p
  | some (x1, y1), some (x2, y2) =>
    if x1 = x2 ∧ (y1 + y2) % p384 = 0 then none
    else
      let l := if x1 = x2 then (3 * x1 * x1 + p384 - 3) * invMod p384 (2 * y1) % p384
        else (y1 + p384 - y2) * invMod p384 (x1 + p384 - x2) % p384
      let x3 := (l * l + 2 * p384 - x1 - x2) % p384
      some (x3, (l * (x1 + p384 - x3) + p384 - y1) % p384)

/-- A multiple of a point, by a number of at most `n` bits. -/
def mulPoint : Nat → Nat → Point → Point
  | 0, _, _ => none
  | n + 1, k, p =>
    let q := mulPoint n (k / 2) (addPoint p p)
    if k % 2 = 1 then addPoint p q else q

/-- The point that 96 bytes give, X then Y; none when they give no point of the curve. -/
def pointOf (bs : List Byte) : Point :=
  let x := beNat (bs.take 48)
  let y := beNat ((bs.drop 48).take 48)
  if bs.length = 96 ∧ x < p384 ∧ y < p384 ∧ y * y % p384 = (x * x * x + p384 * x - 3 * x + b384) % p384 then some (x, y) else none

/-- The bytes of a point, X then Y. -/
def pointBytes : Point → List Byte
  | none => List.replicate 96 0
  | some (x, y) => beBytes 48 x ++ beBytes 48 y

/-- Whether an ECDSA signature, r then s, over a hash verifies under a public key. -/
def ecdsaOk (pub hash sig : List Byte) : Bool :=
  let r := beNat (sig.take 48)
  let s := beNat ((sig.drop 48).take 48)
  let w := invMod n384 s
  let q := pointOf pub
  q.isSome && decide (sig.length = 96 ∧ 0 < r ∧ r < n384 ∧ 0 < s ∧ s < n384) &&
  (match addPoint (mulPoint 384 (beNat hash * w % n384) g384) (mulPoint 384 (r * w % n384) q) with
    | some (x, _) => x % n384 == r
    | none => false)

/-- An ECDSA signature over a hash, r then s, with a private key and the secret number of the signature. -/
def ecdsaSign (d k : Nat) (hash : List Byte) : List Byte :=
  let k := 1 + k % (n384 - 1)
  let r := (match mulPoint 384 k g384 with | some (x, _) => x | none => 0) % n384
  beBytes 48 r ++ beBytes 48 (invMod n384 k * (beNat hash + r * d) % n384)

/-! ## The device's identity (spec/17 R451, R456 to R459) -/

/-- The identity private key. -/
def identityKey : Nat := 1 + Config.identitySecret % (n384 - 1)

/-- The public half of the identity key: the PUBKEY of the device certificate (R456). -/
def identityPub : List Byte := pointBytes (mulPoint 384 identityKey g384)

/-- A signature with the identity key; `draw` is a free value (R457, spec/21 R550). -/
def identitySign (hash : List Byte) (draw : Nat) : List Byte := ecdsaSign identityKey draw hash

/-- The job key of a wrap record: ECDH with the identity key, HKDF and AES key wrap (R459); none when the integrity check fails. -/
def unwrapKey (ephPub salt info wrapped : List Byte) : Option (List Byte) :=
  match mulPoint 384 identityKey (pointOf ephPub) with
  | some (x, _) => keyUnwrap (hkdf384 salt (beBytes 48 x) info) wrapped
  | none => none

end Sys2Proof.Machine
end

