-- ==== Sys2Proof/Machine/Regs.lean ====
section
/-!
DEFINITION. Every register field of the spec's register tables, one definition each: where its word lies in BAR0
(spec/22 R554), its bits, its width and its reset value. The names are the spec's: block, register, field. The index `i` is the
block's instance (cell, lane, slot and so on); `j` is the index within the block (ring, context, row).
-/
namespace Sys2Proof.Machine

/-- One register field: the BAR0 byte address of its 32-bit word, its lowest bit, its width and its reset value. -/
structure Fld where
  addr  : Nat
  lo    : Nat
  width : Nat
  reset : Nat
  deriving DecidableEq, Repr

/-- The key under which the state stores a field: word address and lowest bit. Distinct fields have distinct keys. -/
def Fld.key (f : Fld) : Nat := f.addr * 32 + f.lo

/-- spec/02: HOST.ADMIN.CTX [2:0], L RWL. -/
def HOST_ADMIN_CTX : Fld := ⟨0xE0000, 0, 3, 0⟩
/-- spec/02: HOST.ADMIN.TAKEOVER [8:8], L RWL. -/
def HOST_ADMIN_TAKEOVER : Fld := ⟨0xE0000, 8, 1, 0⟩
/-- spec/02: HOST.ADMIN.LOCK [31:31], L RWL. -/
def HOST_ADMIN_LOCK : Fld := ⟨0xE0000, 31, 1, 0⟩
/-- spec/02: HOST.LMEM_SHARED.BASE [13:0], S RW. -/
def HOST_LMEM_SHARED_BASE : Fld := ⟨0xE0180, 0, 14, 0⟩
/-- spec/02: HOST.LMEM_SHARED.SIZE [30:16], S RW. -/
def HOST_LMEM_SHARED_SIZE : Fld := ⟨0xE0180, 16, 15, 0⟩
/-- spec/02: HOST.LMEM_SHARED.EN [31:31], L RW. -/
def HOST_LMEM_SHARED_EN : Fld := ⟨0xE0180, 31, 1, 0⟩
/-- spec/02: HOST.CTX.EN [0:0], L RW. -/
def HOST_CTX_EN (j : Nat) : Fld := ⟨0xE1000 + 64 * j, 0, 1, 0⟩
/-- spec/02: HOST.CTX.LOSS_POLICY [2:1], S RW. -/
def HOST_CTX_LOSS_POLICY (j : Nat) : Fld := ⟨0xE1000 + 64 * j, 1, 2, 0⟩
/-- spec/02: HOST.CTX.DB_BASE_LO [31:14], S RW. -/
def HOST_CTX_DB_BASE_LO (j : Nat) : Fld := ⟨0xE1004 + 64 * j, 14, 18, 0⟩
/-- spec/02: HOST.CTX.DB_BASE_HI [31:0], S RW. -/
def HOST_CTX_DB_BASE_HI (j : Nat) : Fld := ⟨0xE1008 + 64 * j, 0, 32, 0⟩
/-- spec/02: HOST.CTX.POLL_US [9:0], L RW. -/
def HOST_CTX_POLL_US (j : Nat) : Fld := ⟨0xE100C + 64 * j, 0, 10, 0⟩
/-- spec/02: HOST.CTX.KICK [31:0], L WO. -/
def HOST_CTX_KICK (j : Nat) : Fld := ⟨0xE1010 + 64 * j, 0, 32, 0⟩
/-- spec/02: HOST.CTX.MS [13:0], L RW. -/
def HOST_CTX_MS (j : Nat) : Fld := ⟨0xE1014 + 64 * j, 0, 14, 0⟩
/-- spec/02: HOST.CTX.HOLDOFF [9:0], L RW. -/
def HOST_CTX_HOLDOFF (j : Nat) : Fld := ⟨0xE1018 + 64 * j, 0, 10, 0⟩
/-- spec/02: HOST.CTX.COUNT [23:16], L RW. -/
def HOST_CTX_COUNT (j : Nat) : Fld := ⟨0xE1018 + 64 * j, 16, 8, 1⟩
/-- spec/02: HOST.CTX.VEC_GEN [5:0], L RW. -/
def HOST_CTX_VEC_GEN (j : Nat) : Fld := ⟨0xE101C + 64 * j, 0, 6, 0⟩
/-- spec/02: HOST.CTX.VEC_FAULT [13:8], L RW. -/
def HOST_CTX_VEC_FAULT (j : Nat) : Fld := ⟨0xE101C + 64 * j, 8, 6, 0⟩
/-- spec/02: HOST.CTX.LMEM_BASE [13:0], S RW. -/
def HOST_CTX_LMEM_BASE (j : Nat) : Fld := ⟨0xE1020 + 64 * j, 0, 14, 0⟩
/-- spec/02: HOST.CTX.LMEM_SIZE [14:0], S RW. -/
def HOST_CTX_LMEM_SIZE (j : Nat) : Fld := ⟨0xE1024 + 64 * j, 0, 15, 0⟩
/-- spec/02: HOST.CTX.READY [0:0], no class, RO. -/
def HOST_CTX_READY (j : Nat) : Fld := ⟨0xE1028 + 64 * j, 0, 1, 0⟩
/-- spec/02: HOST.CTX.LOST [1:1], no class, W1C. -/
def HOST_CTX_LOST (j : Nat) : Fld := ⟨0xE1028 + 64 * j, 1, 1, 0⟩
/-- spec/02: HOST.CTX.KICK_PEND [2:2], no class, RO. -/
def HOST_CTX_KICK_PEND (j : Nat) : Fld := ⟨0xE1028 + 64 * j, 2, 1, 0⟩
/-- spec/02: HOST.CTX.FETCH_ERR [3:3], no class, W1C. -/
def HOST_CTX_FETCH_ERR (j : Nat) : Fld := ⟨0xE1028 + 64 * j, 3, 1, 0⟩
/-- spec/02: HOST.CTX.LOSS_CAUSE [15:8], no class, RO. -/
def HOST_CTX_LOSS_CAUSE (j : Nat) : Fld := ⟨0xE1028 + 64 * j, 8, 8, 0⟩
/-- spec/02: HOST.CTX.SYNC_DROPS [31:16], no class, RO. -/
def HOST_CTX_SYNC_DROPS (j : Nat) : Fld := ⟨0xE1028 + 64 * j, 16, 16, 0⟩
/-- spec/02: HOST.CTX.EVT_LOST [31:0], no class, RO. -/
def HOST_CTX_EVT_LOST (j : Nat) : Fld := ⟨0xE102C + 64 * j, 0, 32, 0⟩
/-- spec/02: HOST.RING.BASE_LO [31:6], S RW. -/
def HOST_RING_BASE_LO (j : Nat) : Fld := ⟨0xE2000 + 16 * j, 6, 26, 0⟩
/-- spec/02: HOST.RING.BASE_HI [31:0], S RW. -/
def HOST_RING_BASE_HI (j : Nat) : Fld := ⟨0xE2004 + 16 * j, 0, 32, 0⟩
/-- spec/02: HOST.RING.EN [0:0], L RW. -/
def HOST_RING_EN (j : Nat) : Fld := ⟨0xE2008 + 16 * j, 0, 1, 0⟩
/-- spec/02: HOST.RING.ABORT [1:1], L WO. -/
def HOST_RING_ABORT (j : Nat) : Fld := ⟨0xE2008 + 16 * j, 1, 1, 0⟩
/-- spec/02: HOST.RING.SIZE_LOG2 [5:2], S RW. -/
def HOST_RING_SIZE_LOG2 (j : Nat) : Fld := ⟨0xE2008 + 16 * j, 2, 4, 4⟩
/-- spec/02: HOST.RING.CI_WB [6:6], S RW. -/
def HOST_RING_CI_WB (j : Nat) : Fld := ⟨0xE2008 + 16 * j, 6, 1, 0⟩
/-- spec/02: HOST.RING.VEC [13:8], L RW. -/
def HOST_RING_VEC (j : Nat) : Fld := ⟨0xE2008 + 16 * j, 8, 6, 0⟩
/-- spec/02: HOST.RING.CI [15:0], no class, RO. -/
def HOST_RING_CI (j : Nat) : Fld := ⟨0xE200C + 16 * j, 0, 16, 0⟩
/-- spec/02: HOST.RING.RUN [16:16], no class, RO. -/
def HOST_RING_RUN (j : Nat) : Fld := ⟨0xE200C + 16 * j, 16, 1, 0⟩
/-- spec/02: HOST.RING.ERR [17:17], no class, RO. -/
def HOST_RING_ERR (j : Nat) : Fld := ⟨0xE200C + 16 * j, 17, 1, 0⟩
/-- spec/02: HOST.RING.ERR_CODE [23:20], no class, RO. -/
def HOST_RING_ERR_CODE (j : Nat) : Fld := ⟨0xE200C + 16 * j, 20, 4, 0⟩
/-- spec/02: HOST.RING.HELD [31:24], no class, RO. -/
def HOST_RING_HELD (j : Nat) : Fld := ⟨0xE200C + 16 * j, 24, 8, 0⟩
/-- spec/04: NOUGAT.CTL.EN [0:0], L RW. -/
def NOUGAT_CTL_EN : Fld := ⟨0xC0000, 0, 1, 0⟩
/-- spec/04: NOUGAT.CTL.CRUMB_FENCE [11:8], L RW. -/
def NOUGAT_CTL_CRUMB_FENCE : Fld := ⟨0xC0000, 8, 4, 4⟩
/-- spec/04: NOUGAT.LANE_CTL.DISABLE [15:0], S RW. -/
def NOUGAT_LANE_CTL_DISABLE : Fld := ⟨0xC0004, 0, 16, 0⟩
/-- spec/04: NOUGAT.LANE_CTL.RESTORE [31:16], L WO. -/
def NOUGAT_LANE_CTL_RESTORE : Fld := ⟨0xC0004, 16, 16, 0⟩
/-- spec/04: NOUGAT.LANE_STAT.BUSY [15:0], no class, RO. -/
def NOUGAT_LANE_STAT_BUSY : Fld := ⟨0xC0008, 0, 16, 0⟩
/-- spec/04: NOUGAT.LANE_STAT.FENCED [31:16], no class, RO. -/
def NOUGAT_LANE_STAT_FENCED : Fld := ⟨0xC0008, 16, 16, 0⟩
/-- spec/04: NOUGAT.STAT_BLOCKS [31:0], no class, RO. -/
def NOUGAT_STAT_BLOCKS : Fld := ⟨0xC0010, 0, 32, 0⟩
/-- spec/04: NOUGAT.STAT_CRUMB [31:0], no class, RO. -/
def NOUGAT_STAT_CRUMB : Fld := ⟨0xC0014, 0, 32, 0⟩
/-- spec/04: NOUGAT.STAT_STORED [31:0], no class, RO. -/
def NOUGAT_STAT_STORED : Fld := ⟨0xC0018, 0, 32, 0⟩
/-- spec/04: NOUGAT.SCHED.WEIGHT [3:0], S RW. -/
def NOUGAT_SCHED_WEIGHT (j : Nat) : Fld := ⟨0xC0040 + 4 * j, 0, 4, 1⟩
/-- spec/04: NOUGAT.SCHED.MAX_LANES [12:8], S RW. -/
def NOUGAT_SCHED_MAX_LANES (j : Nat) : Fld := ⟨0xC0040 + 4 * j, 8, 5, 16⟩
/-- spec/04: NOUGAT.ARENA.EN [0:0], L RW. -/
def NOUGAT_ARENA_EN (j : Nat) : Fld := ⟨0xC0100 + 32 * j, 0, 1, 0⟩
/-- spec/04: NOUGAT.ARENA.EVT_FULL [1:1], L RW. -/
def NOUGAT_ARENA_EVT_FULL (j : Nat) : Fld := ⟨0xC0100 + 32 * j, 1, 1, 0⟩
/-- spec/04: NOUGAT.ARENA.BASE [13:0], S RW. -/
def NOUGAT_ARENA_BASE (j : Nat) : Fld := ⟨0xC0104 + 32 * j, 0, 14, 0⟩
/-- spec/04: NOUGAT.ARENA.SIZE [14:0], S RW. -/
def NOUGAT_ARENA_SIZE (j : Nat) : Fld := ⟨0xC0108 + 32 * j, 0, 15, 0⟩
/-- spec/04: NOUGAT.ARENA.HEAD [27:0], no class, RO. -/
def NOUGAT_ARENA_HEAD (j : Nat) : Fld := ⟨0xC010C + 32 * j, 0, 28, 0⟩
/-- spec/04: NOUGAT.ARENA.TAIL [27:0], L RW. -/
def NOUGAT_ARENA_TAIL (j : Nat) : Fld := ⟨0xC0110 + 32 * j, 0, 28, 0⟩
/-- spec/04: NOUGAT.ARENA.FULL [0:0], no class, RO. -/
def NOUGAT_ARENA_FULL (j : Nat) : Fld := ⟨0xC0114 + 32 * j, 0, 1, 0⟩
/-- spec/04: NOUGAT.ARENA.WRAPPED [1:1], no class, W1C. -/
def NOUGAT_ARENA_WRAPPED (j : Nat) : Fld := ⟨0xC0114 + 32 * j, 1, 1, 0⟩
/-- spec/04: NOUGAT.ARENA.WAITING [15:8], no class, RO. -/
def NOUGAT_ARENA_WAITING (j : Nat) : Fld := ⟨0xC0114 + 32 * j, 8, 8, 0⟩
/-- spec/05: CELL.CTL.EN [0:0], L RW. -/
def CELL_CTL_EN (i : Nat) : Fld := ⟨0x1000000 + 0x10000 * i, 0, 1, 0⟩
/-- spec/05: CELL.CTL.MUTE [1:1], B:line RW. -/
def CELL_CTL_MUTE (i : Nat) : Fld := ⟨0x1000000 + 0x10000 * i, 1, 1, 0⟩
/-- spec/05: CELL.CTL.PREFETCH [2:2], S RW. -/
def CELL_CTL_PREFETCH (i : Nat) : Fld := ⟨0x1000000 + 0x10000 * i, 2, 1, 1⟩
/-- spec/05: CELL.CTL.GANG [3:3], S RW. -/
def CELL_CTL_GANG (i : Nat) : Fld := ⟨0x1000000 + 0x10000 * i, 3, 1, 0⟩
/-- spec/05: CELL.CTL.MIRROR [4:4], S RW. -/
def CELL_CTL_MIRROR (i : Nat) : Fld := ⟨0x1000000 + 0x10000 * i, 4, 1, 1⟩
/-- spec/05: CELL.CTL.RELEASE [8:8], L WO. -/
def CELL_CTL_RELEASE (i : Nat) : Fld := ⟨0x1000000 + 0x10000 * i, 8, 1, 0⟩
/-- spec/05: CELL.CTL.SWAP_REQ [9:9], L WO. -/
def CELL_CTL_SWAP_REQ (i : Nat) : Fld := ⟨0x1000000 + 0x10000 * i, 9, 1, 0⟩
/-- spec/05: CELL.STATE.STATE [2:0], no class, RO. -/
def CELL_STATE_STATE (i : Nat) : Fld := ⟨0x1000004 + 0x10000 * i, 0, 3, 0⟩
/-- spec/05: CELL.STATE.NEXT_TAKEN [3:3], no class, RO. -/
def CELL_STATE_NEXT_TAKEN (i : Nat) : Fld := ⟨0x1000004 + 0x10000 * i, 3, 1, 0⟩
/-- spec/05: CELL.STATE.GANG_ROLE [5:4], no class, RO. -/
def CELL_STATE_GANG_ROLE (i : Nat) : Fld := ⟨0x1000004 + 0x10000 * i, 4, 2, 0⟩
/-- spec/05: CELL.STATE.FENCE_CAUSE [15:8], no class, RO. -/
def CELL_STATE_FENCE_CAUSE (i : Nat) : Fld := ⟨0x1000004 + 0x10000 * i, 8, 8, 0⟩
/-- spec/05: CELL.STATE.MUTED [16:16], no class, RO. -/
def CELL_STATE_MUTED (i : Nat) : Fld := ⟨0x1000004 + 0x10000 * i, 16, 1, 0⟩
/-- spec/05: CELL.GEOM.NOZZLES [11:0], S RW. -/
def CELL_GEOM_NOZZLES (i : Nat) : Fld := ⟨0x1000008 + 0x10000 * i, 0, 12, 2048⟩
/-- spec/05: CELL.GEOM.ROWS [18:16], S RW. -/
def CELL_GEOM_ROWS (i : Nat) : Fld := ⟨0x1000008 + 0x10000 * i, 16, 3, 0⟩
/-- spec/05: CELL.GEOM.LAYOUT [20:20], S RW. -/
def CELL_GEOM_LAYOUT (i : Nat) : Fld := ⟨0x1000008 + 0x10000 * i, 20, 1, 0⟩
/-- spec/05: CELL.WIN.BASE [15:0], B:page RW. -/
def CELL_WIN_BASE (i : Nat) : Fld := ⟨0x100000C + 0x10000 * i, 0, 16, 0⟩
/-- spec/05: CELL.WIN.WIDTH [23:16], B:page RW. -/
def CELL_WIN_WIDTH (i : Nat) : Fld := ⟨0x100000C + 0x10000 * i, 16, 8, 32⟩
/-- spec/05: CELL.LB_CTL.WM_LOW [9:0], L RW. -/
def CELL_LB_CTL_WM_LOW (i : Nat) : Fld := ⟨0x1000010 + 0x10000 * i, 0, 10, 16⟩
/-- spec/05: CELL.LB_CTL.EVT_LOW [16:16], L RW. -/
def CELL_LB_CTL_EVT_LOW (i : Nat) : Fld := ⟨0x1000010 + 0x10000 * i, 16, 1, 0⟩
/-- spec/05: CELL.LB_STAT.CAP [9:0], no class, RO. -/
def CELL_LB_STAT_CAP (i : Nat) : Fld := ⟨0x1000014 + 0x10000 * i, 0, 10, 0⟩
/-- spec/05: CELL.LB_STAT.READY [25:16], no class, RO. -/
def CELL_LB_STAT_READY (i : Nat) : Fld := ⟨0x1000014 + 0x10000 * i, 16, 10, 0⟩
/-- spec/05: CELL.LB_STAT.LOW [26:26], no class, RO. -/
def CELL_LB_STAT_LOW (i : Nat) : Fld := ⟨0x1000014 + 0x10000 * i, 26, 1, 0⟩
/-- spec/05: CELL.LB_SPAN.SPAN [9:0], no class, RO. -/
def CELL_LB_SPAN_SPAN (i : Nat) : Fld := ⟨0x1000018 + 0x10000 * i, 0, 10, 0⟩
/-- spec/05: CELL.BANK_STAT.FG [0:0], no class, RO. -/
def CELL_BANK_STAT_FG (i : Nat) : Fld := ⟨0x1000020 + 0x10000 * i, 0, 1, 0⟩
/-- spec/05: CELL.BANK_STAT.BG_STATE [3:1], no class, RO. -/
def CELL_BANK_STAT_BG_STATE (i : Nat) : Fld := ⟨0x1000020 + 0x10000 * i, 1, 3, 0⟩
/-- spec/05: CELL.BANK_STAT.SWAP_PEND [4:4], no class, RO. -/
def CELL_BANK_STAT_SWAP_PEND (i : Nat) : Fld := ⟨0x1000020 + 0x10000 * i, 4, 1, 0⟩
/-- spec/05: CELL.BANK_STAT.BG_WR_DROP [31:16], no class, RO. -/
def CELL_BANK_STAT_BG_WR_DROP (i : Nat) : Fld := ⟨0x1000020 + 0x10000 * i, 16, 16, 0⟩
/-- spec/05: CELL.SWAP_LINE [31:0], no class, RO. -/
def CELL_SWAP_LINE (i : Nat) : Fld := ⟨0x1000024 + 0x10000 * i, 0, 32, 0⟩
/-- spec/05: CELL.SWAP_COUNT [31:0], no class, RO. -/
def CELL_SWAP_COUNT (i : Nat) : Fld := ⟨0x1000028 + 0x10000 * i, 0, 32, 0⟩
/-- spec/05: CELL.LINE [31:0], no class, RO. -/
def CELL_LINE (i : Nat) : Fld := ⟨0x1000030 + 0x10000 * i, 0, 32, 0⟩
/-- spec/05: CELL.CNT_MUTE [31:0], no class, RO. -/
def CELL_CNT_MUTE (i : Nat) : Fld := ⟨0x1000034 + 0x10000 * i, 0, 32, 0⟩
/-- spec/05: CELL.CNT_UNDERRUN [31:0], no class, RO. -/
def CELL_CNT_UNDERRUN (i : Nat) : Fld := ⟨0x1000038 + 0x10000 * i, 0, 32, 0⟩
/-- spec/05: CELL.CNT_ECC.CORR [15:0], no class, RO. -/
def CELL_CNT_ECC_CORR (i : Nat) : Fld := ⟨0x100003C + 0x10000 * i, 0, 16, 0⟩
/-- spec/05: CELL.CNT_ECC.UNCORR [31:16], no class, RO. -/
def CELL_CNT_ECC_UNCORR (i : Nat) : Fld := ⟨0x100003C + 0x10000 * i, 16, 16, 0⟩
/-- spec/05: CELL.TEMP_LIM.TEMP_WARN [15:0], L RW. -/
def CELL_TEMP_LIM_TEMP_WARN (i : Nat) : Fld := ⟨0x1000040 + 0x10000 * i, 0, 16, 3840⟩
/-- spec/05: CELL.TEMP_LIM.TEMP_TRIP [31:16], L RW. -/
def CELL_TEMP_LIM_TEMP_TRIP (i : Nat) : Fld := ⟨0x1000040 + 0x10000 * i, 16, 16, 4480⟩
/-- spec/05: CELL.TEMP_CLR.TEMP_CLEAR [15:0], L RW. -/
def CELL_TEMP_CLR_TEMP_CLEAR (i : Nat) : Fld := ⟨0x1000044 + 0x10000 * i, 0, 16, 3520⟩
/-- spec/05: CELL.TEMP_CLR.HOLD_TIME [27:16], L RW. -/
def CELL_TEMP_CLR_HOLD_TIME (i : Nat) : Fld := ⟨0x1000044 + 0x10000 * i, 16, 12, 100⟩
/-- spec/05: CELL.TEMP_CLR.PAUSE_BAR [31:31], L RW. -/
def CELL_TEMP_CLR_PAUSE_BAR (i : Nat) : Fld := ⟨0x1000044 + 0x10000 * i, 31, 1, 0⟩
/-- spec/05: CELL.TEMP_STAT.TEMP [15:0], no class, RO. -/
def CELL_TEMP_STAT_TEMP (i : Nat) : Fld := ⟨0x1000048 + 0x10000 * i, 0, 16, 0⟩
/-- spec/05: CELL.TEMP_STAT.WARN [16:16], no class, RO. -/
def CELL_TEMP_STAT_WARN (i : Nat) : Fld := ⟨0x1000048 + 0x10000 * i, 16, 1, 0⟩
/-- spec/05: CELL.TEMP_STAT.TRIP [17:17], no class, RO. -/
def CELL_TEMP_STAT_TRIP (i : Nat) : Fld := ⟨0x1000048 + 0x10000 * i, 17, 1, 0⟩
/-- spec/06: CELL.FE_CTL.SRC [2:0], B:page RW. -/
def CELL_FE_CTL_SRC (i : Nat) : Fld := ⟨0x1000100 + 0x10000 * i, 0, 3, 0⟩
/-- spec/06: CELL.FE_CTL.MODE [3:3], S RW. -/
def CELL_FE_CTL_MODE (i : Nat) : Fld := ⟨0x1000100 + 0x10000 * i, 3, 1, 0⟩
/-- spec/06: CELL.FE_CTL.ABS [4:4], B:page RW. -/
def CELL_FE_CTL_ABS (i : Nat) : Fld := ⟨0x1000100 + 0x10000 * i, 4, 1, 0⟩
/-- spec/06: CELL.FE_CTL.FIRE_EN_REQ [5:5], L RW. -/
def CELL_FE_CTL_FIRE_EN_REQ (i : Nat) : Fld := ⟨0x1000100 + 0x10000 * i, 5, 1, 0⟩
/-- spec/06: CELL.FE_CTL.DOMAIN_ID [11:8], B:page RW. -/
def CELL_FE_CTL_DOMAIN_ID (i : Nat) : Fld := ⟨0x1000100 + 0x10000 * i, 8, 4, 0⟩
/-- spec/06: CELL.FE_CTL.SOFT_TRIG [16:16], L WO. -/
def CELL_FE_CTL_SOFT_TRIG (i : Nat) : Fld := ⟨0x1000100 + 0x10000 * i, 16, 1, 0⟩
/-- spec/06: CELL.FE_ROWS.EN [7:0], B:page RW. -/
def CELL_FE_ROWS_EN (i : Nat) : Fld := ⟨0x1000104 + 0x10000 * i, 0, 8, 255⟩
/-- spec/06: CELL.FE_PITCH.INT [23:0], B:page RW. -/
def CELL_FE_PITCH_INT (i : Nat) : Fld := ⟨0x1000108 + 0x10000 * i, 0, 24, 10837⟩
/-- spec/06: CELL.FE_PITCH.FRAC [31:0], B:page RW. -/
def CELL_FE_PITCH_FRAC (i : Nat) : Fld := ⟨0x100010C + 0x10000 * i, 0, 32, 1431655765⟩
/-- spec/06: CELL.FE.CELL_OFF [31:0], B:page RW. -/
def CELL_FE_CELL_OFF (i : Nat) : Fld := ⟨0x1000110 + 0x10000 * i, 0, 32, 0⟩
/-- spec/06: CELL.FE.DIR_OFF_F [23:0], B:page RW. -/
def CELL_FE_DIR_OFF_F (i : Nat) : Fld := ⟨0x1000114 + 0x10000 * i, 0, 24, 0⟩
/-- spec/06: CELL.FE.DIR_OFF_R [23:0], B:page RW. -/
def CELL_FE_DIR_OFF_R (i : Nat) : Fld := ⟨0x1000118 + 0x10000 * i, 0, 24, 0⟩
/-- spec/06: CELL.FE.START_DIST [31:0], B:page RW. -/
def CELL_FE_START_DIST (i : Nat) : Fld := ⟨0x100011C + 0x10000 * i, 0, 32, 0⟩
/-- spec/06: CELL.FE_START_POS_F.LO [31:0], B:page RW. -/
def CELL_FE_START_POS_F_LO (i : Nat) : Fld := ⟨0x1000120 + 0x10000 * i, 0, 32, 0⟩
/-- spec/06: CELL.FE_START_POS_R.LO [31:0], B:page RW. -/
def CELL_FE_START_POS_R_LO (i : Nat) : Fld := ⟨0x1000128 + 0x10000 * i, 0, 32, 0⟩
/-- spec/06: CELL.FE_START_POS_F.HI [15:0], B:page RW. -/
def CELL_FE_START_POS_F_HI (i : Nat) : Fld := ⟨0x1000124 + 0x10000 * i, 0, 16, 0⟩
/-- spec/06: CELL.FE_START_POS_R.HI [15:0], B:page RW. -/
def CELL_FE_START_POS_R_HI (i : Nat) : Fld := ⟨0x100012C + 0x10000 * i, 0, 16, 0⟩
/-- spec/06: CELL.FE.FLIGHT [19:0], B:page RW. -/
def CELL_FE_FLIGHT (i : Nat) : Fld := ⟨0x1000130 + 0x10000 * i, 0, 20, 0⟩
/-- spec/06: CELL.FE.LEAD [14:0], B:page RW. -/
def CELL_FE_LEAD (i : Nat) : Fld := ⟨0x1000134 + 0x10000 * i, 0, 15, 2600⟩
/-- spec/06: CELL.FE.LINE_MIN [19:0], B:page RW. -/
def CELL_FE_LINE_MIN (i : Nat) : Fld := ⟨0x1000138 + 0x10000 * i, 0, 20, 5000⟩
/-- spec/06: CELL.FE.LAG_MAX [23:0], B:page RW. -/
def CELL_FE_LAG_MAX (i : Nat) : Fld := ⟨0x100013C + 0x10000 * i, 0, 24, 0⟩
/-- spec/06: CELL.FE_CORR.CORR_MIN [7:0], L RW. -/
def CELL_FE_CORR_CORR_MIN (i : Nat) : Fld := ⟨0x1000140 + 0x10000 * i, 0, 8, 1⟩
/-- spec/06: CELL.FE_CORR.CORR_INT [19:8], L RW. -/
def CELL_FE_CORR_CORR_INT (i : Nat) : Fld := ⟨0x1000140 + 0x10000 * i, 8, 12, 200⟩
/-- spec/06: CELL.FE_VMIN.VMIN [23:0], B:page RW. -/
def CELL_FE_VMIN_VMIN (i : Nat) : Fld := ⟨0x1000144 + 0x10000 * i, 0, 24, 1000⟩
/-- spec/06: CELL.FE_ROW_OFF [23:0], B:page RW. -/
def CELL_FE_ROW_OFF (i j : Nat) : Fld := ⟨0x1000150 + 0x10000 * i + 4 * j, 0, 24, 0⟩
/-- spec/06: CELL.FE_STAT.SRC_VALID [0:0], no class, RO. -/
def CELL_FE_STAT_SRC_VALID (i : Nat) : Fld := ⟨0x1000180 + 0x10000 * i, 0, 1, 0⟩
/-- spec/06: CELL.FE_STAT.SWITCHED [1:1], no class, W1C. -/
def CELL_FE_STAT_SWITCHED (i : Nat) : Fld := ⟨0x1000180 + 0x10000 * i, 1, 1, 0⟩
/-- spec/06: CELL.FE_STAT.DIR [2:2], no class, RO. -/
def CELL_FE_STAT_DIR (i : Nat) : Fld := ⟨0x1000180 + 0x10000 * i, 2, 1, 0⟩
/-- spec/06: CELL.FE_STAT.DUE [3:3], no class, RO. -/
def CELL_FE_STAT_DUE (i : Nat) : Fld := ⟨0x1000180 + 0x10000 * i, 3, 1, 0⟩
/-- spec/06: CELL.FE_STAT.LAGGING [4:4], no class, RO. -/
def CELL_FE_STAT_LAGGING (i : Nat) : Fld := ⟨0x1000180 + 0x10000 * i, 4, 1, 0⟩
/-- spec/06: CELL.FE_STAT.STOP_FIRE [5:5], no class, RO. -/
def CELL_FE_STAT_STOP_FIRE (i : Nat) : Fld := ⟨0x1000180 + 0x10000 * i, 5, 1, 0⟩
/-- spec/06: CELL.FE_STAT.FIRE_EN [6:6], no class, RO. -/
def CELL_FE_STAT_FIRE_EN (i : Nat) : Fld := ⟨0x1000180 + 0x10000 * i, 6, 1, 0⟩
/-- spec/06: CELL.FE_STAT.STALLED [7:7], no class, RO. -/
def CELL_FE_STAT_STALLED (i : Nat) : Fld := ⟨0x1000180 + 0x10000 * i, 7, 1, 0⟩
/-- spec/06: CELL.FE_STAT.SKIP_CAUSE [9:8], no class, RO. -/
def CELL_FE_STAT_SKIP_CAUSE (i : Nat) : Fld := ⟨0x1000180 + 0x10000 * i, 8, 2, 0⟩
/-- spec/06: CELL.FE_P0.P0_LO [31:0], no class, RO. -/
def CELL_FE_P0_P0_LO (i : Nat) : Fld := ⟨0x1000184 + 0x10000 * i, 0, 32, 0⟩
/-- spec/06: CELL.FE_P0.P0_HI [15:0], no class, RO. -/
def CELL_FE_P0_P0_HI (i : Nat) : Fld := ⟨0x1000188 + 0x10000 * i, 0, 16, 0⟩
/-- spec/06: CELL.FE_LAG.LAG [23:0], no class, RO. -/
def CELL_FE_LAG_LAG (i : Nat) : Fld := ⟨0x100018C + 0x10000 * i, 0, 24, 0⟩
/-- spec/06: CELL.FE_PERIOD.PERIOD [19:0], no class, RO. -/
def CELL_FE_PERIOD_PERIOD (i : Nat) : Fld := ⟨0x1000190 + 0x10000 * i, 0, 20, 0⟩
/-- spec/06: CELL.FE_CNT_SKIP.SKIP_OVS [15:0], no class, RO. -/
def CELL_FE_CNT_SKIP_SKIP_OVS (i : Nat) : Fld := ⟨0x1000194 + 0x10000 * i, 0, 16, 0⟩
/-- spec/06: CELL.FE_CNT_SKIP.SKIP_LATE [31:16], no class, RO. -/
def CELL_FE_CNT_SKIP_SKIP_LATE (i : Nat) : Fld := ⟨0x1000194 + 0x10000 * i, 16, 16, 0⟩
/-- spec/06: CELL.FE_CNT_CORR.CORR [31:0], no class, RO. -/
def CELL_FE_CNT_CORR_CORR (i : Nat) : Fld := ⟨0x1000198 + 0x10000 * i, 0, 32, 0⟩
/-- spec/06: CELL.FE_CNT_TRIG.IGN [15:0], no class, RO. -/
def CELL_FE_CNT_TRIG_IGN (i : Nat) : Fld := ⟨0x100019C + 0x10000 * i, 0, 16, 0⟩
/-- spec/06: CELL.FE_CNT_TRIG.WITHDRAW [31:16], no class, RO. -/
def CELL_FE_CNT_TRIG_WITHDRAW (i : Nat) : Fld := ⟨0x100019C + 0x10000 * i, 16, 16, 0⟩
/-- spec/06: CELL.FE_LAST_FIRE.FIRE_LO [31:0], no class, RO. -/
def CELL_FE_LAST_FIRE_FIRE_LO (i : Nat) : Fld := ⟨0x10001A0 + 0x10000 * i, 0, 32, 0⟩
/-- spec/06: CELL.FE_LAST_FIRE.FIRE_HI [31:0], no class, RO. -/
def CELL_FE_LAST_FIRE_FIRE_HI (i : Nat) : Fld := ⟨0x10001A4 + 0x10000 * i, 0, 32, 0⟩
/-- spec/06: MARK.EN [0:0], L RW. -/
def MARK_EN (i : Nat) : Fld := ⟨0x7F000 + 0x80 * i, 0, 1, 0⟩
/-- spec/06: MARK.FILT [13:4], S RW. -/
def MARK_FILT (i : Nat) : Fld := ⟨0x7F000 + 0x80 * i, 4, 10, 100⟩
/-- spec/06: MARK.RISE_SEQ [15:0], no class, RO. -/
def MARK_RISE_SEQ (i : Nat) : Fld := ⟨0x7F004 + 0x80 * i, 0, 16, 0⟩
/-- spec/06: MARK.FALL_SEQ [31:16], no class, RO. -/
def MARK_FALL_SEQ (i : Nat) : Fld := ⟨0x7F004 + 0x80 * i, 16, 16, 0⟩
/-- spec/06: MARK.RISE_TIME_LO [31:0], no class, RO. -/
def MARK_RISE_TIME_LO (i : Nat) : Fld := ⟨0x7F008 + 0x80 * i, 0, 32, 0⟩
/-- spec/06: MARK.RISE_TIME_HI [31:0], no class, RO. -/
def MARK_RISE_TIME_HI (i : Nat) : Fld := ⟨0x7F00C + 0x80 * i, 0, 32, 0⟩
/-- spec/06: MARK.FALL_TIME_LO [31:0], no class, RO. -/
def MARK_FALL_TIME_LO (i : Nat) : Fld := ⟨0x7F010 + 0x80 * i, 0, 32, 0⟩
/-- spec/06: MARK.FALL_TIME_HI [31:0], no class, RO. -/
def MARK_FALL_TIME_HI (i : Nat) : Fld := ⟨0x7F014 + 0x80 * i, 0, 32, 0⟩
/-- spec/06: MARK.RISE_POS_LO [31:0], no class, RO. -/
def MARK_RISE_POS_LO (i j : Nat) : Fld := ⟨0x7F020 + 0x80 * i + 8 * j, 0, 32, 0⟩
/-- spec/06: MARK.RISE_POS_HI [31:0], no class, RO. -/
def MARK_RISE_POS_HI (i j : Nat) : Fld := ⟨0x7F024 + 0x80 * i + 8 * j, 0, 32, 0⟩
/-- spec/06: MARK.FALL_POS_LO [31:0], no class, RO. -/
def MARK_FALL_POS_LO (i j : Nat) : Fld := ⟨0x7F040 + 0x80 * i + 8 * j, 0, 32, 0⟩
/-- spec/06: MARK.FALL_POS_HI [31:0], no class, RO. -/
def MARK_FALL_POS_HI (i j : Nat) : Fld := ⟨0x7F044 + 0x80 * i + 8 * j, 0, 32, 0⟩
/-- spec/07: GOV.CTL.EN [0:0], L RW. -/
def GOV_CTL_EN : Fld := ⟨0xB0000, 0, 1, 0⟩
/-- spec/07: GOV.CTL.SLOW_EN [1:1], L RW. -/
def GOV_CTL_SLOW_EN : Fld := ⟨0xB0000, 1, 1, 1⟩
/-- spec/07: GOV.CTL.STOP_EN [2:2], L RW. -/
def GOV_CTL_STOP_EN : Fld := ⟨0xB0000, 2, 1, 1⟩
/-- spec/07: GOV.CTL.STOP_ON_UNDERRUN [3:3], L RW. -/
def GOV_CTL_STOP_ON_UNDERRUN : Fld := ⟨0xB0000, 3, 1, 0⟩
/-- spec/07: GOV.CTL.SW_STOP [4:4], L RW. -/
def GOV_CTL_SW_STOP : Fld := ⟨0xB0000, 4, 1, 0⟩
/-- spec/07: GOV.CELL_EN_LO [31:0], L RW. -/
def GOV_CELL_EN_LO : Fld := ⟨0xB0004, 0, 32, 4294967295⟩
/-- spec/07: GOV.CELL_EN_HI [31:0], L RW. -/
def GOV_CELL_EN_HI : Fld := ⟨0xB0008, 0, 32, 4294967295⟩
/-- spec/07: GOV.TTS_WARN [19:0], L RW. -/
def GOV_TTS_WARN : Fld := ⟨0xB0010, 0, 20, 500⟩
/-- spec/07: GOV.TTS_STOP [19:0], L RW. -/
def GOV_TTS_STOP : Fld := ⟨0xB0014, 0, 20, 150⟩
/-- spec/07: GOV.OVS_PCT [6:0], L RW. -/
def GOV_OVS_PCT : Fld := ⟨0xB0018, 0, 7, 95⟩
/-- spec/07: GOV.V_NOM [23:0], L RW. -/
def GOV_V_NOM : Fld := ⟨0xB001C, 0, 24, 8466667⟩
/-- spec/07: GOV.DEM_CTL.RISE [10:0], L RW. -/
def GOV_DEM_CTL_RISE : Fld := ⟨0xB0020, 0, 11, 64⟩
/-- spec/07: GOV.DEM_CTL.THERM [26:16], L RW. -/
def GOV_DEM_CTL_THERM : Fld := ⟨0xB0020, 16, 11, 768⟩
/-- spec/07: GOV.SW_DEM.SW_DEM [10:0], L RW. -/
def GOV_SW_DEM_SW_DEM : Fld := ⟨0xB0024, 0, 11, 1024⟩
/-- spec/07: GOV.PWM.PERIOD [9:0], B:frame RW. -/
def GOV_PWM_PERIOD : Fld := ⟨0xB0028, 0, 10, 50⟩
/-- spec/07: GOV.NET_EN [0:0], L RW. -/
def GOV_NET_EN : Fld := ⟨0xB0030, 0, 1, 0⟩
/-- spec/07: GOV.NET_PORT [1:1], S RW. -/
def GOV_NET_PORT : Fld := ⟨0xB0030, 1, 1, 0⟩
/-- spec/07: GOV.NET_TPL_LEN [7:2], S RW. -/
def GOV_NET_TPL_LEN : Fld := ⟨0xB0030, 2, 6, 14⟩
/-- spec/07: GOV.NET_PERIOD [19:8], L RW. -/
def GOV_NET_PERIOD : Fld := ⟨0xB0030, 8, 12, 100⟩
/-- spec/07: GOV.NET_DELTA [30:20], L RW. -/
def GOV_NET_DELTA : Fld := ⟨0xB0030, 20, 11, 64⟩
/-- spec/07: GOV.NET_SLOT_OFF [31:0], L RW. -/
def GOV_NET_SLOT_OFF : Fld := ⟨0xB0034, 0, 32, 0⟩
/-- spec/07: GOV.TPL [31:0], S RW. -/
def GOV_TPL (j : Nat) : Fld := ⟨0xB0100 + 4 * j, 0, 32, 0⟩
/-- spec/07: GOV.STAT.DEMAND [10:0], no class, RO. -/
def GOV_STAT_DEMAND : Fld := ⟨0xB0040, 0, 11, 1024⟩
/-- spec/07: GOV.STAT.SLOW [11:11], no class, RO. -/
def GOV_STAT_SLOW : Fld := ⟨0xB0040, 11, 1, 0⟩
/-- spec/07: GOV.STAT.STOP [12:12], no class, RO. -/
def GOV_STAT_STOP : Fld := ⟨0xB0040, 12, 1, 0⟩
/-- spec/07: GOV.STAT.LATCH [13:13], no class, W1C. -/
def GOV_STAT_LATCH : Fld := ⟨0xB0040, 13, 1, 0⟩
/-- spec/07: GOV.STAT.CAUSE [23:16], no class, RO. -/
def GOV_STAT_CAUSE : Fld := ⟨0xB0040, 16, 8, 0⟩
/-- spec/07: GOV.STAT.WORST_CELL [31:24], no class, RO. -/
def GOV_STAT_WORST_CELL : Fld := ⟨0xB0040, 24, 8, 255⟩
/-- spec/07: GOV.TTS [31:0], no class, RO. -/
def GOV_TTS : Fld := ⟨0xB0044, 0, 32, 4294967295⟩
/-- spec/07: GOV.TTS_MIN [31:0], no class, W1C. -/
def GOV_TTS_MIN : Fld := ⟨0xB0048, 0, 32, 4294967295⟩
/-- spec/07: GOV.UNDERRUN [15:0], no class, RO. -/
def GOV_UNDERRUN : Fld := ⟨0xB004C, 0, 16, 0⟩
/-- spec/07: GOV.NET_LOST [31:16], no class, RO. -/
def GOV_NET_LOST : Fld := ⟨0xB004C, 16, 16, 0⟩
/-- spec/08: LINK.PHY_CTL.EN [0:0], L RW. -/
def LINK_PHY_CTL_EN (i : Nat) : Fld := ⟨0x2000000 + 0x10000 * i, 0, 1, 0⟩
/-- spec/08: LINK.PHY_CTL.RATE [2:1], S RW. -/
def LINK_PHY_CTL_RATE (i : Nat) : Fld := ⟨0x2000000 + 0x10000 * i, 1, 2, 1⟩
/-- spec/08: LINK.PHY_CTL.TX_INV [3:3], S RW. -/
def LINK_PHY_CTL_TX_INV (i : Nat) : Fld := ⟨0x2000000 + 0x10000 * i, 3, 1, 0⟩
/-- spec/08: LINK.PHY_CTL.RX_INV_AUTO [4:4], S RW. -/
def LINK_PHY_CTL_RX_INV_AUTO (i : Nat) : Fld := ⟨0x2000000 + 0x10000 * i, 4, 1, 1⟩
/-- spec/08: LINK.PHY_CTL.TX_EQ_AUTO [5:5], S RW. -/
def LINK_PHY_CTL_TX_EQ_AUTO (i : Nat) : Fld := ⟨0x2000000 + 0x10000 * i, 5, 1, 1⟩
/-- spec/08: LINK.PHY_CTL.CTLE_AUTO [6:6], S RW. -/
def LINK_PHY_CTL_CTLE_AUTO (i : Nat) : Fld := ⟨0x2000000 + 0x10000 * i, 6, 1, 1⟩
/-- spec/08: LINK.PHY_CTL.CDR_BW [9:8], S RW. -/
def LINK_PHY_CTL_CDR_BW (i : Nat) : Fld := ⟨0x2000000 + 0x10000 * i, 8, 2, 1⟩
/-- spec/08: LINK.TX_EQ.PRE [3:0], S RW. -/
def LINK_TX_EQ_PRE (i : Nat) : Fld := ⟨0x2000004 + 0x10000 * i, 0, 4, 0⟩
/-- spec/08: LINK.TX_EQ.POST [8:4], S RW. -/
def LINK_TX_EQ_POST (i : Nat) : Fld := ⟨0x2000004 + 0x10000 * i, 4, 5, 8⟩
/-- spec/08: LINK.TX_EQ.SWING [15:10], S RW. -/
def LINK_TX_EQ_SWING (i : Nat) : Fld := ⟨0x2000004 + 0x10000 * i, 10, 6, 40⟩
/-- spec/08: LINK.TX_EQ_STAT.PRE [3:0], no class, RO. -/
def LINK_TX_EQ_STAT_PRE (i : Nat) : Fld := ⟨0x2000008 + 0x10000 * i, 0, 4, 0⟩
/-- spec/08: LINK.TX_EQ_STAT.POST [8:4], no class, RO. -/
def LINK_TX_EQ_STAT_POST (i : Nat) : Fld := ⟨0x2000008 + 0x10000 * i, 4, 5, 0⟩
/-- spec/08: LINK.TX_EQ_STAT.SWING [15:10], no class, RO. -/
def LINK_TX_EQ_STAT_SWING (i : Nat) : Fld := ⟨0x2000008 + 0x10000 * i, 10, 6, 0⟩
/-- spec/08: LINK.TX_EQ_STAT.CLIP [16:16], no class, RO. -/
def LINK_TX_EQ_STAT_CLIP (i : Nat) : Fld := ⟨0x2000008 + 0x10000 * i, 16, 1, 0⟩
/-- spec/08: LINK.TX_EQ_STAT.TRAINED [17:17], no class, RO. -/
def LINK_TX_EQ_STAT_TRAINED (i : Nat) : Fld := ⟨0x2000008 + 0x10000 * i, 17, 1, 0⟩
/-- spec/08: LINK.RX_EQ.CTLE [2:0], S RW. -/
def LINK_RX_EQ_CTLE (i : Nat) : Fld := ⟨0x200000C + 0x10000 * i, 0, 3, 3⟩
/-- spec/08: LINK.RX_EQ.OC_HOLD [8:8], L RW. -/
def LINK_RX_EQ_OC_HOLD (i : Nat) : Fld := ⟨0x200000C + 0x10000 * i, 8, 1, 0⟩
/-- spec/08: LINK.RX_EQ.FI_HOLD [9:9], L RW. -/
def LINK_RX_EQ_FI_HOLD (i : Nat) : Fld := ⟨0x200000C + 0x10000 * i, 9, 1, 0⟩
/-- spec/08: LINK.RX_STAT.CTLE [2:0], no class, RO. -/
def LINK_RX_STAT_CTLE (i : Nat) : Fld := ⟨0x2000010 + 0x10000 * i, 0, 3, 0⟩
/-- spec/08: LINK.RX_STAT.INV [3:3], no class, RO. -/
def LINK_RX_STAT_INV (i : Nat) : Fld := ⟨0x2000010 + 0x10000 * i, 3, 1, 0⟩
/-- spec/08: LINK.RX_STAT.ALIGN [5:4], no class, RO. -/
def LINK_RX_STAT_ALIGN (i : Nat) : Fld := ⟨0x2000010 + 0x10000 * i, 4, 2, 0⟩
/-- spec/08: LINK.RX_STAT.SIGNAL [6:6], no class, RO. -/
def LINK_RX_STAT_SIGNAL (i : Nat) : Fld := ⟨0x2000010 + 0x10000 * i, 6, 1, 0⟩
/-- spec/08: LINK.RX_STAT.FROZEN [7:7], no class, RO. -/
def LINK_RX_STAT_FROZEN (i : Nat) : Fld := ⟨0x2000010 + 0x10000 * i, 7, 1, 0⟩
/-- spec/08: LINK.RX_STAT.OC [15:8], no class, RO. -/
def LINK_RX_STAT_OC (i : Nat) : Fld := ⟨0x2000010 + 0x10000 * i, 8, 8, 0⟩
/-- spec/08: LINK.RX_STAT.FREQ [31:16], no class, RO. -/
def LINK_RX_STAT_FREQ (i : Nat) : Fld := ⟨0x2000010 + 0x10000 * i, 16, 16, 0⟩
/-- spec/08: LINK.PWR_CTL.DS_IDLE [1:0], L RW. -/
def LINK_PWR_CTL_DS_IDLE (i : Nat) : Fld := ⟨0x2000014 + 0x10000 * i, 0, 2, 1⟩
/-- spec/08: LINK.PWR_CTL.US_IDLE [3:2], L RW. -/
def LINK_PWR_CTL_US_IDLE (i : Nat) : Fld := ⟨0x2000014 + 0x10000 * i, 2, 2, 0⟩
/-- spec/08: LINK.PWR_CTL.DOZE_AFTER [15:8], L RW. -/
def LINK_PWR_CTL_DOZE_AFTER (i : Nat) : Fld := ⟨0x2000014 + 0x10000 * i, 8, 8, 16⟩
/-- spec/08: LINK.PWR_STAT.DS [2:0], no class, RO. -/
def LINK_PWR_STAT_DS (i : Nat) : Fld := ⟨0x2000018 + 0x10000 * i, 0, 3, 0⟩
/-- spec/08: LINK.PWR_STAT.US [6:4], no class, RO. -/
def LINK_PWR_STAT_US (i : Nat) : Fld := ⟨0x2000018 + 0x10000 * i, 4, 3, 0⟩
/-- spec/08: LINK.PWR_STAT.WAKES [31:16], no class, RO. -/
def LINK_PWR_STAT_WAKES (i : Nat) : Fld := ⟨0x2000018 + 0x10000 * i, 16, 16, 0⟩
/-- spec/08: LINK.EYE_CTL.MODE [1:0], L RW. -/
def LINK_EYE_CTL_MODE (i : Nat) : Fld := ⟨0x2000020 + 0x10000 * i, 0, 2, 0⟩
/-- spec/08: LINK.EYE_CTL.START [2:2], L WO. -/
def LINK_EYE_CTL_START (i : Nat) : Fld := ⟨0x2000020 + 0x10000 * i, 2, 1, 0⟩
/-- spec/08: LINK.EYE_CTL.PHASE [9:4], L RW. -/
def LINK_EYE_CTL_PHASE (i : Nat) : Fld := ⟨0x2000020 + 0x10000 * i, 4, 6, 0⟩
/-- spec/08: LINK.EYE_CTL.VOFF [16:10], L RW. -/
def LINK_EYE_CTL_VOFF (i : Nat) : Fld := ⟨0x2000020 + 0x10000 * i, 10, 7, 0⟩
/-- spec/08: LINK.EYE_CTL.DWELL [19:17], L RW. -/
def LINK_EYE_CTL_DWELL (i : Nat) : Fld := ⟨0x2000020 + 0x10000 * i, 17, 3, 2⟩
/-- spec/08: LINK.EYE_CTL.ERR_MAX [27:20], L RW. -/
def LINK_EYE_CTL_ERR_MAX (i : Nat) : Fld := ⟨0x2000020 + 0x10000 * i, 20, 8, 1⟩
/-- spec/08: LINK.EYE_AUTO.PERIOD_S [15:0], L RW. -/
def LINK_EYE_AUTO_PERIOD_S (i : Nat) : Fld := ⟨0x2000024 + 0x10000 * i, 0, 16, 0⟩
/-- spec/08: LINK.EYE_RES.ERRORS [31:0], no class, RO. -/
def LINK_EYE_RES_ERRORS (i : Nat) : Fld := ⟨0x2000028 + 0x10000 * i, 0, 32, 0⟩
/-- spec/08: LINK.EYE_STAT.DONE [0:0], no class, W1C. -/
def LINK_EYE_STAT_DONE (i : Nat) : Fld := ⟨0x200002C + 0x10000 * i, 0, 1, 0⟩
/-- spec/08: LINK.EYE_STAT.BUSY [1:1], no class, RO. -/
def LINK_EYE_STAT_BUSY (i : Nat) : Fld := ⟨0x200002C + 0x10000 * i, 1, 1, 0⟩
/-- spec/08: LINK.EYE_STAT.NO_SIGNAL [2:2], no class, RO. -/
def LINK_EYE_STAT_NO_SIGNAL (i : Nat) : Fld := ⟨0x200002C + 0x10000 * i, 2, 1, 0⟩
/-- spec/08: LINK.EYE_STAT.EYE_W [14:8], no class, RO. -/
def LINK_EYE_STAT_EYE_W (i : Nat) : Fld := ⟨0x200002C + 0x10000 * i, 8, 7, 0⟩
/-- spec/08: LINK.EYE_STAT.EYE_H [23:16], no class, RO. -/
def LINK_EYE_STAT_EYE_H (i : Nat) : Fld := ⟨0x200002C + 0x10000 * i, 16, 8, 0⟩
/-- spec/08: LINK.HEAD_EYE.EYE_W [6:0], no class, RO. -/
def LINK_HEAD_EYE_EYE_W (i : Nat) : Fld := ⟨0x2000030 + 0x10000 * i, 0, 7, 0⟩
/-- spec/08: LINK.HEAD_EYE.EYE_H [15:8], no class, RO. -/
def LINK_HEAD_EYE_EYE_H (i : Nat) : Fld := ⟨0x2000030 + 0x10000 * i, 8, 8, 0⟩
/-- spec/08: LINK.HEAD_EYE.REPORTS [31:16], no class, RO. -/
def LINK_HEAD_EYE_REPORTS (i : Nat) : Fld := ⟨0x2000030 + 0x10000 * i, 16, 16, 0⟩
/-- spec/08: LINK.PHY_CNT.STUFF [15:0], no class, RO. -/
def LINK_PHY_CNT_STUFF (i : Nat) : Fld := ⟨0x2000034 + 0x10000 * i, 0, 16, 0⟩
/-- spec/08: LINK.PHY_CNT.ALIGN [31:16], no class, RO. -/
def LINK_PHY_CNT_ALIGN (i : Nat) : Fld := ⟨0x2000034 + 0x10000 * i, 16, 16, 0⟩
/-- spec/08: LINK.PHY_CNT.LOS [15:0], no class, RO. -/
def LINK_PHY_CNT_LOS (i : Nat) : Fld := ⟨0x2000038 + 0x10000 * i, 0, 16, 0⟩
/-- spec/08: LINK.PHY_CNT.FREEZE [31:16], no class, RO. -/
def LINK_PHY_CNT_FREEZE (i : Nat) : Fld := ⟨0x2000038 + 0x10000 * i, 16, 16, 0⟩
/-- spec/09: LINK.LL_CTL.RETRAIN [0:0], L WO. -/
def LINK_LL_CTL_RETRAIN (i : Nat) : Fld := ⟨0x2000100 + 0x10000 * i, 0, 1, 0⟩
/-- spec/09: LINK.LL_CTL.AUTO_RETRAIN [1:1], S RW. -/
def LINK_LL_CTL_AUTO_RETRAIN (i : Nat) : Fld := ⟨0x2000100 + 0x10000 * i, 1, 1, 1⟩
/-- spec/09: LINK.LL_CTL.FAST [2:2], S RW. -/
def LINK_LL_CTL_FAST (i : Nat) : Fld := ⟨0x2000100 + 0x10000 * i, 2, 1, 1⟩
/-- spec/09: LINK.LL_CTL.AUTH_REQ [3:3], S RW. -/
def LINK_LL_CTL_AUTH_REQ (i : Nat) : Fld := ⟨0x2000100 + 0x10000 * i, 3, 1, 0⟩
/-- spec/09: LINK.LL_CTL.RETRAIN_MAX [11:8], S RW. -/
def LINK_LL_CTL_RETRAIN_MAX (i : Nat) : Fld := ⟨0x2000100 + 0x10000 * i, 8, 4, 3⟩
/-- spec/09: LINK.LL_TIMING.RETRAIN_DELAY [11:0], S RW. -/
def LINK_LL_TIMING_RETRAIN_DELAY (i : Nat) : Fld := ⟨0x2000104 + 0x10000 * i, 0, 12, 1⟩
/-- spec/09: LINK.LL_TIMING.TRAIN_TO [27:16], S RW. -/
def LINK_LL_TIMING_TRAIN_TO (i : Nat) : Fld := ⟨0x2000104 + 0x10000 * i, 16, 12, 500⟩
/-- spec/09: LINK.LL_REPLAY.TO [12:0], S RW. -/
def LINK_LL_REPLAY_TO (i : Nat) : Fld := ⟨0x2000108 + 0x10000 * i, 0, 13, 4000⟩
/-- spec/09: LINK.LL_REPLAY.MAX [19:16], S RW. -/
def LINK_LL_REPLAY_MAX (i : Nat) : Fld := ⟨0x2000108 + 0x10000 * i, 16, 4, 4⟩
/-- spec/09: LINK.LL_STAT.STATE [3:0], no class, RO. -/
def LINK_LL_STAT_STATE (i : Nat) : Fld := ⟨0x200010C + 0x10000 * i, 0, 4, 0⟩
/-- spec/09: LINK.LL_STAT.RATE [5:4], no class, RO. -/
def LINK_LL_STAT_RATE (i : Nat) : Fld := ⟨0x200010C + 0x10000 * i, 4, 2, 0⟩
/-- spec/09: LINK.LL_STAT.PRESET [8:6], no class, RO. -/
def LINK_LL_STAT_PRESET (i : Nat) : Fld := ⟨0x200010C + 0x10000 * i, 6, 3, 0⟩
/-- spec/09: LINK.LL_STAT.HALTED [9:9], no class, RO. -/
def LINK_LL_STAT_HALTED (i : Nat) : Fld := ⟨0x200010C + 0x10000 * i, 9, 1, 0⟩
/-- spec/09: LINK.LL_STAT.TLOCK [10:10], no class, RO. -/
def LINK_LL_STAT_TLOCK (i : Nat) : Fld := ⟨0x200010C + 0x10000 * i, 10, 1, 0⟩
/-- spec/09: LINK.LL_STAT.AUTHED [11:11], no class, RO. -/
def LINK_LL_STAT_AUTHED (i : Nat) : Fld := ⟨0x200010C + 0x10000 * i, 11, 1, 0⟩
/-- spec/09: LINK.LL_STAT.DOWN_CAUSE [15:12], no class, RO. -/
def LINK_LL_STAT_DOWN_CAUSE (i : Nat) : Fld := ⟨0x200010C + 0x10000 * i, 12, 4, 0⟩
/-- spec/09: LINK.LL_STAT.TRAIN_FAIL [19:16], no class, RO. -/
def LINK_LL_STAT_TRAIN_FAIL (i : Nat) : Fld := ⟨0x200010C + 0x10000 * i, 16, 4, 0⟩
/-- spec/09: LINK.TL_CTL.PERIOD [13:0], L RW. -/
def LINK_TL_CTL_PERIOD (i : Nat) : Fld := ⟨0x2000110 + 0x10000 * i, 0, 14, 100⟩
/-- spec/09: LINK.TL_CTL.TOL [23:16], L RW. -/
def LINK_TL_CTL_TOL (i : Nat) : Fld := ⟨0x2000110 + 0x10000 * i, 16, 8, 16⟩
/-- spec/09: LINK.TL_CTL.MISS [27:24], L RW. -/
def LINK_TL_CTL_MISS (i : Nat) : Fld := ⟨0x2000110 + 0x10000 * i, 24, 4, 4⟩
/-- spec/09: LINK.TL_ASYM [31:0], L RW. -/
def LINK_TL_ASYM (i : Nat) : Fld := ⟨0x2000114 + 0x10000 * i, 0, 32, 0⟩
/-- spec/09: LINK.TL_DS [31:0], no class, RO. -/
def LINK_TL_DS (i : Nat) : Fld := ⟨0x2000118 + 0x10000 * i, 0, 32, 0⟩
/-- spec/09: LINK.TL_DLANE [15:0], no class, RO. -/
def LINK_TL_DLANE (i : Nat) : Fld := ⟨0x200011C + 0x10000 * i, 0, 16, 0⟩
/-- spec/09: LINK.TL_ERR [31:0], no class, RO. -/
def LINK_TL_ERR (i : Nat) : Fld := ⟨0x2000120 + 0x10000 * i, 0, 32, 0⟩
/-- spec/09: LINK.TL_RTT [31:0], no class, RO. -/
def LINK_TL_RTT (i : Nat) : Fld := ⟨0x2000124 + 0x10000 * i, 0, 32, 0⟩
/-- spec/09: LINK.LL_CNT.CRC [15:0], no class, RO. -/
def LINK_LL_CNT_CRC (i : Nat) : Fld := ⟨0x2000128 + 0x10000 * i, 0, 16, 0⟩
/-- spec/09: LINK.LL_CNT.VOID [15:0], no class, RO. -/
def LINK_LL_CNT_VOID (i : Nat) : Fld := ⟨0x200012C + 0x10000 * i, 0, 16, 0⟩
/-- spec/09: LINK.LL_CNT.TLOST [15:0], no class, RO. -/
def LINK_LL_CNT_TLOST (i : Nat) : Fld := ⟨0x2000130 + 0x10000 * i, 0, 16, 0⟩
/-- spec/09: LINK.LL_CNT.REPLAY [31:16], no class, RO. -/
def LINK_LL_CNT_REPLAY (i : Nat) : Fld := ⟨0x2000128 + 0x10000 * i, 16, 16, 0⟩
/-- spec/09: LINK.LL_CNT.PROTO [31:16], no class, RO. -/
def LINK_LL_CNT_PROTO (i : Nat) : Fld := ⟨0x200012C + 0x10000 * i, 16, 16, 0⟩
/-- spec/09: LINK.LL_CNT.DOWN [31:16], no class, RO. -/
def LINK_LL_CNT_DOWN (i : Nat) : Fld := ⟨0x2000130 + 0x10000 * i, 16, 16, 0⟩
/-- spec/09: LINK.CMD_CTL.GO [0:0], L WO. -/
def LINK_CMD_CTL_GO (i : Nat) : Fld := ⟨0x20001E0 + 0x10000 * i, 0, 1, 0⟩
/-- spec/09: LINK.CMD_CTL.BUSY [1:1], no class, RO. -/
def LINK_CMD_CTL_BUSY (i : Nat) : Fld := ⟨0x20001E0 + 0x10000 * i, 1, 1, 0⟩
/-- spec/09: LINK.CMD_CTL.DONE [2:2], no class, W1C. -/
def LINK_CMD_CTL_DONE (i : Nat) : Fld := ⟨0x20001E0 + 0x10000 * i, 2, 1, 0⟩
/-- spec/09: LINK.CMD_CTL.REFUSED [3:3], no class, RO. -/
def LINK_CMD_CTL_REFUSED (i : Nat) : Fld := ⟨0x20001E0 + 0x10000 * i, 3, 1, 0⟩
/-- spec/09: LINK.CMD_CTL.TIMEOUT [4:4], no class, RO. -/
def LINK_CMD_CTL_TIMEOUT (i : Nat) : Fld := ⟨0x20001E0 + 0x10000 * i, 4, 1, 0⟩
/-- spec/09: LINK.CMD_CTL.STATUS [14:8], no class, RO. -/
def LINK_CMD_CTL_STATUS (i : Nat) : Fld := ⟨0x20001E0 + 0x10000 * i, 8, 7, 0⟩
/-- spec/10: ENC.CTL.EN [0:0], L RW. -/
def ENC_CTL_EN (i : Nat) : Fld := ⟨0x80000 + 0x1000 * i, 0, 1, 0⟩
/-- spec/10: ENC.CTL.MODE [1:1], S RW. -/
def ENC_CTL_MODE (i : Nat) : Fld := ⟨0x80000 + 0x1000 * i, 1, 1, 0⟩
/-- spec/10: ENC.CTL.INV [2:2], S RW. -/
def ENC_CTL_INV (i : Nat) : Fld := ⟨0x80000 + 0x1000 * i, 2, 1, 0⟩
/-- spec/10: ENC.CTL.PWR [3:3], L RW. -/
def ENC_CTL_PWR (i : Nat) : Fld := ⟨0x80000 + 0x1000 * i, 3, 1, 0⟩
/-- spec/10: ENC.CTL.REREF [5:4], L RW. -/
def ENC_CTL_REREF (i : Nat) : Fld := ⟨0x80000 + 0x1000 * i, 4, 2, 0⟩
/-- spec/10: ENC.CTL.IDX_EN [6:6], S RW. -/
def ENC_CTL_IDX_EN (i : Nat) : Fld := ⟨0x80000 + 0x1000 * i, 6, 1, 0⟩
/-- spec/10: ENC.CTL.IDX_GATE [7:7], S RW. -/
def ENC_CTL_IDX_GATE (i : Nat) : Fld := ⟨0x80000 + 0x1000 * i, 7, 1, 0⟩
/-- spec/10: ENC.CTL.RESTART [8:8], L WO. -/
def ENC_CTL_RESTART (i : Nat) : Fld := ⟨0x80000 + 0x1000 * i, 8, 1, 0⟩
/-- spec/10: ENC.CFG.EDGE_MIN [7:0], S RW. -/
def ENC_CFG_EDGE_MIN (i : Nat) : Fld := ⟨0x80004 + 0x1000 * i, 0, 8, 2⟩
/-- spec/10: ENC.CFG.WIRE_T [17:8], S RW. -/
def ENC_CFG_WIRE_T (i : Nat) : Fld := ⟨0x80004 + 0x1000 * i, 8, 10, 100⟩
/-- spec/10: ENC.CFG.WIRE_TOL [23:18], S RW. -/
def ENC_CFG_WIRE_TOL (i : Nat) : Fld := ⟨0x80004 + 0x1000 * i, 18, 6, 20⟩
/-- spec/10: ENC.CFG.PWR_SETTLE [31:24], S RW. -/
def ENC_CFG_PWR_SETTLE (i : Nat) : Fld := ⟨0x80004 + 0x1000 * i, 24, 8, 10⟩
/-- spec/10: ENC.OVS_PERIOD [19:0], S RW. -/
def ENC_OVS_PERIOD (i : Nat) : Fld := ⟨0x80008 + 0x1000 * i, 0, 20, 450⟩
/-- spec/10: ENC.SCALE [31:0], S RW. -/
def ENC_SCALE (i : Nat) : Fld := ⟨0x8000C + 0x1000 * i, 0, 32, 20971520⟩
/-- spec/10: ENC.SCALE.SHIFT [3:0], S RW. -/
def ENC_SCALE_SHIFT (i : Nat) : Fld := ⟨0x80010 + 0x1000 * i, 0, 4, 0⟩
/-- spec/10: ENC.OBS.BW [14:0], B:sample RW. -/
def ENC_OBS_BW (i : Nat) : Fld := ⟨0x80014 + 0x1000 * i, 0, 15, 2000⟩
/-- spec/10: ENC.OBS.COAST_MAX [25:16], L RW. -/
def ENC_OBS_COAST_MAX (i : Nat) : Fld := ⟨0x80014 + 0x1000 * i, 16, 10, 40⟩
/-- spec/10: ENC.RAD.RAD_MIN [13:0], S RW. -/
def ENC_RAD_RAD_MIN (i : Nat) : Fld := ⟨0x80018 + 0x1000 * i, 0, 14, 2048⟩
/-- spec/10: ENC.RAD.RAD_MAX [29:16], S RW. -/
def ENC_RAD_RAD_MAX (i : Nat) : Fld := ⟨0x80018 + 0x1000 * i, 16, 14, 6554⟩
/-- spec/10: ENC.IDX_PERIOD [31:0], S RW. -/
def ENC_IDX_PERIOD (i : Nat) : Fld := ⟨0x8001C + 0x1000 * i, 0, 32, 0⟩
/-- spec/10: ENC.IDX_CFG.INDEX_TOL [15:0], L RW. -/
def ENC_IDX_CFG_INDEX_TOL (i : Nat) : Fld := ⟨0x80020 + 0x1000 * i, 0, 16, 512⟩
/-- spec/10: ENC.IDX_CFG.INDEX_STRICT [16:16], L RW. -/
def ENC_IDX_CFG_INDEX_STRICT (i : Nat) : Fld := ⟨0x80020 + 0x1000 * i, 16, 1, 0⟩
/-- spec/10: ENC.IDX_CFG.HIST_SHIFT [23:20], L RW. -/
def ENC_IDX_CFG_HIST_SHIFT (i : Nat) : Fld := ⟨0x80020 + 0x1000 * i, 20, 4, 6⟩
/-- spec/10: ENC.REF.POS_LO [31:0], L RW. -/
def ENC_REF_POS_LO (i : Nat) : Fld := ⟨0x80024 + 0x1000 * i, 0, 32, 0⟩
/-- spec/10: ENC.REF.POS_HI [15:0], L RW. -/
def ENC_REF_POS_HI (i : Nat) : Fld := ⟨0x80028 + 0x1000 * i, 0, 16, 0⟩
/-- spec/10: ENC.STAT.VALID [0:0], no class, RO. -/
def ENC_STAT_VALID (i : Nat) : Fld := ⟨0x80040 + 0x1000 * i, 0, 1, 0⟩
/-- spec/10: ENC.STAT.ACQ [1:1], no class, RO. -/
def ENC_STAT_ACQ (i : Nat) : Fld := ⟨0x80040 + 0x1000 * i, 1, 1, 0⟩
/-- spec/10: ENC.STAT.PWR_OK [2:2], no class, RO. -/
def ENC_STAT_PWR_OK (i : Nat) : Fld := ⟨0x80040 + 0x1000 * i, 2, 1, 0⟩
/-- spec/10: ENC.STAT.COAST [3:3], no class, RO. -/
def ENC_STAT_COAST (i : Nat) : Fld := ⟨0x80040 + 0x1000 * i, 3, 1, 0⟩
/-- spec/10: ENC.STAT.PRINTING [4:4], no class, RO. -/
def ENC_STAT_PRINTING (i : Nat) : Fld := ⟨0x80040 + 0x1000 * i, 4, 1, 0⟩
/-- spec/10: ENC.STAT.REF_PEND [5:5], no class, RO. -/
def ENC_STAT_REF_PEND (i : Nat) : Fld := ⟨0x80040 + 0x1000 * i, 5, 1, 0⟩
/-- spec/10: ENC.STAT.IDX_SEEN [6:6], no class, W1C. -/
def ENC_STAT_IDX_SEEN (i : Nat) : Fld := ⟨0x80040 + 0x1000 * i, 6, 1, 0⟩
/-- spec/10: ENC.STAT.WIRE [10:8], no class, RO. -/
def ENC_STAT_WIRE (i : Nat) : Fld := ⟨0x80040 + 0x1000 * i, 8, 3, 0⟩
/-- spec/10: ENC.STAT.CAUSE [19:16], no class, RO. -/
def ENC_STAT_CAUSE (i : Nat) : Fld := ⟨0x80040 + 0x1000 * i, 16, 4, 0⟩
/-- spec/10: ENC.POS_LO [31:0], no class, RO. -/
def ENC_POS_LO (i : Nat) : Fld := ⟨0x80044 + 0x1000 * i, 0, 32, 0⟩
/-- spec/10: ENC.POS_HI [15:0], no class, RO. -/
def ENC_POS_HI (i : Nat) : Fld := ⟨0x80048 + 0x1000 * i, 0, 16, 0⟩
/-- spec/10: ENC.VEL [31:0], no class, RO. -/
def ENC_VEL (i : Nat) : Fld := ⟨0x8004C + 0x1000 * i, 0, 32, 0⟩
/-- spec/10: ENC.ACC [31:0], no class, RO. -/
def ENC_ACC (i : Nat) : Fld := ⟨0x80050 + 0x1000 * i, 0, 32, 0⟩
/-- spec/10: ENC.COUNT_LO [31:0], no class, RO. -/
def ENC_COUNT_LO (i : Nat) : Fld := ⟨0x80054 + 0x1000 * i, 0, 32, 0⟩
/-- spec/10: ENC.COUNT_HI [31:0], no class, RO. -/
def ENC_COUNT_HI (i : Nat) : Fld := ⟨0x80058 + 0x1000 * i, 0, 32, 0⟩
/-- spec/10: ENC.POS_OFF_LO [31:0], no class, RO. -/
def ENC_POS_OFF_LO (i : Nat) : Fld := ⟨0x8005C + 0x1000 * i, 0, 32, 0⟩
/-- spec/10: ENC.POS_OFF_HI [15:0], no class, RO. -/
def ENC_POS_OFF_HI (i : Nat) : Fld := ⟨0x80060 + 0x1000 * i, 0, 16, 0⟩
/-- spec/10: ENC.CNT0.ILLEGAL [15:0], no class, RO. -/
def ENC_CNT0_ILLEGAL (i : Nat) : Fld := ⟨0x80064 + 0x1000 * i, 0, 16, 0⟩
/-- spec/10: ENC.CNT0.EDGE [31:16], no class, RO. -/
def ENC_CNT0_EDGE (i : Nat) : Fld := ⟨0x80064 + 0x1000 * i, 16, 16, 0⟩
/-- spec/10: ENC.CNT1.OVSPER [15:0], no class, RO. -/
def ENC_CNT1_OVSPER (i : Nat) : Fld := ⟨0x80068 + 0x1000 * i, 0, 16, 0⟩
/-- spec/10: ENC.CNT1.PHASEJ [31:16], no class, RO. -/
def ENC_CNT1_PHASEJ (i : Nat) : Fld := ⟨0x80068 + 0x1000 * i, 16, 16, 0⟩
/-- spec/10: ENC.CNT2.COASTS [15:0], no class, RO. -/
def ENC_CNT2_COASTS (i : Nat) : Fld := ⟨0x8006C + 0x1000 * i, 0, 16, 0⟩
/-- spec/10: ENC.CNT2.FAULTS [31:16], no class, RO. -/
def ENC_CNT2_FAULTS (i : Nat) : Fld := ⟨0x8006C + 0x1000 * i, 16, 16, 0⟩
/-- spec/10: ENC.IDX_LAST_LO [31:0], no class, RO. -/
def ENC_IDX_LAST_LO (i : Nat) : Fld := ⟨0x80070 + 0x1000 * i, 0, 32, 0⟩
/-- spec/10: ENC.IDX_LAST_HI [31:0], no class, RO. -/
def ENC_IDX_LAST_HI (i : Nat) : Fld := ⟨0x80074 + 0x1000 * i, 0, 32, 0⟩
/-- spec/10: ENC.IDX_DEV [31:0], no class, RO. -/
def ENC_IDX_DEV (i : Nat) : Fld := ⟨0x80078 + 0x1000 * i, 0, 32, 0⟩
/-- spec/10: ENC.CNT3.MISSING [15:0], no class, RO. -/
def ENC_CNT3_MISSING (i : Nat) : Fld := ⟨0x8007C + 0x1000 * i, 0, 16, 0⟩
/-- spec/10: ENC.CNT3.OUTSIDE [31:16], no class, RO. -/
def ENC_CNT3_OUTSIDE (i : Nat) : Fld := ⟨0x8007C + 0x1000 * i, 16, 16, 0⟩
/-- spec/10: ENC.IDX_HIST [31:0], no class, RO. -/
def ENC_IDX_HIST (i j : Nat) : Fld := ⟨0x80080 + 0x1000 * i + 4 * j, 0, 32, 0⟩
/-- spec/10: ENC.DUAL.EN [0:0], L RW. -/
def ENC_DUAL_EN (i : Nat) : Fld := ⟨0x80100 + 0x1000 * i, 0, 1, 0⟩
/-- spec/10: ENC.DUAL.PRIMARY [1:1], S RW. -/
def ENC_DUAL_PRIMARY (i : Nat) : Fld := ⟨0x80100 + 0x1000 * i, 1, 1, 0⟩
/-- spec/10: ENC.DUAL.REARM [2:2], L WO. -/
def ENC_DUAL_REARM (i : Nat) : Fld := ⟨0x80100 + 0x1000 * i, 2, 1, 0⟩
/-- spec/10: ENC.DUAL.TOL [23:0], L RW. -/
def ENC_DUAL_TOL (i : Nat) : Fld := ⟨0x80104 + 0x1000 * i, 0, 24, 2560⟩
/-- spec/10: ENC.DUAL.SAMPLES [9:0], L RW. -/
def ENC_DUAL_SAMPLES (i : Nat) : Fld := ⟨0x80108 + 0x1000 * i, 0, 10, 50⟩
/-- spec/10: ENC.DUAL.TC [31:16], L RW. -/
def ENC_DUAL_TC (i : Nat) : Fld := ⟨0x80108 + 0x1000 * i, 16, 16, 100⟩
/-- spec/10: ENC.DUAL.VALID [0:0], no class, RO. -/
def ENC_DUAL_VALID (i : Nat) : Fld := ⟨0x80110 + 0x1000 * i, 0, 1, 0⟩
/-- spec/10: ENC.DUAL.ACTIVE [1:1], no class, RO. -/
def ENC_DUAL_ACTIVE (i : Nat) : Fld := ⟨0x80110 + 0x1000 * i, 1, 1, 0⟩
/-- spec/10: ENC.DUAL.STANDBY_OK [2:2], no class, RO. -/
def ENC_DUAL_STANDBY_OK (i : Nat) : Fld := ⟨0x80110 + 0x1000 * i, 2, 1, 0⟩
/-- spec/10: ENC.DUAL.EXCLUDED [3:3], no class, RO. -/
def ENC_DUAL_EXCLUDED (i : Nat) : Fld := ⟨0x80110 + 0x1000 * i, 3, 1, 0⟩
/-- spec/10: ENC.DUAL.SWITCHES [31:16], no class, RO. -/
def ENC_DUAL_SWITCHES (i : Nat) : Fld := ⟨0x80110 + 0x1000 * i, 16, 16, 0⟩
/-- spec/10: ENC.DUAL.OFF_LO [31:0], no class, RO. -/
def ENC_DUAL_OFF_LO (i : Nat) : Fld := ⟨0x80114 + 0x1000 * i, 0, 32, 0⟩
/-- spec/10: ENC.DUAL.OFF_HI [15:0], no class, RO. -/
def ENC_DUAL_OFF_HI (i : Nat) : Fld := ⟨0x80118 + 0x1000 * i, 0, 16, 0⟩
/-- spec/10: ENC.DUAL.DISAGREE [31:0], no class, RO. -/
def ENC_DUAL_DISAGREE (i : Nat) : Fld := ⟨0x8011C + 0x1000 * i, 0, 32, 0⟩
/-- spec/10: VIRT.EN [0:0], L RW. -/
def VIRT_EN : Fld := ⟨0x8C000, 0, 1, 0⟩
/-- spec/10: VIRT.LOAD [1:1], L WO. -/
def VIRT_LOAD : Fld := ⟨0x8C000, 1, 1, 0⟩
/-- spec/10: VIRT.VIRT_VEL [31:0], L RW. -/
def VIRT_VIRT_VEL : Fld := ⟨0x8C004, 0, 32, 0⟩
/-- spec/10: VIRT.VIRT_ACC [31:0], L RW. -/
def VIRT_VIRT_ACC : Fld := ⟨0x8C008, 0, 32, 0⟩
/-- spec/10: VIRT.VIRT_POS_LO [31:0], L RW. -/
def VIRT_VIRT_POS_LO : Fld := ⟨0x8C00C, 0, 32, 0⟩
/-- spec/10: VIRT.VIRT_POS_HI [15:0], L RW. -/
def VIRT_VIRT_POS_HI : Fld := ⟨0x8C010, 0, 16, 0⟩
/-- spec/10: VIRT.NOW_LO [31:0], no class, RO. -/
def VIRT_NOW_LO : Fld := ⟨0x8C014, 0, 32, 0⟩
/-- spec/10: VIRT.NOW_HI [15:0], no class, RO. -/
def VIRT_NOW_HI : Fld := ⟨0x8C018, 0, 16, 0⟩
/-- spec/10: VIRT.NOW_VEL [31:0], no class, RO. -/
def VIRT_NOW_VEL : Fld := ⟨0x8C01C, 0, 32, 0⟩
/-- spec/11: ENC.CAL_CTL.AUTO [0:0], L RW. -/
def ENC_CAL_CTL_AUTO (i : Nat) : Fld := ⟨0x80200 + 0x1000 * i, 0, 1, 1⟩
/-- spec/11: ENC.CAL_CTL.START [1:1], L WO. -/
def ENC_CAL_CTL_START (i : Nat) : Fld := ⟨0x80200 + 0x1000 * i, 1, 1, 0⟩
/-- spec/11: ENC.CAL_CTL.ADC_TRIM [2:2], L RW. -/
def ENC_CAL_CTL_ADC_TRIM (i : Nat) : Fld := ⟨0x80200 + 0x1000 * i, 2, 1, 1⟩
/-- spec/11: ENC.CAL_CTL.HOLD [3:3], L RW. -/
def ENC_CAL_CTL_HOLD (i : Nat) : Fld := ⟨0x80200 + 0x1000 * i, 3, 1, 0⟩
/-- spec/11: ENC.CAL_CTL.LOAD [4:4], L WO. -/
def ENC_CAL_CTL_LOAD (i : Nat) : Fld := ⟨0x80200 + 0x1000 * i, 4, 1, 0⟩
/-- spec/11: ENC.CAL.PERIODS [12:0], L RW. -/
def ENC_CAL_PERIODS (i : Nat) : Fld := ⟨0x80204 + 0x1000 * i, 0, 13, 256⟩
/-- spec/11: ENC.CAL.BIN_MIN [23:16], L RW. -/
def ENC_CAL_BIN_MIN (i : Nat) : Fld := ⟨0x80204 + 0x1000 * i, 16, 8, 64⟩
/-- spec/11: ENC.CAL.DT [15:0], L RW. -/
def ENC_CAL_DT (i : Nat) : Fld := ⟨0x80208 + 0x1000 * i, 0, 16, 256⟩
/-- spec/11: ENC.CAL.TMAX [31:16], L RW. -/
def ENC_CAL_TMAX (i : Nat) : Fld := ⟨0x80208 + 0x1000 * i, 16, 16, 10000⟩
/-- spec/11: ENC.CAL_SET.OFF_S [15:0], L RW. -/
def ENC_CAL_SET_OFF_S (i : Nat) : Fld := ⟨0x80210 + 0x1000 * i, 0, 16, 0⟩
/-- spec/11: ENC.CAL_COEF.OFF_S [15:0], no class, RO. -/
def ENC_CAL_COEF_OFF_S (i : Nat) : Fld := ⟨0x80220 + 0x1000 * i, 0, 16, 0⟩
/-- spec/11: ENC.CAL_SET.OFF_C [31:16], L RW. -/
def ENC_CAL_SET_OFF_C (i : Nat) : Fld := ⟨0x80210 + 0x1000 * i, 16, 16, 0⟩
/-- spec/11: ENC.CAL_COEF.OFF_C [31:16], no class, RO. -/
def ENC_CAL_COEF_OFF_C (i : Nat) : Fld := ⟨0x80220 + 0x1000 * i, 16, 16, 0⟩
/-- spec/11: ENC.CAL_SET.GAIN_C [15:0], L RW. -/
def ENC_CAL_SET_GAIN_C (i : Nat) : Fld := ⟨0x80214 + 0x1000 * i, 0, 16, 32768⟩
/-- spec/11: ENC.CAL_COEF.GAIN_C [15:0], no class, RO. -/
def ENC_CAL_COEF_GAIN_C (i : Nat) : Fld := ⟨0x80224 + 0x1000 * i, 0, 16, 32768⟩
/-- spec/11: ENC.CAL_SET.PH_SIN [31:16], L RW. -/
def ENC_CAL_SET_PH_SIN (i : Nat) : Fld := ⟨0x80214 + 0x1000 * i, 16, 16, 0⟩
/-- spec/11: ENC.CAL_COEF.PH_SIN [31:16], no class, RO. -/
def ENC_CAL_COEF_PH_SIN (i : Nat) : Fld := ⟨0x80224 + 0x1000 * i, 16, 16, 0⟩
/-- spec/11: ENC.CAL_SET.PH_SEC [15:0], L RW. -/
def ENC_CAL_SET_PH_SEC (i : Nat) : Fld := ⟨0x80218 + 0x1000 * i, 0, 16, 32768⟩
/-- spec/11: ENC.CAL_COEF.PH_SEC [15:0], no class, RO. -/
def ENC_CAL_COEF_PH_SEC (i : Nat) : Fld := ⟨0x80228 + 0x1000 * i, 0, 16, 32768⟩
/-- spec/11: ENC.CAL_STAT.PHASE [1:0], no class, RO. -/
def ENC_CAL_STAT_PHASE (i : Nat) : Fld := ⟨0x80230 + 0x1000 * i, 0, 2, 0⟩
/-- spec/11: ENC.CAL_STAT.PEND [2:2], no class, RO. -/
def ENC_CAL_STAT_PEND (i : Nat) : Fld := ⟨0x80230 + 0x1000 * i, 2, 1, 0⟩
/-- spec/11: ENC.CAL_STAT.DONE [3:3], no class, W1C. -/
def ENC_CAL_STAT_DONE (i : Nat) : Fld := ⟨0x80230 + 0x1000 * i, 3, 1, 0⟩
/-- spec/11: ENC.CAL_STAT.RESULT [7:4], no class, RO. -/
def ENC_CAL_STAT_RESULT (i : Nat) : Fld := ⟨0x80230 + 0x1000 * i, 4, 4, 0⟩
/-- spec/11: ENC.CAL_STAT.CAUSE [9:8], no class, RO. -/
def ENC_CAL_STAT_CAUSE (i : Nat) : Fld := ⟨0x80230 + 0x1000 * i, 8, 2, 0⟩
/-- spec/11: ENC.CAL_MEAS.RATIO [15:0], no class, RO. -/
def ENC_CAL_MEAS_RATIO (i : Nat) : Fld := ⟨0x80234 + 0x1000 * i, 0, 16, 0⟩
/-- spec/11: ENC.CAL_MEAS.SIN_PSI [31:16], no class, RO. -/
def ENC_CAL_MEAS_SIN_PSI (i : Nat) : Fld := ⟨0x80234 + 0x1000 * i, 16, 16, 0⟩
/-- spec/11: ENC.CAL_MEAS.MOFF_S [15:0], no class, RO. -/
def ENC_CAL_MEAS_MOFF_S (i : Nat) : Fld := ⟨0x80238 + 0x1000 * i, 0, 16, 0⟩
/-- spec/11: ENC.CAL_MEAS.MOFF_C [31:16], no class, RO. -/
def ENC_CAL_MEAS_MOFF_C (i : Nat) : Fld := ⟨0x80238 + 0x1000 * i, 16, 16, 0⟩
/-- spec/11: ENC.CAL_MEAS.RIPPLE [15:0], no class, RO. -/
def ENC_CAL_MEAS_RIPPLE (i : Nat) : Fld := ⟨0x8023C + 0x1000 * i, 0, 16, 0⟩
/-- spec/11: ENC.CAL_MEAS.LAST_STEP [31:16], no class, RO. -/
def ENC_CAL_MEAS_LAST_STEP (i : Nat) : Fld := ⟨0x8023C + 0x1000 * i, 16, 16, 0⟩
/-- spec/11: ENC.CAL_TEMP.TEMP [15:0], no class, RO. -/
def ENC_CAL_TEMP_TEMP (i : Nat) : Fld := ⟨0x80240 + 0x1000 * i, 0, 16, 0⟩
/-- spec/11: ENC.CAL_TEMP.TREF [31:16], no class, RO. -/
def ENC_CAL_TEMP_TREF (i : Nat) : Fld := ⟨0x80240 + 0x1000 * i, 16, 16, 0⟩
/-- spec/11: ENC.CAL_CNT.RUNS [15:0], no class, RO. -/
def ENC_CAL_CNT_RUNS (i : Nat) : Fld := ⟨0x80244 + 0x1000 * i, 0, 16, 0⟩
/-- spec/11: ENC.CAL_CNT.FAILS [31:16], no class, RO. -/
def ENC_CAL_CNT_FAILS (i : Nat) : Fld := ⟨0x80244 + 0x1000 * i, 16, 16, 0⟩
/-- spec/11: ENC.ADC_TRIM.ZS [15:0], no class, RO. -/
def ENC_ADC_TRIM_ZS (i : Nat) : Fld := ⟨0x80248 + 0x1000 * i, 0, 16, 0⟩
/-- spec/11: ENC.ADC_TRIM.ZC [31:16], no class, RO. -/
def ENC_ADC_TRIM_ZC (i : Nat) : Fld := ⟨0x80248 + 0x1000 * i, 16, 16, 0⟩
/-- spec/12: AXIS.CTL.EN [0:0], L RW. -/
def AXIS_CTL_EN (i : Nat) : Fld := ⟨0x90000 + 0x1000 * i, 0, 1, 0⟩
/-- spec/12: AXIS.CTL.DRIVE [2:1], L RW. -/
def AXIS_CTL_DRIVE (i : Nat) : Fld := ⟨0x90000 + 0x1000 * i, 1, 2, 2⟩
/-- spec/12: AXIS.CTL.CROSS [3:3], S RW. -/
def AXIS_CTL_CROSS (i : Nat) : Fld := ⟨0x90000 + 0x1000 * i, 3, 1, 0⟩
/-- spec/12: AXIS.CTL.SAFE_ACT [5:4], S RW. -/
def AXIS_CTL_SAFE_ACT (i : Nat) : Fld := ⟨0x90000 + 0x1000 * i, 4, 2, 2⟩
/-- spec/12: AXIS.CTL.INV [6:6], S RW. -/
def AXIS_CTL_INV (i : Nat) : Fld := ⟨0x90000 + 0x1000 * i, 6, 1, 0⟩
/-- spec/12: AXIS.CTL.RES [11:8], S RW. -/
def AXIS_CTL_RES (i : Nat) : Fld := ⟨0x90000 + 0x1000 * i, 8, 4, 8⟩
/-- spec/12: AXIS.CTL.POS_LOAD [12:12], L WO. -/
def AXIS_CTL_POS_LOAD (i : Nat) : Fld := ⟨0x90000 + 0x1000 * i, 12, 1, 0⟩
/-- spec/12: AXIS.CMD.OP [3:0], L RW. -/
def AXIS_CMD_OP (i : Nat) : Fld := ⟨0x90004 + 0x1000 * i, 0, 4, 0⟩
/-- spec/12: AXIS.CMD.GO [31:31], L WO. -/
def AXIS_CMD_GO (i : Nat) : Fld := ⟨0x90004 + 0x1000 * i, 31, 1, 0⟩
/-- spec/12: AXIS.CMD_ROWS.FIRST_ROW [9:0], L RW. -/
def AXIS_CMD_ROWS_FIRST_ROW (i : Nat) : Fld := ⟨0x90008 + 0x1000 * i, 0, 10, 0⟩
/-- spec/12: AXIS.CMD_ROWS.ROWS [26:16], L RW. -/
def AXIS_CMD_ROWS_ROWS (i : Nat) : Fld := ⟨0x90008 + 0x1000 * i, 16, 11, 1⟩
/-- spec/12: AXIS.ARG [31:0], L RW. -/
def AXIS_ARG (i : Nat) : Fld := ⟨0x9000C + 0x1000 * i, 0, 32, 0⟩
/-- spec/12: AXIS.CMD_RES.STATUS [7:0], no class, RO. -/
def AXIS_CMD_RES_STATUS (i : Nat) : Fld := ⟨0x90010 + 0x1000 * i, 0, 8, 0⟩
/-- spec/12: AXIS.CMD_RES.DONE [8:8], no class, W1C. -/
def AXIS_CMD_RES_DONE (i : Nat) : Fld := ⟨0x90010 + 0x1000 * i, 8, 1, 0⟩
/-- spec/12: AXIS.TBL_IDX [9:0], L RW. -/
def AXIS_TBL_IDX (i : Nat) : Fld := ⟨0x90014 + 0x1000 * i, 0, 10, 0⟩
/-- spec/12: AXIS.TBL_W [31:0], L RW. -/
def AXIS_TBL_W (i j : Nat) : Fld := ⟨0x90018 + 0x1000 * i + 4 * j, 0, 32, 0⟩
/-- spec/12: AXIS.ISNS.IFS [15:0], S RW. -/
def AXIS_ISNS_IFS (i : Nat) : Fld := ⟨0x90030 + 0x1000 * i, 0, 16, 2000⟩
/-- spec/12: AXIS.ISNS.IMAX [31:16], S RW. -/
def AXIS_ISNS_IMAX (i : Nat) : Fld := ⟨0x90030 + 0x1000 * i, 16, 16, 2500⟩
/-- spec/12: AXIS.CUR.RUN_CUR [15:0], L RW. -/
def AXIS_CUR_RUN_CUR (i : Nat) : Fld := ⟨0x90034 + 0x1000 * i, 0, 16, 1000⟩
/-- spec/12: AXIS.CUR.HOLD_CUR [31:16], L RW. -/
def AXIS_CUR_HOLD_CUR (i : Nat) : Fld := ⟨0x90034 + 0x1000 * i, 16, 16, 500⟩
/-- spec/12: AXIS.COIL.R_COIL [15:0], S RW. -/
def AXIS_COIL_R_COIL (i : Nat) : Fld := ⟨0x90038 + 0x1000 * i, 0, 16, 1000⟩
/-- spec/12: AXIS.COIL.L_COIL [31:16], S RW. -/
def AXIS_COIL_L_COIL (i : Nat) : Fld := ⟨0x90038 + 0x1000 * i, 16, 16, 2000⟩
/-- spec/12: AXIS.KE [23:0], S RW. -/
def AXIS_KE (i : Nat) : Fld := ⟨0x9003C + 0x1000 * i, 0, 24, 0⟩
/-- spec/12: AXIS.VM [15:0], L RW. -/
def AXIS_VM (i : Nat) : Fld := ⟨0x90040 + 0x1000 * i, 0, 16, 24000⟩
/-- spec/12: AXIS.VM.HOLD_DELAY [31:16], L RW. -/
def AXIS_VM_HOLD_DELAY (i : Nat) : Fld := ⟨0x90040 + 0x1000 * i, 16, 16, 500⟩
/-- spec/12: AXIS.PWM.PWM_F [6:0], S RW. -/
def AXIS_PWM_PWM_F (i : Nat) : Fld := ⟨0x90044 + 0x1000 * i, 0, 7, 40⟩
/-- spec/12: AXIS.PWM.CHOP_F [14:8], S RW. -/
def AXIS_PWM_CHOP_F (i : Nat) : Fld := ⟨0x90044 + 0x1000 * i, 8, 7, 40⟩
/-- spec/12: AXIS.PWM.BLANK [27:16], S RW. -/
def AXIS_PWM_BLANK (i : Nat) : Fld := ⟨0x90044 + 0x1000 * i, 16, 12, 500⟩
/-- spec/12: AXIS.BULL.H_MIN [15:0], S RW. -/
def AXIS_BULL_H_MIN (i : Nat) : Fld := ⟨0x90048 + 0x1000 * i, 0, 16, 20⟩
/-- spec/12: AXIS.BULL.H_MAX [31:16], S RW. -/
def AXIS_BULL_H_MAX (i : Nat) : Fld := ⟨0x90048 + 0x1000 * i, 16, 16, 400⟩
/-- spec/12: AXIS.CROSS.W_LO [7:0], L RW. -/
def AXIS_CROSS_W_LO (i : Nat) : Fld := ⟨0x9004C + 0x1000 * i, 0, 8, 0⟩
/-- spec/12: AXIS.CROSS.W_HI [15:8], L RW. -/
def AXIS_CROSS_W_HI (i : Nat) : Fld := ⟨0x9004C + 0x1000 * i, 8, 8, 255⟩
/-- spec/12: AXIS.CROSS.KP_X [31:16], L RW. -/
def AXIS_CROSS_KP_X (i : Nat) : Fld := ⟨0x9004C + 0x1000 * i, 16, 16, 4096⟩
/-- spec/12: AXIS.MODE_V.V_DN [15:0], L RW. -/
def AXIS_MODE_V_V_DN (i : Nat) : Fld := ⟨0x90050 + 0x1000 * i, 0, 16, 200⟩
/-- spec/12: AXIS.MODE_V.V_UP [31:16], L RW. -/
def AXIS_MODE_V_V_UP (i : Nat) : Fld := ⟨0x90050 + 0x1000 * i, 16, 16, 400⟩
/-- spec/12: AXIS.STOP_DECEL [31:0], B:move RW. -/
def AXIS_STOP_DECEL (i : Nat) : Fld := ⟨0x90054 + 0x1000 * i, 0, 32, 655360⟩
/-- spec/12: AXIS.HOME_VEL [31:0], B:move RW. -/
def AXIS_HOME_VEL (i : Nat) : Fld := ⟨0x90058 + 0x1000 * i, 0, 32, 6553600⟩
/-- spec/12: AXIS.HOME_ACC [31:0], B:move RW. -/
def AXIS_HOME_ACC (i : Nat) : Fld := ⟨0x9005C + 0x1000 * i, 0, 32, 327680⟩
/-- spec/12: AXIS.HOME_MAX [15:0], B:move RW. -/
def AXIS_HOME_MAX (i : Nat) : Fld := ⟨0x90060 + 0x1000 * i, 0, 16, 30000⟩
/-- spec/12: AXIS.LIM.LIM_FILT [15:0], S RW. -/
def AXIS_LIM_LIM_FILT (i : Nat) : Fld := ⟨0x90064 + 0x1000 * i, 0, 16, 1000⟩
/-- spec/12: AXIS.LIM.LIM_P_EN [16:16], S RW. -/
def AXIS_LIM_LIM_P_EN (i : Nat) : Fld := ⟨0x90064 + 0x1000 * i, 16, 1, 0⟩
/-- spec/12: AXIS.LIM.LIM_N_EN [17:17], S RW. -/
def AXIS_LIM_LIM_N_EN (i : Nat) : Fld := ⟨0x90064 + 0x1000 * i, 17, 1, 0⟩
/-- spec/12: AXIS.LIM.HOME_EN [18:18], S RW. -/
def AXIS_LIM_HOME_EN (i : Nat) : Fld := ⟨0x90064 + 0x1000 * i, 18, 1, 0⟩
/-- spec/12: AXIS.LIM.LIM_P_POL [20:20], S RW. -/
def AXIS_LIM_LIM_P_POL (i : Nat) : Fld := ⟨0x90064 + 0x1000 * i, 20, 1, 0⟩
/-- spec/12: AXIS.LIM.LIM_N_POL [21:21], S RW. -/
def AXIS_LIM_LIM_N_POL (i : Nat) : Fld := ⟨0x90064 + 0x1000 * i, 21, 1, 0⟩
/-- spec/12: AXIS.LIM.HOME_POL [22:22], S RW. -/
def AXIS_LIM_HOME_POL (i : Nat) : Fld := ⟨0x90064 + 0x1000 * i, 22, 1, 0⟩
/-- spec/12: AXIS.HOME_POS_LO [31:0], B:move RW. -/
def AXIS_HOME_POS_LO (i : Nat) : Fld := ⟨0x90068 + 0x1000 * i, 0, 32, 0⟩
/-- spec/12: AXIS.HOME_POS_HI [31:0], B:move RW. -/
def AXIS_HOME_POS_HI (i : Nat) : Fld := ⟨0x9006C + 0x1000 * i, 0, 32, 0⟩
/-- spec/12: AXIS.POS_SET_LO [31:0], L RW. -/
def AXIS_POS_SET_LO (i : Nat) : Fld := ⟨0x90070 + 0x1000 * i, 0, 32, 0⟩
/-- spec/12: AXIS.POS_SET_HI [31:0], L RW. -/
def AXIS_POS_SET_HI (i : Nat) : Fld := ⟨0x90074 + 0x1000 * i, 0, 32, 0⟩
/-- spec/12: AXIS.STAT.STATE [2:0], no class, RO. -/
def AXIS_STAT_STATE (i : Nat) : Fld := ⟨0x90100 + 0x1000 * i, 0, 3, 0⟩
/-- spec/12: AXIS.STAT.DRIVE_NOW [4:3], no class, RO. -/
def AXIS_STAT_DRIVE_NOW (i : Nat) : Fld := ⟨0x90100 + 0x1000 * i, 3, 2, 0⟩
/-- spec/12: AXIS.STAT.POS_VALID [5:5], no class, RO. -/
def AXIS_STAT_POS_VALID (i : Nat) : Fld := ⟨0x90100 + 0x1000 * i, 5, 1, 0⟩
/-- spec/12: AXIS.STAT.CHAIN_PEND [6:6], no class, RO. -/
def AXIS_STAT_CHAIN_PEND (i : Nat) : Fld := ⟨0x90100 + 0x1000 * i, 6, 1, 0⟩
/-- spec/12: AXIS.STAT.RESUME_PEND [7:7], no class, RO. -/
def AXIS_STAT_RESUME_PEND (i : Nat) : Fld := ⟨0x90100 + 0x1000 * i, 7, 1, 0⟩
/-- spec/12: AXIS.STAT.LIM [10:8], no class, RO. -/
def AXIS_STAT_LIM (i : Nat) : Fld := ⟨0x90100 + 0x1000 * i, 8, 3, 0⟩
/-- spec/12: AXIS.STAT.BRAKE [11:11], no class, RO. -/
def AXIS_STAT_BRAKE (i : Nat) : Fld := ⟨0x90100 + 0x1000 * i, 11, 1, 1⟩
/-- spec/12: AXIS.STAT.FAULT_CAUSE [15:12], no class, RO. -/
def AXIS_STAT_FAULT_CAUSE (i : Nat) : Fld := ⟨0x90100 + 0x1000 * i, 12, 4, 0⟩
/-- spec/12: AXIS.STAT.ROW [25:16], no class, RO. -/
def AXIS_STAT_ROW (i : Nat) : Fld := ⟨0x90100 + 0x1000 * i, 16, 10, 0⟩
/-- spec/12: AXIS.POS_LO [31:0], no class, RO. -/
def AXIS_POS_LO (i : Nat) : Fld := ⟨0x90104 + 0x1000 * i, 0, 32, 0⟩
/-- spec/12: AXIS.POS_HI [31:0], no class, RO. -/
def AXIS_POS_HI (i : Nat) : Fld := ⟨0x90108 + 0x1000 * i, 0, 32, 0⟩
/-- spec/12: AXIS.VEL [31:0], no class, RO. -/
def AXIS_VEL (i : Nat) : Fld := ⟨0x9010C + 0x1000 * i, 0, 32, 0⟩
/-- spec/12: AXIS.REMAIN_LO [31:0], no class, RO. -/
def AXIS_REMAIN_LO (i : Nat) : Fld := ⟨0x90110 + 0x1000 * i, 0, 32, 0⟩
/-- spec/12: AXIS.REMAIN_HI [31:0], no class, RO. -/
def AXIS_REMAIN_HI (i : Nat) : Fld := ⟨0x90114 + 0x1000 * i, 0, 32, 0⟩
/-- spec/12: AXIS.HOME_LATCH_LO [31:0], no class, RO. -/
def AXIS_HOME_LATCH_LO (i : Nat) : Fld := ⟨0x90118 + 0x1000 * i, 0, 32, 0⟩
/-- spec/12: AXIS.HOME_LATCH_HI [31:0], no class, RO. -/
def AXIS_HOME_LATCH_HI (i : Nat) : Fld := ⟨0x9011C + 0x1000 * i, 0, 32, 0⟩
/-- spec/12: AXIS.IAB.IA [15:0], no class, RO. -/
def AXIS_IAB_IA (i : Nat) : Fld := ⟨0x90120 + 0x1000 * i, 0, 16, 0⟩
/-- spec/12: AXIS.IAB.IB [31:16], no class, RO. -/
def AXIS_IAB_IB (i : Nat) : Fld := ⟨0x90120 + 0x1000 * i, 16, 16, 0⟩
/-- spec/12: AXIS.CHOP.H_NOW [15:0], no class, RO. -/
def AXIS_CHOP_H_NOW (i : Nat) : Fld := ⟨0x90124 + 0x1000 * i, 0, 16, 0⟩
/-- spec/12: AXIS.CHOP.F_NOW [23:16], no class, RO. -/
def AXIS_CHOP_F_NOW (i : Nat) : Fld := ⟨0x90124 + 0x1000 * i, 16, 8, 0⟩
/-- spec/12: AXIS.CNT.CHAT [15:0], no class, RO. -/
def AXIS_CNT_CHAT (i : Nat) : Fld := ⟨0x90128 + 0x1000 * i, 0, 16, 0⟩
/-- spec/12: AXIS.CNT.ROW_LOCK [31:16], no class, RO. -/
def AXIS_CNT_ROW_LOCK (i : Nat) : Fld := ⟨0x90128 + 0x1000 * i, 16, 16, 0⟩
/-- spec/12: AXIS.CNT2.STOPS [15:0], no class, RO. -/
def AXIS_CNT2_STOPS (i : Nat) : Fld := ⟨0x9012C + 0x1000 * i, 0, 16, 0⟩
/-- spec/12: AXIS.CNT2.FAULTS [31:16], no class, RO. -/
def AXIS_CNT2_FAULTS (i : Nat) : Fld := ⟨0x9012C + 0x1000 * i, 16, 16, 0⟩
/-- spec/13: LOOP.CTL.EN [0:0], L RW. -/
def LOOP_CTL_EN (i : Nat) : Fld := ⟨0xA0000 + 0x200 * i, 0, 1, 0⟩
/-- spec/13: LOOP.CTL.COMMIT [1:1], L WO. -/
def LOOP_CTL_COMMIT (i : Nat) : Fld := ⟨0xA0000 + 0x200 * i, 1, 1, 0⟩
/-- spec/13: LOOP.CTL.SAFE_ACT [5:4], S RW. -/
def LOOP_CTL_SAFE_ACT (i : Nat) : Fld := ⟨0xA0000 + 0x200 * i, 4, 2, 0⟩
/-- spec/13: LOOP.BIND.IN_SEL [1:0], S RW. -/
def LOOP_BIND_IN_SEL (i : Nat) : Fld := ⟨0xA0004 + 0x200 * i, 0, 2, (if i < 64 then 0 else 3)⟩
/-- spec/13: LOOP.BIND.IN_IDX [13:8], S RW. -/
def LOOP_BIND_IN_IDX (i : Nat) : Fld := ⟨0xA0004 + 0x200 * i, 8, 6, (if i < 64 then i else 0)⟩
/-- spec/13: LOOP.BIND.OUT_SEL [17:16], S RW. -/
def LOOP_BIND_OUT_SEL (i : Nat) : Fld := ⟨0xA0004 + 0x200 * i, 16, 2, (if i < 64 then 1 else 0)⟩
/-- spec/13: LOOP.BIND.ZMASK [23:20], S RW. -/
def LOOP_BIND_ZMASK (i : Nat) : Fld := ⟨0xA0004 + 0x200 * i, 20, 4, (if i < 64 then 15 else 0)⟩
/-- spec/13: LOOP.BIND.OUT_IDX [29:24], S RW. -/
def LOOP_BIND_OUT_IDX (i : Nat) : Fld := ⟨0xA0004 + 0x200 * i, 24, 6, (if i < 64 then i else 0)⟩
/-- spec/13: LOOP.RATE.DIV [9:0], S RW. -/
def LOOP_RATE_DIV (i : Nat) : Fld := ⟨0xA0008 + 0x200 * i, 0, 10, (if i < 64 then 10 else 1)⟩
/-- spec/13: LOOP.RATE.PHASE [25:16], S RW. -/
def LOOP_RATE_PHASE (i : Nat) : Fld := ⟨0xA0008 + 0x200 * i, 16, 10, (if i < 64 then i % 10 else 0)⟩
/-- spec/13: LOOP.SP_PV.SP [15:0], L RW. -/
def LOOP_SP_PV_SP (i : Nat) : Fld := ⟨0xA000C + 0x200 * i, 0, 16, 0⟩
/-- spec/13: LOOP.SP_PV.PV_SW [31:16], L RW. -/
def LOOP_SP_PV_PV_SW (i : Nat) : Fld := ⟨0xA000C + 0x200 * i, 16, 16, 0⟩
/-- spec/13: LOOP.RAMP.RATE [31:0], L RW. -/
def LOOP_RAMP_RATE (i : Nat) : Fld := ⟨0xA0010 + 0x200 * i, 0, 32, 0⟩
/-- spec/13: LOOP.KI [31:0], B:sample RW. -/
def LOOP_KI (i : Nat) : Fld := ⟨0xA0014 + 0x200 * i, 0, 32, 0⟩
/-- spec/13: LOOP.LIM.OUT_MIN [15:0], B:sample RW. -/
def LOOP_LIM_OUT_MIN (i : Nat) : Fld := ⟨0xA0018 + 0x200 * i, 0, 16, 0⟩
/-- spec/13: LOOP.LIM.OUT_MAX [31:16], B:sample RW. -/
def LOOP_LIM_OUT_MAX (i : Nat) : Fld := ⟨0xA0018 + 0x200 * i, 16, 16, 32767⟩
/-- spec/13: LOOP.GCFG.GSHIFT [3:0], B:sample RW. -/
def LOOP_GCFG_GSHIFT (i : Nat) : Fld := ⟨0xA001C + 0x200 * i, 0, 4, 6⟩
/-- spec/13: LOOP.GCFG.ASYM [4:4], B:sample RW. -/
def LOOP_GCFG_ASYM (i : Nat) : Fld := ⟨0xA001C + 0x200 * i, 4, 1, 0⟩
/-- spec/13: LOOP.GCFG.WARN_MAX [31:16], L RW. -/
def LOOP_GCFG_WARN_MAX (i : Nat) : Fld := ⟨0xA001C + 0x200 * i, 16, 16, 8192⟩
/-- spec/13: LOOP.FE.FE_LIMIT [15:0], L RW. -/
def LOOP_FE_FE_LIMIT (i : Nat) : Fld := ⟨0xA0020 + 0x200 * i, 0, 16, 0⟩
/-- spec/13: LOOP.FE.FE_TIME [31:16], L RW. -/
def LOOP_FE_FE_TIME (i : Nat) : Fld := ⟨0xA0020 + 0x200 * i, 16, 16, 1000⟩
/-- spec/13: LOOP.STALE.STALE_US [13:0], L RW. -/
def LOOP_STALE_STALE_US (i : Nat) : Fld := ⟨0xA0024 + 0x200 * i, 0, 14, 50⟩
/-- spec/13: LOOP.STALE.STALE_N [23:16], L RW. -/
def LOOP_STALE_STALE_N (i : Nat) : Fld := ⟨0xA0024 + 0x200 * i, 16, 8, 10⟩
/-- spec/13: LOOP.INIT.I_INIT [15:0], S RW. -/
def LOOP_INIT_I_INIT (i : Nat) : Fld := ⟨0xA0028 + 0x200 * i, 0, 16, 0⟩
/-- spec/13: LOOP.INIT.SAFE_OUT [31:16], S RW. -/
def LOOP_INIT_SAFE_OUT (i : Nat) : Fld := ⟨0xA0028 + 0x200 * i, 16, 16, 0⟩
/-- spec/13: LOOP.STAT.STATE [2:0], no class, RO. -/
def LOOP_STAT_STATE (i : Nat) : Fld := ⟨0xA0040 + 0x200 * i, 0, 3, 0⟩
/-- spec/13: LOOP.STAT.FAULT_CAUSE [5:4], no class, RO. -/
def LOOP_STAT_FAULT_CAUSE (i : Nat) : Fld := ⟨0xA0040 + 0x200 * i, 4, 2, 0⟩
/-- spec/13: LOOP.STAT.SAT [8:8], no class, RO. -/
def LOOP_STAT_SAT (i : Nat) : Fld := ⟨0xA0040 + 0x200 * i, 8, 1, 0⟩
/-- spec/13: LOOP.STAT.SAT_AT_SWAP [9:9], no class, W1C. -/
def LOOP_STAT_SAT_AT_SWAP (i : Nat) : Fld := ⟨0xA0040 + 0x200 * i, 9, 1, 0⟩
/-- spec/13: LOOP.STAT.WARN_CLAMP [10:10], no class, RO. -/
def LOOP_STAT_WARN_CLAMP (i : Nat) : Fld := ⟨0xA0040 + 0x200 * i, 10, 1, 0⟩
/-- spec/13: LOOP.STAT.COMMIT_PEND [11:11], no class, RO. -/
def LOOP_STAT_COMMIT_PEND (i : Nat) : Fld := ⟨0xA0040 + 0x200 * i, 11, 1, 0⟩
/-- spec/13: LOOP.VAL.PV [15:0], no class, RO. -/
def LOOP_VAL_PV (i : Nat) : Fld := ⟨0xA0044 + 0x200 * i, 0, 16, 0⟩
/-- spec/13: LOOP.VAL.SPR [31:16], no class, RO. -/
def LOOP_VAL_SPR (i : Nat) : Fld := ⟨0xA0044 + 0x200 * i, 16, 16, 0⟩
/-- spec/13: LOOP.OUTS.OUT [15:0], no class, RO. -/
def LOOP_OUTS_OUT (i : Nat) : Fld := ⟨0xA0048 + 0x200 * i, 0, 16, 0⟩
/-- spec/13: LOOP.OUTS.I_HI [31:16], no class, RO. -/
def LOOP_OUTS_I_HI (i : Nat) : Fld := ⟨0xA0048 + 0x200 * i, 16, 16, 0⟩
/-- spec/13: LOOP.DIAG.ERR [15:0], no class, RO. -/
def LOOP_DIAG_ERR (i : Nat) : Fld := ⟨0xA004C + 0x200 * i, 0, 16, 0⟩
/-- spec/13: LOOP.DIAG.KP_NOW [31:16], no class, RO. -/
def LOOP_DIAG_KP_NOW (i : Nat) : Fld := ⟨0xA004C + 0x200 * i, 16, 16, 0⟩
/-- spec/13: LOOP.CNT.FE_TMR [15:0], no class, RO. -/
def LOOP_CNT_FE_TMR (i : Nat) : Fld := ⟨0xA0050 + 0x200 * i, 0, 16, 0⟩
/-- spec/13: LOOP.CNT.STALE [31:16], no class, RO. -/
def LOOP_CNT_STALE (i : Nat) : Fld := ⟨0xA0050 + 0x200 * i, 16, 16, 0⟩
/-- spec/13: LOOP.SAMPLES [31:0], no class, RO. -/
def LOOP_SAMPLES (i : Nat) : Fld := ⟨0xA0054 + 0x200 * i, 0, 32, 0⟩
/-- spec/13: LOOP.GT_POS [15:0], B:sample RW. -/
def LOOP_GT_POS (i j : Nat) : Fld := ⟨0xA0080 + 0x200 * i + 4 * (j / 2), 16 * (j % 2), 16, 0⟩
/-- spec/13: LOOP.GT_NEG [15:0], B:sample RW. -/
def LOOP_GT_NEG (i j : Nat) : Fld := ⟨0xA0100 + 0x200 * i + 4 * (j / 2), 16 * (j % 2), 16, 0⟩
/-- spec/14: INSP.CTL.EN [0:0], L RW. -/
def INSP_CTL_EN (i : Nat) : Fld := ⟨0x100000 + 0x10000 * i, 0, 1, 0⟩
/-- spec/14: INSP.CTL.ARMED [1:1], no class, RO. -/
def INSP_CTL_ARMED (i : Nat) : Fld := ⟨0x100000 + 0x10000 * i, 1, 1, 0⟩
/-- spec/14: INSP.BIND.PORT [1:0], S RW. -/
def INSP_BIND_PORT (i : Nat) : Fld := ⟨0x100004 + 0x10000 * i, 0, 2, i⟩
/-- spec/14: INSP.BIND.VC [7:4], S RW. -/
def INSP_BIND_VC (i : Nat) : Fld := ⟨0x100004 + 0x10000 * i, 4, 4, 0⟩
/-- spec/14: INSP.BIND.DT [10:8], S RW. -/
def INSP_BIND_DT (i : Nat) : Fld := ⟨0x100004 + 0x10000 * i, 8, 3, 1⟩
/-- spec/14: INSP.BIND.EMB_EN [12:12], S RW. -/
def INSP_BIND_EMB_EN (i : Nat) : Fld := ⟨0x100004 + 0x10000 * i, 12, 1, 0⟩
/-- spec/14: INSP.BIND.CFA [18:16], S RW. -/
def INSP_BIND_CFA (i : Nat) : Fld := ⟨0x100004 + 0x10000 * i, 16, 3, 0⟩
/-- spec/14: INSP.BIND.LINESCAN [20:20], S RW. -/
def INSP_BIND_LINESCAN (i : Nat) : Fld := ⟨0x100004 + 0x10000 * i, 20, 1, 0⟩
/-- spec/14: INSP.GEOM.WIDTH [14:0], S RW. -/
def INSP_GEOM_WIDTH (i : Nat) : Fld := ⟨0x100008 + 0x10000 * i, 0, 15, 8192⟩
/-- spec/14: INSP.GEOM.MAX_LINES [29:16], S RW. -/
def INSP_GEOM_MAX_LINES (i : Nat) : Fld := ⟨0x100008 + 0x10000 * i, 16, 14, 1024⟩
/-- spec/14: INSP.GEOM2.HEIGHT [13:0], B:frame RW. -/
def INSP_GEOM2_HEIGHT (i : Nat) : Fld := ⟨0x10000C + 0x10000 * i, 0, 14, 1024⟩
/-- spec/14: INSP.CFG.ENC [1:0], S RW. -/
def INSP_CFG_ENC (i : Nat) : Fld := ⟨0x100010 + 0x10000 * i, 0, 2, 0⟩
/-- spec/14: INSP.CFG.LINE_POS [4:4], S RW. -/
def INSP_CFG_LINE_POS (i : Nat) : Fld := ⟨0x100010 + 0x10000 * i, 4, 1, 0⟩
/-- spec/14: INSP.CFG.CAM_LAT [31:12], B:frame RW. -/
def INSP_CFG_CAM_LAT (i : Nat) : Fld := ⟨0x100010 + 0x10000 * i, 12, 20, 0⟩
/-- spec/14: INSP.CMT.PIPE_LAT [2:0], S RW. -/
def INSP_CMT_PIPE_LAT (i : Nat) : Fld := ⟨0x100014 + 0x10000 * i, 0, 3, 2⟩
/-- spec/14: INSP.BLACK.BL0 [15:0], B:frame RW. -/
def INSP_BLACK_BL0 (i : Nat) : Fld := ⟨0x100020 + 0x10000 * i, 0, 16, 0⟩
/-- spec/14: INSP.BLACK.BL1 [31:16], B:frame RW. -/
def INSP_BLACK_BL1 (i : Nat) : Fld := ⟨0x100020 + 0x10000 * i, 16, 16, 0⟩
/-- spec/14: INSP.BLACK.BL2 [15:0], B:frame RW. -/
def INSP_BLACK_BL2 (i : Nat) : Fld := ⟨0x100024 + 0x10000 * i, 0, 16, 0⟩
/-- spec/14: INSP.BLACK.BL3 [31:16], B:frame RW. -/
def INSP_BLACK_BL3 (i : Nat) : Fld := ⟨0x100024 + 0x10000 * i, 16, 16, 0⟩
/-- spec/14: INSP.WB.WB_R [15:0], B:frame RW. -/
def INSP_WB_WB_R (i : Nat) : Fld := ⟨0x100028 + 0x10000 * i, 0, 16, 4096⟩
/-- spec/14: INSP.WB.WB_G [31:16], B:frame RW. -/
def INSP_WB_WB_G (i : Nat) : Fld := ⟨0x100028 + 0x10000 * i, 16, 16, 4096⟩
/-- spec/14: INSP.WB.WB_B [15:0], B:frame RW. -/
def INSP_WB_WB_B (i : Nat) : Fld := ⟨0x10002C + 0x10000 * i, 0, 16, 4096⟩
/-- spec/14: INSP.DPC.DYN_EN [0:0], B:frame RW. -/
def INSP_DPC_DYN_EN (i : Nat) : Fld := ⟨0x100030 + 0x10000 * i, 0, 1, 1⟩
/-- spec/14: INSP.DPC.THR [31:16], B:frame RW. -/
def INSP_DPC_THR (i : Nat) : Fld := ⟨0x100030 + 0x10000 * i, 16, 16, 4096⟩
/-- spec/14: INSP.ANA.W_R [15:0], B:frame RW. -/
def INSP_ANA_W_R (i : Nat) : Fld := ⟨0x100034 + 0x10000 * i, 0, 16, 10923⟩
/-- spec/14: INSP.ANA.W_G [31:16], B:frame RW. -/
def INSP_ANA_W_G (i : Nat) : Fld := ⟨0x100034 + 0x10000 * i, 16, 16, 10923⟩
/-- spec/14: INSP.ANA.W_B [15:0], B:frame RW. -/
def INSP_ANA_W_B (i : Nat) : Fld := ⟨0x100038 + 0x10000 * i, 0, 16, 10923⟩
/-- spec/14: INSP.TAP.POINT [1:0], L RW. -/
def INSP_TAP_POINT (i : Nat) : Fld := ⟨0x100040 + 0x10000 * i, 0, 2, 0⟩
/-- spec/14: INSP.TAP.EVERY [15:8], L RW. -/
def INSP_TAP_EVERY (i : Nat) : Fld := ⟨0x100040 + 0x10000 * i, 8, 8, 1⟩
/-- spec/14: INSP.FRAME_NOW [31:0], no class, RO. -/
def INSP_FRAME_NOW (i : Nat) : Fld := ⟨0x100050 + 0x10000 * i, 0, 32, 0⟩
/-- spec/14: INSP.SET_STAT.ID [15:0], no class, RO. -/
def INSP_SET_STAT_ID (i : Nat) : Fld := ⟨0x100054 + 0x10000 * i, 0, 16, 0⟩
/-- spec/14: INSP.SET_STAT.PEND [16:16], no class, RO. -/
def INSP_SET_STAT_PEND (i : Nat) : Fld := ⟨0x100054 + 0x10000 * i, 16, 1, 0⟩
/-- spec/14: INSP.SET_STAT.APPLY_FRAME [31:0], no class, RO. -/
def INSP_SET_STAT_APPLY_FRAME (i : Nat) : Fld := ⟨0x100058 + 0x10000 * i, 0, 32, 0⟩
/-- spec/14: INSP.FLAGS_LAST [15:0], no class, RO. -/
def INSP_FLAGS_LAST (i : Nat) : Fld := ⟨0x10005C + 0x10000 * i, 0, 16, 0⟩
/-- spec/14: INSP.STAT_SLOTS [23:16], no class, RO. -/
def INSP_STAT_SLOTS (i : Nat) : Fld := ⟨0x10005C + 0x10000 * i, 16, 8, 0⟩
/-- spec/14: INSP.STAT_FREE [31:24], no class, RO. -/
def INSP_STAT_FREE (i : Nat) : Fld := ⟨0x10005C + 0x10000 * i, 24, 8, 0⟩
/-- spec/14: INSP.CNT_DROP.DT [15:0], no class, RO. -/
def INSP_CNT_DROP_DT (i : Nat) : Fld := ⟨0x100060 + 0x10000 * i, 0, 16, 0⟩
/-- spec/14: INSP.CNT_DROP.DISARMED [31:16], no class, RO. -/
def INSP_CNT_DROP_DISARMED (i : Nat) : Fld := ⟨0x100060 + 0x10000 * i, 16, 16, 0⟩
/-- spec/14: INSP.CNT_DROP.ORPHAN [15:0], no class, RO. -/
def INSP_CNT_DROP_ORPHAN (i : Nat) : Fld := ⟨0x100064 + 0x10000 * i, 0, 16, 0⟩
/-- spec/14: INSP.CNT_FLAG.FLAG [31:16], no class, RO. -/
def INSP_CNT_FLAG_FLAG (i : Nat) : Fld := ⟨0x100064 + 0x10000 * i, 16, 16, 0⟩
/-- spec/14: INSP.CNT_BUF.NOBUF_TAP [15:0], no class, RO. -/
def INSP_CNT_BUF_NOBUF_TAP (i : Nat) : Fld := ⟨0x100068 + 0x10000 * i, 0, 16, 0⟩
/-- spec/14: INSP.CNT_BUF.NOBUF_STAT [31:16], no class, RO. -/
def INSP_CNT_BUF_NOBUF_STAT (i : Nat) : Fld := ⟨0x100068 + 0x10000 * i, 16, 16, 0⟩
/-- spec/14: INSP.CNT_BUF.NOBUF_RES [15:0], no class, RO. -/
def INSP_CNT_BUF_NOBUF_RES (i : Nat) : Fld := ⟨0x10006C + 0x10000 * i, 0, 16, 0⟩
/-- spec/14: INSP.CNT_ECC.ECC [31:16], no class, RO. -/
def INSP_CNT_ECC_ECC (i : Nat) : Fld := ⟨0x10006C + 0x10000 * i, 16, 16, 0⟩
/-- spec/14: INSP.PORT_CTL.EN [0:0], L RW. -/
def INSP_PORT_CTL_EN (i : Nat) : Fld := ⟨0x100100 + 0x10000 * i, 0, 1, 0⟩
/-- spec/14: INSP.PORT_CTL.LANES [2:1], S RW. -/
def INSP_PORT_CTL_LANES (i : Nat) : Fld := ⟨0x100100 + 0x10000 * i, 1, 2, 2⟩
/-- spec/14: INSP.PORT_CNT0_NO_PIPE [15:0], no class, RO. -/
def INSP_PORT_CNT0_NO_PIPE (i : Nat) : Fld := ⟨0x100104 + 0x10000 * i, 0, 16, 0⟩
/-- spec/14: INSP.PORT_CNT0_BAD_DT [31:16], no class, RO. -/
def INSP_PORT_CNT0_BAD_DT (i : Nat) : Fld := ⟨0x100104 + 0x10000 * i, 16, 16, 0⟩
/-- spec/14: INSP.PORT_CNT1_ECC_CORR [15:0], no class, RO. -/
def INSP_PORT_CNT1_ECC_CORR (i : Nat) : Fld := ⟨0x100108 + 0x10000 * i, 0, 16, 0⟩
/-- spec/14: INSP.PORT_CNT1_ECC_UNCORR [31:16], no class, RO. -/
def INSP_PORT_CNT1_ECC_UNCORR (i : Nat) : Fld := ⟨0x100108 + 0x10000 * i, 16, 16, 0⟩
/-- spec/14: INSP.PORT_CNT2_SOT [15:0], no class, RO. -/
def INSP_PORT_CNT2_SOT (i : Nat) : Fld := ⟨0x10010C + 0x10000 * i, 0, 16, 0⟩
/-- spec/14: INSP.PORT_CNT2.CRC [31:16], no class, RO. -/
def INSP_PORT_CNT2_CRC (i : Nat) : Fld := ⟨0x10010C + 0x10000 * i, 16, 16, 0⟩
/-- spec/14: INSP.CCI_CTL.SPEED [1:0], S RW. -/
def INSP_CCI_CTL_SPEED (i : Nat) : Fld := ⟨0x100180 + 0x10000 * i, 0, 2, 1⟩
/-- spec/14: INSP.CCI_CTL.STRETCH_MAX [15:8], L RW. -/
def INSP_CCI_CTL_STRETCH_MAX (i : Nat) : Fld := ⟨0x100180 + 0x10000 * i, 8, 8, 100⟩
/-- spec/14: INSP.CCI_MB0.DEV [6:0], L RW. -/
def INSP_CCI_MB0_DEV (i : Nat) : Fld := ⟨0x100184 + 0x10000 * i, 0, 7, 0⟩
/-- spec/14: INSP.CCI_MB0.ALEN [9:8], L RW. -/
def INSP_CCI_MB0_ALEN (i : Nat) : Fld := ⟨0x100184 + 0x10000 * i, 8, 2, 2⟩
/-- spec/14: INSP.CCI_MB0.DLEN [12:10], L RW. -/
def INSP_CCI_MB0_DLEN (i : Nat) : Fld := ⟨0x100184 + 0x10000 * i, 10, 3, 1⟩
/-- spec/14: INSP.CCI_MB0.READ [13:13], L RW. -/
def INSP_CCI_MB0_READ (i : Nat) : Fld := ⟨0x100184 + 0x10000 * i, 13, 1, 0⟩
/-- spec/14: INSP.CCI_MB0.GO [31:31], L WO. -/
def INSP_CCI_MB0_GO (i : Nat) : Fld := ⟨0x100184 + 0x10000 * i, 31, 1, 0⟩
/-- spec/14: INSP.CCI_MB1.REG [15:0], L RW. -/
def INSP_CCI_MB1_REG (i : Nat) : Fld := ⟨0x100188 + 0x10000 * i, 0, 16, 0⟩
/-- spec/14: INSP.CCI_MB2.DATA [31:0], L RW. -/
def INSP_CCI_MB2_DATA (i : Nat) : Fld := ⟨0x10018C + 0x10000 * i, 0, 32, 0⟩
/-- spec/14: INSP.CCI_STAT.BUSY [0:0], no class, RO. -/
def INSP_CCI_STAT_BUSY (i : Nat) : Fld := ⟨0x100190 + 0x10000 * i, 0, 1, 0⟩
/-- spec/14: INSP.CCI_STAT.DONE [1:1], no class, W1C. -/
def INSP_CCI_STAT_DONE (i : Nat) : Fld := ⟨0x100190 + 0x10000 * i, 1, 1, 0⟩
/-- spec/14: INSP.CCI_STAT.NACK [2:2], no class, RO. -/
def INSP_CCI_STAT_NACK (i : Nat) : Fld := ⟨0x100190 + 0x10000 * i, 2, 1, 0⟩
/-- spec/14: INSP.CCI_STAT.TIMEOUT [3:3], no class, RO. -/
def INSP_CCI_STAT_TIMEOUT (i : Nat) : Fld := ⟨0x100190 + 0x10000 * i, 3, 1, 0⟩
/-- spec/14: INSP.CCI_STAT.WAIT [4:4], no class, RO. -/
def INSP_CCI_STAT_WAIT (i : Nat) : Fld := ⟨0x100190 + 0x10000 * i, 4, 1, 0⟩
/-- spec/15: CELL.NH_CTL.MODE [1:0], L RW. -/
def CELL_NH_CTL_MODE (i : Nat) : Fld := ⟨0x100C000 + 0x10000 * i, 0, 2, 0⟩
/-- spec/15: CELL.NH_CTL.OVERLAY [2:2], S RW. -/
def CELL_NH_CTL_OVERLAY (i : Nat) : Fld := ⟨0x100C000 + 0x10000 * i, 2, 1, 1⟩
/-- spec/15: CELL.NH_CTL.APPLY [3:3], L WO. -/
def CELL_NH_CTL_APPLY (i : Nat) : Fld := ⟨0x100C000 + 0x10000 * i, 3, 1, 0⟩
/-- spec/15: CELL.NH_CTL.CLEAR [4:4], L WO. -/
def CELL_NH_CTL_CLEAR (i : Nat) : Fld := ⟨0x100C000 + 0x10000 * i, 4, 1, 0⟩
/-- spec/15: CELL.NH_CTL.VETO_HOLD [15:8], L RW. -/
def CELL_NH_CTL_VETO_HOLD (i : Nat) : Fld := ⟨0x100C000 + 0x10000 * i, 8, 8, 0⟩
/-- spec/15: CELL.NH_POL.RULE_LO [2:0], L RW. -/
def CELL_NH_POL_RULE_LO (i : Nat) : Fld := ⟨0x100C004 + 0x10000 * i, 0, 3, 1⟩
/-- spec/15: CELL.NH_POL.RULE_HI [6:4], L RW. -/
def CELL_NH_POL_RULE_HI (i : Nat) : Fld := ⟨0x100C004 + 0x10000 * i, 4, 3, 2⟩
/-- spec/15: CELL.NH_POL.RULE_ONE [10:8], L RW. -/
def CELL_NH_POL_RULE_ONE (i : Nat) : Fld := ⟨0x100C004 + 0x10000 * i, 8, 3, 0⟩
/-- spec/15: CELL.NH_LADDER.BLANK [5:0], B:page RW. -/
def CELL_NH_LADDER_BLANK (i : Nat) : Fld := ⟨0x100C008 + 0x10000 * i, 0, 6, 16⟩
/-- spec/15: CELL.NH_SLOT.EN [0:0], S RW. -/
def CELL_NH_SLOT_EN (i j : Nat) : Fld := ⟨0x100C010 + 0x10000 * i + 16 * j, 0, 1, 0⟩
/-- spec/15: CELL.NH_SLOT.PIPE [2:1], S RW. -/
def CELL_NH_SLOT_PIPE (i j : Nat) : Fld := ⟨0x100C010 + 0x10000 * i + 16 * j, 1, 2, 0⟩
/-- spec/15: CELL.NH_SLOT.TRACK [3:3], L RW. -/
def CELL_NH_SLOT_TRACK (i j : Nat) : Fld := ⟨0x100C010 + 0x10000 * i + 16 * j, 3, 1, 1⟩
/-- spec/15: CELL.NH_SLOT.NZ_FIRST [26:16], S RW. -/
def CELL_NH_SLOT_NZ_FIRST (i j : Nat) : Fld := ⟨0x100C010 + 0x10000 * i + 16 * j, 16, 11, 0⟩
/-- spec/15: CELL.NH_SLOT.NZ_LAST [10:0], S RW. -/
def CELL_NH_SLOT_NZ_LAST (i j : Nat) : Fld := ⟨0x100C014 + 0x10000 * i + 16 * j, 0, 11, 2047⟩
/-- spec/15: CELL.NH_SLOT.X0 [31:0], L RW. -/
def CELL_NH_SLOT_X0 (i j : Nat) : Fld := ⟨0x100C018 + 0x10000 * i + 16 * j, 0, 32, 0⟩
/-- spec/15: CELL.NH_SLOT.DXN [31:0], S RW. -/
def CELL_NH_SLOT_DXN (i j : Nat) : Fld := ⟨0x100C01C + 0x10000 * i + 16 * j, 0, 32, 0⟩
/-- spec/15: CELL.NH_STAT.LAST_SEQ [15:0], no class, RO. -/
def CELL_NH_STAT_LAST_SEQ (i : Nat) : Fld := ⟨0x100C040 + 0x10000 * i, 0, 16, 0⟩
/-- spec/15: CELL.NH_STAT.SKIP_CAUSE [18:16], no class, RO. -/
def CELL_NH_STAT_SKIP_CAUSE (i : Nat) : Fld := ⟨0x100C040 + 0x10000 * i, 16, 3, 0⟩
/-- spec/15: CELL.NH_STAT.REG_IDLE [31:24], no class, RO. -/
def CELL_NH_STAT_REG_IDLE (i : Nat) : Fld := ⟨0x100C040 + 0x10000 * i, 24, 8, 0⟩
/-- spec/15: CELL.NH_STAT.LAST_LINE [31:0], no class, RO. -/
def CELL_NH_STAT_LAST_LINE (i : Nat) : Fld := ⟨0x100C044 + 0x10000 * i, 0, 32, 0⟩
/-- spec/15: CELL.NH_CNT.OUT [11:0], no class, RO. -/
def CELL_NH_CNT_OUT (i : Nat) : Fld := ⟨0x100C048 + 0x10000 * i, 0, 12, 0⟩
/-- spec/15: CELL.NH_CNT.UNCOVERED [27:16], no class, RO. -/
def CELL_NH_CNT_UNCOVERED (i : Nat) : Fld := ⟨0x100C048 + 0x10000 * i, 16, 12, 0⟩
/-- spec/15: CELL.NH_VETO.VETO [15:0], L WO. -/
def CELL_NH_VETO_VETO (i : Nat) : Fld := ⟨0x100C04C + 0x10000 * i, 0, 16, 0⟩
/-- spec/15: CELL.NH.PIN [1:0], L RW. -/
def CELL_NH_PIN (i j : Nat) : Fld := ⟨0x100C400 + 0x10000 * i + 4 * (j / 16), 2 * (j % 16), 2, 0⟩
/-- spec/15: CELL.NZ_STAT [15:0], no class, RO. -/
def CELL_NZ_STAT (i j : Nat) : Fld := ⟨0x100D000 + 0x10000 * i + 4 * (j / 2), 16 * (j % 2), 16, 0⟩
/-- spec/15: INSP.NH_CFG.EDGE [3:0], L RW. -/
def INSP_NH_CFG_EDGE (i : Nat) : Fld := ⟨0x100200 + 0x10000 * i, 0, 4, 1⟩
/-- spec/15: INSP.NH_CFG.SEARCH [15:8], L RW. -/
def INSP_NH_CFG_SEARCH (i : Nat) : Fld := ⟨0x100200 + 0x10000 * i, 8, 8, 32⟩
/-- spec/15: INSP.NH_CFG.CONTRAST_MIN [31:16], L RW. -/
def INSP_NH_CFG_CONTRAST_MIN (i : Nat) : Fld := ⟨0x100200 + 0x10000 * i, 16, 16, 128⟩
/-- spec/15: INSP.NH_THR.MISS_A [7:0], L RW. -/
def INSP_NH_THR_MISS_A (i : Nat) : Fld := ⟨0x100204 + 0x10000 * i, 0, 8, 64⟩
/-- spec/15: INSP.NH_THR.WEAK_A [15:8], L RW. -/
def INSP_NH_THR_WEAK_A (i : Nat) : Fld := ⟨0x100204 + 0x10000 * i, 8, 8, 179⟩
/-- spec/15: INSP.NH_THR.WEAK_C [23:16], L RW. -/
def INSP_NH_THR_WEAK_C (i : Nat) : Fld := ⟨0x100204 + 0x10000 * i, 16, 8, 230⟩
/-- spec/15: INSP.NH_THR.DEV_MAX [31:24], L RW. -/
def INSP_NH_THR_DEV_MAX (i : Nat) : Fld := ⟨0x100204 + 0x10000 * i, 24, 8, 24⟩
/-- spec/15: INSP.NH_SCORE.OUT_AT [3:0], L RW. -/
def INSP_NH_SCORE_OUT_AT (i : Nat) : Fld := ⟨0x100208 + 0x10000 * i, 0, 4, 8⟩
/-- spec/15: INSP.NH_SCORE.SUSPECT_AT [7:4], L RW. -/
def INSP_NH_SCORE_SUSPECT_AT (i : Nat) : Fld := ⟨0x100208 + 0x10000 * i, 4, 4, 2⟩
/-- spec/15: INSP.NH_SCORE.CLEAR_AT [11:8], L RW. -/
def INSP_NH_SCORE_CLEAR_AT (i : Nat) : Fld := ⟨0x100208 + 0x10000 * i, 8, 4, 0⟩
/-- spec/15: INSP.NH_SCORE_INC_MISS [15:12], L RW. -/
def INSP_NH_SCORE_INC_MISS (i : Nat) : Fld := ⟨0x100208 + 0x10000 * i, 12, 4, 8⟩
/-- spec/15: INSP.NH_SCORE_INC_WEAK [19:16], L RW. -/
def INSP_NH_SCORE_INC_WEAK (i : Nat) : Fld := ⟨0x100208 + 0x10000 * i, 16, 4, 2⟩
/-- spec/15: INSP.NH_SCORE_INC_DEV [23:20], L RW. -/
def INSP_NH_SCORE_INC_DEV (i : Nat) : Fld := ⟨0x100208 + 0x10000 * i, 20, 4, 2⟩
/-- spec/15: INSP.NH_SCORE_DEC [27:24], L RW. -/
def INSP_NH_SCORE_DEC (i : Nat) : Fld := ⟨0x100208 + 0x10000 * i, 24, 4, 1⟩
/-- spec/15: INSP.NH_CAMOFF.CAMOFF [31:0], L RW. -/
def INSP_NH_CAMOFF_CAMOFF (i : Nat) : Fld := ⟨0x10020C + 0x10000 * i, 0, 32, 0⟩
/-- spec/15: INSP.NH_STAT.PENDING [6:0], no class, RO. -/
def INSP_NH_STAT_PENDING (i : Nat) : Fld := ⟨0x100210 + 0x10000 * i, 0, 7, 0⟩
/-- spec/15: INSP.NH_STAT.ANALYSED [31:16], no class, RO. -/
def INSP_NH_STAT_ANALYSED (i : Nat) : Fld := ⟨0x100210 + 0x10000 * i, 16, 16, 0⟩
/-- spec/15: INSP.NH_CNT.NOVERDICT [15:0], no class, RO. -/
def INSP_NH_CNT_NOVERDICT (i : Nat) : Fld := ⟨0x100214 + 0x10000 * i, 0, 16, 0⟩
/-- spec/15: INSP.NH_CNT.OVERLOAD [31:16], no class, RO. -/
def INSP_NH_CNT_OVERLOAD (i : Nat) : Fld := ⟨0x100214 + 0x10000 * i, 16, 16, 0⟩
/-- spec/16: TIME.CTL.SRC [1:0], L RW. -/
def TIME_CTL_SRC : Fld := ⟨0x60000, 0, 2, 0⟩
/-- spec/16: TIME.CTL.SET_GO [4:4], L WO. -/
def TIME_CTL_SET_GO : Fld := ⟨0x60000, 4, 1, 0⟩
/-- spec/16: TIME.CTL.ADJ_GO [5:5], L WO. -/
def TIME_CTL_ADJ_GO : Fld := ⟨0x60000, 5, 1, 0⟩
/-- spec/16: TIME.CTL_ADJ_CANCEL [6:6], L WO. -/
def TIME_CTL_ADJ_CANCEL : Fld := ⟨0x60000, 6, 1, 0⟩
/-- spec/16: TIME.STAT_RUNNING [0:0], no class, RO. -/
def TIME_STAT_RUNNING : Fld := ⟨0x60004, 0, 1, 0⟩
/-- spec/16: TIME.STAT_SET [1:1], no class, RO. -/
def TIME_STAT_SET : Fld := ⟨0x60004, 1, 1, 0⟩
/-- spec/16: TIME.STAT_VALID [2:2], no class, RO. -/
def TIME_STAT_VALID : Fld := ⟨0x60004, 2, 1, 0⟩
/-- spec/16: TIME.STAT_LOCKED [3:3], no class, RO. -/
def TIME_STAT_LOCKED : Fld := ⟨0x60004, 3, 1, 0⟩
/-- spec/16: TIME.STAT.SERVO [5:4], no class, RO. -/
def TIME_STAT_SERVO : Fld := ⟨0x60004, 4, 2, 0⟩
/-- spec/16: TIME.STAT.SLEWING [6:6], no class, RO. -/
def TIME_STAT_SLEWING : Fld := ⟨0x60004, 6, 1, 0⟩
/-- spec/16: TIME.STAT_CLIPPED [7:7], no class, W1C. -/
def TIME_STAT_CLIPPED : Fld := ⟨0x60004, 7, 1, 0⟩
/-- spec/16: TIME.STAT_STEP_REFUSED [8:8], no class, W1C. -/
def TIME_STAT_STEP_REFUSED : Fld := ⟨0x60004, 8, 1, 0⟩
/-- spec/16: TIME.NOW_LO [31:0], no class, RO. -/
def TIME_NOW_LO : Fld := ⟨0x60008, 0, 32, 0⟩
/-- spec/16: TIME.NOW_HI [31:0], no class, RO. -/
def TIME_NOW_HI : Fld := ⟨0x6000C, 0, 32, 0⟩
/-- spec/16: TIME.NOW_FRAC [31:0], no class, RO. -/
def TIME_NOW_FRAC : Fld := ⟨0x60010, 0, 32, 0⟩
/-- spec/16: TIME.INCR_OFF [31:0], L RW. -/
def TIME_INCR_OFF : Fld := ⟨0x60014, 0, 32, 0⟩
/-- spec/16: TIME.RATE_LIM [5:0], L RW. -/
def TIME_RATE_LIM : Fld := ⟨0x60018, 0, 6, 5⟩
/-- spec/16: TIME.SLEW [5:0], L RW. -/
def TIME_SLEW : Fld := ⟨0x6001C, 0, 6, 5⟩
/-- spec/16: TIME.SET_LO [31:0], L RW. -/
def TIME_SET_LO : Fld := ⟨0x60020, 0, 32, 0⟩
/-- spec/16: TIME.SET_HI [31:0], L RW. -/
def TIME_SET_HI : Fld := ⟨0x60024, 0, 32, 0⟩
/-- spec/16: TIME.ADJ [31:0], L RW. -/
def TIME_ADJ : Fld := ⟨0x60028, 0, 32, 0⟩
/-- spec/16: TIME.ADJ_REM [31:0], no class, RO. -/
def TIME_ADJ_REM : Fld := ⟨0x6002C, 0, 32, 0⟩
/-- spec/16: TIME.STATION.ID [13:0], L RWL. -/
def TIME_STATION_ID : Fld := ⟨0x60030, 0, 14, 0⟩
/-- spec/16: TIME.STATION_PRESS_DOM [23:16], L RWL. -/
def TIME_STATION_PRESS_DOM : Fld := ⟨0x60030, 16, 8, 0⟩
/-- spec/16: TIME.STATION.LOCK [31:31], L RWL. -/
def TIME_STATION_LOCK : Fld := ⟨0x60030, 31, 1, 0⟩
/-- spec/16: TIME.PPS_CTL_OUT_EN [0:0], L RW. -/
def TIME_PPS_CTL_OUT_EN : Fld := ⟨0x60040, 0, 1, 0⟩
/-- spec/16: TIME.PPS_CTL_OUT_REQ_LOCK [1:1], L RW. -/
def TIME_PPS_CTL_OUT_REQ_LOCK : Fld := ⟨0x60040, 1, 1, 1⟩
/-- spec/16: TIME.PPS_CTL_IN_EN [2:2], L RW. -/
def TIME_PPS_CTL_IN_EN : Fld := ⟨0x60040, 2, 1, 0⟩
/-- spec/16: TIME.PPS_CTL.IN_FILT [13:4], S RW. -/
def TIME_PPS_CTL_IN_FILT : Fld := ⟨0x60040, 4, 10, 100⟩
/-- spec/16: TIME.PPS_OFF [29:0], L RW. -/
def TIME_PPS_OFF : Fld := ⟨0x60044, 0, 30, 0⟩
/-- spec/16: TIME.PPS_W [18:0], L RW. -/
def TIME_PPS_W : Fld := ⟨0x60048, 0, 19, 1000⟩
/-- spec/16: TIME.PPS_IN_SEQ [15:0], no class, RO. -/
def TIME_PPS_IN_SEQ : Fld := ⟨0x6004C, 0, 16, 0⟩
/-- spec/16: TIME.PPS_IN_TIME_LO [31:0], no class, RO. -/
def TIME_PPS_IN_TIME_LO : Fld := ⟨0x60050, 0, 32, 0⟩
/-- spec/16: TIME.PPS_IN_TIME_HI [31:0], no class, RO. -/
def TIME_PPS_IN_TIME_HI : Fld := ⟨0x60054, 0, 32, 0⟩
/-- spec/16: TIME.PTP_CFG.EN [0:0], L RW. -/
def TIME_PTP_CFG_EN : Fld := ⟨0x60080, 0, 1, 0⟩
/-- spec/16: TIME.PTP_CFG.BC [1:1], S RW. -/
def TIME_PTP_CFG_BC : Fld := ⟨0x60080, 1, 1, 0⟩
/-- spec/16: TIME.PTP_CFG_SLAVE_ONLY [2:2], S RW. -/
def TIME_PTP_CFG_SLAVE_ONLY : Fld := ⟨0x60080, 2, 1, 0⟩
/-- spec/16: TIME.PTP_CFG.TRANSPORT [4:3], S RW. -/
def TIME_PTP_CFG_TRANSPORT : Fld := ⟨0x60080, 3, 2, 0⟩
/-- spec/16: TIME.PTP_CFG.P2P [5:5], S RW. -/
def TIME_PTP_CFG_P2P : Fld := ⟨0x60080, 5, 1, 0⟩
/-- spec/16: TIME.PTP_CFG.PORTS [7:6], S RW. -/
def TIME_PTP_CFG_PORTS : Fld := ⟨0x60080, 6, 2, 1⟩
/-- spec/16: TIME.PTP_CFG.DOMAIN [15:8], S RW. -/
def TIME_PTP_CFG_DOMAIN : Fld := ⟨0x60080, 8, 8, 0⟩
/-- spec/16: TIME.PTP_CFG_PRIORITY1 [23:16], S RW. -/
def TIME_PTP_CFG_PRIORITY1 : Fld := ⟨0x60080, 16, 8, 128⟩
/-- spec/16: TIME.PTP_CFG_PRIORITY2 [31:24], S RW. -/
def TIME_PTP_CFG_PRIORITY2 : Fld := ⟨0x60080, 24, 8, 128⟩
/-- spec/16: TIME.PTP_CFG2.LOG_SYNC [3:0], S RW. -/
def TIME_PTP_CFG2_LOG_SYNC : Fld := ⟨0x60084, 0, 4, 13⟩
/-- spec/16: TIME.PTP_CFG2.LOG_PDELAY [7:4], S RW. -/
def TIME_PTP_CFG2_LOG_PDELAY : Fld := ⟨0x60084, 4, 4, 0⟩
/-- spec/16: TIME.PTP_CFG2.LOCK_TOL [15:8], L RW. -/
def TIME_PTP_CFG2_LOCK_TOL : Fld := ⟨0x60084, 8, 8, 20⟩
/-- spec/16: TIME.PTP_CFG2.LOCK_N [23:16], L RW. -/
def TIME_PTP_CFG2_LOCK_N : Fld := ⟨0x60084, 16, 8, 8⟩
/-- spec/16: TIME.PTP_CFG2.HOLDOVER_S [31:24], L RW. -/
def TIME_PTP_CFG2_HOLDOVER_S : Fld := ⟨0x60084, 24, 8, 10⟩
/-- spec/16: TIME.PTP_CID_LO [31:0], S RW. -/
def TIME_PTP_CID_LO : Fld := ⟨0x60088, 0, 32, 0⟩
/-- spec/16: TIME.PTP_CID_HI [31:0], S RW. -/
def TIME_PTP_CID_HI : Fld := ⟨0x6008C, 0, 32, 0⟩
/-- spec/16: TIME.OFFSET [31:0], no class, RO. -/
def TIME_OFFSET : Fld := ⟨0x600C0, 0, 32, 0⟩
/-- spec/16: TIME.MPD [31:0], no class, RO. -/
def TIME_MPD : Fld := ⟨0x600C4, 0, 32, 0⟩
/-- spec/16: TIME.PORT_STATE [7:0], no class, RO. -/
def TIME_PORT_STATE : Fld := ⟨0x600C8, 0, 8, 0⟩
/-- spec/16: TIME.GM_ID_LO [31:0], no class, RO. -/
def TIME_GM_ID_LO : Fld := ⟨0x600CC, 0, 32, 0⟩
/-- spec/16: TIME.GM_ID_HI [31:0], no class, RO. -/
def TIME_GM_ID_HI : Fld := ⟨0x600D0, 0, 32, 0⟩
/-- spec/16: TIME.DT_CFG.EN [0:0], L RW. -/
def TIME_DT_CFG_EN : Fld := ⟨0x60100, 0, 1, 0⟩
/-- spec/16: TIME.DT_CFG_REQ_LOCK [1:1], L RW. -/
def TIME_DT_CFG_REQ_LOCK : Fld := ⟨0x60100, 1, 1, 1⟩
/-- spec/16: TIME.DT_CFG_LOOP [2:2], L RW. -/
def TIME_DT_CFG_LOOP : Fld := ⟨0x60100, 2, 1, 1⟩
/-- spec/16: TIME.DT_CFG.HORIZON [31:16], L RW. -/
def TIME_DT_CFG_HORIZON : Fld := ⟨0x60100, 16, 16, 1000⟩
/-- spec/16: TIME.DT_ETYPE [15:0], S RW. -/
def TIME_DT_ETYPE : Fld := ⟨0x60104, 0, 16, 34997⟩
/-- spec/16: TIME.DT_UDP [31:16], S RW. -/
def TIME_DT_UDP : Fld := ⟨0x60104, 16, 16, 0⟩
/-- spec/16: TIME.DT_MAC_LO [31:0], S RW. -/
def TIME_DT_MAC_LO : Fld := ⟨0x60108, 0, 32, 0⟩
/-- spec/16: TIME.DT_MAC_HI [15:0], S RW. -/
def TIME_DT_MAC_HI : Fld := ⟨0x6010C, 0, 16, 0⟩
/-- spec/16: TIME.DT_PENDING [4:0], no class, RO. -/
def TIME_DT_PENDING : Fld := ⟨0x60110, 0, 5, 0⟩
/-- spec/16: TIME.DT_CNT0.ACCEPT [15:0], no class, RO. -/
def TIME_DT_CNT0_ACCEPT : Fld := ⟨0x60114, 0, 16, 0⟩
/-- spec/16: TIME.DT_CNT0.DUP [31:16], no class, RO. -/
def TIME_DT_CNT0_DUP : Fld := ⟨0x60114, 16, 16, 0⟩
/-- spec/16: TIME.DT_CNT1.LATE [15:0], no class, RO. -/
def TIME_DT_CNT1_LATE : Fld := ⟨0x60118, 0, 16, 0⟩
/-- spec/16: TIME.DT_CNT1.DISC [31:16], no class, RO. -/
def TIME_DT_CNT1_DISC : Fld := ⟨0x60118, 16, 16, 0⟩
/-- spec/16: TIME.DT_LAST_LO [31:0], no class, RO. -/
def TIME_DT_LAST_LO (j : Nat) : Fld := ⟨0x60140 + 8 * j, 0, 32, 0⟩
/-- spec/16: TIME.DT_LAST_HI [31:0], no class, RO. -/
def TIME_DT_LAST_HI (j : Nat) : Fld := ⟨0x60144 + 8 * j, 0, 32, 0⟩
/-- spec/16: NET.CTL.EN [0:0], L RW. -/
def NET_CTL_EN (i : Nat) : Fld := ⟨0x70000 + 0x1000 * i, 0, 1, 0⟩
/-- spec/16: NET.CTL.MODE [1:1], S RW. -/
def NET_CTL_MODE (i : Nat) : Fld := ⟨0x70000 + 0x1000 * i, 1, 1, 0⟩
/-- spec/16: NET.CTL.AN [2:2], S RW. -/
def NET_CTL_AN (i : Nat) : Fld := ⟨0x70000 + 0x1000 * i, 2, 1, 1⟩
/-- spec/16: NET.CTL.TX_INV [3:3], S RW. -/
def NET_CTL_TX_INV (i : Nat) : Fld := ⟨0x70000 + 0x1000 * i, 3, 1, 0⟩
/-- spec/16: NET.CTL.RX_INV [4:4], S RW. -/
def NET_CTL_RX_INV (i : Nat) : Fld := ⟨0x70000 + 0x1000 * i, 4, 1, 0⟩
/-- spec/16: NET.STAT.LINK [0:0], no class, RO. -/
def NET_STAT_LINK (i : Nat) : Fld := ⟨0x70004 + 0x1000 * i, 0, 1, 0⟩
/-- spec/16: NET.STAT_AN_DONE [1:1], no class, RO. -/
def NET_STAT_AN_DONE (i : Nat) : Fld := ⟨0x70004 + 0x1000 * i, 1, 1, 0⟩
/-- spec/16: NET.STAT_FAULT_LOCAL [2:2], no class, RO. -/
def NET_STAT_FAULT_LOCAL (i : Nat) : Fld := ⟨0x70004 + 0x1000 * i, 2, 1, 0⟩
/-- spec/16: NET.STAT_FAULT_REMOTE [3:3], no class, RO. -/
def NET_STAT_FAULT_REMOTE (i : Nat) : Fld := ⟨0x70004 + 0x1000 * i, 3, 1, 0⟩
/-- spec/16: NET.MAC_LO [31:0], S RW. -/
def NET_MAC_LO (i : Nat) : Fld := ⟨0x70008 + 0x1000 * i, 0, 32, 0⟩
/-- spec/16: NET.MAC_HI [15:0], S RW. -/
def NET_MAC_HI (i : Nat) : Fld := ⟨0x7000C + 0x1000 * i, 0, 16, 0⟩
/-- spec/16: NET.TX_LAT [31:0], S RW. -/
def NET_TX_LAT (i : Nat) : Fld := ⟨0x70010 + 0x1000 * i, 0, 32, 0⟩
/-- spec/16: NET.RX_LAT [31:0], S RW. -/
def NET_RX_LAT (i : Nat) : Fld := ⟨0x70014 + 0x1000 * i, 0, 32, 0⟩
/-- spec/16: NET.RX_PTP [15:0], no class, RO. -/
def NET_RX_PTP (i : Nat) : Fld := ⟨0x70020 + 0x1000 * i, 0, 16, 0⟩
/-- spec/16: NET.RX_DT [31:16], no class, RO. -/
def NET_RX_DT (i : Nat) : Fld := ⟨0x70020 + 0x1000 * i, 16, 16, 0⟩
/-- spec/16: NET.RX_DROP [15:0], no class, RO. -/
def NET_RX_DROP (i : Nat) : Fld := ⟨0x70024 + 0x1000 * i, 0, 16, 0⟩
/-- spec/16: NET.RX_FCS [31:16], no class, RO. -/
def NET_RX_FCS (i : Nat) : Fld := ⟨0x70024 + 0x1000 * i, 16, 16, 0⟩
/-- spec/16: NET.TX_FRAMES [31:0], no class, RO. -/
def NET_TX_FRAMES (i : Nat) : Fld := ⟨0x70028 + 0x1000 * i, 0, 32, 0⟩
/-- spec/16: NET.PAUSE [15:0], no class, RO. -/
def NET_PAUSE (i : Nat) : Fld := ⟨0x7002C + 0x1000 * i, 0, 16, 0⟩
/-- spec/16: NET.DOWN [31:16], no class, RO. -/
def NET_DOWN (i : Nat) : Fld := ⟨0x7002C + 0x1000 * i, 16, 16, 0⟩
/-- spec/16: NET.LQ_CNT.LATE_SENT [15:0], no class, RO. -/
def NET_LQ_CNT_LATE_SENT (i j : Nat) : Fld := ⟨0x70040 + 0x1000 * i + 4 * j, 0, 16, 0⟩
/-- spec/16: NET.LQ_CNT.DROPPED [31:16], no class, RO. -/
def NET_LQ_CNT_DROPPED (i j : Nat) : Fld := ⟨0x70040 + 0x1000 * i + 4 * j, 16, 16, 0⟩
/-- spec/17: VAULT.STAT.BOOT_SLOT [1:0], no class, RO. -/
def VAULT_STAT_BOOT_SLOT : Fld := ⟨0x40000, 0, 2, 0⟩
/-- spec/17: VAULT.STAT.KEY_IDX [3:2], no class, RO. -/
def VAULT_STAT_KEY_IDX : Fld := ⟨0x40000, 2, 2, 0⟩
/-- spec/17: VAULT.STAT.SVN [10:4], no class, RO. -/
def VAULT_STAT_SVN : Fld := ⟨0x40000, 4, 7, 0⟩
/-- spec/17: VAULT.STAT.RB_COUNT [17:11], no class, RO. -/
def VAULT_STAT_RB_COUNT : Fld := ⟨0x40000, 11, 7, 0⟩
/-- spec/17: VAULT.STAT.RB_BUSY [18:18], no class, RO. -/
def VAULT_STAT_RB_BUSY : Fld := ⟨0x40000, 18, 1, 0⟩
/-- spec/17: VAULT.STAT.DEBUG [20:19], no class, RO. -/
def VAULT_STAT_DEBUG : Fld := ⟨0x40000, 19, 2, 0⟩
/-- spec/17: VAULT.STAT.TAMPER [21:21], no class, RO. -/
def VAULT_STAT_TAMPER : Fld := ⟨0x40000, 21, 1, 0⟩
/-- spec/17: VAULT.STAT.UNWRAP_BLOCK [22:22], no class, RO. -/
def VAULT_STAT_UNWRAP_BLOCK : Fld := ⟨0x40000, 22, 1, 0⟩
/-- spec/17: VAULT.BOOT_ERR.ERR_A [7:0], no class, RO. -/
def VAULT_BOOT_ERR_ERR_A : Fld := ⟨0x40004, 0, 8, 0⟩
/-- spec/17: VAULT.BOOT_ERR.ERR_B [15:8], no class, RO. -/
def VAULT_BOOT_ERR_ERR_B : Fld := ⟨0x40004, 8, 8, 0⟩
/-- spec/17: VAULT.ROLLBACK_TARGET [6:0], L RW. -/
def VAULT_ROLLBACK_TARGET : Fld := ⟨0x40008, 0, 7, 0⟩
/-- spec/17: VAULT.ROLLBACK_GO [31:31], L WO. -/
def VAULT_ROLLBACK_GO : Fld := ⟨0x40008, 31, 1, 0⟩
/-- spec/17: VAULT.REVOKE.MASK [3:0], no class, RO. -/
def VAULT_REVOKE_MASK : Fld := ⟨0x4000C, 0, 4, 0⟩
/-- spec/17: VAULT.REVOKE.REQ [11:8], L WO. -/
def VAULT_REVOKE_REQ : Fld := ⟨0x4000C, 8, 4, 0⟩
/-- spec/17: VAULT.SERIAL_LO [31:0], no class, RO. -/
def VAULT_SERIAL_LO : Fld := ⟨0x40010, 0, 32, (Config.serialNumber % 2 ^ 32)⟩
/-- spec/17: VAULT.SERIAL_HI [31:0], no class, RO. -/
def VAULT_SERIAL_HI : Fld := ⟨0x40014, 0, 32, (Config.serialNumber / 2 ^ 32 % 2 ^ 32)⟩
/-- spec/17: VAULT.OTP_TAMPER.COUNT [5:0], no class, RO. -/
def VAULT_OTP_TAMPER_COUNT : Fld := ⟨0x40018, 0, 6, 0⟩
/-- spec/17: VAULT.OTP_TAMPER_LAST_CAUSE [11:8], no class, RO. -/
def VAULT_OTP_TAMPER_LAST_CAUSE : Fld := ⟨0x40018, 8, 4, 0⟩
/-- spec/17: VAULT.FW_HASH [31:0], no class, RO. -/
def VAULT_FW_HASH (j : Nat) : Fld := ⟨0x40040 + 4 * j, 0, 32, 0⟩
/-- spec/17: VAULT.CERT [31:0], no class, RO. -/
def VAULT_CERT (j : Nat) : Fld := ⟨0x40100 + 4 * j, 0, 32, (if 12 ≤ j ∧ j < 36 then leNat ((identityPub.drop (4 * (j - 12))).take 4) else Config.deviceCertWord j % 2 ^ 32)⟩
/-- spec/17: VAULT.SLOT_STAT.OWNER [3:0], no class, RO. -/
def VAULT_SLOT_STAT_OWNER (j : Nat) : Fld := ⟨0x40400 + 4 * j, 0, 4, 15⟩
/-- spec/17: VAULT.SLOT_STAT.USAGE [5:4], no class, RO. -/
def VAULT_SLOT_STAT_USAGE (j : Nat) : Fld := ⟨0x40400 + 4 * j, 4, 2, 0⟩
/-- spec/17: VAULT.SLOT_STAT.VALID [6:6], no class, RO. -/
def VAULT_SLOT_STAT_VALID (j : Nat) : Fld := ⟨0x40400 + 4 * j, 6, 1, 0⟩
/-- spec/17: VAULT.SLOT_STAT.IN_USE [15:8], no class, RO. -/
def VAULT_SLOT_STAT_IN_USE (j : Nat) : Fld := ⟨0x40400 + 4 * j, 8, 8, 0⟩
/-- spec/17: VAULT.SLOT_STAT.AUTH_FAIL [31:16], no class, RO. -/
def VAULT_SLOT_STAT_AUTH_FAIL (j : Nat) : Fld := ⟨0x40400 + 4 * j, 16, 16, 0⟩
/-- spec/17: VAULT.CTX.ADDR_LO [31:0], L RW. -/
def VAULT_CTX_ADDR_LO (j : Nat) : Fld := ⟨0x40800 + 32 * j, 0, 32, 0⟩
/-- spec/17: VAULT.CTX.ADDR_HI [31:0], L RW. -/
def VAULT_CTX_ADDR_HI (j : Nat) : Fld := ⟨0x40804 + 32 * j, 0, 32, 0⟩
/-- spec/17: VAULT.CTX_CTL.OP [1:0], L RW. -/
def VAULT_CTX_CTL_OP (j : Nat) : Fld := ⟨0x40808 + 32 * j, 0, 2, 0⟩
/-- spec/17: VAULT.CTX_CTL.SLOT [13:8], L RW. -/
def VAULT_CTX_CTL_SLOT (j : Nat) : Fld := ⟨0x40808 + 32 * j, 8, 6, 0⟩
/-- spec/17: VAULT.CTX_CTL.GO [31:31], L WO. -/
def VAULT_CTX_CTL_GO (j : Nat) : Fld := ⟨0x40808 + 32 * j, 31, 1, 0⟩
/-- spec/17: VAULT.CTX_STAT.BUSY [0:0], no class, RO. -/
def VAULT_CTX_STAT_BUSY (j : Nat) : Fld := ⟨0x4080C + 32 * j, 0, 1, 0⟩
/-- spec/17: VAULT.CTX_STAT.DONE [1:1], no class, W1C. -/
def VAULT_CTX_STAT_DONE (j : Nat) : Fld := ⟨0x4080C + 32 * j, 1, 1, 0⟩
/-- spec/17: VAULT.CTX_STAT.RESULT [15:8], no class, RO. -/
def VAULT_CTX_STAT_RESULT (j : Nat) : Fld := ⟨0x4080C + 32 * j, 8, 8, 0⟩
/-- spec/17: VAULT.CTX_STAT.FAILS [23:16], no class, RO. -/
def VAULT_CTX_STAT_FAILS (j : Nat) : Fld := ⟨0x4080C + 32 * j, 16, 8, 0⟩
/-- spec/17: VAULT.CTX_STAT.HOLD [24:24], no class, RO. -/
def VAULT_CTX_STAT_HOLD (j : Nat) : Fld := ⟨0x4080C + 32 * j, 24, 1, 0⟩
/-- spec/17: VAULT.HEAD_CA.KEY [31:0], L RWL. -/
def VAULT_HEAD_CA_KEY (j w : Nat) : Fld := ⟨0x41000 + 0x80 * j + 4 * w, 0, 32, 0⟩
/-- spec/17: VAULT.HEAD_CA.EN [0:0], L RWL. -/
def VAULT_HEAD_CA_EN (j : Nat) : Fld := ⟨0x41060 + 128 * j, 0, 1, 0⟩
/-- spec/17: VAULT.HEAD_CA.LOCK [31:31], L RWL. -/
def VAULT_HEAD_CA_LOCK (j : Nat) : Fld := ⟨0x41060 + 128 * j, 31, 1, 0⟩
/-- spec/17: VAULT.DBG_CHAL [31:0], no class, RO. -/
def VAULT_DBG_CHAL (j : Nat) : Fld := ⟨0x42000 + 4 * j, 0, 32, ((if j < 12 then Config.debugChallengeWord j else if j = 12 then Config.serialNumber else Config.serialNumber / 2 ^ 32) % 2 ^ 32)⟩
/-- spec/17: VAULT.DBG_TOKEN [31:0], L WO. -/
def VAULT_DBG_TOKEN (j : Nat) : Fld := ⟨0x42100 + 4 * j, 0, 32, 0⟩
/-- spec/17: VAULT.DBG_CTL.GO [0:0], L WO. -/
def VAULT_DBG_CTL_GO : Fld := ⟨0x42200, 0, 1, 0⟩
/-- spec/17: VAULT.DBG_CTL.RELOCK [1:1], L WO. -/
def VAULT_DBG_CTL_RELOCK : Fld := ⟨0x42200, 1, 1, 0⟩
/-- spec/17: VAULT.DBG_CTL.OWNER_PROG [2:2], L WO. -/
def VAULT_DBG_CTL_OWNER_PROG : Fld := ⟨0x42200, 2, 1, 0⟩
/-- spec/17: VAULT.DBG_CTL.ATTEMPTS [11:8], no class, RO. -/
def VAULT_DBG_CTL_ATTEMPTS : Fld := ⟨0x42200, 8, 4, 0⟩
/-- spec/17: VAULT.DBG_OWNER [31:0], L WO. -/
def VAULT_DBG_OWNER (j : Nat) : Fld := ⟨0x42240 + 4 * j, 0, 32, 0⟩
/-- spec/18: GOOSE.STATUS.SAFE [0:0], no class, RO. -/
def GOOSE_STATUS_SAFE : Fld := ⟨0x10000, 0, 1, 0⟩
/-- spec/18: GOOSE.STATUS.LATCH4 [1:1], no class, RO. -/
def GOOSE_STATUS_LATCH4 : Fld := ⟨0x10000, 1, 1, 0⟩
/-- spec/18: GOOSE.STATUS.SELF_FAIL [2:2], no class, RO. -/
def GOOSE_STATUS_SELF_FAIL : Fld := ⟨0x10000, 2, 1, 0⟩
/-- spec/18: GOOSE.STATUS.REL_ARMED [3:3], no class, RO. -/
def GOOSE_STATUS_REL_ARMED : Fld := ⟨0x10000, 3, 1, 0⟩
/-- spec/18: GOOSE.STATUS.CAUSE_SRC [15:8], no class, RO. -/
def GOOSE_STATUS_CAUSE_SRC : Fld := ⟨0x10000, 8, 8, 0⟩
/-- spec/18: GOOSE.STATUS_CAUSE_CLASS [18:16], no class, RO. -/
def GOOSE_STATUS_CAUSE_CLASS : Fld := ⟨0x10000, 16, 3, 0⟩
/-- spec/18: GOOSE.STATUS.REL_ERR [23:20], no class, RO. -/
def GOOSE_STATUS_REL_ERR : Fld := ⟨0x10000, 20, 4, 0⟩
/-- spec/18: GOOSE.SAFE_REL.KEY [31:0], L WO. -/
def GOOSE_SAFE_REL_KEY : Fld := ⟨0x10004, 0, 32, 0⟩
/-- spec/18: GOOSE.FIRST_CTL.MIN_CLASS [2:0], L RW. -/
def GOOSE_FIRST_CTL_MIN_CLASS : Fld := ⟨0x10008, 0, 3, 1⟩
/-- spec/18: GOOSE.FIRST_CTL_ARM_ANY [8:8], L WO. -/
def GOOSE_FIRST_CTL_ARM_ANY : Fld := ⟨0x10008, 8, 1, 0⟩
/-- spec/18: GOOSE.FIRST_CTL_ARM_REAL [9:9], L WO. -/
def GOOSE_FIRST_CTL_ARM_REAL : Fld := ⟨0x10008, 9, 1, 0⟩
/-- spec/18: GOOSE.CTL.CLR_CNT [0:0], L WO. -/
def GOOSE_CTL_CLR_CNT : Fld := ⟨0x1000C, 0, 1, 0⟩
/-- spec/18: GOOSE.CTL.INJ_LOCK [8:8], L RWL. -/
def GOOSE_CTL_INJ_LOCK : Fld := ⟨0x1000C, 8, 1, 0⟩
/-- spec/18: GOOSE.CTL.FENCE_MAX [15:12], L RW. -/
def GOOSE_CTL_FENCE_MAX : Fld := ⟨0x1000C, 12, 4, 3⟩
/-- spec/18: GOOSE.SEQ [31:0], no class, RO. -/
def GOOSE_SEQ : Fld := ⟨0x10010, 0, 32, 0⟩
/-- spec/18: GOOSE.CLASS_CNT0.CLASS0 [15:0], no class, RO. -/
def GOOSE_CLASS_CNT0_CLASS0 : Fld := ⟨0x10014, 0, 16, 0⟩
/-- spec/18: GOOSE.CLASS_CNT0.CLASS1 [31:16], no class, RO. -/
def GOOSE_CLASS_CNT0_CLASS1 : Fld := ⟨0x10014, 16, 16, 0⟩
/-- spec/18: GOOSE.CLASS_CNT1.CLASS2 [15:0], no class, RO. -/
def GOOSE_CLASS_CNT1_CLASS2 : Fld := ⟨0x10018, 0, 16, 0⟩
/-- spec/18: GOOSE.CLASS_CNT1.CLASS3 [31:16], no class, RO. -/
def GOOSE_CLASS_CNT1_CLASS3 : Fld := ⟨0x10018, 16, 16, 0⟩
/-- spec/18: GOOSE.CLASS_CNT2.CLASS4 [15:0], no class, RO. -/
def GOOSE_CLASS_CNT2_CLASS4 : Fld := ⟨0x1001C, 0, 16, 0⟩
/-- spec/18: GOOSE.CLASS_CNT2.MERGED [31:16], no class, RO. -/
def GOOSE_CLASS_CNT2_MERGED : Fld := ⟨0x1001C, 16, 16, 0⟩
/-- spec/18: GOOSE.FIRST_ANY [31:0], no class, RO. -/
def GOOSE_FIRST_ANY (j : Nat) : Fld := ⟨0x10040 + 4 * j, 0, 32, 0⟩
/-- spec/18: GOOSE.FIRST_REAL [31:0], no class, RO. -/
def GOOSE_FIRST_REAL (j : Nat) : Fld := ⟨0x10060 + 4 * j, 0, 32, 0⟩
/-- spec/18: GOOSE.INJ_CTL.SRC [7:0], L RW. -/
def GOOSE_INJ_CTL_SRC : Fld := ⟨0x10100, 0, 8, 0⟩
/-- spec/18: GOOSE.INJ_CTL.CLASS [10:8], L RW. -/
def GOOSE_INJ_CTL_CLASS : Fld := ⟨0x10100, 8, 3, 0⟩
/-- spec/18: GOOSE.INJ_CTL.REACT [12:12], L RW. -/
def GOOSE_INJ_CTL_REACT : Fld := ⟨0x10100, 12, 1, 0⟩
/-- spec/18: GOOSE.INJ_CTL.GO [16:16], L WO. -/
def GOOSE_INJ_CTL_GO : Fld := ⟨0x10100, 16, 1, 0⟩
/-- spec/18: GOOSE.INJ_INIT.TYPE [7:0], L RW. -/
def GOOSE_INJ_INIT_TYPE : Fld := ⟨0x10104, 0, 8, 0⟩
/-- spec/18: GOOSE.INJ_INIT.NUM [15:8], L RW. -/
def GOOSE_INJ_INIT_NUM : Fld := ⟨0x10104, 8, 8, 0⟩
/-- spec/18: GOOSE.INJ_INIT_ACCESS [18:16], L RW. -/
def GOOSE_INJ_INIT_ACCESS : Fld := ⟨0x10104, 16, 3, 0⟩
/-- spec/18: GOOSE.INJ_ADDR_LO [31:0], L RW. -/
def GOOSE_INJ_ADDR_LO : Fld := ⟨0x10108, 0, 32, 0⟩
/-- spec/18: GOOSE.INJ_ADDR_HI [31:0], L RW. -/
def GOOSE_INJ_ADDR_HI : Fld := ⟨0x1010C, 0, 32, 0⟩
/-- spec/18: GOOSE.INJ_STAT.INJECTED [15:0], no class, RO. -/
def GOOSE_INJ_STAT_INJECTED : Fld := ⟨0x10110, 0, 16, 0⟩
/-- spec/18: GOOSE.INJ_STAT.REFUSED [16:16], no class, W1C. -/
def GOOSE_INJ_STAT_REFUSED : Fld := ⟨0x10110, 16, 1, 0⟩
/-- spec/18: GOOSE.SRC_CFG.EVT [0:0], L RW. -/
def GOOSE_SRC_CFG_EVT (j : Nat) : Fld := ⟨0x10400 + 4 * j, 0, 1, 0⟩
/-- spec/18: GOOSE.SRC_CFG.PROMOTE [2:1], L RW. -/
def GOOSE_SRC_CFG_PROMOTE (j : Nat) : Fld := ⟨0x10400 + 4 * j, 1, 2, 0⟩
/-- spec/18: GOOSE.SRC_CFG.FENCE [3:3], L RW. -/
def GOOSE_SRC_CFG_FENCE (j : Nat) : Fld := ⟨0x10400 + 4 * j, 3, 1, 0⟩
/-- spec/18: GOOSE.SRC_STAT.COUNT [15:0], no class, RO. -/
def GOOSE_SRC_STAT_COUNT (j : Nat) : Fld := ⟨0x10800 + 4 * j, 0, 16, 0⟩
/-- spec/18: GOOSE.SRC_STAT.INJ_COUNT [23:16], no class, RO. -/
def GOOSE_SRC_STAT_INJ_COUNT (j : Nat) : Fld := ⟨0x10800 + 4 * j, 16, 8, 0⟩
/-- spec/18: GOOSE.SRC_STAT.MAX_CLASS [26:24], no class, RO. -/
def GOOSE_SRC_STAT_MAX_CLASS (j : Nat) : Fld := ⟨0x10800 + 4 * j, 24, 3, 0⟩
/-- spec/18: GOOSE.SRC_STAT.PRESENT [27:27], no class, RO. -/
def GOOSE_SRC_STAT_PRESENT (j : Nat) : Fld := ⟨0x10800 + 4 * j, 27, 1, 0⟩
/-- spec/18: GOOSE.FENCE_STAT.FENCES [7:0], no class, RO. -/
def GOOSE_FENCE_STAT_FENCES (j : Nat) : Fld := ⟨0x10C00 + 4 * j, 0, 8, 0⟩
/-- spec/18: GOOSE.FENCE_STAT.REL_DENIED [8:8], no class, W1C. -/
def GOOSE_FENCE_STAT_REL_DENIED (j : Nat) : Fld := ⟨0x10C00 + 4 * j, 8, 1, 0⟩
/-- spec/19: YOKE.CTL.DET [1:0], L RWL. -/
def YOKE_CTL_DET : Fld := ⟨0x20000, 0, 2, 0⟩
/-- spec/19: YOKE.CTL.FORCE_COLD [2:2], L RWL. -/
def YOKE_CTL_FORCE_COLD : Fld := ⟨0x20000, 2, 1, 0⟩
/-- spec/19: YOKE.CTL.AUTO_REPAIR [3:3], L RWL. -/
def YOKE_CTL_AUTO_REPAIR : Fld := ⟨0x20000, 3, 1, 1⟩
/-- spec/19: YOKE.CTL.SWITCH [4:4], L WO. -/
def YOKE_CTL_SWITCH : Fld := ⟨0x20000, 4, 1, 0⟩
/-- spec/19: YOKE.CTL.REPAIR_MAX [11:8], L RWL. -/
def YOKE_CTL_REPAIR_MAX : Fld := ⟨0x20000, 8, 4, 3⟩
/-- spec/19: YOKE.CTL.LOCK [31:31], L RWL. -/
def YOKE_CTL_LOCK : Fld := ⟨0x20000, 31, 1, 0⟩
/-- spec/19: YOKE.STAT.ACTIVE [0:0], no class, RO. -/
def YOKE_STAT_ACTIVE : Fld := ⟨0x20004, 0, 1, 0⟩
/-- spec/19: YOKE.STAT.ROLE_A [3:1], no class, RO. -/
def YOKE_STAT_ROLE_A : Fld := ⟨0x20004, 1, 3, 0⟩
/-- spec/19: YOKE.STAT.ROLE_B [6:4], no class, RO. -/
def YOKE_STAT_ROLE_B : Fld := ⟨0x20004, 4, 3, 2⟩
/-- spec/19: YOKE.STAT.HOT_MODE [7:7], no class, RO. -/
def YOKE_STAT_HOT_MODE : Fld := ⟨0x20004, 7, 1, 0⟩
/-- spec/19: YOKE.STAT.HOT_READY [8:8], no class, RO. -/
def YOKE_STAT_HOT_READY : Fld := ⟨0x20004, 8, 1, 0⟩
/-- spec/19: YOKE.STAT.COPY_AGE [11:9], no class, RO. -/
def YOKE_STAT_COPY_AGE : Fld := ⟨0x20004, 9, 3, 7⟩
/-- spec/19: YOKE.STAT.HOLDING [12:12], no class, RO. -/
def YOKE_STAT_HOLDING : Fld := ⟨0x20004, 12, 1, 0⟩
/-- spec/19: YOKE.STAT.PATH_MB [13:13], no class, RO. -/
def YOKE_STAT_PATH_MB : Fld := ⟨0x20004, 13, 1, 0⟩
/-- spec/19: YOKE.STAT.PATH_BRD [14:14], no class, RO. -/
def YOKE_STAT_PATH_BRD : Fld := ⟨0x20004, 14, 1, 0⟩
/-- spec/19: YOKE.STAT.ARB_GNT [16:15], no class, RO. -/
def YOKE_STAT_ARB_GNT : Fld := ⟨0x20004, 15, 2, 0⟩
/-- spec/19: YOKE.STAT.ARB_REQ [17:17], no class, RO. -/
def YOKE_STAT_ARB_REQ : Fld := ⟨0x20004, 17, 1, 0⟩
/-- spec/19: YOKE.CNT0_FAILOVERS [15:0], no class, RO. -/
def YOKE_CNT0_FAILOVERS : Fld := ⟨0x20008, 0, 16, 0⟩
/-- spec/19: YOKE.CNT0.REPAIRS [31:16], no class, RO. -/
def YOKE_CNT0_REPAIRS : Fld := ⟨0x20008, 16, 16, 0⟩
/-- spec/19: YOKE.CNT1_COPY_ERR [7:0], no class, RO. -/
def YOKE_CNT1_COPY_ERR : Fld := ⟨0x2000C, 0, 8, 0⟩
/-- spec/19: YOKE.CNT1_REFUSED [15:8], no class, RO. -/
def YOKE_CNT1_REFUSED : Fld := ⟨0x2000C, 8, 8, 0⟩
/-- spec/19: YOKE.CNT1.PATH [23:16], no class, RO. -/
def YOKE_CNT1_PATH : Fld := ⟨0x2000C, 16, 8, 0⟩
/-- spec/19: YOKE.CNT1_BLOCKED [31:24], no class, RO. -/
def YOKE_CNT1_BLOCKED : Fld := ⟨0x2000C, 24, 8, 0⟩
/-- spec/19: YOKE.LAST.CAUSE [2:0], no class, RO. -/
def YOKE_LAST_CAUSE : Fld := ⟨0x20010, 0, 3, 0⟩
/-- spec/19: YOKE.LAST.COLD [3:3], no class, RO. -/
def YOKE_LAST_COLD : Fld := ⟨0x20010, 3, 1, 0⟩
/-- spec/19: YOKE.LAST.NO_CKPT [4:4], no class, RO. -/
def YOKE_LAST_NO_CKPT : Fld := ⟨0x20010, 4, 1, 0⟩
/-- spec/19: YOKE.LAST.DURATION [31:8], no class, RO. -/
def YOKE_LAST_DURATION : Fld := ⟨0x20010, 8, 24, 0⟩
/-- spec/19: YOKE.LAST_TIME_LO [31:0], no class, RO. -/
def YOKE_LAST_TIME_LO : Fld := ⟨0x20014, 0, 32, 0⟩
/-- spec/19: YOKE.LAST_TIME_HI [31:0], no class, RO. -/
def YOKE_LAST_TIME_HI : Fld := ⟨0x20018, 0, 32, 0⟩
/-- spec/19: YOKE.ARB_CFG.ARB_TO [15:0], L RWL. -/
def YOKE_ARB_CFG_ARB_TO : Fld := ⟨0x2001C, 0, 16, 100⟩
/-- spec/19: YOKE.CKPT_BASE [13:0], no class, RO. -/
def YOKE_CKPT_BASE : Fld := ⟨0x20020, 0, 14, 0⟩
/-- spec/19: COOP.SUP_STAT.IN_RANGE [8:0], no class, RO. -/
def COOP_SUP_STAT_IN_RANGE : Fld := ⟨0x30000, 0, 9, 0⟩
/-- spec/19: COOP.SUP_STAT.SEQ_DONE [9:9], no class, RO. -/
def COOP_SUP_STAT_SEQ_DONE : Fld := ⟨0x30000, 9, 1, 0⟩
/-- spec/19: COOP.SUP.NOW [15:0], no class, RO. -/
def COOP_SUP_NOW (j : Nat) : Fld := ⟨0x30040 + 8 * j, 0, 16, 0⟩
/-- spec/19: COOP.SUP.MIN [31:16], no class, RO. -/
def COOP_SUP_MIN (j : Nat) : Fld := ⟨0x30040 + 8 * j, 16, 16, 65535⟩
/-- spec/19: COOP.SUP.MAX [15:0], no class, RO. -/
def COOP_SUP_MAX (j : Nat) : Fld := ⟨0x30044 + 8 * j, 0, 16, 0⟩
/-- spec/19: COOP.PMB_CTL.EN0 [0:0], L RW. -/
def COOP_PMB_CTL_EN0 : Fld := ⟨0x30100, 0, 1, 1⟩
/-- spec/19: COOP.PMB_CTL.EN1 [1:1], L RW. -/
def COOP_PMB_CTL_EN1 : Fld := ⟨0x30100, 1, 1, 1⟩
/-- spec/19: COOP.PMB_CTL.FAST [2:2], L RW. -/
def COOP_PMB_CTL_FAST : Fld := ⟨0x30100, 2, 1, 0⟩
/-- spec/19: COOP.PMB_CTL_PEC [3:3], L RW. -/
def COOP_PMB_CTL_PEC : Fld := ⟨0x30100, 3, 1, 1⟩
/-- spec/19: COOP.PMB_CTL.POLL [15:8], L RW. -/
def COOP_PMB_CTL_POLL : Fld := ⟨0x30100, 8, 8, 10⟩
/-- spec/19: COOP.PMB_LIST [31:0], L RW. -/
def COOP_PMB_LIST (j : Nat) : Fld := ⟨0x30110 + 4 * j, 0, 32, 0⟩
/-- spec/19: COOP.PMB_STAT.FAILED [31:0], no class, RO. -/
def COOP_PMB_STAT_FAILED : Fld := ⟨0x30130, 0, 32, 0⟩
/-- spec/19: COOP.PMB_MB0.SEG [0:0], L RW. -/
def COOP_PMB_MB0_SEG : Fld := ⟨0x30140, 0, 1, 0⟩
/-- spec/19: COOP.PMB_MB0_ADDR [7:1], L RW. -/
def COOP_PMB_MB0_ADDR : Fld := ⟨0x30140, 1, 7, 0⟩
/-- spec/19: COOP.PMB_MB0.CMD [15:8], L RW. -/
def COOP_PMB_MB0_CMD : Fld := ⟨0x30140, 8, 8, 0⟩
/-- spec/19: COOP.PMB_MB0.LEN [18:16], L RW. -/
def COOP_PMB_MB0_LEN : Fld := ⟨0x30140, 16, 3, 1⟩
/-- spec/19: COOP.PMB_MB0_READ [19:19], L RW. -/
def COOP_PMB_MB0_READ : Fld := ⟨0x30140, 19, 1, 0⟩
/-- spec/19: COOP.PMB_MB0_GO [31:31], L WO. -/
def COOP_PMB_MB0_GO : Fld := ⟨0x30140, 31, 1, 0⟩
/-- spec/19: COOP.PMB_MB1.DATA [31:0], L RW. -/
def COOP_PMB_MB1_DATA : Fld := ⟨0x30144, 0, 32, 0⟩
/-- spec/19: COOP.PMB_MB2_BUSY [0:0], no class, RO. -/
def COOP_PMB_MB2_BUSY : Fld := ⟨0x30148, 0, 1, 0⟩
/-- spec/19: COOP.PMB_MB2_DONE [1:1], no class, W1C. -/
def COOP_PMB_MB2_DONE : Fld := ⟨0x30148, 1, 1, 0⟩
/-- spec/19: COOP.PMB_MB2_NACK [2:2], no class, RO. -/
def COOP_PMB_MB2_NACK : Fld := ⟨0x30148, 2, 1, 0⟩
/-- spec/19: COOP.PMB_MB2_PEC_ERR [3:3], no class, RO. -/
def COOP_PMB_MB2_PEC_ERR : Fld := ⟨0x30148, 3, 1, 0⟩
/-- spec/19: COOP.SEQ_CTL_DOWN [0:0], L WO. -/
def COOP_SEQ_CTL_DOWN : Fld := ⟨0x30180, 0, 1, 0⟩
/-- spec/19: COOP.SEQ_STAT.STATE [1:0], no class, RO. -/
def COOP_SEQ_STAT_STATE : Fld := ⟨0x30184, 0, 2, 0⟩
/-- spec/19: COOP.SEQ_STAT.STEP [11:8], no class, RO. -/
def COOP_SEQ_STAT_STEP : Fld := ⟨0x30184, 8, 4, 0⟩
/-- spec/19: COOP.SEQ_STAT.ERR [20:16], no class, RO. -/
def COOP_SEQ_STAT_ERR : Fld := ⟨0x30184, 16, 5, 0⟩
/-- spec/19: COOP.THERM.T_WARN [15:0], L RW. -/
def COOP_THERM_T_WARN : Fld := ⟨0x30200, 0, 16, 6400⟩
/-- spec/19: COOP.THERM.T_TRIP [31:16], L RW. -/
def COOP_THERM_T_TRIP : Fld := ⟨0x30200, 16, 16, 7168⟩
/-- spec/19: COOP.THERM2.T_REL [15:0], L RW. -/
def COOP_THERM2_T_REL : Fld := ⟨0x30204, 0, 16, 6080⟩
/-- spec/19: COOP.THERM2.EXCLUDED [31:16], no class, RO. -/
def COOP_THERM2_EXCLUDED : Fld := ⟨0x30204, 16, 16, 0⟩
/-- spec/19: COOP.TEMP_TEMP [15:0], no class, RO. -/
def COOP_TEMP_TEMP (j : Nat) : Fld := ⟨0x30240 + 4 * j, 0, 16, 0⟩
/-- spec/19: COOP.TEMP.TMAX [31:16], no class, RO. -/
def COOP_TEMP_TMAX (j : Nat) : Fld := ⟨0x30240 + 4 * j, 16, 16, 32768⟩
/-- spec/19: COOP.GATE_LO [31:0], L RW. -/
def COOP_GATE_LO : Fld := ⟨0x30300, 0, 32, 0⟩
/-- spec/19: COOP.GATE_HI [31:0], L RW. -/
def COOP_GATE_HI : Fld := ⟨0x30304, 0, 32, 0⟩
/-- spec/19: COOP.HEAD_PWR.EN [7:0], L RW. -/
def COOP_HEAD_PWR_EN : Fld := ⟨0x30308, 0, 8, 0⟩
/-- spec/19: COOP.HEAD_PWR.LEVEL [15:8], no class, RO. -/
def COOP_HEAD_PWR_LEVEL : Fld := ⟨0x30308, 8, 8, 0⟩
/-- spec/20: GLOBAL.READY.SEQ [0:0], no class, RO. -/
def GLOBAL_READY_SEQ : Fld := ⟨0x10, 0, 1, 0⟩
/-- spec/20: GLOBAL.READY.PLL [1:1], no class, RO. -/
def GLOBAL_READY_PLL : Fld := ⟨0x10, 1, 1, 0⟩
/-- spec/20: GLOBAL.READY.BOOT [2:2], no class, RO. -/
def GLOBAL_READY_BOOT : Fld := ⟨0x10, 2, 1, 0⟩
/-- spec/20: GLOBAL.READY.BOOT_FAIL [3:3], no class, RO. -/
def GLOBAL_READY_BOOT_FAIL : Fld := ⟨0x10, 3, 1, 0⟩
/-- spec/20: GLOBAL.READY.MEM_TRAIN [4:4], no class, RO. -/
def GLOBAL_READY_MEM_TRAIN : Fld := ⟨0x10, 4, 1, 0⟩
/-- spec/20: GLOBAL.READY.MEM_FAIL [5:5], no class, RO. -/
def GLOBAL_READY_MEM_FAIL : Fld := ⟨0x10, 5, 1, 0⟩
/-- spec/20: GLOBAL.READY.CELL_TEST [6:6], no class, RO. -/
def GLOBAL_READY_CELL_TEST : Fld := ⟨0x10, 6, 1, 0⟩
/-- spec/20: GLOBAL.READY.SYS_INIT [7:7], no class, RO. -/
def GLOBAL_READY_SYS_INIT : Fld := ⟨0x10, 7, 1, 0⟩
/-- spec/20: GLOBAL.READY.HOST [8:8], no class, RO. -/
def GLOBAL_READY_HOST : Fld := ⟨0x10, 8, 1, 0⟩
/-- spec/20: GLOBAL.READY.DISC [9:9], no class, RO. -/
def GLOBAL_READY_DISC : Fld := ⟨0x10, 9, 1, 0⟩
/-- spec/20: GLOBAL.READY.MEM_INIT [10:10], no class, RO. -/
def GLOBAL_READY_MEM_INIT : Fld := ⟨0x10, 10, 1, 0⟩
/-- spec/20: GLOBAL.READY.MODE [17:16], no class, RO. -/
def GLOBAL_READY_MODE : Fld := ⟨0x10, 16, 2, 0⟩
/-- spec/20: GLOBAL.RST_CAUSE.CAUSE [2:0], no class, RO. -/
def GLOBAL_RST_CAUSE_CAUSE : Fld := ⟨0x14, 0, 3, 1⟩
/-- spec/20: GLOBAL.RST_CAUSE.SAFE_SRC [15:8], no class, RO. -/
def GLOBAL_RST_CAUSE_SAFE_SRC : Fld := ⟨0x14, 8, 8, 0⟩
/-- spec/20: GLOBAL.RST_CAUSE.SAFE_CLASS [18:16], no class, RO. -/
def GLOBAL_RST_CAUSE_SAFE_CLASS : Fld := ⟨0x14, 16, 3, 0⟩
/-- spec/20: GLOBAL.RST_CAUSE.LATCH4 [19:19], no class, RO. -/
def GLOBAL_RST_CAUSE_LATCH4 : Fld := ⟨0x14, 19, 1, 0⟩
/-- spec/20: GLOBAL.RST.FORCE [0:0], L RW. -/
def GLOBAL_RST_FORCE : Fld := ⟨0x18, 0, 1, 0⟩
/-- spec/20: GLOBAL.RST.KEY [31:0], L WO. -/
def GLOBAL_RST_KEY : Fld := ⟨0x1C, 0, 32, 0⟩
/-- spec/20: GLOBAL.BLK_RST.NOUGAT [0:0], L WO. -/
def GLOBAL_BLK_RST_NOUGAT : Fld := ⟨0x20, 0, 1, 0⟩
/-- spec/20: GLOBAL.BLK_RST.ENC [7:4], L WO. -/
def GLOBAL_BLK_RST_ENC : Fld := ⟨0x20, 4, 4, 0⟩
/-- spec/20: GLOBAL.BLK_RST.INSP [11:8], L WO. -/
def GLOBAL_BLK_RST_INSP : Fld := ⟨0x20, 8, 4, 0⟩
/-- spec/20: GLOBAL.CELL_FAIL_LO [31:0], no class, RO. -/
def GLOBAL_CELL_FAIL_LO : Fld := ⟨0x24, 0, 32, 0⟩
/-- spec/20: GLOBAL.CELL_FAIL_HI [31:0], no class, RO. -/
def GLOBAL_CELL_FAIL_HI : Fld := ⟨0x28, 0, 32, 0⟩
/-- spec/20: GLOBAL.HEADS_LO [31:0], no class, RO. -/
def GLOBAL_HEADS_LO : Fld := ⟨0x2C, 0, 32, 0⟩
/-- spec/20: GLOBAL.HEADS_HI [31:0], no class, RO. -/
def GLOBAL_HEADS_HI : Fld := ⟨0x30, 0, 32, 0⟩
/-- spec/20: GLOBAL.MEM.SIZE [4:0], no class, RO. -/
def GLOBAL_MEM_SIZE : Fld := ⟨0x34, 0, 5, 0⟩
/-- spec/20: GLOBAL.MEM.SYS_BASE [29:16], no class, RO. -/
def GLOBAL_MEM_SYS_BASE : Fld := ⟨0x34, 16, 14, 0⟩
/-- spec/20: GLOBAL.BOOT_TIME.MS [15:0], no class, RO. -/
def GLOBAL_BOOT_TIME_MS : Fld := ⟨0x38, 0, 16, 0⟩
/-- spec/21: LEDGER.CTL.FLUSH [0:0], L WO. -/
def LEDGER_CTL_FLUSH : Fld := ⟨0x50000, 0, 1, 0⟩
/-- spec/21: LEDGER.CTL.EXPORT [1:1], L WO. -/
def LEDGER_CTL_EXPORT : Fld := ⟨0x50000, 1, 1, 0⟩
/-- spec/21: LEDGER.CTL.KIND [3:2], L RW. -/
def LEDGER_CTL_KIND : Fld := ⟨0x50000, 2, 2, 1⟩
/-- spec/21: LEDGER.CTL.DROP_EN [4:4], L RW. -/
def LEDGER_CTL_DROP_EN : Fld := ⟨0x50000, 4, 1, 1⟩
/-- spec/21: LEDGER.STAT.BUSY [0:0], no class, RO. -/
def LEDGER_STAT_BUSY : Fld := ⟨0x50004, 0, 1, 0⟩
/-- spec/21: LEDGER.STAT.DONE [1:1], no class, W1C. -/
def LEDGER_STAT_DONE : Fld := ⟨0x50004, 1, 1, 0⟩
/-- spec/21: LEDGER.STAT.FRESH [2:2], no class, RO. -/
def LEDGER_STAT_FRESH : Fld := ⟨0x50004, 2, 1, 0⟩
/-- spec/21: LEDGER.STAT.DROP_FLASH [3:3], no class, RO. -/
def LEDGER_STAT_DROP_FLASH : Fld := ⟨0x50004, 3, 1, 0⟩
/-- spec/21: LEDGER.STAT.SIGN_BLOCKED [4:4], no class, RO. -/
def LEDGER_STAT_SIGN_BLOCKED : Fld := ⟨0x50004, 4, 1, 0⟩
/-- spec/21: LEDGER.STAT.RESTORED [5:5], no class, RO. -/
def LEDGER_STAT_RESTORED : Fld := ⟨0x50004, 5, 1, 0⟩
/-- spec/21: LEDGER.STAT.ERR [11:8], no class, RO. -/
def LEDGER_STAT_ERR : Fld := ⟨0x50004, 8, 4, 0⟩
/-- spec/21: LEDGER.EXP_ADDR_LO [31:0], L RW. -/
def LEDGER_EXP_ADDR_LO : Fld := ⟨0x50008, 0, 32, 0⟩
/-- spec/21: LEDGER.EXP_ADDR_HI [31:0], L RW. -/
def LEDGER_EXP_ADDR_HI : Fld := ⟨0x5000C, 0, 32, 0⟩
/-- spec/21: LEDGER.EXP_LEN [31:0], no class, RO. -/
def LEDGER_EXP_LEN : Fld := ⟨0x50010, 0, 32, 0⟩
/-- spec/21: LEDGER.GEN_LO [31:0], no class, RO. -/
def LEDGER_GEN_LO : Fld := ⟨0x50014, 0, 32, 0⟩
/-- spec/21: LEDGER.GEN_HI [31:0], no class, RO. -/
def LEDGER_GEN_HI : Fld := ⟨0x50018, 0, 32, 0⟩
/-- spec/21: LEDGER.ON_SECONDS [31:0], no class, RO. -/
def LEDGER_ON_SECONDS : Fld := ⟨0x50020, 0, 32, 0⟩
/-- spec/21: LEDGER.POWER_CYCLES [31:0], no class, RO. -/
def LEDGER_POWER_CYCLES : Fld := ⟨0x50024, 0, 32, 0⟩
/-- spec/21: LEDGER.LAST_FLUSH_LO [31:0], no class, RO. -/
def LEDGER_LAST_FLUSH_LO : Fld := ⟨0x50028, 0, 32, 0⟩
/-- spec/21: LEDGER.LAST_FLUSH_HI [31:0], no class, RO. -/
def LEDGER_LAST_FLUSH_HI : Fld := ⟨0x5002C, 0, 32, 0⟩
/-- spec/21: LEDGER.SUM_SLOTS [7:0], no class, RO. -/
def LEDGER_SUM_SLOTS : Fld := ⟨0x50030, 0, 8, 30⟩
/-- spec/21: LEDGER.DROP_SLOTS [23:16], no class, RO. -/
def LEDGER_DROP_SLOTS : Fld := ⟨0x50030, 16, 8, 0⟩
/-- spec/21: LEDGER.CNT.FLUSHES [15:0], no class, RO. -/
def LEDGER_CNT_FLUSHES : Fld := ⟨0x50034, 0, 16, 0⟩
/-- spec/21: LEDGER.CNT.WR_ERR [31:16], no class, RO. -/
def LEDGER_CNT_WR_ERR : Fld := ⟨0x50034, 16, 16, 0⟩
/-- spec/22: GLOBAL.DEVICE_ID [31:0], no class, RO. -/
def GLOBAL_DEVICE_ID : Fld := ⟨0x0, 0, 32, 0x4B566464⟩
/-- spec/22: GLOBAL.PCI_VID.VID [15:0], no class, RO. -/
def GLOBAL_PCI_VID_VID : Fld := ⟨0x4, 0, 16, 8059⟩
/-- spec/22: GLOBAL.PCI_VID.DID [31:16], no class, RO. -/
def GLOBAL_PCI_VID_DID : Fld := ⟨0x4, 16, 16, 0x6464⟩
/-- spec/22: GLOBAL.REV.REVISION [7:0], no class, RO. -/
def GLOBAL_REV_REVISION : Fld := ⟨0x8, 0, 8, 2⟩
/-- spec/22: GLOBAL.REV.CELLS [15:8], no class, RO. -/
def GLOBAL_REV_CELLS : Fld := ⟨0x8, 8, 8, 64⟩
/-- spec/22: GLOBAL.SCRATCH [31:0], L RW. -/
def GLOBAL_SCRATCH : Fld := ⟨0xC, 0, 32, 0⟩
/-- spec/22: GLOBAL.FUSED_LO [31:0], no class, RO. -/
def GLOBAL_FUSED_LO : Fld := ⟨0x40, 0, 32, 0⟩
/-- spec/22: GLOBAL.FUSED_HI [31:0], no class, RO. -/
def GLOBAL_FUSED_HI : Fld := ⟨0x44, 0, 32, 0⟩
/-- spec/22: GLOBAL.GPIO_DIR.DIR [15:0], L RW. -/
def GLOBAL_GPIO_DIR_DIR : Fld := ⟨0x50, 0, 16, 0⟩
/-- spec/22: GLOBAL.GPIO_OUT.OUT [15:0], L RW. -/
def GLOBAL_GPIO_OUT_OUT : Fld := ⟨0x54, 0, 16, 0⟩
/-- spec/22: GLOBAL.GPIO_IN.IN [15:0], no class, RO. -/
def GLOBAL_GPIO_IN_IN : Fld := ⟨0x58, 0, 16, 0⟩
/-- spec/22: GLOBAL.GPIO_RES.RES [15:0], L RW. -/
def GLOBAL_GPIO_RES_RES : Fld := ⟨0x5C, 0, 16, 0⟩
/-- spec/22: HOST.PORT.UP [0:0], no class, RO. -/
def HOST_PORT_UP (j : Nat) : Fld := ⟨0xE0200 + 32 * j, 0, 1, 0⟩
/-- spec/22: HOST.PORT.WIDTH [4:1], no class, RO. -/
def HOST_PORT_WIDTH (j : Nat) : Fld := ⟨0xE0200 + 32 * j, 1, 4, 0⟩
/-- spec/22: HOST.PORT.RATE [7:5], no class, RO. -/
def HOST_PORT_RATE (j : Nat) : Fld := ⟨0xE0200 + 32 * j, 5, 3, 0⟩
/-- spec/22: HOST.PORT.L1 [8:8], no class, RO. -/
def HOST_PORT_L1 (j : Nat) : Fld := ⟨0xE0200 + 32 * j, 8, 1, 0⟩
/-- spec/22: HOST.PORT.PERST [9:9], no class, RO. -/
def HOST_PORT_PERST (j : Nat) : Fld := ⟨0xE0200 + 32 * j, 9, 1, 1⟩
/-- spec/22: HOST.PORT.SRIS [10:10], no class, RO. -/
def HOST_PORT_SRIS (j : Nat) : Fld := ⟨0xE0200 + 32 * j, 10, 1, 0⟩
/-- spec/22: HOST.PORT.CRS [11:11], no class, RO. -/
def HOST_PORT_CRS (j : Nat) : Fld := ⟨0xE0200 + 32 * j, 11, 1, 1⟩
/-- spec/22: HOST.PORT.CORR [15:0], no class, RO. -/
def HOST_PORT_CORR (j : Nat) : Fld := ⟨0xE0204 + 32 * j, 0, 16, 0⟩
/-- spec/22: HOST.PORT.UNCORR [31:16], no class, RO. -/
def HOST_PORT_UNCORR (j : Nat) : Fld := ⟨0xE0204 + 32 * j, 16, 16, 0⟩
/-- spec/22: HOST.PORT.CPL_TO [15:0], no class, RO. -/
def HOST_PORT_CPL_TO (j : Nat) : Fld := ⟨0xE0208 + 32 * j, 0, 16, 0⟩
/-- spec/22: HOST.PORT.UR [31:16], no class, RO. -/
def HOST_PORT_UR (j : Nat) : Fld := ⟨0xE0208 + 32 * j, 16, 16, 0⟩
/-- spec/22: HOST.PORT.L1_EXITS [15:0], no class, RO. -/
def HOST_PORT_L1_EXITS (j : Nat) : Fld := ⟨0xE020C + 32 * j, 0, 16, 0⟩
/-- spec/22: HOST.PORT.DOWN [31:16], no class, RO. -/
def HOST_PORT_DOWN (j : Nat) : Fld := ⟨0xE020C + 32 * j, 16, 16, 0⟩
/-- spec/22: HOST.XS_CNT.COUNT [31:0], no class, RO. -/
def HOST_XS_CNT_COUNT (j : Nat) : Fld := ⟨0xE0300 + 4 * j, 0, 32, 0⟩
/-- spec/22: HOST.XS_LAST.OFFSET [25:0], no class, RO. -/
def HOST_XS_LAST_OFFSET : Fld := ⟨0xE0320, 0, 26, 0⟩
/-- spec/22: HOST.XS_LAST.CTX [28:26], no class, RO. -/
def HOST_XS_LAST_CTX : Fld := ⟨0xE0320, 26, 3, 0⟩
/-- spec/22: HOST.XS_LAST.WRITE [29:29], no class, RO. -/
def HOST_XS_LAST_WRITE : Fld := ⟨0xE0320, 29, 1, 0⟩
/-- spec/22: HOST.XS_LAST.CAUSE [31:30], no class, RO. -/
def HOST_XS_LAST_CAUSE : Fld := ⟨0xE0320, 30, 2, 0⟩
/-- spec/22: MEMC.CTL.CLR_CNT [0:0], L WO. -/
def MEMC_CTL_CLR_CNT : Fld := ⟨0xD0000, 0, 1, 0⟩
/-- spec/22: MEMC.STAT.CH_OK [3:0], no class, RO. -/
def MEMC_STAT_CH_OK : Fld := ⟨0xD0004, 0, 4, 0⟩
/-- spec/22: MEMC.STAT.TRAINED [4:4], no class, RO. -/
def MEMC_STAT_TRAINED : Fld := ⟨0xD0004, 4, 1, 0⟩
/-- spec/22: MEMC.ECC.CORR [15:0], no class, RO. -/
def MEMC_ECC_CORR : Fld := ⟨0xD0008, 0, 16, 0⟩
/-- spec/22: MEMC.ECC.UNCORR [31:16], no class, RO. -/
def MEMC_ECC_UNCORR : Fld := ⟨0xD0008, 16, 16, 0⟩
/-- spec/22: MEMC.ECC_ADDR.ADDR_LO [31:0], no class, RO. -/
def MEMC_ECC_ADDR_ADDR_LO : Fld := ⟨0xD000C, 0, 32, 0⟩
/-- spec/22: MEMC.ECC_ADDR.ADDR_HI [1:0], no class, RO. -/
def MEMC_ECC_ADDR_ADDR_HI : Fld := ⟨0xD0010, 0, 2, 0⟩
/-- spec/22: MEMC.HELD.HELD_NH [15:0], no class, RO. -/
def MEMC_HELD_HELD_NH : Fld := ⟨0xD0014, 0, 16, 0⟩
/-- spec/22: MEMC.HELD.HELD_INSP [31:16], no class, RO. -/
def MEMC_HELD_HELD_INSP : Fld := ⟨0xD0014, 16, 16, 0⟩
/-- spec/02: HOST.OWN_CELL [3:0], S RW. -/
def HOST_OWN_CELL (j : Nat) : Fld := ⟨0xE0100 + 4 * (j / 8), 4 * (j % 8), 4, 15⟩
/-- spec/02: HOST.OWN_AXIS [3:0], S RW. -/
def HOST_OWN_AXIS (j : Nat) : Fld := ⟨0xE0120 + 4 * (j / 8), 4 * (j % 8), 4, 15⟩
/-- spec/02: HOST.OWN_LOOP [3:0], S RW. -/
def HOST_OWN_LOOP (j : Nat) : Fld := ⟨0xE0140 + 4 * (j / 8), 4 * (j % 8), 4, 15⟩
/-- spec/02: HOST.OWN_INSP [3:0], S RW. -/
def HOST_OWN_INSP (j : Nat) : Fld := ⟨0xE0170 + 4 * (j / 8), 4 * (j % 8), 4, 15⟩
/-- spec/02: HOST.OWN_LQ [3:0], S RW. -/
def HOST_OWN_LQ (j : Nat) : Fld := ⟨0xE0174 + 4 * (j / 8), 4 * (j % 8), 4, 15⟩
/-- spec/02: HOST.OWN_ENC [3:0], S RW. -/
def HOST_OWN_ENC (j : Nat) : Fld := ⟨0xE0178 + 4 * (j / 8), 4 * (j % 8), 4, 15⟩
/-- spec/05: CELL.MASK_A [31:0], B:page RW. -/
def CELL_MASK_A (i j : Nat) : Fld := ⟨0x1008000 + 0x10000 * i + 4 * j, 0, 32, 4294967295⟩
/-- spec/05: CELL.MASK_B [31:0], B:page RW. -/
def CELL_MASK_B (i j : Nat) : Fld := ⟨0x100A000 + 0x10000 * i + 4 * j, 0, 32, 4294967295⟩
/-- spec/09: LINK.HEAD_IDENT0 [31:0], no class, RO. -/
def LINK_HEAD_IDENT0 (i j : Nat) : Fld := ⟨0x2000140 + 0x10000 * i + 4 * j, 0, 32, 0⟩
/-- spec/09: LINK.HEAD_IDENT1 [31:0], no class, RO. -/
def LINK_HEAD_IDENT1 (i j : Nat) : Fld := ⟨0x2000160 + 0x10000 * i + 4 * j, 0, 32, 0⟩
/-- spec/09: LINK.HEAD_TLM [31:0], no class, RO. -/
def LINK_HEAD_TLM (i j : Nat) : Fld := ⟨0x2000180 + 0x10000 * i + 4 * j, 0, 32, 0⟩
/-- spec/09: LINK.CMD_RX [31:0], no class, RO. -/
def LINK_CMD_RX (i j : Nat) : Fld := ⟨0x20001A0 + 0x10000 * i + 4 * j, 0, 32, 0⟩
/-- spec/09: LINK.CMD_TX [31:0], L RW. -/
def LINK_CMD_TX (i j : Nat) : Fld := ⟨0x20001C0 + 0x10000 * i + 4 * j, 0, 32, 0⟩
/-- spec/13: AUXPWM.EN [0:0], L RW. -/
def AUXPWM_EN (i : Nat) : Fld := ⟨0xAA100 + 0x8 * i, 0, 1, 0⟩
/-- spec/13: AUXPWM.POL [1:1], S RW. -/
def AUXPWM_POL (i : Nat) : Fld := ⟨0xAA100 + 0x8 * i, 1, 1, 0⟩
/-- spec/13: AUXPWM.PERIOD [31:16], S RW. -/
def AUXPWM_PERIOD (i : Nat) : Fld := ⟨0xAA100 + 0x8 * i, 16, 16, 1000⟩
/-- spec/13: AUXPWM.IDLE [15:0], L RW. -/
def AUXPWM_IDLE (i : Nat) : Fld := ⟨0xAA104 + 0x8 * i, 0, 16, 0⟩
/-- spec/13: AUXPWM.DUTY_NOW [31:16], no class, RO. -/
def AUXPWM_DUTY_NOW (i : Nat) : Fld := ⟨0xAA104 + 0x8 * i, 16, 16, 0⟩
/-- spec/13: AIN.VALUE [15:0], no class, RO. -/
def AIN_VALUE (i : Nat) : Fld := ⟨0xAA200 + 0x4 * i, 0, 16, 0⟩
/-- spec/14: INSP.DEFECT [31:0], no class, RO. -/
def INSP_DEFECT (i j : Nat) : Fld := ⟨0x104000 + 0x10000 * i + 4 * j, 0, 32, 4294967295⟩
/-- spec/14: INSP.SHADING [15:0], no class, RO. -/
def INSP_SHADING (i j : Nat) : Fld := ⟨0x108000 + 0x10000 * i + 4 * (j / 2), 16 * (j % 2), 16, 4096⟩
/-- spec/14: INSP.MATRIX [15:0], no class, RO. -/
def INSP_MATRIX (i j : Nat) : Fld := ⟨0x109C00 + 0x10000 * i + 4 * (j / 2), 16 * (j % 2), 16, (if j = 0 ∨ j = 4 ∨ j = 8 then 0x1000 else 0)⟩
/-- spec/21: LEDGER.HEAD_TEMP_HIST [31:0], no class, RO. -/
def LEDGER_HEAD_TEMP_HIST (j : Nat) : Fld := ⟨0x51000 + 4 * j, 0, 32, 0⟩
/-- spec/21: LEDGER.DIE_TEMP_HIST [31:0], no class, RO. -/
def LEDGER_DIE_TEMP_HIST (j : Nat) : Fld := ⟨0x55000 + 4 * j, 0, 32, 0⟩
/-- spec/21: LEDGER.EYE_HIST [15:0], no class, RO. -/
def LEDGER_EYE_HIST (j : Nat) : Fld := ⟨0x56000 + 4 * (j / 2), 16 * (j % 2), 16, 0⟩
/-- spec/21: LEDGER.GOOSE_CNT [15:0], no class, RO. -/
def LEDGER_GOOSE_CNT (j : Nat) : Fld := ⟨0x57000 + 4 * (j / 2), 16 * (j % 2), 16, 0⟩
/-- spec/21: LEDGER.ENC_FAULTS [15:0], no class, RO. -/
def LEDGER_ENC_FAULTS (j : Nat) : Fld := ⟨0x58000 + 4 * (j / 2), 16 * (j % 2), 16, 0⟩
/-- spec/21: LEDGER.COPY_IDX [3:0], no class, RO. -/
def LEDGER_COPY_IDX : Fld := ⟨0x58040, 0, 4, 0⟩
/-- spec/21: LEDGER.SUP_LOW [15:0], no class, RO. -/
def LEDGER_SUP_LOW (j : Nat) : Fld := ⟨0x58100 + 4 * j, 0, 16, 0⟩
/-- spec/21: LEDGER.SUP_HIGH [31:16], no class, RO. -/
def LEDGER_SUP_HIGH (j : Nat) : Fld := ⟨0x58100 + 4 * j, 16, 16, 0⟩
/-- spec/21: LEDGER.HEAD_VENDOR [15:0], no class, RO. -/
def LEDGER_HEAD_VENDOR (j : Nat) : Fld := ⟨0x58200 + 16 * j, 0, 16, 0⟩
/-- spec/21: LEDGER.HEAD_MODEL [31:16], no class, RO. -/
def LEDGER_HEAD_MODEL (j : Nat) : Fld := ⟨0x58200 + 16 * j, 16, 16, 0⟩
/-- spec/21: LEDGER.HEAD_SERIAL [31:0], no class, RO. -/
def LEDGER_HEAD_SERIAL (j : Nat) : Fld := ⟨0x58204 + 16 * j, 0, 32, 0⟩
/-- spec/21: LEDGER.HEAD_TOTAL_LO [31:0], no class, RO. -/
def LEDGER_HEAD_TOTAL_LO (j : Nat) : Fld := ⟨0x58208 + 16 * j, 0, 32, 0⟩
/-- spec/21: LEDGER.HEAD_TOTAL_HI [31:0], no class, RO. -/
def LEDGER_HEAD_TOTAL_HI (j : Nat) : Fld := ⟨0x5820C + 16 * j, 0, 32, 0⟩
/-- spec/21: LEDGER.COPY [31:0], no class, RO. -/
def LEDGER_COPY (j : Nat) : Fld := ⟨0x58800 + 4 * j, 0, 32, 0⟩

end Sys2Proof.Machine
end

