-- ==== Sys2Proof/Machine/RegTables.lean ====
section
/-!
DEFINITION. The register tables of the spec as rows: for each field its class (R11), its access code (R10) and, for a field
that repeats, how often and at what stride. CONFIG_WRITE and the register read work from these rows.
-/
namespace Sys2Proof.Machine

/-- Field classes (spec/00 R11); `none` is the dash of the tables. -/
inductive Cls | none | s | bLine | bPage | bFrame | bSample | bMove | l
  deriving DecidableEq, Repr

/-- Access codes (spec/00 R10). -/
inductive Acc | rw | ro | wo | w1c | rwl
  deriving DecidableEq, Repr

/-- One row of a register table. `fld i j` is the field of instance `i` and index `j`; there are `count` indices, `per` of
them in each word, words `stride` bytes apart. -/
structure Row where
  name   : String
  fld    : Nat → Nat → Fld
  count  : Nat
  stride : Nat
  per    : Nat
  cls    : Cls
  acc    : Acc

/-- The register table of HOST (spec/02 and 22), part 1. -/
def rowsHost0 : List Row := [
  ⟨"ADMIN.CTX", fun _ _ => HOST_ADMIN_CTX, 1, 0, 1, .l, .rwl⟩,
  ⟨"ADMIN.TAKEOVER", fun _ _ => HOST_ADMIN_TAKEOVER, 1, 0, 1, .l, .rwl⟩,
  ⟨"ADMIN.LOCK", fun _ _ => HOST_ADMIN_LOCK, 1, 0, 1, .l, .rwl⟩,
  ⟨"LMEM_SHARED.BASE", fun _ _ => HOST_LMEM_SHARED_BASE, 1, 0, 1, .s, .rw⟩,
  ⟨"LMEM_SHARED.SIZE", fun _ _ => HOST_LMEM_SHARED_SIZE, 1, 0, 1, .s, .rw⟩,
  ⟨"LMEM_SHARED.EN", fun _ _ => HOST_LMEM_SHARED_EN, 1, 0, 1, .l, .rw⟩,
  ⟨"CTX.EN", fun _ j => HOST_CTX_EN j, 8, 64, 1, .l, .rw⟩,
  ⟨"CTX.LOSS_POLICY", fun _ j => HOST_CTX_LOSS_POLICY j, 8, 64, 1, .s, .rw⟩,
  ⟨"CTX.DB_BASE_LO", fun _ j => HOST_CTX_DB_BASE_LO j, 8, 64, 1, .s, .rw⟩,
  ⟨"CTX.DB_BASE_HI", fun _ j => HOST_CTX_DB_BASE_HI j, 8, 64, 1, .s, .rw⟩,
  ⟨"CTX.POLL_US", fun _ j => HOST_CTX_POLL_US j, 8, 64, 1, .l, .rw⟩,
  ⟨"CTX.KICK", fun _ j => HOST_CTX_KICK j, 8, 64, 1, .l, .wo⟩,
  ⟨"CTX.MS", fun _ j => HOST_CTX_MS j, 8, 64, 1, .l, .rw⟩,
  ⟨"CTX.HOLDOFF", fun _ j => HOST_CTX_HOLDOFF j, 8, 64, 1, .l, .rw⟩,
  ⟨"CTX.COUNT", fun _ j => HOST_CTX_COUNT j, 8, 64, 1, .l, .rw⟩,
  ⟨"CTX.VEC_GEN", fun _ j => HOST_CTX_VEC_GEN j, 8, 64, 1, .l, .rw⟩,
  ⟨"CTX.VEC_FAULT", fun _ j => HOST_CTX_VEC_FAULT j, 8, 64, 1, .l, .rw⟩,
  ⟨"CTX.LMEM_BASE", fun _ j => HOST_CTX_LMEM_BASE j, 8, 64, 1, .s, .rw⟩,
  ⟨"CTX.LMEM_SIZE", fun _ j => HOST_CTX_LMEM_SIZE j, 8, 64, 1, .s, .rw⟩,
  ⟨"CTX.READY", fun _ j => HOST_CTX_READY j, 8, 64, 1, .none, .ro⟩,
  ⟨"CTX.LOST", fun _ j => HOST_CTX_LOST j, 8, 64, 1, .none, .w1c⟩,
  ⟨"CTX.KICK_PEND", fun _ j => HOST_CTX_KICK_PEND j, 8, 64, 1, .none, .ro⟩,
  ⟨"CTX.FETCH_ERR", fun _ j => HOST_CTX_FETCH_ERR j, 8, 64, 1, .none, .w1c⟩,
  ⟨"CTX.LOSS_CAUSE", fun _ j => HOST_CTX_LOSS_CAUSE j, 8, 64, 1, .none, .ro⟩,
  ⟨"CTX.SYNC_DROPS", fun _ j => HOST_CTX_SYNC_DROPS j, 8, 64, 1, .none, .ro⟩,
  ⟨"CTX.EVT_LOST", fun _ j => HOST_CTX_EVT_LOST j, 8, 64, 1, .none, .ro⟩,
  ⟨"RING.BASE_LO", fun _ j => HOST_RING_BASE_LO j, 160, 16, 1, .s, .rw⟩,
  ⟨"RING.BASE_HI", fun _ j => HOST_RING_BASE_HI j, 160, 16, 1, .s, .rw⟩,
  ⟨"RING.EN", fun _ j => HOST_RING_EN j, 160, 16, 1, .l, .rw⟩,
  ⟨"RING.ABORT", fun _ j => HOST_RING_ABORT j, 160, 16, 1, .l, .wo⟩,
  ⟨"RING.SIZE_LOG2", fun _ j => HOST_RING_SIZE_LOG2 j, 160, 16, 1, .s, .rw⟩,
  ⟨"RING.CI_WB", fun _ j => HOST_RING_CI_WB j, 160, 16, 1, .s, .rw⟩,
  ⟨"RING.VEC", fun _ j => HOST_RING_VEC j, 160, 16, 1, .l, .rw⟩,
  ⟨"RING.CI", fun _ j => HOST_RING_CI j, 160, 16, 1, .none, .ro⟩,
  ⟨"RING.RUN", fun _ j => HOST_RING_RUN j, 160, 16, 1, .none, .ro⟩,
  ⟨"RING.ERR", fun _ j => HOST_RING_ERR j, 160, 16, 1, .none, .ro⟩,
  ⟨"RING.ERR_CODE", fun _ j => HOST_RING_ERR_CODE j, 160, 16, 1, .none, .ro⟩,
  ⟨"RING.HELD", fun _ j => HOST_RING_HELD j, 160, 16, 1, .none, .ro⟩,
  ⟨"PORT.UP", fun _ j => HOST_PORT_UP j, 2, 32, 1, .none, .ro⟩,
  ⟨"PORT.WIDTH", fun _ j => HOST_PORT_WIDTH j, 2, 32, 1, .none, .ro⟩]

/-- The register table of HOST (spec/02 and 22), part 2. -/
def rowsHost1 : List Row := [
  ⟨"PORT.RATE", fun _ j => HOST_PORT_RATE j, 2, 32, 1, .none, .ro⟩,
  ⟨"PORT.L1", fun _ j => HOST_PORT_L1 j, 2, 32, 1, .none, .ro⟩,
  ⟨"PORT.PERST", fun _ j => HOST_PORT_PERST j, 2, 32, 1, .none, .ro⟩,
  ⟨"PORT.SRIS", fun _ j => HOST_PORT_SRIS j, 2, 32, 1, .none, .ro⟩,
  ⟨"PORT.CRS", fun _ j => HOST_PORT_CRS j, 2, 32, 1, .none, .ro⟩,
  ⟨"PORT.CORR", fun _ j => HOST_PORT_CORR j, 2, 32, 1, .none, .ro⟩,
  ⟨"PORT.UNCORR", fun _ j => HOST_PORT_UNCORR j, 2, 32, 1, .none, .ro⟩,
  ⟨"PORT.CPL_TO", fun _ j => HOST_PORT_CPL_TO j, 2, 32, 1, .none, .ro⟩,
  ⟨"PORT.UR", fun _ j => HOST_PORT_UR j, 2, 32, 1, .none, .ro⟩,
  ⟨"PORT.L1_EXITS", fun _ j => HOST_PORT_L1_EXITS j, 2, 32, 1, .none, .ro⟩,
  ⟨"PORT.DOWN", fun _ j => HOST_PORT_DOWN j, 2, 32, 1, .none, .ro⟩,
  ⟨"XS_CNT.COUNT", fun _ j => HOST_XS_CNT_COUNT j, 8, 4, 1, .none, .ro⟩,
  ⟨"XS_LAST.OFFSET", fun _ _ => HOST_XS_LAST_OFFSET, 1, 0, 1, .none, .ro⟩,
  ⟨"XS_LAST.CTX", fun _ _ => HOST_XS_LAST_CTX, 1, 0, 1, .none, .ro⟩,
  ⟨"XS_LAST.WRITE", fun _ _ => HOST_XS_LAST_WRITE, 1, 0, 1, .none, .ro⟩,
  ⟨"XS_LAST.CAUSE", fun _ _ => HOST_XS_LAST_CAUSE, 1, 0, 1, .none, .ro⟩,
  ⟨"OWN_CELL", fun _ j => HOST_OWN_CELL j, 64, 4, 8, .s, .rw⟩,
  ⟨"OWN_AXIS", fun _ j => HOST_OWN_AXIS j, 8, 4, 8, .s, .rw⟩,
  ⟨"OWN_LOOP", fun _ j => HOST_OWN_LOOP j, 80, 4, 8, .s, .rw⟩,
  ⟨"OWN_INSP", fun _ j => HOST_OWN_INSP j, 4, 4, 8, .s, .rw⟩,
  ⟨"OWN_LQ", fun _ j => HOST_OWN_LQ j, 8, 4, 8, .s, .rw⟩,
  ⟨"OWN_ENC", fun _ j => HOST_OWN_ENC j, 4, 4, 8, .s, .rw⟩]

/-- The whole register table of HOST. -/
def rowsHost : List Row := rowsHost0 ++ rowsHost1

/-- The register table of NOUGAT (spec/04). -/
def rowsNougat : List Row := [
  ⟨"CTL.EN", fun _ _ => NOUGAT_CTL_EN, 1, 0, 1, .l, .rw⟩,
  ⟨"CTL.CRUMB_FENCE", fun _ _ => NOUGAT_CTL_CRUMB_FENCE, 1, 0, 1, .l, .rw⟩,
  ⟨"LANE_CTL.DISABLE", fun _ _ => NOUGAT_LANE_CTL_DISABLE, 1, 0, 1, .s, .rw⟩,
  ⟨"LANE_CTL.RESTORE", fun _ _ => NOUGAT_LANE_CTL_RESTORE, 1, 0, 1, .l, .wo⟩,
  ⟨"LANE_STAT.BUSY", fun _ _ => NOUGAT_LANE_STAT_BUSY, 1, 0, 1, .none, .ro⟩,
  ⟨"LANE_STAT.FENCED", fun _ _ => NOUGAT_LANE_STAT_FENCED, 1, 0, 1, .none, .ro⟩,
  ⟨"STAT_BLOCKS", fun _ _ => NOUGAT_STAT_BLOCKS, 1, 0, 1, .none, .ro⟩,
  ⟨"STAT_CRUMB", fun _ _ => NOUGAT_STAT_CRUMB, 1, 0, 1, .none, .ro⟩,
  ⟨"STAT_STORED", fun _ _ => NOUGAT_STAT_STORED, 1, 0, 1, .none, .ro⟩,
  ⟨"SCHED.WEIGHT", fun _ j => NOUGAT_SCHED_WEIGHT j, 8, 4, 1, .s, .rw⟩,
  ⟨"SCHED.MAX_LANES", fun _ j => NOUGAT_SCHED_MAX_LANES j, 8, 4, 1, .s, .rw⟩,
  ⟨"ARENA.EN", fun _ j => NOUGAT_ARENA_EN j, 8, 32, 1, .l, .rw⟩,
  ⟨"ARENA.EVT_FULL", fun _ j => NOUGAT_ARENA_EVT_FULL j, 8, 32, 1, .l, .rw⟩,
  ⟨"ARENA.BASE", fun _ j => NOUGAT_ARENA_BASE j, 8, 32, 1, .s, .rw⟩,
  ⟨"ARENA.SIZE", fun _ j => NOUGAT_ARENA_SIZE j, 8, 32, 1, .s, .rw⟩,
  ⟨"ARENA.HEAD", fun _ j => NOUGAT_ARENA_HEAD j, 8, 32, 1, .none, .ro⟩,
  ⟨"ARENA.TAIL", fun _ j => NOUGAT_ARENA_TAIL j, 8, 32, 1, .l, .rw⟩,
  ⟨"ARENA.FULL", fun _ j => NOUGAT_ARENA_FULL j, 8, 32, 1, .none, .ro⟩,
  ⟨"ARENA.WRAPPED", fun _ j => NOUGAT_ARENA_WRAPPED j, 8, 32, 1, .none, .w1c⟩,
  ⟨"ARENA.WAITING", fun _ j => NOUGAT_ARENA_WAITING j, 8, 32, 1, .none, .ro⟩]

/-- The register table of CELL (spec/05, 06 and 15), part 1. -/
def rowsCell0 : List Row := [
  ⟨"CTL.EN", fun i _ => CELL_CTL_EN i, 1, 0, 1, .l, .rw⟩,
  ⟨"CTL.MUTE", fun i _ => CELL_CTL_MUTE i, 1, 0, 1, .bLine, .rw⟩,
  ⟨"CTL.PREFETCH", fun i _ => CELL_CTL_PREFETCH i, 1, 0, 1, .s, .rw⟩,
  ⟨"CTL.GANG", fun i _ => CELL_CTL_GANG i, 1, 0, 1, .s, .rw⟩,
  ⟨"CTL.MIRROR", fun i _ => CELL_CTL_MIRROR i, 1, 0, 1, .s, .rw⟩,
  ⟨"CTL.RELEASE", fun i _ => CELL_CTL_RELEASE i, 1, 0, 1, .l, .wo⟩,
  ⟨"CTL.SWAP_REQ", fun i _ => CELL_CTL_SWAP_REQ i, 1, 0, 1, .l, .wo⟩,
  ⟨"STATE.STATE", fun i _ => CELL_STATE_STATE i, 1, 0, 1, .none, .ro⟩,
  ⟨"STATE.NEXT_TAKEN", fun i _ => CELL_STATE_NEXT_TAKEN i, 1, 0, 1, .none, .ro⟩,
  ⟨"STATE.GANG_ROLE", fun i _ => CELL_STATE_GANG_ROLE i, 1, 0, 1, .none, .ro⟩,
  ⟨"STATE.FENCE_CAUSE", fun i _ => CELL_STATE_FENCE_CAUSE i, 1, 0, 1, .none, .ro⟩,
  ⟨"STATE.MUTED", fun i _ => CELL_STATE_MUTED i, 1, 0, 1, .none, .ro⟩,
  ⟨"GEOM.NOZZLES", fun i _ => CELL_GEOM_NOZZLES i, 1, 0, 1, .s, .rw⟩,
  ⟨"GEOM.ROWS", fun i _ => CELL_GEOM_ROWS i, 1, 0, 1, .s, .rw⟩,
  ⟨"GEOM.LAYOUT", fun i _ => CELL_GEOM_LAYOUT i, 1, 0, 1, .s, .rw⟩,
  ⟨"WIN.BASE", fun i _ => CELL_WIN_BASE i, 1, 0, 1, .bPage, .rw⟩,
  ⟨"WIN.WIDTH", fun i _ => CELL_WIN_WIDTH i, 1, 0, 1, .bPage, .rw⟩,
  ⟨"LB_CTL.WM_LOW", fun i _ => CELL_LB_CTL_WM_LOW i, 1, 0, 1, .l, .rw⟩,
  ⟨"LB_CTL.EVT_LOW", fun i _ => CELL_LB_CTL_EVT_LOW i, 1, 0, 1, .l, .rw⟩,
  ⟨"LB_STAT.CAP", fun i _ => CELL_LB_STAT_CAP i, 1, 0, 1, .none, .ro⟩,
  ⟨"LB_STAT.READY", fun i _ => CELL_LB_STAT_READY i, 1, 0, 1, .none, .ro⟩,
  ⟨"LB_STAT.LOW", fun i _ => CELL_LB_STAT_LOW i, 1, 0, 1, .none, .ro⟩,
  ⟨"LB_SPAN.SPAN", fun i _ => CELL_LB_SPAN_SPAN i, 1, 0, 1, .none, .ro⟩,
  ⟨"BANK_STAT.FG", fun i _ => CELL_BANK_STAT_FG i, 1, 0, 1, .none, .ro⟩,
  ⟨"BANK_STAT.BG_STATE", fun i _ => CELL_BANK_STAT_BG_STATE i, 1, 0, 1, .none, .ro⟩,
  ⟨"BANK_STAT.SWAP_PEND", fun i _ => CELL_BANK_STAT_SWAP_PEND i, 1, 0, 1, .none, .ro⟩,
  ⟨"BANK_STAT.BG_WR_DROP", fun i _ => CELL_BANK_STAT_BG_WR_DROP i, 1, 0, 1, .none, .ro⟩,
  ⟨"SWAP_LINE", fun i _ => CELL_SWAP_LINE i, 1, 0, 1, .none, .ro⟩,
  ⟨"SWAP_COUNT", fun i _ => CELL_SWAP_COUNT i, 1, 0, 1, .none, .ro⟩,
  ⟨"LINE", fun i _ => CELL_LINE i, 1, 0, 1, .none, .ro⟩,
  ⟨"CNT_MUTE", fun i _ => CELL_CNT_MUTE i, 1, 0, 1, .none, .ro⟩,
  ⟨"CNT_UNDERRUN", fun i _ => CELL_CNT_UNDERRUN i, 1, 0, 1, .none, .ro⟩,
  ⟨"CNT_ECC.CORR", fun i _ => CELL_CNT_ECC_CORR i, 1, 0, 1, .none, .ro⟩,
  ⟨"CNT_ECC.UNCORR", fun i _ => CELL_CNT_ECC_UNCORR i, 1, 0, 1, .none, .ro⟩,
  ⟨"TEMP_LIM.TEMP_WARN", fun i _ => CELL_TEMP_LIM_TEMP_WARN i, 1, 0, 1, .l, .rw⟩,
  ⟨"TEMP_LIM.TEMP_TRIP", fun i _ => CELL_TEMP_LIM_TEMP_TRIP i, 1, 0, 1, .l, .rw⟩,
  ⟨"TEMP_CLR.TEMP_CLEAR", fun i _ => CELL_TEMP_CLR_TEMP_CLEAR i, 1, 0, 1, .l, .rw⟩,
  ⟨"TEMP_CLR.HOLD_TIME", fun i _ => CELL_TEMP_CLR_HOLD_TIME i, 1, 0, 1, .l, .rw⟩,
  ⟨"TEMP_CLR.PAUSE_BAR", fun i _ => CELL_TEMP_CLR_PAUSE_BAR i, 1, 0, 1, .l, .rw⟩,
  ⟨"TEMP_STAT.TEMP", fun i _ => CELL_TEMP_STAT_TEMP i, 1, 0, 1, .none, .ro⟩]

/-- The register table of CELL (spec/05, 06 and 15), part 2. -/
def rowsCell1 : List Row := [
  ⟨"TEMP_STAT.WARN", fun i _ => CELL_TEMP_STAT_WARN i, 1, 0, 1, .none, .ro⟩,
  ⟨"TEMP_STAT.TRIP", fun i _ => CELL_TEMP_STAT_TRIP i, 1, 0, 1, .none, .ro⟩,
  ⟨"FE_CTL.SRC", fun i _ => CELL_FE_CTL_SRC i, 1, 0, 1, .bPage, .rw⟩,
  ⟨"FE_CTL.MODE", fun i _ => CELL_FE_CTL_MODE i, 1, 0, 1, .s, .rw⟩,
  ⟨"FE_CTL.ABS", fun i _ => CELL_FE_CTL_ABS i, 1, 0, 1, .bPage, .rw⟩,
  ⟨"FE_CTL.FIRE_EN_REQ", fun i _ => CELL_FE_CTL_FIRE_EN_REQ i, 1, 0, 1, .l, .rw⟩,
  ⟨"FE_CTL.DOMAIN_ID", fun i _ => CELL_FE_CTL_DOMAIN_ID i, 1, 0, 1, .bPage, .rw⟩,
  ⟨"FE_CTL.SOFT_TRIG", fun i _ => CELL_FE_CTL_SOFT_TRIG i, 1, 0, 1, .l, .wo⟩,
  ⟨"FE_ROWS.EN", fun i _ => CELL_FE_ROWS_EN i, 1, 0, 1, .bPage, .rw⟩,
  ⟨"FE_PITCH.INT", fun i _ => CELL_FE_PITCH_INT i, 1, 0, 1, .bPage, .rw⟩,
  ⟨"FE_PITCH.FRAC", fun i _ => CELL_FE_PITCH_FRAC i, 1, 0, 1, .bPage, .rw⟩,
  ⟨"FE.CELL_OFF", fun i _ => CELL_FE_CELL_OFF i, 1, 0, 1, .bPage, .rw⟩,
  ⟨"FE.DIR_OFF_F", fun i _ => CELL_FE_DIR_OFF_F i, 1, 0, 1, .bPage, .rw⟩,
  ⟨"FE.DIR_OFF_R", fun i _ => CELL_FE_DIR_OFF_R i, 1, 0, 1, .bPage, .rw⟩,
  ⟨"FE.START_DIST", fun i _ => CELL_FE_START_DIST i, 1, 0, 1, .bPage, .rw⟩,
  ⟨"FE_START_POS_F.LO", fun i _ => CELL_FE_START_POS_F_LO i, 1, 0, 1, .bPage, .rw⟩,
  ⟨"FE_START_POS_R.LO", fun i _ => CELL_FE_START_POS_R_LO i, 1, 0, 1, .bPage, .rw⟩,
  ⟨"FE_START_POS_F.HI", fun i _ => CELL_FE_START_POS_F_HI i, 1, 0, 1, .bPage, .rw⟩,
  ⟨"FE_START_POS_R.HI", fun i _ => CELL_FE_START_POS_R_HI i, 1, 0, 1, .bPage, .rw⟩,
  ⟨"FE.FLIGHT", fun i _ => CELL_FE_FLIGHT i, 1, 0, 1, .bPage, .rw⟩,
  ⟨"FE.LEAD", fun i _ => CELL_FE_LEAD i, 1, 0, 1, .bPage, .rw⟩,
  ⟨"FE.LINE_MIN", fun i _ => CELL_FE_LINE_MIN i, 1, 0, 1, .bPage, .rw⟩,
  ⟨"FE.LAG_MAX", fun i _ => CELL_FE_LAG_MAX i, 1, 0, 1, .bPage, .rw⟩,
  ⟨"FE_CORR.CORR_MIN", fun i _ => CELL_FE_CORR_CORR_MIN i, 1, 0, 1, .l, .rw⟩,
  ⟨"FE_CORR.CORR_INT", fun i _ => CELL_FE_CORR_CORR_INT i, 1, 0, 1, .l, .rw⟩,
  ⟨"FE_VMIN.VMIN", fun i _ => CELL_FE_VMIN_VMIN i, 1, 0, 1, .bPage, .rw⟩,
  ⟨"FE_ROW_OFF", fun i j => CELL_FE_ROW_OFF i j, 8, 4, 1, .bPage, .rw⟩,
  ⟨"FE_STAT.SRC_VALID", fun i _ => CELL_FE_STAT_SRC_VALID i, 1, 0, 1, .none, .ro⟩,
  ⟨"FE_STAT.SWITCHED", fun i _ => CELL_FE_STAT_SWITCHED i, 1, 0, 1, .none, .w1c⟩,
  ⟨"FE_STAT.DIR", fun i _ => CELL_FE_STAT_DIR i, 1, 0, 1, .none, .ro⟩,
  ⟨"FE_STAT.DUE", fun i _ => CELL_FE_STAT_DUE i, 1, 0, 1, .none, .ro⟩,
  ⟨"FE_STAT.LAGGING", fun i _ => CELL_FE_STAT_LAGGING i, 1, 0, 1, .none, .ro⟩,
  ⟨"FE_STAT.STOP_FIRE", fun i _ => CELL_FE_STAT_STOP_FIRE i, 1, 0, 1, .none, .ro⟩,
  ⟨"FE_STAT.FIRE_EN", fun i _ => CELL_FE_STAT_FIRE_EN i, 1, 0, 1, .none, .ro⟩,
  ⟨"FE_STAT.STALLED", fun i _ => CELL_FE_STAT_STALLED i, 1, 0, 1, .none, .ro⟩,
  ⟨"FE_STAT.SKIP_CAUSE", fun i _ => CELL_FE_STAT_SKIP_CAUSE i, 1, 0, 1, .none, .ro⟩,
  ⟨"FE_P0.P0_LO", fun i _ => CELL_FE_P0_P0_LO i, 1, 0, 1, .none, .ro⟩,
  ⟨"FE_P0.P0_HI", fun i _ => CELL_FE_P0_P0_HI i, 1, 0, 1, .none, .ro⟩,
  ⟨"FE_LAG.LAG", fun i _ => CELL_FE_LAG_LAG i, 1, 0, 1, .none, .ro⟩,
  ⟨"FE_PERIOD.PERIOD", fun i _ => CELL_FE_PERIOD_PERIOD i, 1, 0, 1, .none, .ro⟩]

/-- The register table of CELL (spec/05, 06 and 15), part 3. -/
def rowsCell2 : List Row := [
  ⟨"FE_CNT_SKIP.SKIP_OVS", fun i _ => CELL_FE_CNT_SKIP_SKIP_OVS i, 1, 0, 1, .none, .ro⟩,
  ⟨"FE_CNT_SKIP.SKIP_LATE", fun i _ => CELL_FE_CNT_SKIP_SKIP_LATE i, 1, 0, 1, .none, .ro⟩,
  ⟨"FE_CNT_CORR.CORR", fun i _ => CELL_FE_CNT_CORR_CORR i, 1, 0, 1, .none, .ro⟩,
  ⟨"FE_CNT_TRIG.IGN", fun i _ => CELL_FE_CNT_TRIG_IGN i, 1, 0, 1, .none, .ro⟩,
  ⟨"FE_CNT_TRIG.WITHDRAW", fun i _ => CELL_FE_CNT_TRIG_WITHDRAW i, 1, 0, 1, .none, .ro⟩,
  ⟨"FE_LAST_FIRE.FIRE_LO", fun i _ => CELL_FE_LAST_FIRE_FIRE_LO i, 1, 0, 1, .none, .ro⟩,
  ⟨"FE_LAST_FIRE.FIRE_HI", fun i _ => CELL_FE_LAST_FIRE_FIRE_HI i, 1, 0, 1, .none, .ro⟩,
  ⟨"NH_CTL.MODE", fun i _ => CELL_NH_CTL_MODE i, 1, 0, 1, .l, .rw⟩,
  ⟨"NH_CTL.OVERLAY", fun i _ => CELL_NH_CTL_OVERLAY i, 1, 0, 1, .s, .rw⟩,
  ⟨"NH_CTL.APPLY", fun i _ => CELL_NH_CTL_APPLY i, 1, 0, 1, .l, .wo⟩,
  ⟨"NH_CTL.CLEAR", fun i _ => CELL_NH_CTL_CLEAR i, 1, 0, 1, .l, .wo⟩,
  ⟨"NH_CTL.VETO_HOLD", fun i _ => CELL_NH_CTL_VETO_HOLD i, 1, 0, 1, .l, .rw⟩,
  ⟨"NH_POL.RULE_LO", fun i _ => CELL_NH_POL_RULE_LO i, 1, 0, 1, .l, .rw⟩,
  ⟨"NH_POL.RULE_HI", fun i _ => CELL_NH_POL_RULE_HI i, 1, 0, 1, .l, .rw⟩,
  ⟨"NH_POL.RULE_ONE", fun i _ => CELL_NH_POL_RULE_ONE i, 1, 0, 1, .l, .rw⟩,
  ⟨"NH_LADDER.BLANK", fun i _ => CELL_NH_LADDER_BLANK i, 1, 0, 1, .bPage, .rw⟩,
  ⟨"NH_SLOT.EN", fun i j => CELL_NH_SLOT_EN i j, 2, 16, 1, .s, .rw⟩,
  ⟨"NH_SLOT.PIPE", fun i j => CELL_NH_SLOT_PIPE i j, 2, 16, 1, .s, .rw⟩,
  ⟨"NH_SLOT.TRACK", fun i j => CELL_NH_SLOT_TRACK i j, 2, 16, 1, .l, .rw⟩,
  ⟨"NH_SLOT.NZ_FIRST", fun i j => CELL_NH_SLOT_NZ_FIRST i j, 2, 16, 1, .s, .rw⟩,
  ⟨"NH_SLOT.NZ_LAST", fun i j => CELL_NH_SLOT_NZ_LAST i j, 2, 16, 1, .s, .rw⟩,
  ⟨"NH_SLOT.X0", fun i j => CELL_NH_SLOT_X0 i j, 2, 16, 1, .l, .rw⟩,
  ⟨"NH_SLOT.DXN", fun i j => CELL_NH_SLOT_DXN i j, 2, 16, 1, .s, .rw⟩,
  ⟨"NH_STAT.LAST_SEQ", fun i _ => CELL_NH_STAT_LAST_SEQ i, 1, 0, 1, .none, .ro⟩,
  ⟨"NH_STAT.SKIP_CAUSE", fun i _ => CELL_NH_STAT_SKIP_CAUSE i, 1, 0, 1, .none, .ro⟩,
  ⟨"NH_STAT.REG_IDLE", fun i _ => CELL_NH_STAT_REG_IDLE i, 1, 0, 1, .none, .ro⟩,
  ⟨"NH_STAT.LAST_LINE", fun i _ => CELL_NH_STAT_LAST_LINE i, 1, 0, 1, .none, .ro⟩,
  ⟨"NH_CNT.OUT", fun i _ => CELL_NH_CNT_OUT i, 1, 0, 1, .none, .ro⟩,
  ⟨"NH_CNT.UNCOVERED", fun i _ => CELL_NH_CNT_UNCOVERED i, 1, 0, 1, .none, .ro⟩,
  ⟨"NH_VETO.VETO", fun i _ => CELL_NH_VETO_VETO i, 1, 0, 1, .l, .wo⟩,
  ⟨"NH.PIN", fun i j => CELL_NH_PIN i j, 2048, 4, 16, .l, .rw⟩,
  ⟨"NZ_STAT", fun i j => CELL_NZ_STAT i j, 2048, 4, 2, .none, .ro⟩,
  ⟨"MASK_A", fun i j => CELL_MASK_A i j, 2048, 4, 1, .bPage, .rw⟩,
  ⟨"MASK_B", fun i j => CELL_MASK_B i j, 2048, 4, 1, .bPage, .rw⟩]

/-- The whole register table of CELL. -/
def rowsCell : List Row := rowsCell0 ++ rowsCell1 ++ rowsCell2

/-- The register table of MARK (spec/06 R175). -/
def rowsMark : List Row := [
  ⟨"EN", fun i _ => MARK_EN i, 1, 0, 1, .l, .rw⟩,
  ⟨"FILT", fun i _ => MARK_FILT i, 1, 0, 1, .s, .rw⟩,
  ⟨"RISE_SEQ", fun i _ => MARK_RISE_SEQ i, 1, 0, 1, .none, .ro⟩,
  ⟨"FALL_SEQ", fun i _ => MARK_FALL_SEQ i, 1, 0, 1, .none, .ro⟩,
  ⟨"RISE_TIME_LO", fun i _ => MARK_RISE_TIME_LO i, 1, 0, 1, .none, .ro⟩,
  ⟨"RISE_TIME_HI", fun i _ => MARK_RISE_TIME_HI i, 1, 0, 1, .none, .ro⟩,
  ⟨"FALL_TIME_LO", fun i _ => MARK_FALL_TIME_LO i, 1, 0, 1, .none, .ro⟩,
  ⟨"FALL_TIME_HI", fun i _ => MARK_FALL_TIME_HI i, 1, 0, 1, .none, .ro⟩,
  ⟨"RISE_POS_LO", fun i j => MARK_RISE_POS_LO i j, 4, 8, 1, .none, .ro⟩,
  ⟨"RISE_POS_HI", fun i j => MARK_RISE_POS_HI i j, 4, 8, 1, .none, .ro⟩,
  ⟨"FALL_POS_LO", fun i j => MARK_FALL_POS_LO i j, 4, 8, 1, .none, .ro⟩,
  ⟨"FALL_POS_HI", fun i j => MARK_FALL_POS_HI i j, 4, 8, 1, .none, .ro⟩]

/-- The register table of GOV (spec/07). -/
def rowsGov : List Row := [
  ⟨"CTL.EN", fun _ _ => GOV_CTL_EN, 1, 0, 1, .l, .rw⟩,
  ⟨"CTL.SLOW_EN", fun _ _ => GOV_CTL_SLOW_EN, 1, 0, 1, .l, .rw⟩,
  ⟨"CTL.STOP_EN", fun _ _ => GOV_CTL_STOP_EN, 1, 0, 1, .l, .rw⟩,
  ⟨"CTL.STOP_ON_UNDERRUN", fun _ _ => GOV_CTL_STOP_ON_UNDERRUN, 1, 0, 1, .l, .rw⟩,
  ⟨"CTL.SW_STOP", fun _ _ => GOV_CTL_SW_STOP, 1, 0, 1, .l, .rw⟩,
  ⟨"CELL_EN_LO", fun _ _ => GOV_CELL_EN_LO, 1, 0, 1, .l, .rw⟩,
  ⟨"CELL_EN_HI", fun _ _ => GOV_CELL_EN_HI, 1, 0, 1, .l, .rw⟩,
  ⟨"TTS_WARN", fun _ _ => GOV_TTS_WARN, 1, 0, 1, .l, .rw⟩,
  ⟨"TTS_STOP", fun _ _ => GOV_TTS_STOP, 1, 0, 1, .l, .rw⟩,
  ⟨"OVS_PCT", fun _ _ => GOV_OVS_PCT, 1, 0, 1, .l, .rw⟩,
  ⟨"V_NOM", fun _ _ => GOV_V_NOM, 1, 0, 1, .l, .rw⟩,
  ⟨"DEM_CTL.RISE", fun _ _ => GOV_DEM_CTL_RISE, 1, 0, 1, .l, .rw⟩,
  ⟨"DEM_CTL.THERM", fun _ _ => GOV_DEM_CTL_THERM, 1, 0, 1, .l, .rw⟩,
  ⟨"SW_DEM.SW_DEM", fun _ _ => GOV_SW_DEM_SW_DEM, 1, 0, 1, .l, .rw⟩,
  ⟨"PWM.PERIOD", fun _ _ => GOV_PWM_PERIOD, 1, 0, 1, .bFrame, .rw⟩,
  ⟨"NET_EN", fun _ _ => GOV_NET_EN, 1, 0, 1, .l, .rw⟩,
  ⟨"NET_PORT", fun _ _ => GOV_NET_PORT, 1, 0, 1, .s, .rw⟩,
  ⟨"NET_TPL_LEN", fun _ _ => GOV_NET_TPL_LEN, 1, 0, 1, .s, .rw⟩,
  ⟨"NET_PERIOD", fun _ _ => GOV_NET_PERIOD, 1, 0, 1, .l, .rw⟩,
  ⟨"NET_DELTA", fun _ _ => GOV_NET_DELTA, 1, 0, 1, .l, .rw⟩,
  ⟨"NET_SLOT_OFF", fun _ _ => GOV_NET_SLOT_OFF, 1, 0, 1, .l, .rw⟩,
  ⟨"TPL", fun _ j => GOV_TPL j, 7, 4, 1, .s, .rw⟩,
  ⟨"STAT.DEMAND", fun _ _ => GOV_STAT_DEMAND, 1, 0, 1, .none, .ro⟩,
  ⟨"STAT.SLOW", fun _ _ => GOV_STAT_SLOW, 1, 0, 1, .none, .ro⟩,
  ⟨"STAT.STOP", fun _ _ => GOV_STAT_STOP, 1, 0, 1, .none, .ro⟩,
  ⟨"STAT.LATCH", fun _ _ => GOV_STAT_LATCH, 1, 0, 1, .none, .w1c⟩,
  ⟨"STAT.CAUSE", fun _ _ => GOV_STAT_CAUSE, 1, 0, 1, .none, .ro⟩,
  ⟨"STAT.WORST_CELL", fun _ _ => GOV_STAT_WORST_CELL, 1, 0, 1, .none, .ro⟩,
  ⟨"TTS", fun _ _ => GOV_TTS, 1, 0, 1, .none, .ro⟩,
  ⟨"TTS_MIN", fun _ _ => GOV_TTS_MIN, 1, 0, 1, .none, .w1c⟩,
  ⟨"UNDERRUN", fun _ _ => GOV_UNDERRUN, 1, 0, 1, .none, .ro⟩,
  ⟨"NET_LOST", fun _ _ => GOV_NET_LOST, 1, 0, 1, .none, .ro⟩]

/-- The register table of LINK (spec/08 and 09), part 1. -/
def rowsLink0 : List Row := [
  ⟨"PHY_CTL.EN", fun i _ => LINK_PHY_CTL_EN i, 1, 0, 1, .l, .rw⟩,
  ⟨"PHY_CTL.RATE", fun i _ => LINK_PHY_CTL_RATE i, 1, 0, 1, .s, .rw⟩,
  ⟨"PHY_CTL.TX_INV", fun i _ => LINK_PHY_CTL_TX_INV i, 1, 0, 1, .s, .rw⟩,
  ⟨"PHY_CTL.RX_INV_AUTO", fun i _ => LINK_PHY_CTL_RX_INV_AUTO i, 1, 0, 1, .s, .rw⟩,
  ⟨"PHY_CTL.TX_EQ_AUTO", fun i _ => LINK_PHY_CTL_TX_EQ_AUTO i, 1, 0, 1, .s, .rw⟩,
  ⟨"PHY_CTL.CTLE_AUTO", fun i _ => LINK_PHY_CTL_CTLE_AUTO i, 1, 0, 1, .s, .rw⟩,
  ⟨"PHY_CTL.CDR_BW", fun i _ => LINK_PHY_CTL_CDR_BW i, 1, 0, 1, .s, .rw⟩,
  ⟨"TX_EQ.PRE", fun i _ => LINK_TX_EQ_PRE i, 1, 0, 1, .s, .rw⟩,
  ⟨"TX_EQ.POST", fun i _ => LINK_TX_EQ_POST i, 1, 0, 1, .s, .rw⟩,
  ⟨"TX_EQ.SWING", fun i _ => LINK_TX_EQ_SWING i, 1, 0, 1, .s, .rw⟩,
  ⟨"TX_EQ_STAT.PRE", fun i _ => LINK_TX_EQ_STAT_PRE i, 1, 0, 1, .none, .ro⟩,
  ⟨"TX_EQ_STAT.POST", fun i _ => LINK_TX_EQ_STAT_POST i, 1, 0, 1, .none, .ro⟩,
  ⟨"TX_EQ_STAT.SWING", fun i _ => LINK_TX_EQ_STAT_SWING i, 1, 0, 1, .none, .ro⟩,
  ⟨"TX_EQ_STAT.CLIP", fun i _ => LINK_TX_EQ_STAT_CLIP i, 1, 0, 1, .none, .ro⟩,
  ⟨"TX_EQ_STAT.TRAINED", fun i _ => LINK_TX_EQ_STAT_TRAINED i, 1, 0, 1, .none, .ro⟩,
  ⟨"RX_EQ.CTLE", fun i _ => LINK_RX_EQ_CTLE i, 1, 0, 1, .s, .rw⟩,
  ⟨"RX_EQ.OC_HOLD", fun i _ => LINK_RX_EQ_OC_HOLD i, 1, 0, 1, .l, .rw⟩,
  ⟨"RX_EQ.FI_HOLD", fun i _ => LINK_RX_EQ_FI_HOLD i, 1, 0, 1, .l, .rw⟩,
  ⟨"RX_STAT.CTLE", fun i _ => LINK_RX_STAT_CTLE i, 1, 0, 1, .none, .ro⟩,
  ⟨"RX_STAT.INV", fun i _ => LINK_RX_STAT_INV i, 1, 0, 1, .none, .ro⟩,
  ⟨"RX_STAT.ALIGN", fun i _ => LINK_RX_STAT_ALIGN i, 1, 0, 1, .none, .ro⟩,
  ⟨"RX_STAT.SIGNAL", fun i _ => LINK_RX_STAT_SIGNAL i, 1, 0, 1, .none, .ro⟩,
  ⟨"RX_STAT.FROZEN", fun i _ => LINK_RX_STAT_FROZEN i, 1, 0, 1, .none, .ro⟩,
  ⟨"RX_STAT.OC", fun i _ => LINK_RX_STAT_OC i, 1, 0, 1, .none, .ro⟩,
  ⟨"RX_STAT.FREQ", fun i _ => LINK_RX_STAT_FREQ i, 1, 0, 1, .none, .ro⟩,
  ⟨"PWR_CTL.DS_IDLE", fun i _ => LINK_PWR_CTL_DS_IDLE i, 1, 0, 1, .l, .rw⟩,
  ⟨"PWR_CTL.US_IDLE", fun i _ => LINK_PWR_CTL_US_IDLE i, 1, 0, 1, .l, .rw⟩,
  ⟨"PWR_CTL.DOZE_AFTER", fun i _ => LINK_PWR_CTL_DOZE_AFTER i, 1, 0, 1, .l, .rw⟩,
  ⟨"PWR_STAT.DS", fun i _ => LINK_PWR_STAT_DS i, 1, 0, 1, .none, .ro⟩,
  ⟨"PWR_STAT.US", fun i _ => LINK_PWR_STAT_US i, 1, 0, 1, .none, .ro⟩,
  ⟨"PWR_STAT.WAKES", fun i _ => LINK_PWR_STAT_WAKES i, 1, 0, 1, .none, .ro⟩,
  ⟨"EYE_CTL.MODE", fun i _ => LINK_EYE_CTL_MODE i, 1, 0, 1, .l, .rw⟩,
  ⟨"EYE_CTL.START", fun i _ => LINK_EYE_CTL_START i, 1, 0, 1, .l, .wo⟩,
  ⟨"EYE_CTL.PHASE", fun i _ => LINK_EYE_CTL_PHASE i, 1, 0, 1, .l, .rw⟩,
  ⟨"EYE_CTL.VOFF", fun i _ => LINK_EYE_CTL_VOFF i, 1, 0, 1, .l, .rw⟩,
  ⟨"EYE_CTL.DWELL", fun i _ => LINK_EYE_CTL_DWELL i, 1, 0, 1, .l, .rw⟩,
  ⟨"EYE_CTL.ERR_MAX", fun i _ => LINK_EYE_CTL_ERR_MAX i, 1, 0, 1, .l, .rw⟩,
  ⟨"EYE_AUTO.PERIOD_S", fun i _ => LINK_EYE_AUTO_PERIOD_S i, 1, 0, 1, .l, .rw⟩,
  ⟨"EYE_RES.ERRORS", fun i _ => LINK_EYE_RES_ERRORS i, 1, 0, 1, .none, .ro⟩,
  ⟨"EYE_STAT.DONE", fun i _ => LINK_EYE_STAT_DONE i, 1, 0, 1, .none, .w1c⟩]

/-- The register table of LINK (spec/08 and 09), part 2. -/
def rowsLink1 : List Row := [
  ⟨"EYE_STAT.BUSY", fun i _ => LINK_EYE_STAT_BUSY i, 1, 0, 1, .none, .ro⟩,
  ⟨"EYE_STAT.NO_SIGNAL", fun i _ => LINK_EYE_STAT_NO_SIGNAL i, 1, 0, 1, .none, .ro⟩,
  ⟨"EYE_STAT.EYE_W", fun i _ => LINK_EYE_STAT_EYE_W i, 1, 0, 1, .none, .ro⟩,
  ⟨"EYE_STAT.EYE_H", fun i _ => LINK_EYE_STAT_EYE_H i, 1, 0, 1, .none, .ro⟩,
  ⟨"HEAD_EYE.EYE_W", fun i _ => LINK_HEAD_EYE_EYE_W i, 1, 0, 1, .none, .ro⟩,
  ⟨"HEAD_EYE.EYE_H", fun i _ => LINK_HEAD_EYE_EYE_H i, 1, 0, 1, .none, .ro⟩,
  ⟨"HEAD_EYE.REPORTS", fun i _ => LINK_HEAD_EYE_REPORTS i, 1, 0, 1, .none, .ro⟩,
  ⟨"PHY_CNT.STUFF", fun i _ => LINK_PHY_CNT_STUFF i, 1, 0, 1, .none, .ro⟩,
  ⟨"PHY_CNT.ALIGN", fun i _ => LINK_PHY_CNT_ALIGN i, 1, 0, 1, .none, .ro⟩,
  ⟨"PHY_CNT.LOS", fun i _ => LINK_PHY_CNT_LOS i, 1, 0, 1, .none, .ro⟩,
  ⟨"PHY_CNT.FREEZE", fun i _ => LINK_PHY_CNT_FREEZE i, 1, 0, 1, .none, .ro⟩,
  ⟨"LL_CTL.RETRAIN", fun i _ => LINK_LL_CTL_RETRAIN i, 1, 0, 1, .l, .wo⟩,
  ⟨"LL_CTL.AUTO_RETRAIN", fun i _ => LINK_LL_CTL_AUTO_RETRAIN i, 1, 0, 1, .s, .rw⟩,
  ⟨"LL_CTL.FAST", fun i _ => LINK_LL_CTL_FAST i, 1, 0, 1, .s, .rw⟩,
  ⟨"LL_CTL.AUTH_REQ", fun i _ => LINK_LL_CTL_AUTH_REQ i, 1, 0, 1, .s, .rw⟩,
  ⟨"LL_CTL.RETRAIN_MAX", fun i _ => LINK_LL_CTL_RETRAIN_MAX i, 1, 0, 1, .s, .rw⟩,
  ⟨"LL_TIMING.RETRAIN_DELAY", fun i _ => LINK_LL_TIMING_RETRAIN_DELAY i, 1, 0, 1, .s, .rw⟩,
  ⟨"LL_TIMING.TRAIN_TO", fun i _ => LINK_LL_TIMING_TRAIN_TO i, 1, 0, 1, .s, .rw⟩,
  ⟨"LL_REPLAY.TO", fun i _ => LINK_LL_REPLAY_TO i, 1, 0, 1, .s, .rw⟩,
  ⟨"LL_REPLAY.MAX", fun i _ => LINK_LL_REPLAY_MAX i, 1, 0, 1, .s, .rw⟩,
  ⟨"LL_STAT.STATE", fun i _ => LINK_LL_STAT_STATE i, 1, 0, 1, .none, .ro⟩,
  ⟨"LL_STAT.RATE", fun i _ => LINK_LL_STAT_RATE i, 1, 0, 1, .none, .ro⟩,
  ⟨"LL_STAT.PRESET", fun i _ => LINK_LL_STAT_PRESET i, 1, 0, 1, .none, .ro⟩,
  ⟨"LL_STAT.HALTED", fun i _ => LINK_LL_STAT_HALTED i, 1, 0, 1, .none, .ro⟩,
  ⟨"LL_STAT.TLOCK", fun i _ => LINK_LL_STAT_TLOCK i, 1, 0, 1, .none, .ro⟩,
  ⟨"LL_STAT.AUTHED", fun i _ => LINK_LL_STAT_AUTHED i, 1, 0, 1, .none, .ro⟩,
  ⟨"LL_STAT.DOWN_CAUSE", fun i _ => LINK_LL_STAT_DOWN_CAUSE i, 1, 0, 1, .none, .ro⟩,
  ⟨"LL_STAT.TRAIN_FAIL", fun i _ => LINK_LL_STAT_TRAIN_FAIL i, 1, 0, 1, .none, .ro⟩,
  ⟨"TL_CTL.PERIOD", fun i _ => LINK_TL_CTL_PERIOD i, 1, 0, 1, .l, .rw⟩,
  ⟨"TL_CTL.TOL", fun i _ => LINK_TL_CTL_TOL i, 1, 0, 1, .l, .rw⟩,
  ⟨"TL_CTL.MISS", fun i _ => LINK_TL_CTL_MISS i, 1, 0, 1, .l, .rw⟩,
  ⟨"TL_ASYM", fun i _ => LINK_TL_ASYM i, 1, 0, 1, .l, .rw⟩,
  ⟨"TL_DS", fun i _ => LINK_TL_DS i, 1, 0, 1, .none, .ro⟩,
  ⟨"TL_DLANE", fun i _ => LINK_TL_DLANE i, 1, 0, 1, .none, .ro⟩,
  ⟨"TL_ERR", fun i _ => LINK_TL_ERR i, 1, 0, 1, .none, .ro⟩,
  ⟨"TL_RTT", fun i _ => LINK_TL_RTT i, 1, 0, 1, .none, .ro⟩,
  ⟨"LL_CNT.CRC", fun i _ => LINK_LL_CNT_CRC i, 1, 0, 1, .none, .ro⟩,
  ⟨"LL_CNT.VOID", fun i _ => LINK_LL_CNT_VOID i, 1, 0, 1, .none, .ro⟩,
  ⟨"LL_CNT.TLOST", fun i _ => LINK_LL_CNT_TLOST i, 1, 0, 1, .none, .ro⟩,
  ⟨"LL_CNT.REPLAY", fun i _ => LINK_LL_CNT_REPLAY i, 1, 0, 1, .none, .ro⟩]

/-- The register table of LINK (spec/08 and 09), part 3. -/
def rowsLink2 : List Row := [
  ⟨"LL_CNT.PROTO", fun i _ => LINK_LL_CNT_PROTO i, 1, 0, 1, .none, .ro⟩,
  ⟨"LL_CNT.DOWN", fun i _ => LINK_LL_CNT_DOWN i, 1, 0, 1, .none, .ro⟩,
  ⟨"CMD_CTL.GO", fun i _ => LINK_CMD_CTL_GO i, 1, 0, 1, .l, .wo⟩,
  ⟨"CMD_CTL.BUSY", fun i _ => LINK_CMD_CTL_BUSY i, 1, 0, 1, .none, .ro⟩,
  ⟨"CMD_CTL.DONE", fun i _ => LINK_CMD_CTL_DONE i, 1, 0, 1, .none, .w1c⟩,
  ⟨"CMD_CTL.REFUSED", fun i _ => LINK_CMD_CTL_REFUSED i, 1, 0, 1, .none, .ro⟩,
  ⟨"CMD_CTL.TIMEOUT", fun i _ => LINK_CMD_CTL_TIMEOUT i, 1, 0, 1, .none, .ro⟩,
  ⟨"CMD_CTL.STATUS", fun i _ => LINK_CMD_CTL_STATUS i, 1, 0, 1, .none, .ro⟩,
  ⟨"HEAD_IDENT0", fun i j => LINK_HEAD_IDENT0 i j, 8, 4, 1, .none, .ro⟩,
  ⟨"HEAD_IDENT1", fun i j => LINK_HEAD_IDENT1 i j, 8, 4, 1, .none, .ro⟩,
  ⟨"HEAD_TLM", fun i j => LINK_HEAD_TLM i j, 8, 4, 1, .none, .ro⟩,
  ⟨"CMD_RX", fun i j => LINK_CMD_RX i j, 8, 4, 1, .none, .ro⟩,
  ⟨"CMD_TX", fun i j => LINK_CMD_TX i j, 8, 4, 1, .l, .rw⟩]

/-- The whole register table of LINK. -/
def rowsLink : List Row := rowsLink0 ++ rowsLink1 ++ rowsLink2

/-- The register table of ENC (spec/10 and 11), part 1. -/
def rowsEnc0 : List Row := [
  ⟨"CTL.EN", fun i _ => ENC_CTL_EN i, 1, 0, 1, .l, .rw⟩,
  ⟨"CTL.MODE", fun i _ => ENC_CTL_MODE i, 1, 0, 1, .s, .rw⟩,
  ⟨"CTL.INV", fun i _ => ENC_CTL_INV i, 1, 0, 1, .s, .rw⟩,
  ⟨"CTL.PWR", fun i _ => ENC_CTL_PWR i, 1, 0, 1, .l, .rw⟩,
  ⟨"CTL.REREF", fun i _ => ENC_CTL_REREF i, 1, 0, 1, .l, .rw⟩,
  ⟨"CTL.IDX_EN", fun i _ => ENC_CTL_IDX_EN i, 1, 0, 1, .s, .rw⟩,
  ⟨"CTL.IDX_GATE", fun i _ => ENC_CTL_IDX_GATE i, 1, 0, 1, .s, .rw⟩,
  ⟨"CTL.RESTART", fun i _ => ENC_CTL_RESTART i, 1, 0, 1, .l, .wo⟩,
  ⟨"CFG.EDGE_MIN", fun i _ => ENC_CFG_EDGE_MIN i, 1, 0, 1, .s, .rw⟩,
  ⟨"CFG.WIRE_T", fun i _ => ENC_CFG_WIRE_T i, 1, 0, 1, .s, .rw⟩,
  ⟨"CFG.WIRE_TOL", fun i _ => ENC_CFG_WIRE_TOL i, 1, 0, 1, .s, .rw⟩,
  ⟨"CFG.PWR_SETTLE", fun i _ => ENC_CFG_PWR_SETTLE i, 1, 0, 1, .s, .rw⟩,
  ⟨"OVS_PERIOD", fun i _ => ENC_OVS_PERIOD i, 1, 0, 1, .s, .rw⟩,
  ⟨"SCALE", fun i _ => ENC_SCALE i, 1, 0, 1, .s, .rw⟩,
  ⟨"SCALE.SHIFT", fun i _ => ENC_SCALE_SHIFT i, 1, 0, 1, .s, .rw⟩,
  ⟨"OBS.BW", fun i _ => ENC_OBS_BW i, 1, 0, 1, .bSample, .rw⟩,
  ⟨"OBS.COAST_MAX", fun i _ => ENC_OBS_COAST_MAX i, 1, 0, 1, .l, .rw⟩,
  ⟨"RAD.RAD_MIN", fun i _ => ENC_RAD_RAD_MIN i, 1, 0, 1, .s, .rw⟩,
  ⟨"RAD.RAD_MAX", fun i _ => ENC_RAD_RAD_MAX i, 1, 0, 1, .s, .rw⟩,
  ⟨"IDX_PERIOD", fun i _ => ENC_IDX_PERIOD i, 1, 0, 1, .s, .rw⟩,
  ⟨"IDX_CFG.INDEX_TOL", fun i _ => ENC_IDX_CFG_INDEX_TOL i, 1, 0, 1, .l, .rw⟩,
  ⟨"IDX_CFG.INDEX_STRICT", fun i _ => ENC_IDX_CFG_INDEX_STRICT i, 1, 0, 1, .l, .rw⟩,
  ⟨"IDX_CFG.HIST_SHIFT", fun i _ => ENC_IDX_CFG_HIST_SHIFT i, 1, 0, 1, .l, .rw⟩,
  ⟨"REF.POS_LO", fun i _ => ENC_REF_POS_LO i, 1, 0, 1, .l, .rw⟩,
  ⟨"REF.POS_HI", fun i _ => ENC_REF_POS_HI i, 1, 0, 1, .l, .rw⟩,
  ⟨"STAT.VALID", fun i _ => ENC_STAT_VALID i, 1, 0, 1, .none, .ro⟩,
  ⟨"STAT.ACQ", fun i _ => ENC_STAT_ACQ i, 1, 0, 1, .none, .ro⟩,
  ⟨"STAT.PWR_OK", fun i _ => ENC_STAT_PWR_OK i, 1, 0, 1, .none, .ro⟩,
  ⟨"STAT.COAST", fun i _ => ENC_STAT_COAST i, 1, 0, 1, .none, .ro⟩,
  ⟨"STAT.PRINTING", fun i _ => ENC_STAT_PRINTING i, 1, 0, 1, .none, .ro⟩,
  ⟨"STAT.REF_PEND", fun i _ => ENC_STAT_REF_PEND i, 1, 0, 1, .none, .ro⟩,
  ⟨"STAT.IDX_SEEN", fun i _ => ENC_STAT_IDX_SEEN i, 1, 0, 1, .none, .w1c⟩,
  ⟨"STAT.WIRE", fun i _ => ENC_STAT_WIRE i, 1, 0, 1, .none, .ro⟩,
  ⟨"STAT.CAUSE", fun i _ => ENC_STAT_CAUSE i, 1, 0, 1, .none, .ro⟩,
  ⟨"POS_LO", fun i _ => ENC_POS_LO i, 1, 0, 1, .none, .ro⟩,
  ⟨"POS_HI", fun i _ => ENC_POS_HI i, 1, 0, 1, .none, .ro⟩,
  ⟨"VEL", fun i _ => ENC_VEL i, 1, 0, 1, .none, .ro⟩,
  ⟨"ACC", fun i _ => ENC_ACC i, 1, 0, 1, .none, .ro⟩,
  ⟨"COUNT_LO", fun i _ => ENC_COUNT_LO i, 1, 0, 1, .none, .ro⟩,
  ⟨"COUNT_HI", fun i _ => ENC_COUNT_HI i, 1, 0, 1, .none, .ro⟩]

/-- The register table of ENC (spec/10 and 11), part 2. -/
def rowsEnc1 : List Row := [
  ⟨"POS_OFF_LO", fun i _ => ENC_POS_OFF_LO i, 1, 0, 1, .none, .ro⟩,
  ⟨"POS_OFF_HI", fun i _ => ENC_POS_OFF_HI i, 1, 0, 1, .none, .ro⟩,
  ⟨"CNT0.ILLEGAL", fun i _ => ENC_CNT0_ILLEGAL i, 1, 0, 1, .none, .ro⟩,
  ⟨"CNT0.EDGE", fun i _ => ENC_CNT0_EDGE i, 1, 0, 1, .none, .ro⟩,
  ⟨"CNT1.OVSPER", fun i _ => ENC_CNT1_OVSPER i, 1, 0, 1, .none, .ro⟩,
  ⟨"CNT1.PHASEJ", fun i _ => ENC_CNT1_PHASEJ i, 1, 0, 1, .none, .ro⟩,
  ⟨"CNT2.COASTS", fun i _ => ENC_CNT2_COASTS i, 1, 0, 1, .none, .ro⟩,
  ⟨"CNT2.FAULTS", fun i _ => ENC_CNT2_FAULTS i, 1, 0, 1, .none, .ro⟩,
  ⟨"IDX_LAST_LO", fun i _ => ENC_IDX_LAST_LO i, 1, 0, 1, .none, .ro⟩,
  ⟨"IDX_LAST_HI", fun i _ => ENC_IDX_LAST_HI i, 1, 0, 1, .none, .ro⟩,
  ⟨"IDX_DEV", fun i _ => ENC_IDX_DEV i, 1, 0, 1, .none, .ro⟩,
  ⟨"CNT3.MISSING", fun i _ => ENC_CNT3_MISSING i, 1, 0, 1, .none, .ro⟩,
  ⟨"CNT3.OUTSIDE", fun i _ => ENC_CNT3_OUTSIDE i, 1, 0, 1, .none, .ro⟩,
  ⟨"IDX_HIST", fun i j => ENC_IDX_HIST i j, 16, 4, 1, .none, .ro⟩,
  ⟨"DUAL.EN", fun i _ => ENC_DUAL_EN i, 1, 0, 1, .l, .rw⟩,
  ⟨"DUAL.PRIMARY", fun i _ => ENC_DUAL_PRIMARY i, 1, 0, 1, .s, .rw⟩,
  ⟨"DUAL.REARM", fun i _ => ENC_DUAL_REARM i, 1, 0, 1, .l, .wo⟩,
  ⟨"DUAL.TOL", fun i _ => ENC_DUAL_TOL i, 1, 0, 1, .l, .rw⟩,
  ⟨"DUAL.SAMPLES", fun i _ => ENC_DUAL_SAMPLES i, 1, 0, 1, .l, .rw⟩,
  ⟨"DUAL.TC", fun i _ => ENC_DUAL_TC i, 1, 0, 1, .l, .rw⟩,
  ⟨"DUAL.VALID", fun i _ => ENC_DUAL_VALID i, 1, 0, 1, .none, .ro⟩,
  ⟨"DUAL.ACTIVE", fun i _ => ENC_DUAL_ACTIVE i, 1, 0, 1, .none, .ro⟩,
  ⟨"DUAL.STANDBY_OK", fun i _ => ENC_DUAL_STANDBY_OK i, 1, 0, 1, .none, .ro⟩,
  ⟨"DUAL.EXCLUDED", fun i _ => ENC_DUAL_EXCLUDED i, 1, 0, 1, .none, .ro⟩,
  ⟨"DUAL.SWITCHES", fun i _ => ENC_DUAL_SWITCHES i, 1, 0, 1, .none, .ro⟩,
  ⟨"DUAL.OFF_LO", fun i _ => ENC_DUAL_OFF_LO i, 1, 0, 1, .none, .ro⟩,
  ⟨"DUAL.OFF_HI", fun i _ => ENC_DUAL_OFF_HI i, 1, 0, 1, .none, .ro⟩,
  ⟨"DUAL.DISAGREE", fun i _ => ENC_DUAL_DISAGREE i, 1, 0, 1, .none, .ro⟩,
  ⟨"CAL_CTL.AUTO", fun i _ => ENC_CAL_CTL_AUTO i, 1, 0, 1, .l, .rw⟩,
  ⟨"CAL_CTL.START", fun i _ => ENC_CAL_CTL_START i, 1, 0, 1, .l, .wo⟩,
  ⟨"CAL_CTL.ADC_TRIM", fun i _ => ENC_CAL_CTL_ADC_TRIM i, 1, 0, 1, .l, .rw⟩,
  ⟨"CAL_CTL.HOLD", fun i _ => ENC_CAL_CTL_HOLD i, 1, 0, 1, .l, .rw⟩,
  ⟨"CAL_CTL.LOAD", fun i _ => ENC_CAL_CTL_LOAD i, 1, 0, 1, .l, .wo⟩,
  ⟨"CAL.PERIODS", fun i _ => ENC_CAL_PERIODS i, 1, 0, 1, .l, .rw⟩,
  ⟨"CAL.BIN_MIN", fun i _ => ENC_CAL_BIN_MIN i, 1, 0, 1, .l, .rw⟩,
  ⟨"CAL.DT", fun i _ => ENC_CAL_DT i, 1, 0, 1, .l, .rw⟩,
  ⟨"CAL.TMAX", fun i _ => ENC_CAL_TMAX i, 1, 0, 1, .l, .rw⟩,
  ⟨"CAL_SET.OFF_S", fun i _ => ENC_CAL_SET_OFF_S i, 1, 0, 1, .l, .rw⟩,
  ⟨"CAL_COEF.OFF_S", fun i _ => ENC_CAL_COEF_OFF_S i, 1, 0, 1, .none, .ro⟩,
  ⟨"CAL_SET.OFF_C", fun i _ => ENC_CAL_SET_OFF_C i, 1, 0, 1, .l, .rw⟩]

/-- The register table of ENC (spec/10 and 11), part 3. -/
def rowsEnc2 : List Row := [
  ⟨"CAL_COEF.OFF_C", fun i _ => ENC_CAL_COEF_OFF_C i, 1, 0, 1, .none, .ro⟩,
  ⟨"CAL_SET.GAIN_C", fun i _ => ENC_CAL_SET_GAIN_C i, 1, 0, 1, .l, .rw⟩,
  ⟨"CAL_COEF.GAIN_C", fun i _ => ENC_CAL_COEF_GAIN_C i, 1, 0, 1, .none, .ro⟩,
  ⟨"CAL_SET.PH_SIN", fun i _ => ENC_CAL_SET_PH_SIN i, 1, 0, 1, .l, .rw⟩,
  ⟨"CAL_COEF.PH_SIN", fun i _ => ENC_CAL_COEF_PH_SIN i, 1, 0, 1, .none, .ro⟩,
  ⟨"CAL_SET.PH_SEC", fun i _ => ENC_CAL_SET_PH_SEC i, 1, 0, 1, .l, .rw⟩,
  ⟨"CAL_COEF.PH_SEC", fun i _ => ENC_CAL_COEF_PH_SEC i, 1, 0, 1, .none, .ro⟩,
  ⟨"CAL_STAT.PHASE", fun i _ => ENC_CAL_STAT_PHASE i, 1, 0, 1, .none, .ro⟩,
  ⟨"CAL_STAT.PEND", fun i _ => ENC_CAL_STAT_PEND i, 1, 0, 1, .none, .ro⟩,
  ⟨"CAL_STAT.DONE", fun i _ => ENC_CAL_STAT_DONE i, 1, 0, 1, .none, .w1c⟩,
  ⟨"CAL_STAT.RESULT", fun i _ => ENC_CAL_STAT_RESULT i, 1, 0, 1, .none, .ro⟩,
  ⟨"CAL_STAT.CAUSE", fun i _ => ENC_CAL_STAT_CAUSE i, 1, 0, 1, .none, .ro⟩,
  ⟨"CAL_MEAS.RATIO", fun i _ => ENC_CAL_MEAS_RATIO i, 1, 0, 1, .none, .ro⟩,
  ⟨"CAL_MEAS.SIN_PSI", fun i _ => ENC_CAL_MEAS_SIN_PSI i, 1, 0, 1, .none, .ro⟩,
  ⟨"CAL_MEAS.MOFF_S", fun i _ => ENC_CAL_MEAS_MOFF_S i, 1, 0, 1, .none, .ro⟩,
  ⟨"CAL_MEAS.MOFF_C", fun i _ => ENC_CAL_MEAS_MOFF_C i, 1, 0, 1, .none, .ro⟩,
  ⟨"CAL_MEAS.RIPPLE", fun i _ => ENC_CAL_MEAS_RIPPLE i, 1, 0, 1, .none, .ro⟩,
  ⟨"CAL_MEAS.LAST_STEP", fun i _ => ENC_CAL_MEAS_LAST_STEP i, 1, 0, 1, .none, .ro⟩,
  ⟨"CAL_TEMP.TEMP", fun i _ => ENC_CAL_TEMP_TEMP i, 1, 0, 1, .none, .ro⟩,
  ⟨"CAL_TEMP.TREF", fun i _ => ENC_CAL_TEMP_TREF i, 1, 0, 1, .none, .ro⟩,
  ⟨"CAL_CNT.RUNS", fun i _ => ENC_CAL_CNT_RUNS i, 1, 0, 1, .none, .ro⟩,
  ⟨"CAL_CNT.FAILS", fun i _ => ENC_CAL_CNT_FAILS i, 1, 0, 1, .none, .ro⟩,
  ⟨"ADC_TRIM.ZS", fun i _ => ENC_ADC_TRIM_ZS i, 1, 0, 1, .none, .ro⟩,
  ⟨"ADC_TRIM.ZC", fun i _ => ENC_ADC_TRIM_ZC i, 1, 0, 1, .none, .ro⟩]

/-- The whole register table of ENC. -/
def rowsEnc : List Row := rowsEnc0 ++ rowsEnc1 ++ rowsEnc2

/-- The register table of VIRT (spec/10 R316). -/
def rowsVirt : List Row := [
  ⟨"EN", fun _ _ => VIRT_EN, 1, 0, 1, .l, .rw⟩,
  ⟨"LOAD", fun _ _ => VIRT_LOAD, 1, 0, 1, .l, .wo⟩,
  ⟨"VIRT_VEL", fun _ _ => VIRT_VIRT_VEL, 1, 0, 1, .l, .rw⟩,
  ⟨"VIRT_ACC", fun _ _ => VIRT_VIRT_ACC, 1, 0, 1, .l, .rw⟩,
  ⟨"VIRT_POS_LO", fun _ _ => VIRT_VIRT_POS_LO, 1, 0, 1, .l, .rw⟩,
  ⟨"VIRT_POS_HI", fun _ _ => VIRT_VIRT_POS_HI, 1, 0, 1, .l, .rw⟩,
  ⟨"NOW_LO", fun _ _ => VIRT_NOW_LO, 1, 0, 1, .none, .ro⟩,
  ⟨"NOW_HI", fun _ _ => VIRT_NOW_HI, 1, 0, 1, .none, .ro⟩,
  ⟨"NOW_VEL", fun _ _ => VIRT_NOW_VEL, 1, 0, 1, .none, .ro⟩]

/-- The register table of AXIS (spec/12), part 1. -/
def rowsAxis0 : List Row := [
  ⟨"CTL.EN", fun i _ => AXIS_CTL_EN i, 1, 0, 1, .l, .rw⟩,
  ⟨"CTL.DRIVE", fun i _ => AXIS_CTL_DRIVE i, 1, 0, 1, .l, .rw⟩,
  ⟨"CTL.CROSS", fun i _ => AXIS_CTL_CROSS i, 1, 0, 1, .s, .rw⟩,
  ⟨"CTL.SAFE_ACT", fun i _ => AXIS_CTL_SAFE_ACT i, 1, 0, 1, .s, .rw⟩,
  ⟨"CTL.INV", fun i _ => AXIS_CTL_INV i, 1, 0, 1, .s, .rw⟩,
  ⟨"CTL.RES", fun i _ => AXIS_CTL_RES i, 1, 0, 1, .s, .rw⟩,
  ⟨"CTL.POS_LOAD", fun i _ => AXIS_CTL_POS_LOAD i, 1, 0, 1, .l, .wo⟩,
  ⟨"CMD.OP", fun i _ => AXIS_CMD_OP i, 1, 0, 1, .l, .rw⟩,
  ⟨"CMD.GO", fun i _ => AXIS_CMD_GO i, 1, 0, 1, .l, .wo⟩,
  ⟨"CMD_ROWS.FIRST_ROW", fun i _ => AXIS_CMD_ROWS_FIRST_ROW i, 1, 0, 1, .l, .rw⟩,
  ⟨"CMD_ROWS.ROWS", fun i _ => AXIS_CMD_ROWS_ROWS i, 1, 0, 1, .l, .rw⟩,
  ⟨"ARG", fun i _ => AXIS_ARG i, 1, 0, 1, .l, .rw⟩,
  ⟨"CMD_RES.STATUS", fun i _ => AXIS_CMD_RES_STATUS i, 1, 0, 1, .none, .ro⟩,
  ⟨"CMD_RES.DONE", fun i _ => AXIS_CMD_RES_DONE i, 1, 0, 1, .none, .w1c⟩,
  ⟨"TBL_IDX", fun i _ => AXIS_TBL_IDX i, 1, 0, 1, .l, .rw⟩,
  ⟨"TBL_W", fun i j => AXIS_TBL_W i j, 4, 4, 1, .l, .rw⟩,
  ⟨"ISNS.IFS", fun i _ => AXIS_ISNS_IFS i, 1, 0, 1, .s, .rw⟩,
  ⟨"ISNS.IMAX", fun i _ => AXIS_ISNS_IMAX i, 1, 0, 1, .s, .rw⟩,
  ⟨"CUR.RUN_CUR", fun i _ => AXIS_CUR_RUN_CUR i, 1, 0, 1, .l, .rw⟩,
  ⟨"CUR.HOLD_CUR", fun i _ => AXIS_CUR_HOLD_CUR i, 1, 0, 1, .l, .rw⟩,
  ⟨"COIL.R_COIL", fun i _ => AXIS_COIL_R_COIL i, 1, 0, 1, .s, .rw⟩,
  ⟨"COIL.L_COIL", fun i _ => AXIS_COIL_L_COIL i, 1, 0, 1, .s, .rw⟩,
  ⟨"KE", fun i _ => AXIS_KE i, 1, 0, 1, .s, .rw⟩,
  ⟨"VM", fun i _ => AXIS_VM i, 1, 0, 1, .l, .rw⟩,
  ⟨"VM.HOLD_DELAY", fun i _ => AXIS_VM_HOLD_DELAY i, 1, 0, 1, .l, .rw⟩,
  ⟨"PWM.PWM_F", fun i _ => AXIS_PWM_PWM_F i, 1, 0, 1, .s, .rw⟩,
  ⟨"PWM.CHOP_F", fun i _ => AXIS_PWM_CHOP_F i, 1, 0, 1, .s, .rw⟩,
  ⟨"PWM.BLANK", fun i _ => AXIS_PWM_BLANK i, 1, 0, 1, .s, .rw⟩,
  ⟨"BULL.H_MIN", fun i _ => AXIS_BULL_H_MIN i, 1, 0, 1, .s, .rw⟩,
  ⟨"BULL.H_MAX", fun i _ => AXIS_BULL_H_MAX i, 1, 0, 1, .s, .rw⟩,
  ⟨"CROSS.W_LO", fun i _ => AXIS_CROSS_W_LO i, 1, 0, 1, .l, .rw⟩,
  ⟨"CROSS.W_HI", fun i _ => AXIS_CROSS_W_HI i, 1, 0, 1, .l, .rw⟩,
  ⟨"CROSS.KP_X", fun i _ => AXIS_CROSS_KP_X i, 1, 0, 1, .l, .rw⟩,
  ⟨"MODE_V.V_DN", fun i _ => AXIS_MODE_V_V_DN i, 1, 0, 1, .l, .rw⟩,
  ⟨"MODE_V.V_UP", fun i _ => AXIS_MODE_V_V_UP i, 1, 0, 1, .l, .rw⟩,
  ⟨"STOP_DECEL", fun i _ => AXIS_STOP_DECEL i, 1, 0, 1, .bMove, .rw⟩,
  ⟨"HOME_VEL", fun i _ => AXIS_HOME_VEL i, 1, 0, 1, .bMove, .rw⟩,
  ⟨"HOME_ACC", fun i _ => AXIS_HOME_ACC i, 1, 0, 1, .bMove, .rw⟩,
  ⟨"HOME_MAX", fun i _ => AXIS_HOME_MAX i, 1, 0, 1, .bMove, .rw⟩,
  ⟨"LIM.LIM_FILT", fun i _ => AXIS_LIM_LIM_FILT i, 1, 0, 1, .s, .rw⟩]

/-- The register table of AXIS (spec/12), part 2. -/
def rowsAxis1 : List Row := [
  ⟨"LIM.LIM_P_EN", fun i _ => AXIS_LIM_LIM_P_EN i, 1, 0, 1, .s, .rw⟩,
  ⟨"LIM.LIM_N_EN", fun i _ => AXIS_LIM_LIM_N_EN i, 1, 0, 1, .s, .rw⟩,
  ⟨"LIM.HOME_EN", fun i _ => AXIS_LIM_HOME_EN i, 1, 0, 1, .s, .rw⟩,
  ⟨"LIM.LIM_P_POL", fun i _ => AXIS_LIM_LIM_P_POL i, 1, 0, 1, .s, .rw⟩,
  ⟨"LIM.LIM_N_POL", fun i _ => AXIS_LIM_LIM_N_POL i, 1, 0, 1, .s, .rw⟩,
  ⟨"LIM.HOME_POL", fun i _ => AXIS_LIM_HOME_POL i, 1, 0, 1, .s, .rw⟩,
  ⟨"HOME_POS_LO", fun i _ => AXIS_HOME_POS_LO i, 1, 0, 1, .bMove, .rw⟩,
  ⟨"HOME_POS_HI", fun i _ => AXIS_HOME_POS_HI i, 1, 0, 1, .bMove, .rw⟩,
  ⟨"POS_SET_LO", fun i _ => AXIS_POS_SET_LO i, 1, 0, 1, .l, .rw⟩,
  ⟨"POS_SET_HI", fun i _ => AXIS_POS_SET_HI i, 1, 0, 1, .l, .rw⟩,
  ⟨"STAT.STATE", fun i _ => AXIS_STAT_STATE i, 1, 0, 1, .none, .ro⟩,
  ⟨"STAT.DRIVE_NOW", fun i _ => AXIS_STAT_DRIVE_NOW i, 1, 0, 1, .none, .ro⟩,
  ⟨"STAT.POS_VALID", fun i _ => AXIS_STAT_POS_VALID i, 1, 0, 1, .none, .ro⟩,
  ⟨"STAT.CHAIN_PEND", fun i _ => AXIS_STAT_CHAIN_PEND i, 1, 0, 1, .none, .ro⟩,
  ⟨"STAT.RESUME_PEND", fun i _ => AXIS_STAT_RESUME_PEND i, 1, 0, 1, .none, .ro⟩,
  ⟨"STAT.LIM", fun i _ => AXIS_STAT_LIM i, 1, 0, 1, .none, .ro⟩,
  ⟨"STAT.BRAKE", fun i _ => AXIS_STAT_BRAKE i, 1, 0, 1, .none, .ro⟩,
  ⟨"STAT.FAULT_CAUSE", fun i _ => AXIS_STAT_FAULT_CAUSE i, 1, 0, 1, .none, .ro⟩,
  ⟨"STAT.ROW", fun i _ => AXIS_STAT_ROW i, 1, 0, 1, .none, .ro⟩,
  ⟨"POS_LO", fun i _ => AXIS_POS_LO i, 1, 0, 1, .none, .ro⟩,
  ⟨"POS_HI", fun i _ => AXIS_POS_HI i, 1, 0, 1, .none, .ro⟩,
  ⟨"VEL", fun i _ => AXIS_VEL i, 1, 0, 1, .none, .ro⟩,
  ⟨"REMAIN_LO", fun i _ => AXIS_REMAIN_LO i, 1, 0, 1, .none, .ro⟩,
  ⟨"REMAIN_HI", fun i _ => AXIS_REMAIN_HI i, 1, 0, 1, .none, .ro⟩,
  ⟨"HOME_LATCH_LO", fun i _ => AXIS_HOME_LATCH_LO i, 1, 0, 1, .none, .ro⟩,
  ⟨"HOME_LATCH_HI", fun i _ => AXIS_HOME_LATCH_HI i, 1, 0, 1, .none, .ro⟩,
  ⟨"IAB.IA", fun i _ => AXIS_IAB_IA i, 1, 0, 1, .none, .ro⟩,
  ⟨"IAB.IB", fun i _ => AXIS_IAB_IB i, 1, 0, 1, .none, .ro⟩,
  ⟨"CHOP.H_NOW", fun i _ => AXIS_CHOP_H_NOW i, 1, 0, 1, .none, .ro⟩,
  ⟨"CHOP.F_NOW", fun i _ => AXIS_CHOP_F_NOW i, 1, 0, 1, .none, .ro⟩,
  ⟨"CNT.CHAT", fun i _ => AXIS_CNT_CHAT i, 1, 0, 1, .none, .ro⟩,
  ⟨"CNT.ROW_LOCK", fun i _ => AXIS_CNT_ROW_LOCK i, 1, 0, 1, .none, .ro⟩,
  ⟨"CNT2.STOPS", fun i _ => AXIS_CNT2_STOPS i, 1, 0, 1, .none, .ro⟩,
  ⟨"CNT2.FAULTS", fun i _ => AXIS_CNT2_FAULTS i, 1, 0, 1, .none, .ro⟩]

/-- The whole register table of AXIS. -/
def rowsAxis : List Row := rowsAxis0 ++ rowsAxis1

/-- The register table of LOOP (spec/13), part 1. -/
def rowsLoop0 : List Row := [
  ⟨"CTL.EN", fun i _ => LOOP_CTL_EN i, 1, 0, 1, .l, .rw⟩,
  ⟨"CTL.COMMIT", fun i _ => LOOP_CTL_COMMIT i, 1, 0, 1, .l, .wo⟩,
  ⟨"CTL.SAFE_ACT", fun i _ => LOOP_CTL_SAFE_ACT i, 1, 0, 1, .s, .rw⟩,
  ⟨"BIND.IN_SEL", fun i _ => LOOP_BIND_IN_SEL i, 1, 0, 1, .s, .rw⟩,
  ⟨"BIND.IN_IDX", fun i _ => LOOP_BIND_IN_IDX i, 1, 0, 1, .s, .rw⟩,
  ⟨"BIND.OUT_SEL", fun i _ => LOOP_BIND_OUT_SEL i, 1, 0, 1, .s, .rw⟩,
  ⟨"BIND.ZMASK", fun i _ => LOOP_BIND_ZMASK i, 1, 0, 1, .s, .rw⟩,
  ⟨"BIND.OUT_IDX", fun i _ => LOOP_BIND_OUT_IDX i, 1, 0, 1, .s, .rw⟩,
  ⟨"RATE.DIV", fun i _ => LOOP_RATE_DIV i, 1, 0, 1, .s, .rw⟩,
  ⟨"RATE.PHASE", fun i _ => LOOP_RATE_PHASE i, 1, 0, 1, .s, .rw⟩,
  ⟨"SP_PV.SP", fun i _ => LOOP_SP_PV_SP i, 1, 0, 1, .l, .rw⟩,
  ⟨"SP_PV.PV_SW", fun i _ => LOOP_SP_PV_PV_SW i, 1, 0, 1, .l, .rw⟩,
  ⟨"RAMP.RATE", fun i _ => LOOP_RAMP_RATE i, 1, 0, 1, .l, .rw⟩,
  ⟨"KI", fun i _ => LOOP_KI i, 1, 0, 1, .bSample, .rw⟩,
  ⟨"LIM.OUT_MIN", fun i _ => LOOP_LIM_OUT_MIN i, 1, 0, 1, .bSample, .rw⟩,
  ⟨"LIM.OUT_MAX", fun i _ => LOOP_LIM_OUT_MAX i, 1, 0, 1, .bSample, .rw⟩,
  ⟨"GCFG.GSHIFT", fun i _ => LOOP_GCFG_GSHIFT i, 1, 0, 1, .bSample, .rw⟩,
  ⟨"GCFG.ASYM", fun i _ => LOOP_GCFG_ASYM i, 1, 0, 1, .bSample, .rw⟩,
  ⟨"GCFG.WARN_MAX", fun i _ => LOOP_GCFG_WARN_MAX i, 1, 0, 1, .l, .rw⟩,
  ⟨"FE.FE_LIMIT", fun i _ => LOOP_FE_FE_LIMIT i, 1, 0, 1, .l, .rw⟩,
  ⟨"FE.FE_TIME", fun i _ => LOOP_FE_FE_TIME i, 1, 0, 1, .l, .rw⟩,
  ⟨"STALE.STALE_US", fun i _ => LOOP_STALE_STALE_US i, 1, 0, 1, .l, .rw⟩,
  ⟨"STALE.STALE_N", fun i _ => LOOP_STALE_STALE_N i, 1, 0, 1, .l, .rw⟩,
  ⟨"INIT.I_INIT", fun i _ => LOOP_INIT_I_INIT i, 1, 0, 1, .s, .rw⟩,
  ⟨"INIT.SAFE_OUT", fun i _ => LOOP_INIT_SAFE_OUT i, 1, 0, 1, .s, .rw⟩,
  ⟨"STAT.STATE", fun i _ => LOOP_STAT_STATE i, 1, 0, 1, .none, .ro⟩,
  ⟨"STAT.FAULT_CAUSE", fun i _ => LOOP_STAT_FAULT_CAUSE i, 1, 0, 1, .none, .ro⟩,
  ⟨"STAT.SAT", fun i _ => LOOP_STAT_SAT i, 1, 0, 1, .none, .ro⟩,
  ⟨"STAT.SAT_AT_SWAP", fun i _ => LOOP_STAT_SAT_AT_SWAP i, 1, 0, 1, .none, .w1c⟩,
  ⟨"STAT.WARN_CLAMP", fun i _ => LOOP_STAT_WARN_CLAMP i, 1, 0, 1, .none, .ro⟩,
  ⟨"STAT.COMMIT_PEND", fun i _ => LOOP_STAT_COMMIT_PEND i, 1, 0, 1, .none, .ro⟩,
  ⟨"VAL.PV", fun i _ => LOOP_VAL_PV i, 1, 0, 1, .none, .ro⟩,
  ⟨"VAL.SPR", fun i _ => LOOP_VAL_SPR i, 1, 0, 1, .none, .ro⟩,
  ⟨"OUTS.OUT", fun i _ => LOOP_OUTS_OUT i, 1, 0, 1, .none, .ro⟩,
  ⟨"OUTS.I_HI", fun i _ => LOOP_OUTS_I_HI i, 1, 0, 1, .none, .ro⟩,
  ⟨"DIAG.ERR", fun i _ => LOOP_DIAG_ERR i, 1, 0, 1, .none, .ro⟩,
  ⟨"DIAG.KP_NOW", fun i _ => LOOP_DIAG_KP_NOW i, 1, 0, 1, .none, .ro⟩,
  ⟨"CNT.FE_TMR", fun i _ => LOOP_CNT_FE_TMR i, 1, 0, 1, .none, .ro⟩,
  ⟨"CNT.STALE", fun i _ => LOOP_CNT_STALE i, 1, 0, 1, .none, .ro⟩,
  ⟨"SAMPLES", fun i _ => LOOP_SAMPLES i, 1, 0, 1, .none, .ro⟩]

/-- The register table of LOOP (spec/13), part 2. -/
def rowsLoop1 : List Row := [
  ⟨"GT_POS", fun i j => LOOP_GT_POS i j, 33, 4, 2, .bSample, .rw⟩,
  ⟨"GT_NEG", fun i j => LOOP_GT_NEG i j, 33, 4, 2, .bSample, .rw⟩]

/-- The whole register table of LOOP. -/
def rowsLoop : List Row := rowsLoop0 ++ rowsLoop1

/-- The register table of INSP (spec/14 and 15), part 1. -/
def rowsInsp0 : List Row := [
  ⟨"CTL.EN", fun i _ => INSP_CTL_EN i, 1, 0, 1, .l, .rw⟩,
  ⟨"CTL.ARMED", fun i _ => INSP_CTL_ARMED i, 1, 0, 1, .none, .ro⟩,
  ⟨"BIND.PORT", fun i _ => INSP_BIND_PORT i, 1, 0, 1, .s, .rw⟩,
  ⟨"BIND.VC", fun i _ => INSP_BIND_VC i, 1, 0, 1, .s, .rw⟩,
  ⟨"BIND.DT", fun i _ => INSP_BIND_DT i, 1, 0, 1, .s, .rw⟩,
  ⟨"BIND.EMB_EN", fun i _ => INSP_BIND_EMB_EN i, 1, 0, 1, .s, .rw⟩,
  ⟨"BIND.CFA", fun i _ => INSP_BIND_CFA i, 1, 0, 1, .s, .rw⟩,
  ⟨"BIND.LINESCAN", fun i _ => INSP_BIND_LINESCAN i, 1, 0, 1, .s, .rw⟩,
  ⟨"GEOM.WIDTH", fun i _ => INSP_GEOM_WIDTH i, 1, 0, 1, .s, .rw⟩,
  ⟨"GEOM.MAX_LINES", fun i _ => INSP_GEOM_MAX_LINES i, 1, 0, 1, .s, .rw⟩,
  ⟨"GEOM2.HEIGHT", fun i _ => INSP_GEOM2_HEIGHT i, 1, 0, 1, .bFrame, .rw⟩,
  ⟨"CFG.ENC", fun i _ => INSP_CFG_ENC i, 1, 0, 1, .s, .rw⟩,
  ⟨"CFG.LINE_POS", fun i _ => INSP_CFG_LINE_POS i, 1, 0, 1, .s, .rw⟩,
  ⟨"CFG.CAM_LAT", fun i _ => INSP_CFG_CAM_LAT i, 1, 0, 1, .bFrame, .rw⟩,
  ⟨"CMT.PIPE_LAT", fun i _ => INSP_CMT_PIPE_LAT i, 1, 0, 1, .s, .rw⟩,
  ⟨"BLACK.BL0", fun i _ => INSP_BLACK_BL0 i, 1, 0, 1, .bFrame, .rw⟩,
  ⟨"BLACK.BL1", fun i _ => INSP_BLACK_BL1 i, 1, 0, 1, .bFrame, .rw⟩,
  ⟨"BLACK.BL2", fun i _ => INSP_BLACK_BL2 i, 1, 0, 1, .bFrame, .rw⟩,
  ⟨"BLACK.BL3", fun i _ => INSP_BLACK_BL3 i, 1, 0, 1, .bFrame, .rw⟩,
  ⟨"WB.WB_R", fun i _ => INSP_WB_WB_R i, 1, 0, 1, .bFrame, .rw⟩,
  ⟨"WB.WB_G", fun i _ => INSP_WB_WB_G i, 1, 0, 1, .bFrame, .rw⟩,
  ⟨"WB.WB_B", fun i _ => INSP_WB_WB_B i, 1, 0, 1, .bFrame, .rw⟩,
  ⟨"DPC.DYN_EN", fun i _ => INSP_DPC_DYN_EN i, 1, 0, 1, .bFrame, .rw⟩,
  ⟨"DPC.THR", fun i _ => INSP_DPC_THR i, 1, 0, 1, .bFrame, .rw⟩,
  ⟨"ANA.W_R", fun i _ => INSP_ANA_W_R i, 1, 0, 1, .bFrame, .rw⟩,
  ⟨"ANA.W_G", fun i _ => INSP_ANA_W_G i, 1, 0, 1, .bFrame, .rw⟩,
  ⟨"ANA.W_B", fun i _ => INSP_ANA_W_B i, 1, 0, 1, .bFrame, .rw⟩,
  ⟨"TAP.POINT", fun i _ => INSP_TAP_POINT i, 1, 0, 1, .l, .rw⟩,
  ⟨"TAP.EVERY", fun i _ => INSP_TAP_EVERY i, 1, 0, 1, .l, .rw⟩,
  ⟨"FRAME_NOW", fun i _ => INSP_FRAME_NOW i, 1, 0, 1, .none, .ro⟩,
  ⟨"SET_STAT.ID", fun i _ => INSP_SET_STAT_ID i, 1, 0, 1, .none, .ro⟩,
  ⟨"SET_STAT.PEND", fun i _ => INSP_SET_STAT_PEND i, 1, 0, 1, .none, .ro⟩,
  ⟨"SET_STAT.APPLY_FRAME", fun i _ => INSP_SET_STAT_APPLY_FRAME i, 1, 0, 1, .none, .ro⟩,
  ⟨"FLAGS_LAST", fun i _ => INSP_FLAGS_LAST i, 1, 0, 1, .none, .ro⟩,
  ⟨"STAT_SLOTS", fun i _ => INSP_STAT_SLOTS i, 1, 0, 1, .none, .ro⟩,
  ⟨"STAT_FREE", fun i _ => INSP_STAT_FREE i, 1, 0, 1, .none, .ro⟩,
  ⟨"CNT_DROP.DT", fun i _ => INSP_CNT_DROP_DT i, 1, 0, 1, .none, .ro⟩,
  ⟨"CNT_DROP.DISARMED", fun i _ => INSP_CNT_DROP_DISARMED i, 1, 0, 1, .none, .ro⟩,
  ⟨"CNT_DROP.ORPHAN", fun i _ => INSP_CNT_DROP_ORPHAN i, 1, 0, 1, .none, .ro⟩,
  ⟨"CNT_FLAG.FLAG", fun i _ => INSP_CNT_FLAG_FLAG i, 1, 0, 1, .none, .ro⟩]

/-- The register table of INSP (spec/14 and 15), part 2. -/
def rowsInsp1 : List Row := [
  ⟨"CNT_BUF.NOBUF_TAP", fun i _ => INSP_CNT_BUF_NOBUF_TAP i, 1, 0, 1, .none, .ro⟩,
  ⟨"CNT_BUF.NOBUF_STAT", fun i _ => INSP_CNT_BUF_NOBUF_STAT i, 1, 0, 1, .none, .ro⟩,
  ⟨"CNT_BUF.NOBUF_RES", fun i _ => INSP_CNT_BUF_NOBUF_RES i, 1, 0, 1, .none, .ro⟩,
  ⟨"CNT_ECC.ECC", fun i _ => INSP_CNT_ECC_ECC i, 1, 0, 1, .none, .ro⟩,
  ⟨"PORT_CTL.EN", fun i _ => INSP_PORT_CTL_EN i, 1, 0, 1, .l, .rw⟩,
  ⟨"PORT_CTL.LANES", fun i _ => INSP_PORT_CTL_LANES i, 1, 0, 1, .s, .rw⟩,
  ⟨"PORT_CNT0_NO_PIPE", fun i _ => INSP_PORT_CNT0_NO_PIPE i, 1, 0, 1, .none, .ro⟩,
  ⟨"PORT_CNT0_BAD_DT", fun i _ => INSP_PORT_CNT0_BAD_DT i, 1, 0, 1, .none, .ro⟩,
  ⟨"PORT_CNT1_ECC_CORR", fun i _ => INSP_PORT_CNT1_ECC_CORR i, 1, 0, 1, .none, .ro⟩,
  ⟨"PORT_CNT1_ECC_UNCORR", fun i _ => INSP_PORT_CNT1_ECC_UNCORR i, 1, 0, 1, .none, .ro⟩,
  ⟨"PORT_CNT2_SOT", fun i _ => INSP_PORT_CNT2_SOT i, 1, 0, 1, .none, .ro⟩,
  ⟨"PORT_CNT2.CRC", fun i _ => INSP_PORT_CNT2_CRC i, 1, 0, 1, .none, .ro⟩,
  ⟨"CCI_CTL.SPEED", fun i _ => INSP_CCI_CTL_SPEED i, 1, 0, 1, .s, .rw⟩,
  ⟨"CCI_CTL.STRETCH_MAX", fun i _ => INSP_CCI_CTL_STRETCH_MAX i, 1, 0, 1, .l, .rw⟩,
  ⟨"CCI_MB0.DEV", fun i _ => INSP_CCI_MB0_DEV i, 1, 0, 1, .l, .rw⟩,
  ⟨"CCI_MB0.ALEN", fun i _ => INSP_CCI_MB0_ALEN i, 1, 0, 1, .l, .rw⟩,
  ⟨"CCI_MB0.DLEN", fun i _ => INSP_CCI_MB0_DLEN i, 1, 0, 1, .l, .rw⟩,
  ⟨"CCI_MB0.READ", fun i _ => INSP_CCI_MB0_READ i, 1, 0, 1, .l, .rw⟩,
  ⟨"CCI_MB0.GO", fun i _ => INSP_CCI_MB0_GO i, 1, 0, 1, .l, .wo⟩,
  ⟨"CCI_MB1.REG", fun i _ => INSP_CCI_MB1_REG i, 1, 0, 1, .l, .rw⟩,
  ⟨"CCI_MB2.DATA", fun i _ => INSP_CCI_MB2_DATA i, 1, 0, 1, .l, .rw⟩,
  ⟨"CCI_STAT.BUSY", fun i _ => INSP_CCI_STAT_BUSY i, 1, 0, 1, .none, .ro⟩,
  ⟨"CCI_STAT.DONE", fun i _ => INSP_CCI_STAT_DONE i, 1, 0, 1, .none, .w1c⟩,
  ⟨"CCI_STAT.NACK", fun i _ => INSP_CCI_STAT_NACK i, 1, 0, 1, .none, .ro⟩,
  ⟨"CCI_STAT.TIMEOUT", fun i _ => INSP_CCI_STAT_TIMEOUT i, 1, 0, 1, .none, .ro⟩,
  ⟨"CCI_STAT.WAIT", fun i _ => INSP_CCI_STAT_WAIT i, 1, 0, 1, .none, .ro⟩,
  ⟨"NH_CFG.EDGE", fun i _ => INSP_NH_CFG_EDGE i, 1, 0, 1, .l, .rw⟩,
  ⟨"NH_CFG.SEARCH", fun i _ => INSP_NH_CFG_SEARCH i, 1, 0, 1, .l, .rw⟩,
  ⟨"NH_CFG.CONTRAST_MIN", fun i _ => INSP_NH_CFG_CONTRAST_MIN i, 1, 0, 1, .l, .rw⟩,
  ⟨"NH_THR.MISS_A", fun i _ => INSP_NH_THR_MISS_A i, 1, 0, 1, .l, .rw⟩,
  ⟨"NH_THR.WEAK_A", fun i _ => INSP_NH_THR_WEAK_A i, 1, 0, 1, .l, .rw⟩,
  ⟨"NH_THR.WEAK_C", fun i _ => INSP_NH_THR_WEAK_C i, 1, 0, 1, .l, .rw⟩,
  ⟨"NH_THR.DEV_MAX", fun i _ => INSP_NH_THR_DEV_MAX i, 1, 0, 1, .l, .rw⟩,
  ⟨"NH_SCORE.OUT_AT", fun i _ => INSP_NH_SCORE_OUT_AT i, 1, 0, 1, .l, .rw⟩,
  ⟨"NH_SCORE.SUSPECT_AT", fun i _ => INSP_NH_SCORE_SUSPECT_AT i, 1, 0, 1, .l, .rw⟩,
  ⟨"NH_SCORE.CLEAR_AT", fun i _ => INSP_NH_SCORE_CLEAR_AT i, 1, 0, 1, .l, .rw⟩,
  ⟨"NH_SCORE_INC_MISS", fun i _ => INSP_NH_SCORE_INC_MISS i, 1, 0, 1, .l, .rw⟩,
  ⟨"NH_SCORE_INC_WEAK", fun i _ => INSP_NH_SCORE_INC_WEAK i, 1, 0, 1, .l, .rw⟩,
  ⟨"NH_SCORE_INC_DEV", fun i _ => INSP_NH_SCORE_INC_DEV i, 1, 0, 1, .l, .rw⟩,
  ⟨"NH_SCORE_DEC", fun i _ => INSP_NH_SCORE_DEC i, 1, 0, 1, .l, .rw⟩]

/-- The register table of INSP (spec/14 and 15), part 3. -/
def rowsInsp2 : List Row := [
  ⟨"NH_CAMOFF.CAMOFF", fun i _ => INSP_NH_CAMOFF_CAMOFF i, 1, 0, 1, .l, .rw⟩,
  ⟨"NH_STAT.PENDING", fun i _ => INSP_NH_STAT_PENDING i, 1, 0, 1, .none, .ro⟩,
  ⟨"NH_STAT.ANALYSED", fun i _ => INSP_NH_STAT_ANALYSED i, 1, 0, 1, .none, .ro⟩,
  ⟨"NH_CNT.NOVERDICT", fun i _ => INSP_NH_CNT_NOVERDICT i, 1, 0, 1, .none, .ro⟩,
  ⟨"NH_CNT.OVERLOAD", fun i _ => INSP_NH_CNT_OVERLOAD i, 1, 0, 1, .none, .ro⟩,
  ⟨"DEFECT", fun i j => INSP_DEFECT i j, 4096, 4, 1, .none, .ro⟩,
  ⟨"SHADING", fun i j => INSP_SHADING i j, 3300, 4, 2, .none, .ro⟩,
  ⟨"MATRIX", fun i j => INSP_MATRIX i j, 12, 4, 2, .none, .ro⟩]

/-- The whole register table of INSP. -/
def rowsInsp : List Row := rowsInsp0 ++ rowsInsp1 ++ rowsInsp2

/-- The register table of TIME (spec/16), part 1. -/
def rowsTime0 : List Row := [
  ⟨"CTL.SRC", fun _ _ => TIME_CTL_SRC, 1, 0, 1, .l, .rw⟩,
  ⟨"CTL.SET_GO", fun _ _ => TIME_CTL_SET_GO, 1, 0, 1, .l, .wo⟩,
  ⟨"CTL.ADJ_GO", fun _ _ => TIME_CTL_ADJ_GO, 1, 0, 1, .l, .wo⟩,
  ⟨"CTL_ADJ_CANCEL", fun _ _ => TIME_CTL_ADJ_CANCEL, 1, 0, 1, .l, .wo⟩,
  ⟨"STAT_RUNNING", fun _ _ => TIME_STAT_RUNNING, 1, 0, 1, .none, .ro⟩,
  ⟨"STAT_SET", fun _ _ => TIME_STAT_SET, 1, 0, 1, .none, .ro⟩,
  ⟨"STAT_VALID", fun _ _ => TIME_STAT_VALID, 1, 0, 1, .none, .ro⟩,
  ⟨"STAT_LOCKED", fun _ _ => TIME_STAT_LOCKED, 1, 0, 1, .none, .ro⟩,
  ⟨"STAT.SERVO", fun _ _ => TIME_STAT_SERVO, 1, 0, 1, .none, .ro⟩,
  ⟨"STAT.SLEWING", fun _ _ => TIME_STAT_SLEWING, 1, 0, 1, .none, .ro⟩,
  ⟨"STAT_CLIPPED", fun _ _ => TIME_STAT_CLIPPED, 1, 0, 1, .none, .w1c⟩,
  ⟨"STAT_STEP_REFUSED", fun _ _ => TIME_STAT_STEP_REFUSED, 1, 0, 1, .none, .w1c⟩,
  ⟨"NOW_LO", fun _ _ => TIME_NOW_LO, 1, 0, 1, .none, .ro⟩,
  ⟨"NOW_HI", fun _ _ => TIME_NOW_HI, 1, 0, 1, .none, .ro⟩,
  ⟨"NOW_FRAC", fun _ _ => TIME_NOW_FRAC, 1, 0, 1, .none, .ro⟩,
  ⟨"INCR_OFF", fun _ _ => TIME_INCR_OFF, 1, 0, 1, .l, .rw⟩,
  ⟨"RATE_LIM", fun _ _ => TIME_RATE_LIM, 1, 0, 1, .l, .rw⟩,
  ⟨"SLEW", fun _ _ => TIME_SLEW, 1, 0, 1, .l, .rw⟩,
  ⟨"SET_LO", fun _ _ => TIME_SET_LO, 1, 0, 1, .l, .rw⟩,
  ⟨"SET_HI", fun _ _ => TIME_SET_HI, 1, 0, 1, .l, .rw⟩,
  ⟨"ADJ", fun _ _ => TIME_ADJ, 1, 0, 1, .l, .rw⟩,
  ⟨"ADJ_REM", fun _ _ => TIME_ADJ_REM, 1, 0, 1, .none, .ro⟩,
  ⟨"STATION.ID", fun _ _ => TIME_STATION_ID, 1, 0, 1, .l, .rwl⟩,
  ⟨"STATION_PRESS_DOM", fun _ _ => TIME_STATION_PRESS_DOM, 1, 0, 1, .l, .rwl⟩,
  ⟨"STATION.LOCK", fun _ _ => TIME_STATION_LOCK, 1, 0, 1, .l, .rwl⟩,
  ⟨"PPS_CTL_OUT_EN", fun _ _ => TIME_PPS_CTL_OUT_EN, 1, 0, 1, .l, .rw⟩,
  ⟨"PPS_CTL_OUT_REQ_LOCK", fun _ _ => TIME_PPS_CTL_OUT_REQ_LOCK, 1, 0, 1, .l, .rw⟩,
  ⟨"PPS_CTL_IN_EN", fun _ _ => TIME_PPS_CTL_IN_EN, 1, 0, 1, .l, .rw⟩,
  ⟨"PPS_CTL.IN_FILT", fun _ _ => TIME_PPS_CTL_IN_FILT, 1, 0, 1, .s, .rw⟩,
  ⟨"PPS_OFF", fun _ _ => TIME_PPS_OFF, 1, 0, 1, .l, .rw⟩,
  ⟨"PPS_W", fun _ _ => TIME_PPS_W, 1, 0, 1, .l, .rw⟩,
  ⟨"PPS_IN_SEQ", fun _ _ => TIME_PPS_IN_SEQ, 1, 0, 1, .none, .ro⟩,
  ⟨"PPS_IN_TIME_LO", fun _ _ => TIME_PPS_IN_TIME_LO, 1, 0, 1, .none, .ro⟩,
  ⟨"PPS_IN_TIME_HI", fun _ _ => TIME_PPS_IN_TIME_HI, 1, 0, 1, .none, .ro⟩,
  ⟨"PTP_CFG.EN", fun _ _ => TIME_PTP_CFG_EN, 1, 0, 1, .l, .rw⟩,
  ⟨"PTP_CFG.BC", fun _ _ => TIME_PTP_CFG_BC, 1, 0, 1, .s, .rw⟩,
  ⟨"PTP_CFG_SLAVE_ONLY", fun _ _ => TIME_PTP_CFG_SLAVE_ONLY, 1, 0, 1, .s, .rw⟩,
  ⟨"PTP_CFG.TRANSPORT", fun _ _ => TIME_PTP_CFG_TRANSPORT, 1, 0, 1, .s, .rw⟩,
  ⟨"PTP_CFG.P2P", fun _ _ => TIME_PTP_CFG_P2P, 1, 0, 1, .s, .rw⟩,
  ⟨"PTP_CFG.PORTS", fun _ _ => TIME_PTP_CFG_PORTS, 1, 0, 1, .s, .rw⟩]

/-- The register table of TIME (spec/16), part 2. -/
def rowsTime1 : List Row := [
  ⟨"PTP_CFG.DOMAIN", fun _ _ => TIME_PTP_CFG_DOMAIN, 1, 0, 1, .s, .rw⟩,
  ⟨"PTP_CFG_PRIORITY1", fun _ _ => TIME_PTP_CFG_PRIORITY1, 1, 0, 1, .s, .rw⟩,
  ⟨"PTP_CFG_PRIORITY2", fun _ _ => TIME_PTP_CFG_PRIORITY2, 1, 0, 1, .s, .rw⟩,
  ⟨"PTP_CFG2.LOG_SYNC", fun _ _ => TIME_PTP_CFG2_LOG_SYNC, 1, 0, 1, .s, .rw⟩,
  ⟨"PTP_CFG2.LOG_PDELAY", fun _ _ => TIME_PTP_CFG2_LOG_PDELAY, 1, 0, 1, .s, .rw⟩,
  ⟨"PTP_CFG2.LOCK_TOL", fun _ _ => TIME_PTP_CFG2_LOCK_TOL, 1, 0, 1, .l, .rw⟩,
  ⟨"PTP_CFG2.LOCK_N", fun _ _ => TIME_PTP_CFG2_LOCK_N, 1, 0, 1, .l, .rw⟩,
  ⟨"PTP_CFG2.HOLDOVER_S", fun _ _ => TIME_PTP_CFG2_HOLDOVER_S, 1, 0, 1, .l, .rw⟩,
  ⟨"PTP_CID_LO", fun _ _ => TIME_PTP_CID_LO, 1, 0, 1, .s, .rw⟩,
  ⟨"PTP_CID_HI", fun _ _ => TIME_PTP_CID_HI, 1, 0, 1, .s, .rw⟩,
  ⟨"OFFSET", fun _ _ => TIME_OFFSET, 1, 0, 1, .none, .ro⟩,
  ⟨"MPD", fun _ _ => TIME_MPD, 1, 0, 1, .none, .ro⟩,
  ⟨"PORT_STATE", fun _ _ => TIME_PORT_STATE, 1, 0, 1, .none, .ro⟩,
  ⟨"GM_ID_LO", fun _ _ => TIME_GM_ID_LO, 1, 0, 1, .none, .ro⟩,
  ⟨"GM_ID_HI", fun _ _ => TIME_GM_ID_HI, 1, 0, 1, .none, .ro⟩,
  ⟨"DT_CFG.EN", fun _ _ => TIME_DT_CFG_EN, 1, 0, 1, .l, .rw⟩,
  ⟨"DT_CFG_REQ_LOCK", fun _ _ => TIME_DT_CFG_REQ_LOCK, 1, 0, 1, .l, .rw⟩,
  ⟨"DT_CFG_LOOP", fun _ _ => TIME_DT_CFG_LOOP, 1, 0, 1, .l, .rw⟩,
  ⟨"DT_CFG.HORIZON", fun _ _ => TIME_DT_CFG_HORIZON, 1, 0, 1, .l, .rw⟩,
  ⟨"DT_ETYPE", fun _ _ => TIME_DT_ETYPE, 1, 0, 1, .s, .rw⟩,
  ⟨"DT_UDP", fun _ _ => TIME_DT_UDP, 1, 0, 1, .s, .rw⟩,
  ⟨"DT_MAC_LO", fun _ _ => TIME_DT_MAC_LO, 1, 0, 1, .s, .rw⟩,
  ⟨"DT_MAC_HI", fun _ _ => TIME_DT_MAC_HI, 1, 0, 1, .s, .rw⟩,
  ⟨"DT_PENDING", fun _ _ => TIME_DT_PENDING, 1, 0, 1, .none, .ro⟩,
  ⟨"DT_CNT0.ACCEPT", fun _ _ => TIME_DT_CNT0_ACCEPT, 1, 0, 1, .none, .ro⟩,
  ⟨"DT_CNT0.DUP", fun _ _ => TIME_DT_CNT0_DUP, 1, 0, 1, .none, .ro⟩,
  ⟨"DT_CNT1.LATE", fun _ _ => TIME_DT_CNT1_LATE, 1, 0, 1, .none, .ro⟩,
  ⟨"DT_CNT1.DISC", fun _ _ => TIME_DT_CNT1_DISC, 1, 0, 1, .none, .ro⟩,
  ⟨"DT_LAST_LO", fun _ j => TIME_DT_LAST_LO j, 16, 8, 1, .none, .ro⟩,
  ⟨"DT_LAST_HI", fun _ j => TIME_DT_LAST_HI j, 16, 8, 1, .none, .ro⟩]

/-- The whole register table of TIME. -/
def rowsTime : List Row := rowsTime0 ++ rowsTime1

/-- The register table of NET (spec/16). -/
def rowsNet : List Row := [
  ⟨"CTL.EN", fun i _ => NET_CTL_EN i, 1, 0, 1, .l, .rw⟩,
  ⟨"CTL.MODE", fun i _ => NET_CTL_MODE i, 1, 0, 1, .s, .rw⟩,
  ⟨"CTL.AN", fun i _ => NET_CTL_AN i, 1, 0, 1, .s, .rw⟩,
  ⟨"CTL.TX_INV", fun i _ => NET_CTL_TX_INV i, 1, 0, 1, .s, .rw⟩,
  ⟨"CTL.RX_INV", fun i _ => NET_CTL_RX_INV i, 1, 0, 1, .s, .rw⟩,
  ⟨"STAT.LINK", fun i _ => NET_STAT_LINK i, 1, 0, 1, .none, .ro⟩,
  ⟨"STAT_AN_DONE", fun i _ => NET_STAT_AN_DONE i, 1, 0, 1, .none, .ro⟩,
  ⟨"STAT_FAULT_LOCAL", fun i _ => NET_STAT_FAULT_LOCAL i, 1, 0, 1, .none, .ro⟩,
  ⟨"STAT_FAULT_REMOTE", fun i _ => NET_STAT_FAULT_REMOTE i, 1, 0, 1, .none, .ro⟩,
  ⟨"MAC_LO", fun i _ => NET_MAC_LO i, 1, 0, 1, .s, .rw⟩,
  ⟨"MAC_HI", fun i _ => NET_MAC_HI i, 1, 0, 1, .s, .rw⟩,
  ⟨"TX_LAT", fun i _ => NET_TX_LAT i, 1, 0, 1, .s, .rw⟩,
  ⟨"RX_LAT", fun i _ => NET_RX_LAT i, 1, 0, 1, .s, .rw⟩,
  ⟨"RX_PTP", fun i _ => NET_RX_PTP i, 1, 0, 1, .none, .ro⟩,
  ⟨"RX_DT", fun i _ => NET_RX_DT i, 1, 0, 1, .none, .ro⟩,
  ⟨"RX_DROP", fun i _ => NET_RX_DROP i, 1, 0, 1, .none, .ro⟩,
  ⟨"RX_FCS", fun i _ => NET_RX_FCS i, 1, 0, 1, .none, .ro⟩,
  ⟨"TX_FRAMES", fun i _ => NET_TX_FRAMES i, 1, 0, 1, .none, .ro⟩,
  ⟨"PAUSE", fun i _ => NET_PAUSE i, 1, 0, 1, .none, .ro⟩,
  ⟨"DOWN", fun i _ => NET_DOWN i, 1, 0, 1, .none, .ro⟩,
  ⟨"LQ_CNT.LATE_SENT", fun i j => NET_LQ_CNT_LATE_SENT i j, 4, 4, 1, .none, .ro⟩,
  ⟨"LQ_CNT.DROPPED", fun i j => NET_LQ_CNT_DROPPED i j, 4, 4, 1, .none, .ro⟩]

/-- The register table of VAULT (spec/17), part 1. -/
def rowsVault0 : List Row := [
  ⟨"STAT.BOOT_SLOT", fun _ _ => VAULT_STAT_BOOT_SLOT, 1, 0, 1, .none, .ro⟩,
  ⟨"STAT.KEY_IDX", fun _ _ => VAULT_STAT_KEY_IDX, 1, 0, 1, .none, .ro⟩,
  ⟨"STAT.SVN", fun _ _ => VAULT_STAT_SVN, 1, 0, 1, .none, .ro⟩,
  ⟨"STAT.RB_COUNT", fun _ _ => VAULT_STAT_RB_COUNT, 1, 0, 1, .none, .ro⟩,
  ⟨"STAT.RB_BUSY", fun _ _ => VAULT_STAT_RB_BUSY, 1, 0, 1, .none, .ro⟩,
  ⟨"STAT.DEBUG", fun _ _ => VAULT_STAT_DEBUG, 1, 0, 1, .none, .ro⟩,
  ⟨"STAT.TAMPER", fun _ _ => VAULT_STAT_TAMPER, 1, 0, 1, .none, .ro⟩,
  ⟨"STAT.UNWRAP_BLOCK", fun _ _ => VAULT_STAT_UNWRAP_BLOCK, 1, 0, 1, .none, .ro⟩,
  ⟨"BOOT_ERR.ERR_A", fun _ _ => VAULT_BOOT_ERR_ERR_A, 1, 0, 1, .none, .ro⟩,
  ⟨"BOOT_ERR.ERR_B", fun _ _ => VAULT_BOOT_ERR_ERR_B, 1, 0, 1, .none, .ro⟩,
  ⟨"ROLLBACK_TARGET", fun _ _ => VAULT_ROLLBACK_TARGET, 1, 0, 1, .l, .rw⟩,
  ⟨"ROLLBACK_GO", fun _ _ => VAULT_ROLLBACK_GO, 1, 0, 1, .l, .wo⟩,
  ⟨"REVOKE.MASK", fun _ _ => VAULT_REVOKE_MASK, 1, 0, 1, .none, .ro⟩,
  ⟨"REVOKE.REQ", fun _ _ => VAULT_REVOKE_REQ, 1, 0, 1, .l, .wo⟩,
  ⟨"SERIAL_LO", fun _ _ => VAULT_SERIAL_LO, 1, 0, 1, .none, .ro⟩,
  ⟨"SERIAL_HI", fun _ _ => VAULT_SERIAL_HI, 1, 0, 1, .none, .ro⟩,
  ⟨"OTP_TAMPER.COUNT", fun _ _ => VAULT_OTP_TAMPER_COUNT, 1, 0, 1, .none, .ro⟩,
  ⟨"OTP_TAMPER_LAST_CAUSE", fun _ _ => VAULT_OTP_TAMPER_LAST_CAUSE, 1, 0, 1, .none, .ro⟩,
  ⟨"FW_HASH", fun _ j => VAULT_FW_HASH j, 12, 4, 1, .none, .ro⟩,
  ⟨"CERT", fun _ j => VAULT_CERT j, 64, 4, 1, .none, .ro⟩,
  ⟨"SLOT_STAT.OWNER", fun _ j => VAULT_SLOT_STAT_OWNER j, 64, 4, 1, .none, .ro⟩,
  ⟨"SLOT_STAT.USAGE", fun _ j => VAULT_SLOT_STAT_USAGE j, 64, 4, 1, .none, .ro⟩,
  ⟨"SLOT_STAT.VALID", fun _ j => VAULT_SLOT_STAT_VALID j, 64, 4, 1, .none, .ro⟩,
  ⟨"SLOT_STAT.IN_USE", fun _ j => VAULT_SLOT_STAT_IN_USE j, 64, 4, 1, .none, .ro⟩,
  ⟨"SLOT_STAT.AUTH_FAIL", fun _ j => VAULT_SLOT_STAT_AUTH_FAIL j, 64, 4, 1, .none, .ro⟩,
  ⟨"CTX.ADDR_LO", fun _ j => VAULT_CTX_ADDR_LO j, 8, 32, 1, .l, .rw⟩,
  ⟨"CTX.ADDR_HI", fun _ j => VAULT_CTX_ADDR_HI j, 8, 32, 1, .l, .rw⟩,
  ⟨"CTX_CTL.OP", fun _ j => VAULT_CTX_CTL_OP j, 8, 32, 1, .l, .rw⟩,
  ⟨"CTX_CTL.SLOT", fun _ j => VAULT_CTX_CTL_SLOT j, 8, 32, 1, .l, .rw⟩,
  ⟨"CTX_CTL.GO", fun _ j => VAULT_CTX_CTL_GO j, 8, 32, 1, .l, .wo⟩,
  ⟨"CTX_STAT.BUSY", fun _ j => VAULT_CTX_STAT_BUSY j, 8, 32, 1, .none, .ro⟩,
  ⟨"CTX_STAT.DONE", fun _ j => VAULT_CTX_STAT_DONE j, 8, 32, 1, .none, .w1c⟩,
  ⟨"CTX_STAT.RESULT", fun _ j => VAULT_CTX_STAT_RESULT j, 8, 32, 1, .none, .ro⟩,
  ⟨"CTX_STAT.FAILS", fun _ j => VAULT_CTX_STAT_FAILS j, 8, 32, 1, .none, .ro⟩,
  ⟨"CTX_STAT.HOLD", fun _ j => VAULT_CTX_STAT_HOLD j, 8, 32, 1, .none, .ro⟩,
  ⟨"HEAD_CA0.KEY", fun _ j => VAULT_HEAD_CA_KEY 0 j, 24, 4, 1, .l, .rwl⟩,
  ⟨"HEAD_CA1.KEY", fun _ j => VAULT_HEAD_CA_KEY 1 j, 24, 4, 1, .l, .rwl⟩,
  ⟨"HEAD_CA2.KEY", fun _ j => VAULT_HEAD_CA_KEY 2 j, 24, 4, 1, .l, .rwl⟩,
  ⟨"HEAD_CA3.KEY", fun _ j => VAULT_HEAD_CA_KEY 3 j, 24, 4, 1, .l, .rwl⟩,
  ⟨"HEAD_CA4.KEY", fun _ j => VAULT_HEAD_CA_KEY 4 j, 24, 4, 1, .l, .rwl⟩]

/-- The register table of VAULT (spec/17), part 2. -/
def rowsVault1 : List Row := [
  ⟨"HEAD_CA5.KEY", fun _ j => VAULT_HEAD_CA_KEY 5 j, 24, 4, 1, .l, .rwl⟩,
  ⟨"HEAD_CA6.KEY", fun _ j => VAULT_HEAD_CA_KEY 6 j, 24, 4, 1, .l, .rwl⟩,
  ⟨"HEAD_CA7.KEY", fun _ j => VAULT_HEAD_CA_KEY 7 j, 24, 4, 1, .l, .rwl⟩,
  ⟨"HEAD_CA.EN", fun _ j => VAULT_HEAD_CA_EN j, 8, 128, 1, .l, .rwl⟩,
  ⟨"HEAD_CA.LOCK", fun _ j => VAULT_HEAD_CA_LOCK j, 8, 128, 1, .l, .rwl⟩,
  ⟨"DBG_CHAL", fun _ j => VAULT_DBG_CHAL j, 14, 4, 1, .none, .ro⟩,
  ⟨"DBG_TOKEN", fun _ j => VAULT_DBG_TOKEN j, 64, 4, 1, .l, .wo⟩,
  ⟨"DBG_CTL.GO", fun _ _ => VAULT_DBG_CTL_GO, 1, 0, 1, .l, .wo⟩,
  ⟨"DBG_CTL.RELOCK", fun _ _ => VAULT_DBG_CTL_RELOCK, 1, 0, 1, .l, .wo⟩,
  ⟨"DBG_CTL.OWNER_PROG", fun _ _ => VAULT_DBG_CTL_OWNER_PROG, 1, 0, 1, .l, .wo⟩,
  ⟨"DBG_CTL.ATTEMPTS", fun _ _ => VAULT_DBG_CTL_ATTEMPTS, 1, 0, 1, .none, .ro⟩,
  ⟨"DBG_OWNER", fun _ j => VAULT_DBG_OWNER j, 12, 4, 1, .l, .wo⟩]

/-- The whole register table of VAULT. -/
def rowsVault : List Row := rowsVault0 ++ rowsVault1

/-- The register table of GOOSE (spec/18), part 1. -/
def rowsGoose0 : List Row := [
  ⟨"STATUS.SAFE", fun _ _ => GOOSE_STATUS_SAFE, 1, 0, 1, .none, .ro⟩,
  ⟨"STATUS.LATCH4", fun _ _ => GOOSE_STATUS_LATCH4, 1, 0, 1, .none, .ro⟩,
  ⟨"STATUS.SELF_FAIL", fun _ _ => GOOSE_STATUS_SELF_FAIL, 1, 0, 1, .none, .ro⟩,
  ⟨"STATUS.REL_ARMED", fun _ _ => GOOSE_STATUS_REL_ARMED, 1, 0, 1, .none, .ro⟩,
  ⟨"STATUS.CAUSE_SRC", fun _ _ => GOOSE_STATUS_CAUSE_SRC, 1, 0, 1, .none, .ro⟩,
  ⟨"STATUS_CAUSE_CLASS", fun _ _ => GOOSE_STATUS_CAUSE_CLASS, 1, 0, 1, .none, .ro⟩,
  ⟨"STATUS.REL_ERR", fun _ _ => GOOSE_STATUS_REL_ERR, 1, 0, 1, .none, .ro⟩,
  ⟨"SAFE_REL.KEY", fun _ _ => GOOSE_SAFE_REL_KEY, 1, 0, 1, .l, .wo⟩,
  ⟨"FIRST_CTL.MIN_CLASS", fun _ _ => GOOSE_FIRST_CTL_MIN_CLASS, 1, 0, 1, .l, .rw⟩,
  ⟨"FIRST_CTL_ARM_ANY", fun _ _ => GOOSE_FIRST_CTL_ARM_ANY, 1, 0, 1, .l, .wo⟩,
  ⟨"FIRST_CTL_ARM_REAL", fun _ _ => GOOSE_FIRST_CTL_ARM_REAL, 1, 0, 1, .l, .wo⟩,
  ⟨"CTL.CLR_CNT", fun _ _ => GOOSE_CTL_CLR_CNT, 1, 0, 1, .l, .wo⟩,
  ⟨"CTL.INJ_LOCK", fun _ _ => GOOSE_CTL_INJ_LOCK, 1, 0, 1, .l, .rwl⟩,
  ⟨"CTL.FENCE_MAX", fun _ _ => GOOSE_CTL_FENCE_MAX, 1, 0, 1, .l, .rw⟩,
  ⟨"SEQ", fun _ _ => GOOSE_SEQ, 1, 0, 1, .none, .ro⟩,
  ⟨"CLASS_CNT0.CLASS0", fun _ _ => GOOSE_CLASS_CNT0_CLASS0, 1, 0, 1, .none, .ro⟩,
  ⟨"CLASS_CNT0.CLASS1", fun _ _ => GOOSE_CLASS_CNT0_CLASS1, 1, 0, 1, .none, .ro⟩,
  ⟨"CLASS_CNT1.CLASS2", fun _ _ => GOOSE_CLASS_CNT1_CLASS2, 1, 0, 1, .none, .ro⟩,
  ⟨"CLASS_CNT1.CLASS3", fun _ _ => GOOSE_CLASS_CNT1_CLASS3, 1, 0, 1, .none, .ro⟩,
  ⟨"CLASS_CNT2.CLASS4", fun _ _ => GOOSE_CLASS_CNT2_CLASS4, 1, 0, 1, .none, .ro⟩,
  ⟨"CLASS_CNT2.MERGED", fun _ _ => GOOSE_CLASS_CNT2_MERGED, 1, 0, 1, .none, .ro⟩,
  ⟨"FIRST_ANY", fun _ j => GOOSE_FIRST_ANY j, 8, 4, 1, .none, .ro⟩,
  ⟨"FIRST_REAL", fun _ j => GOOSE_FIRST_REAL j, 8, 4, 1, .none, .ro⟩,
  ⟨"INJ_CTL.SRC", fun _ _ => GOOSE_INJ_CTL_SRC, 1, 0, 1, .l, .rw⟩,
  ⟨"INJ_CTL.CLASS", fun _ _ => GOOSE_INJ_CTL_CLASS, 1, 0, 1, .l, .rw⟩,
  ⟨"INJ_CTL.REACT", fun _ _ => GOOSE_INJ_CTL_REACT, 1, 0, 1, .l, .rw⟩,
  ⟨"INJ_CTL.GO", fun _ _ => GOOSE_INJ_CTL_GO, 1, 0, 1, .l, .wo⟩,
  ⟨"INJ_INIT.TYPE", fun _ _ => GOOSE_INJ_INIT_TYPE, 1, 0, 1, .l, .rw⟩,
  ⟨"INJ_INIT.NUM", fun _ _ => GOOSE_INJ_INIT_NUM, 1, 0, 1, .l, .rw⟩,
  ⟨"INJ_INIT_ACCESS", fun _ _ => GOOSE_INJ_INIT_ACCESS, 1, 0, 1, .l, .rw⟩,
  ⟨"INJ_ADDR_LO", fun _ _ => GOOSE_INJ_ADDR_LO, 1, 0, 1, .l, .rw⟩,
  ⟨"INJ_ADDR_HI", fun _ _ => GOOSE_INJ_ADDR_HI, 1, 0, 1, .l, .rw⟩,
  ⟨"INJ_STAT.INJECTED", fun _ _ => GOOSE_INJ_STAT_INJECTED, 1, 0, 1, .none, .ro⟩,
  ⟨"INJ_STAT.REFUSED", fun _ _ => GOOSE_INJ_STAT_REFUSED, 1, 0, 1, .none, .w1c⟩,
  ⟨"SRC_CFG.EVT", fun _ j => GOOSE_SRC_CFG_EVT j, 256, 4, 1, .l, .rw⟩,
  ⟨"SRC_CFG.PROMOTE", fun _ j => GOOSE_SRC_CFG_PROMOTE j, 256, 4, 1, .l, .rw⟩,
  ⟨"SRC_CFG.FENCE", fun _ j => GOOSE_SRC_CFG_FENCE j, 256, 4, 1, .l, .rw⟩,
  ⟨"SRC_STAT.COUNT", fun _ j => GOOSE_SRC_STAT_COUNT j, 256, 4, 1, .none, .ro⟩,
  ⟨"SRC_STAT.INJ_COUNT", fun _ j => GOOSE_SRC_STAT_INJ_COUNT j, 256, 4, 1, .none, .ro⟩,
  ⟨"SRC_STAT.MAX_CLASS", fun _ j => GOOSE_SRC_STAT_MAX_CLASS j, 256, 4, 1, .none, .ro⟩]

/-- The register table of GOOSE (spec/18), part 2. -/
def rowsGoose1 : List Row := [
  ⟨"SRC_STAT.PRESENT", fun _ j => GOOSE_SRC_STAT_PRESENT j, 256, 4, 1, .none, .ro⟩,
  ⟨"FENCE_STAT.FENCES", fun _ j => GOOSE_FENCE_STAT_FENCES j, 64, 4, 1, .none, .ro⟩,
  ⟨"FENCE_STAT.REL_DENIED", fun _ j => GOOSE_FENCE_STAT_REL_DENIED j, 64, 4, 1, .none, .w1c⟩]

/-- The whole register table of GOOSE. -/
def rowsGoose : List Row := rowsGoose0 ++ rowsGoose1

/-- The register table of YOKE (spec/19). -/
def rowsYoke : List Row := [
  ⟨"CTL.DET", fun _ _ => YOKE_CTL_DET, 1, 0, 1, .l, .rwl⟩,
  ⟨"CTL.FORCE_COLD", fun _ _ => YOKE_CTL_FORCE_COLD, 1, 0, 1, .l, .rwl⟩,
  ⟨"CTL.AUTO_REPAIR", fun _ _ => YOKE_CTL_AUTO_REPAIR, 1, 0, 1, .l, .rwl⟩,
  ⟨"CTL.SWITCH", fun _ _ => YOKE_CTL_SWITCH, 1, 0, 1, .l, .wo⟩,
  ⟨"CTL.REPAIR_MAX", fun _ _ => YOKE_CTL_REPAIR_MAX, 1, 0, 1, .l, .rwl⟩,
  ⟨"CTL.LOCK", fun _ _ => YOKE_CTL_LOCK, 1, 0, 1, .l, .rwl⟩,
  ⟨"STAT.ACTIVE", fun _ _ => YOKE_STAT_ACTIVE, 1, 0, 1, .none, .ro⟩,
  ⟨"STAT.ROLE_A", fun _ _ => YOKE_STAT_ROLE_A, 1, 0, 1, .none, .ro⟩,
  ⟨"STAT.ROLE_B", fun _ _ => YOKE_STAT_ROLE_B, 1, 0, 1, .none, .ro⟩,
  ⟨"STAT.HOT_MODE", fun _ _ => YOKE_STAT_HOT_MODE, 1, 0, 1, .none, .ro⟩,
  ⟨"STAT.HOT_READY", fun _ _ => YOKE_STAT_HOT_READY, 1, 0, 1, .none, .ro⟩,
  ⟨"STAT.COPY_AGE", fun _ _ => YOKE_STAT_COPY_AGE, 1, 0, 1, .none, .ro⟩,
  ⟨"STAT.HOLDING", fun _ _ => YOKE_STAT_HOLDING, 1, 0, 1, .none, .ro⟩,
  ⟨"STAT.PATH_MB", fun _ _ => YOKE_STAT_PATH_MB, 1, 0, 1, .none, .ro⟩,
  ⟨"STAT.PATH_BRD", fun _ _ => YOKE_STAT_PATH_BRD, 1, 0, 1, .none, .ro⟩,
  ⟨"STAT.ARB_GNT", fun _ _ => YOKE_STAT_ARB_GNT, 1, 0, 1, .none, .ro⟩,
  ⟨"STAT.ARB_REQ", fun _ _ => YOKE_STAT_ARB_REQ, 1, 0, 1, .none, .ro⟩,
  ⟨"CNT0_FAILOVERS", fun _ _ => YOKE_CNT0_FAILOVERS, 1, 0, 1, .none, .ro⟩,
  ⟨"CNT0.REPAIRS", fun _ _ => YOKE_CNT0_REPAIRS, 1, 0, 1, .none, .ro⟩,
  ⟨"CNT1_COPY_ERR", fun _ _ => YOKE_CNT1_COPY_ERR, 1, 0, 1, .none, .ro⟩,
  ⟨"CNT1_REFUSED", fun _ _ => YOKE_CNT1_REFUSED, 1, 0, 1, .none, .ro⟩,
  ⟨"CNT1.PATH", fun _ _ => YOKE_CNT1_PATH, 1, 0, 1, .none, .ro⟩,
  ⟨"CNT1_BLOCKED", fun _ _ => YOKE_CNT1_BLOCKED, 1, 0, 1, .none, .ro⟩,
  ⟨"LAST.CAUSE", fun _ _ => YOKE_LAST_CAUSE, 1, 0, 1, .none, .ro⟩,
  ⟨"LAST.COLD", fun _ _ => YOKE_LAST_COLD, 1, 0, 1, .none, .ro⟩,
  ⟨"LAST.NO_CKPT", fun _ _ => YOKE_LAST_NO_CKPT, 1, 0, 1, .none, .ro⟩,
  ⟨"LAST.DURATION", fun _ _ => YOKE_LAST_DURATION, 1, 0, 1, .none, .ro⟩,
  ⟨"LAST_TIME_LO", fun _ _ => YOKE_LAST_TIME_LO, 1, 0, 1, .none, .ro⟩,
  ⟨"LAST_TIME_HI", fun _ _ => YOKE_LAST_TIME_HI, 1, 0, 1, .none, .ro⟩,
  ⟨"ARB_CFG.ARB_TO", fun _ _ => YOKE_ARB_CFG_ARB_TO, 1, 0, 1, .l, .rwl⟩,
  ⟨"CKPT_BASE", fun _ _ => YOKE_CKPT_BASE, 1, 0, 1, .none, .ro⟩]

/-- The register table of COOP (spec/19). -/
def rowsCoop : List Row := [
  ⟨"SUP_STAT.IN_RANGE", fun _ _ => COOP_SUP_STAT_IN_RANGE, 1, 0, 1, .none, .ro⟩,
  ⟨"SUP_STAT.SEQ_DONE", fun _ _ => COOP_SUP_STAT_SEQ_DONE, 1, 0, 1, .none, .ro⟩,
  ⟨"SUP.NOW", fun _ j => COOP_SUP_NOW j, 9, 8, 1, .none, .ro⟩,
  ⟨"SUP.MIN", fun _ j => COOP_SUP_MIN j, 9, 8, 1, .none, .ro⟩,
  ⟨"SUP.MAX", fun _ j => COOP_SUP_MAX j, 9, 8, 1, .none, .ro⟩,
  ⟨"PMB_CTL.EN0", fun _ _ => COOP_PMB_CTL_EN0, 1, 0, 1, .l, .rw⟩,
  ⟨"PMB_CTL.EN1", fun _ _ => COOP_PMB_CTL_EN1, 1, 0, 1, .l, .rw⟩,
  ⟨"PMB_CTL.FAST", fun _ _ => COOP_PMB_CTL_FAST, 1, 0, 1, .l, .rw⟩,
  ⟨"PMB_CTL_PEC", fun _ _ => COOP_PMB_CTL_PEC, 1, 0, 1, .l, .rw⟩,
  ⟨"PMB_CTL.POLL", fun _ _ => COOP_PMB_CTL_POLL, 1, 0, 1, .l, .rw⟩,
  ⟨"PMB_LIST", fun _ j => COOP_PMB_LIST j, 8, 4, 1, .l, .rw⟩,
  ⟨"PMB_STAT.FAILED", fun _ _ => COOP_PMB_STAT_FAILED, 1, 0, 1, .none, .ro⟩,
  ⟨"PMB_MB0.SEG", fun _ _ => COOP_PMB_MB0_SEG, 1, 0, 1, .l, .rw⟩,
  ⟨"PMB_MB0_ADDR", fun _ _ => COOP_PMB_MB0_ADDR, 1, 0, 1, .l, .rw⟩,
  ⟨"PMB_MB0.CMD", fun _ _ => COOP_PMB_MB0_CMD, 1, 0, 1, .l, .rw⟩,
  ⟨"PMB_MB0.LEN", fun _ _ => COOP_PMB_MB0_LEN, 1, 0, 1, .l, .rw⟩,
  ⟨"PMB_MB0_READ", fun _ _ => COOP_PMB_MB0_READ, 1, 0, 1, .l, .rw⟩,
  ⟨"PMB_MB0_GO", fun _ _ => COOP_PMB_MB0_GO, 1, 0, 1, .l, .wo⟩,
  ⟨"PMB_MB1.DATA", fun _ _ => COOP_PMB_MB1_DATA, 1, 0, 1, .l, .rw⟩,
  ⟨"PMB_MB2_BUSY", fun _ _ => COOP_PMB_MB2_BUSY, 1, 0, 1, .none, .ro⟩,
  ⟨"PMB_MB2_DONE", fun _ _ => COOP_PMB_MB2_DONE, 1, 0, 1, .none, .w1c⟩,
  ⟨"PMB_MB2_NACK", fun _ _ => COOP_PMB_MB2_NACK, 1, 0, 1, .none, .ro⟩,
  ⟨"PMB_MB2_PEC_ERR", fun _ _ => COOP_PMB_MB2_PEC_ERR, 1, 0, 1, .none, .ro⟩,
  ⟨"SEQ_CTL_DOWN", fun _ _ => COOP_SEQ_CTL_DOWN, 1, 0, 1, .l, .wo⟩,
  ⟨"SEQ_STAT.STATE", fun _ _ => COOP_SEQ_STAT_STATE, 1, 0, 1, .none, .ro⟩,
  ⟨"SEQ_STAT.STEP", fun _ _ => COOP_SEQ_STAT_STEP, 1, 0, 1, .none, .ro⟩,
  ⟨"SEQ_STAT.ERR", fun _ _ => COOP_SEQ_STAT_ERR, 1, 0, 1, .none, .ro⟩,
  ⟨"THERM.T_WARN", fun _ _ => COOP_THERM_T_WARN, 1, 0, 1, .l, .rw⟩,
  ⟨"THERM.T_TRIP", fun _ _ => COOP_THERM_T_TRIP, 1, 0, 1, .l, .rw⟩,
  ⟨"THERM2.T_REL", fun _ _ => COOP_THERM2_T_REL, 1, 0, 1, .l, .rw⟩,
  ⟨"THERM2.EXCLUDED", fun _ _ => COOP_THERM2_EXCLUDED, 1, 0, 1, .none, .ro⟩,
  ⟨"TEMP_TEMP", fun _ j => COOP_TEMP_TEMP j, 16, 4, 1, .none, .ro⟩,
  ⟨"TEMP.TMAX", fun _ j => COOP_TEMP_TMAX j, 16, 4, 1, .none, .ro⟩,
  ⟨"GATE_LO", fun _ _ => COOP_GATE_LO, 1, 0, 1, .l, .rw⟩,
  ⟨"GATE_HI", fun _ _ => COOP_GATE_HI, 1, 0, 1, .l, .rw⟩,
  ⟨"HEAD_PWR.EN", fun _ _ => COOP_HEAD_PWR_EN, 1, 0, 1, .l, .rw⟩,
  ⟨"HEAD_PWR.LEVEL", fun _ _ => COOP_HEAD_PWR_LEVEL, 1, 0, 1, .none, .ro⟩]

/-- The register table of GLOBAL (spec/R554, R562 and the register tables of 20 and 22). -/
def rowsGlobal : List Row := [
  ⟨"READY.SEQ", fun _ _ => GLOBAL_READY_SEQ, 1, 0, 1, .none, .ro⟩,
  ⟨"READY.PLL", fun _ _ => GLOBAL_READY_PLL, 1, 0, 1, .none, .ro⟩,
  ⟨"READY.BOOT", fun _ _ => GLOBAL_READY_BOOT, 1, 0, 1, .none, .ro⟩,
  ⟨"READY.BOOT_FAIL", fun _ _ => GLOBAL_READY_BOOT_FAIL, 1, 0, 1, .none, .ro⟩,
  ⟨"READY.MEM_TRAIN", fun _ _ => GLOBAL_READY_MEM_TRAIN, 1, 0, 1, .none, .ro⟩,
  ⟨"READY.MEM_FAIL", fun _ _ => GLOBAL_READY_MEM_FAIL, 1, 0, 1, .none, .ro⟩,
  ⟨"READY.CELL_TEST", fun _ _ => GLOBAL_READY_CELL_TEST, 1, 0, 1, .none, .ro⟩,
  ⟨"READY.SYS_INIT", fun _ _ => GLOBAL_READY_SYS_INIT, 1, 0, 1, .none, .ro⟩,
  ⟨"READY.HOST", fun _ _ => GLOBAL_READY_HOST, 1, 0, 1, .none, .ro⟩,
  ⟨"READY.DISC", fun _ _ => GLOBAL_READY_DISC, 1, 0, 1, .none, .ro⟩,
  ⟨"READY.MEM_INIT", fun _ _ => GLOBAL_READY_MEM_INIT, 1, 0, 1, .none, .ro⟩,
  ⟨"READY.MODE", fun _ _ => GLOBAL_READY_MODE, 1, 0, 1, .none, .ro⟩,
  ⟨"RST_CAUSE.CAUSE", fun _ _ => GLOBAL_RST_CAUSE_CAUSE, 1, 0, 1, .none, .ro⟩,
  ⟨"RST_CAUSE.SAFE_SRC", fun _ _ => GLOBAL_RST_CAUSE_SAFE_SRC, 1, 0, 1, .none, .ro⟩,
  ⟨"RST_CAUSE.SAFE_CLASS", fun _ _ => GLOBAL_RST_CAUSE_SAFE_CLASS, 1, 0, 1, .none, .ro⟩,
  ⟨"RST_CAUSE.LATCH4", fun _ _ => GLOBAL_RST_CAUSE_LATCH4, 1, 0, 1, .none, .ro⟩,
  ⟨"RST.FORCE", fun _ _ => GLOBAL_RST_FORCE, 1, 0, 1, .l, .rw⟩,
  ⟨"RST.KEY", fun _ _ => GLOBAL_RST_KEY, 1, 0, 1, .l, .wo⟩,
  ⟨"BLK_RST.NOUGAT", fun _ _ => GLOBAL_BLK_RST_NOUGAT, 1, 0, 1, .l, .wo⟩,
  ⟨"BLK_RST.ENC", fun _ _ => GLOBAL_BLK_RST_ENC, 1, 0, 1, .l, .wo⟩,
  ⟨"BLK_RST.INSP", fun _ _ => GLOBAL_BLK_RST_INSP, 1, 0, 1, .l, .wo⟩,
  ⟨"CELL_FAIL_LO", fun _ _ => GLOBAL_CELL_FAIL_LO, 1, 0, 1, .none, .ro⟩,
  ⟨"CELL_FAIL_HI", fun _ _ => GLOBAL_CELL_FAIL_HI, 1, 0, 1, .none, .ro⟩,
  ⟨"HEADS_LO", fun _ _ => GLOBAL_HEADS_LO, 1, 0, 1, .none, .ro⟩,
  ⟨"HEADS_HI", fun _ _ => GLOBAL_HEADS_HI, 1, 0, 1, .none, .ro⟩,
  ⟨"MEM.SIZE", fun _ _ => GLOBAL_MEM_SIZE, 1, 0, 1, .none, .ro⟩,
  ⟨"MEM.SYS_BASE", fun _ _ => GLOBAL_MEM_SYS_BASE, 1, 0, 1, .none, .ro⟩,
  ⟨"BOOT_TIME.MS", fun _ _ => GLOBAL_BOOT_TIME_MS, 1, 0, 1, .none, .ro⟩,
  ⟨"DEVICE_ID", fun _ _ => GLOBAL_DEVICE_ID, 1, 0, 1, .none, .ro⟩,
  ⟨"PCI_VID.VID", fun _ _ => GLOBAL_PCI_VID_VID, 1, 0, 1, .none, .ro⟩,
  ⟨"PCI_VID.DID", fun _ _ => GLOBAL_PCI_VID_DID, 1, 0, 1, .none, .ro⟩,
  ⟨"REV.REVISION", fun _ _ => GLOBAL_REV_REVISION, 1, 0, 1, .none, .ro⟩,
  ⟨"REV.CELLS", fun _ _ => GLOBAL_REV_CELLS, 1, 0, 1, .none, .ro⟩,
  ⟨"SCRATCH", fun _ _ => GLOBAL_SCRATCH, 1, 0, 1, .l, .rw⟩,
  ⟨"FUSED_LO", fun _ _ => GLOBAL_FUSED_LO, 1, 0, 1, .none, .ro⟩,
  ⟨"FUSED_HI", fun _ _ => GLOBAL_FUSED_HI, 1, 0, 1, .none, .ro⟩,
  ⟨"GPIO_DIR.DIR", fun _ _ => GLOBAL_GPIO_DIR_DIR, 1, 0, 1, .l, .rw⟩,
  ⟨"GPIO_OUT.OUT", fun _ _ => GLOBAL_GPIO_OUT_OUT, 1, 0, 1, .l, .rw⟩,
  ⟨"GPIO_IN.IN", fun _ _ => GLOBAL_GPIO_IN_IN, 1, 0, 1, .none, .ro⟩,
  ⟨"GPIO_RES.RES", fun _ _ => GLOBAL_GPIO_RES_RES, 1, 0, 1, .l, .rw⟩]

/-- The register table of LEDGER (spec/21). -/
def rowsLedger : List Row := [
  ⟨"CTL.FLUSH", fun _ _ => LEDGER_CTL_FLUSH, 1, 0, 1, .l, .wo⟩,
  ⟨"CTL.EXPORT", fun _ _ => LEDGER_CTL_EXPORT, 1, 0, 1, .l, .wo⟩,
  ⟨"CTL.KIND", fun _ _ => LEDGER_CTL_KIND, 1, 0, 1, .l, .rw⟩,
  ⟨"CTL.DROP_EN", fun _ _ => LEDGER_CTL_DROP_EN, 1, 0, 1, .l, .rw⟩,
  ⟨"STAT.BUSY", fun _ _ => LEDGER_STAT_BUSY, 1, 0, 1, .none, .ro⟩,
  ⟨"STAT.DONE", fun _ _ => LEDGER_STAT_DONE, 1, 0, 1, .none, .w1c⟩,
  ⟨"STAT.FRESH", fun _ _ => LEDGER_STAT_FRESH, 1, 0, 1, .none, .ro⟩,
  ⟨"STAT.DROP_FLASH", fun _ _ => LEDGER_STAT_DROP_FLASH, 1, 0, 1, .none, .ro⟩,
  ⟨"STAT.SIGN_BLOCKED", fun _ _ => LEDGER_STAT_SIGN_BLOCKED, 1, 0, 1, .none, .ro⟩,
  ⟨"STAT.RESTORED", fun _ _ => LEDGER_STAT_RESTORED, 1, 0, 1, .none, .ro⟩,
  ⟨"STAT.ERR", fun _ _ => LEDGER_STAT_ERR, 1, 0, 1, .none, .ro⟩,
  ⟨"EXP_ADDR_LO", fun _ _ => LEDGER_EXP_ADDR_LO, 1, 0, 1, .l, .rw⟩,
  ⟨"EXP_ADDR_HI", fun _ _ => LEDGER_EXP_ADDR_HI, 1, 0, 1, .l, .rw⟩,
  ⟨"EXP_LEN", fun _ _ => LEDGER_EXP_LEN, 1, 0, 1, .none, .ro⟩,
  ⟨"GEN_LO", fun _ _ => LEDGER_GEN_LO, 1, 0, 1, .none, .ro⟩,
  ⟨"GEN_HI", fun _ _ => LEDGER_GEN_HI, 1, 0, 1, .none, .ro⟩,
  ⟨"ON_SECONDS", fun _ _ => LEDGER_ON_SECONDS, 1, 0, 1, .none, .ro⟩,
  ⟨"POWER_CYCLES", fun _ _ => LEDGER_POWER_CYCLES, 1, 0, 1, .none, .ro⟩,
  ⟨"LAST_FLUSH_LO", fun _ _ => LEDGER_LAST_FLUSH_LO, 1, 0, 1, .none, .ro⟩,
  ⟨"LAST_FLUSH_HI", fun _ _ => LEDGER_LAST_FLUSH_HI, 1, 0, 1, .none, .ro⟩,
  ⟨"SUM_SLOTS", fun _ _ => LEDGER_SUM_SLOTS, 1, 0, 1, .none, .ro⟩,
  ⟨"DROP_SLOTS", fun _ _ => LEDGER_DROP_SLOTS, 1, 0, 1, .none, .ro⟩,
  ⟨"CNT.FLUSHES", fun _ _ => LEDGER_CNT_FLUSHES, 1, 0, 1, .none, .ro⟩,
  ⟨"CNT.WR_ERR", fun _ _ => LEDGER_CNT_WR_ERR, 1, 0, 1, .none, .ro⟩,
  ⟨"HEAD_TEMP_HIST", fun _ j => LEDGER_HEAD_TEMP_HIST j, 4096, 4, 1, .none, .ro⟩,
  ⟨"DIE_TEMP_HIST", fun _ j => LEDGER_DIE_TEMP_HIST j, 1024, 4, 1, .none, .ro⟩,
  ⟨"EYE_HIST", fun _ j => LEDGER_EYE_HIST j, 2048, 4, 2, .none, .ro⟩,
  ⟨"GOOSE_CNT", fun _ j => LEDGER_GOOSE_CNT j, 2048, 4, 2, .none, .ro⟩,
  ⟨"ENC_FAULTS", fun _ j => LEDGER_ENC_FAULTS j, 32, 4, 2, .none, .ro⟩,
  ⟨"COPY_IDX", fun _ _ => LEDGER_COPY_IDX, 1, 4, 1, .none, .ro⟩,
  ⟨"SUP_LOW", fun _ j => LEDGER_SUP_LOW j, 9, 4, 1, .none, .ro⟩,
  ⟨"SUP_HIGH", fun _ j => LEDGER_SUP_HIGH j, 9, 4, 1, .none, .ro⟩,
  ⟨"HEAD_VENDOR", fun _ j => LEDGER_HEAD_VENDOR j, 64, 16, 1, .none, .ro⟩,
  ⟨"HEAD_MODEL", fun _ j => LEDGER_HEAD_MODEL j, 64, 16, 1, .none, .ro⟩,
  ⟨"HEAD_SERIAL", fun _ j => LEDGER_HEAD_SERIAL j, 64, 16, 1, .none, .ro⟩,
  ⟨"HEAD_TOTAL_LO", fun _ j => LEDGER_HEAD_TOTAL_LO j, 64, 16, 1, .none, .ro⟩,
  ⟨"HEAD_TOTAL_HI", fun _ j => LEDGER_HEAD_TOTAL_HI j, 64, 16, 1, .none, .ro⟩,
  ⟨"COPY", fun _ j => LEDGER_COPY j, 128, 4, 1, .none, .ro⟩]

/-- The register table of MEMC (spec/22). -/
def rowsMemc : List Row := [
  ⟨"CTL.CLR_CNT", fun _ _ => MEMC_CTL_CLR_CNT, 1, 0, 1, .l, .wo⟩,
  ⟨"STAT.CH_OK", fun _ _ => MEMC_STAT_CH_OK, 1, 0, 1, .none, .ro⟩,
  ⟨"STAT.TRAINED", fun _ _ => MEMC_STAT_TRAINED, 1, 0, 1, .none, .ro⟩,
  ⟨"ECC.CORR", fun _ _ => MEMC_ECC_CORR, 1, 0, 1, .none, .ro⟩,
  ⟨"ECC.UNCORR", fun _ _ => MEMC_ECC_UNCORR, 1, 0, 1, .none, .ro⟩,
  ⟨"ECC_ADDR.ADDR_LO", fun _ _ => MEMC_ECC_ADDR_ADDR_LO, 1, 0, 1, .none, .ro⟩,
  ⟨"ECC_ADDR.ADDR_HI", fun _ _ => MEMC_ECC_ADDR_ADDR_HI, 1, 0, 1, .none, .ro⟩,
  ⟨"HELD.HELD_NH", fun _ _ => MEMC_HELD_HELD_NH, 1, 0, 1, .none, .ro⟩,
  ⟨"HELD.HELD_INSP", fun _ _ => MEMC_HELD_HELD_INSP, 1, 0, 1, .none, .ro⟩]

/-- The register table of AUXPWM (spec/13 R378). -/
def rowsAuxpwm : List Row := [
  ⟨"EN", fun i _ => AUXPWM_EN i, 1, 4, 1, .l, .rw⟩,
  ⟨"POL", fun i _ => AUXPWM_POL i, 1, 4, 1, .s, .rw⟩,
  ⟨"PERIOD", fun i _ => AUXPWM_PERIOD i, 1, 4, 1, .s, .rw⟩,
  ⟨"IDLE", fun i _ => AUXPWM_IDLE i, 1, 4, 1, .l, .rw⟩,
  ⟨"DUTY_NOW", fun i _ => AUXPWM_DUTY_NOW i, 1, 4, 1, .none, .ro⟩]

/-- The register table of AIN (spec/13 R379). -/
def rowsAin : List Row := [
  ⟨"VALUE", fun i _ => AIN_VALUE i, 1, 4, 1, .none, .ro⟩]

end Sys2Proof.Machine
end

