-- ==== Sys2Proof/Machine/Store.lean ====
section
/-!
DEFINITION. Finite maps from natural numbers with a default value, as sorted lists of pairs in one canonical form: keys
strictly rising and no entry equal to the default. Every table of the state (registers, memory, cells, rings) is held so.
-/
namespace Sys2Proof.Machine.Store

variable {α : Type}

/-- The entry at a key, if one is listed. -/
def find? : List (Nat × α) → Nat → Option α
  | [], _ => none
  | (k', v) :: m, k => if k' = k then some v else find? m k

/-- The value at a key: the listed one, or the default. -/
def get (d : α) (m : List (Nat × α)) (k : Nat) : α := (find? m k).getD d

/-- List a value at a key, in key order, in place of any listed there. -/
def ins : List (Nat × α) → Nat → α → List (Nat × α)
  | [], k, v => [(k, v)]
  | (k', v') :: m, k, v =>
    if k < k' then (k, v) :: (k', v') :: m
    else if k = k' then (k, v) :: m
    else (k', v') :: ins m k v

/-- List nothing at a key. -/
def del (m : List (Nat × α)) (k : Nat) : List (Nat × α) := m.filter (fun e => e.1 ≠ k)

/-- Set the value at a key; the default value is never listed. -/
def put [DecidableEq α] (d : α) (m : List (Nat × α)) (k : Nat) (v : α) : List (Nat × α) :=
  if v = d then del m k else ins m k v

/-- Keys rise strictly from above a bound. -/
def rising : Option Nat → List (Nat × α) → Bool
  | _, [] => true
  | none, (k, _) :: m => rising (some k) m
  | some b, (k, _) :: m => decide (b < k) && rising (some k) m

/-- The canonical form: keys strictly rising, no entry equal to the default. -/
def wf [DecidableEq α] (d : α) (m : List (Nat × α)) : Bool :=
  rising none m && m.all (fun e => decide (e.2 ≠ d))

end Sys2Proof.Machine.Store
end

