-- ==== Sys2Proof/Machine/State.lean ====
section
/-!
DEFINITION. The state of the block as plain data: everything the spec gives the machine, its queue of waiting commands, and the
state right after reset. Every register field of the spec's tables lives in `regs` under its key, at its reset value while
nothing is listed; what the spec gives the machine beside its registers stands in the structures below.
-/
namespace Sys2Proof.Machine

open Sys2Proof

/-- Why a step can stop with a fault. -/
inductive Fault
  /-- Raised by no meaning of this model: every command has an effect in every state. Kept so that a fault, were one needed,
  has a type of its own. Safe. -/
  | none
  deriving DecidableEq, Repr

/-- Why the model can decline a command. -/
inductive Refusal
  /-- The command has no meaning in the model yet; raised by the dispatch alone. Safe: nothing is claimed of such a command. -/
  | notModelled (mnemonic : String)
  deriving DecidableEq, Repr

/-- The three orderable parts (spec/00 R1). -/
inductive Part | kv6416 | kv6432 | kv6464
  deriving DecidableEq, Repr

/-! ## Host contexts and rings (spec/02) -/

/-- What a completion carries besides the echoed fields (R69). -/
structure Completion where
  status : Nat
  info   : Nat
  time   : Nat
  detail : Nat
  cflags : Nat
  deriving DecidableEq, Repr

/-- Where a held descriptor stands: fetched; passed on and working (for a SYNC: waiting at the head); a page in progress since
its print start (R79); or finished, its completion not yet written because of the ring's completion order (R54). -/
inductive DescPhase
  | queued
  | started
  | printing
  | finished (c : Completion)
  deriving DecidableEq, Repr

/-- A descriptor fetched and not completed: the index of its first slot (R53), its 32 or 64 bytes, and its place in the fetch order of its context
(spec/04 R117). -/
structure Desc where
  idx   : Nat
  bytes : List Byte
  phase : DescPhase
  ord   : Nat := 0
  deriving DecidableEq, Repr

/-- The hidden state of one ring beside its registers. `known`: the indices have been taken from the doorbell entry since the
enable (R83), and `start` is the one given then. `guard`: descriptors still to complete with `guardStatus` under a dropped or timed-out SYNC (R66, R68). -/
structure Ring where
  known       : Bool
  start       : Nat
  fetch       : Nat
  pi          : Nat
  held        : List Desc
  guard       : Nat
  guardStatus : Nat
  deriving DecidableEq, Repr

/-- A ring that has never been enabled. -/
def Ring.reset : Ring := ⟨false, 0, 0, 0, [], 0, 0⟩

/-- An event that waits for space in its event ring (R71). -/
structure Event where
  kind   : Nat
  code   : Nat
  unit   : Nat
  info   : Nat
  time   : Nat
  detail : Nat
  vec    : Nat
  moderated : Bool
  deriving DecidableEq, Repr

/-- An entry of the MSI-X table of a function (R37): message address, message data and the vector's mask. -/
structure MsixVec where
  addr   : Nat
  data   : Nat
  masked : Bool
  deriving DecidableEq, Repr

/-- An entry after a reset of its function: masked, as PCI Express resets it (PRESUMED, notes/assumptions/63). -/
def MsixVec.reset : MsixVec := ⟨0, 0, true⟩

/-- What the PCI configuration space and the MSI-X window of a function hold (R37): the bases of its BARs, the enable and the function mask
of MSI-X, the table, the pending bits, whether it is in D3hot, and the codes of Max Payload Size and Max Read Request Size. Its Bus Master Enable is `Ctx.busMaster`. -/
structure PciFn where
  bar0    : Nat
  bar2    : Nat
  msixOn  : Bool
  fnMask  : Bool
  vecs    : List (Nat × MsixVec)
  pending : List Nat
  d3      : Bool
  mps     : Nat
  mrrs    : Nat
  deriving DecidableEq, Repr

/-- A function after its reset (PRESUMED from PCI Express, notes/assumptions/63). -/
def PciFn.reset : PciFn := ⟨0, 0, false, false, [], [], false, 0, 2⟩

/-- The hidden state of one host context. `fn`: its function's configuration space (R37); `trigAt`: when the fetch in progress was triggered, and
whether by a KICK (R58); `fetchNo` counts the descriptors fetched, for the order of spec/04 R117. `unsig`: per MSI-X vector the entries written and not signalled (R73);
`closing`: disabled, with completions still to be written (R78). -/
structure Ctx where
  inLoss    : Bool
  closing   : Bool
  fetching  : Bool
  flrBusy   : Bool
  busMaster : Bool
  seq       : Nat
  lostSince : Nat
  held      : List Event
  evtKnown  : Bool
  evtStart  : Nat
  evtProd   : Nat
  evtHost   : Nat
  unsig     : List (Nat × Nat)
  trigAt    : Option (Nat × Bool)
  fetchNo   : Nat
  fn        : PciFn
  deriving DecidableEq, Repr

/-- A context after reset. -/
def Ctx.reset : Ctx := ⟨false, false, false, false, false, 0, 0, [], false, 0, 0, 0, [], none, 0, PciFn.reset⟩

/-! ## The print cell (spec/03, 05, 06) -/

/-- The dots of one strip of one block row in the line buffer: all zero, or raw bytes laid out as R85 and R89 say. -/
inductive LbBlock
  | zeros
  | raw (bytes : List Byte)
  deriving DecidableEq, Repr

/-- A block row whose lines are ready in the line buffer (R139); `muted` when a block of it faulted (R112). -/
structure LbRow where
  b      : Nat
  muted  : Bool
  blocks : List (Nat × LbBlock)
  deriving DecidableEq, Repr

/-- A block-table entry read and kept in the fetch engine (R90, R92); `bad`: it raised a block fault (R111). -/
structure Entry where
  b     : Nat
  strip : Nat
  addr  : Nat
  size  : Nat
  zero  : Bool
  bad   : Bool
  deriving DecidableEq, Repr

/-- The block row in fetch and decode (R138): its blocks done, and whether one of them faulted. -/
structure RowFetch where
  b       : Nat
  blocks  : List (Nat × LbBlock)
  faulted : Bool
  retried : Bool
  deriving DecidableEq, Repr

/-- A committed row-line that has not fired (R179): its data line, the time last sent, the time of its last correction, whether
its FIRE frame has been queued, its mute, its line tag, whether a withdrawal came too late for it, and its data in nozzle order: the cell's, and its gang partner's. -/
structure Commit where
  line  : Nat
  tSent : Nat
  tCorr : Nat
  sent  : Bool
  muted : Bool
  tag   : Nat
  late  : Bool
  data  : List Nat
  mate  : List Nat
  deriving DecidableEq, Repr

/-- One jet row of a page: the next data line to commit, the committed lines in flight, those withdrawn with their data kept
(R182), the fire time of the last line fired, and the time of the row's last correction. -/
structure RowSt where
  next  : Nat
  fly   : List Commit
  back  : List Commit
  tPrev : Option Nat
  tCorr : Nat
  deriving DecidableEq, Repr

/-- A line that has entered and that some row has yet to map: muted, skipped, the bank that serves it, counted as defective. -/
structure LineSt where
  line    : Nat
  muted   : Bool
  skipped : Bool
  bank    : Nat
  defect  : Bool
  tag     : Nat
  deriving DecidableEq, Repr

/-- The class B:page fire-engine fields in force for a page, copied at its print start (R129). -/
structure FireParams where
  src      : Nat
  rowsEn   : Nat
  pitch    : Nat
  cellOff  : Int
  dirOff   : Int
  rowOff   : List Int
  flight   : Nat
  lead     : Nat
  lineMin  : Nat
  lagMax   : Nat
  vmin     : Nat
  blank    : Nat
  deriving DecidableEq, Repr

/-- What a LADDER prints (spec/15 R404): the descriptor's fields, and with `pattern` its strips. -/
structure LadderRun where
  pattern : Nat
  rows    : Nat
  first   : Nat
  count   : Nat
  step    : Nat
  level   : Nat
  deriving DecidableEq, Repr

/-- A page or ladder the cell has taken. `entAgain`: the entry to read next has been read with VALID = 0 (R93). `armedAt`: when (R168, spec/16 R448); `trig`: the trigger taken, with its time and PT in 2⁻¹⁶ wu (R592);
`arrived`: its IMMEDIATE or FOLLOW trigger has arrived (R173). -/
structure PageRun where
  idx      : Nat
  tagId    : Nat
  dir      : Bool
  nokey    : Bool
  table    : Nat
  nonce    : Nat
  lines    : Nat
  keySlot  : Nat
  trigKind : Nat
  edge     : Bool
  strips   : Nat
  depth    : Nat
  bsize    : Nat
  stride   : Nat
  phase    : Nat
  winBase  : Nat
  winWidth : Nat
  ladder   : Option LadderRun
  -- fetch
  entB     : Nat
  entS     : Nat
  entWait  : Bool
  entRetry : Bool
  entAgain : Bool
  entries  : List Entry
  row      : Option RowFetch
  nextRow  : Nat
  ready    : List LbRow
  -- trigger and print start
  armedAt  : Nat
  trig     : Option (Nat × Int)
  arrived  : Bool
  srcFixed : Nat
  started  : Bool
  startAt  : Nat
  p0       : Int
  par      : FireParams
  masks    : List (Nat × Nat)
  -- printing
  entered  : Nat
  rows     : List RowSt
  flight   : List LineSt
  past     : List LineSt
  muteAll  : Bool
  -- outcome
  fired    : Nat
  defects  : Nat
  firstDef : Option Nat
  cflags   : Nat
  fenced   : Bool
  authFail : Bool
  dmaErr   : Bool
  aborted  : Bool
  rangeSeen : Bool
  lastFire : Nat
  deriving DecidableEq, Repr

/-- The previous page of a cell since its last enable, for FOLLOW and the overlap check (R170, R171). -/
structure PrevPage where
  dir      : Bool
  p0       : Int
  lastLine : Nat
  pitch    : Nat
  src      : Nat
  depth    : Nat
  deriving DecidableEq, Repr

/-- A writer that waits for the background bank (R151): a MAPLOAD by its ring index with the entries it has read, or the
compensation policy. -/
inductive BgWaiter
  | mapload (idx : Nat) (entries : List Nat)
  | policy
  deriving DecidableEq, Repr

/-- What the analyser keeps of one nozzle (spec/15 R414): score, state before its pin, last verdict, and VETOED. -/
structure Noz where
  score   : Nat
  state   : Nat
  verdict : Nat
  vetoed  : Bool
  deriving DecidableEq, Repr

/-- What the policy keeps of a nozzle it compensates (spec/15 R420): the base entries of the nozzle and its donors, the entries it
wrote, its donors, and UNCOVERED. MAP entries stand at keys 0 to 2047, MERGE entries from 2048. -/
structure Kept where
  base   : List (Nat × Nat)
  wrote  : List (Nat × Nat)
  donors : List Nat
  uncov  : Bool
  deriving DecidableEq, Repr

/-- An update the policy has formed (spec/15 R418, R421, R423): its sequence number, the nozzles it covers, whether its veto hold
runs, and whether it is an overlay. -/
structure NhUpdate where
  seq     : Nat
  cover   : List Nat
  held    : Bool
  overlay : Bool
  deriving DecidableEq, Repr

/-- The hidden state of one cell. `lastSamples`: by source, the last good sample of those the cell uses (R196). `orphans`: commands that a lost page could not withdraw, by row (R193); `underRun`: the last line
that entered was an underrun (R210); `nhSwap`: updates written whose swap is pending (spec/15 R422); `nhBlind`: kept entries were lost, and no update
is formed until CLEAR (R426); `fenceSrc`: the Goose
source that fenced the cell by a reaction. `noz`, `kept`, `nhSeq`, `nhQ`: the nozzles' states, the compensation in
force, the last UPD_SEQ and the updates formed and not written (spec/15 R414 to R423). The two banks hold MAP entries at keys 0 to 2047 and MERGE entries at 2048 to 4095 (R144,
R145). -/
structure Cell where
  cur        : Option PageRun
  nxt        : Option PageRun
  tails      : List PageRun
  prev       : Option PrevPage
  goingOff   : Bool
  enHeld     : Bool
  bank0      : List (Nat × Nat)
  bank1      : List (Nat × Nat)
  bgWait     : List BgWaiter
  holder     : Option (Nat × List Nat)
  swapIdx    : List Nat
  swapBySoft : Bool
  lineTag    : Nat
  selfTest   : Bool
  relPending : Bool
  badSamples : Nat
  lastSamples : List (Nat × (Nat × Int × Int × Int))
  pause      : Bool
  noz        : List (Nat × Noz)
  kept       : List (Nat × Kept)
  nhSeq      : Nat
  nhQ        : List NhUpdate
  nhSwap     : List Nat
  nhBlind    : Bool
  underRun   : Bool
  orphans    : List (Nat × Commit)
  fenceSrc   : Nat
  deriving DecidableEq, Repr

/-- A cell after reset. -/
def Cell.reset : Cell :=
  ⟨none, none, [], none, false, false, [], [], [], none, [], false, 0, false, false, 0, [], false, [], [], 0, [], [], false, false, [], 0⟩

/-! ## The Mirold Link lane (spec/08, 09) -/

/-- The wire coder of a transmitter: its last 41 scrambled bits (bit 0 the newest), its run counter and its last bit (R217,
R220). -/
structure TxWire where
  hist : Nat
  run  : Nat
  last : Bool
  deriving DecidableEq, Repr

/-- The wire decoder and frame alignment of the device's receiver (R218 to R222): descrambler history, run counter and last bit;
the last 288 descrambled bits (bit 0 the newest); bits since a break, limited, and since the frame boundary; good frames of
VERIFY; wrong sync nibbles in a row; bits since the last stuffing violation, limited; the bits and ones of the present window of R232, and the ones
of each window that is over and not yet acted on, oldest first. -/
structure RxWire where
  hist : Nat
  run  : Nat
  last : Bool
  sr   : Nat
  seen : Nat
  pos  : Nat
  good : Nat
  bad  : Nat
  clean : Nat
  bits : Nat
  ones : Nat
  wins : List Nat
  deriving DecidableEq, Repr

/-- An entry of a FIRE frame (R257): its OP, row, mute, DEPTH code, line tag, fire time in ns and, for NEW, the payloads of its
LINE frames. -/
structure FireEnt where
  op    : Nat
  row   : Nat
  muted : Bool
  depth : Nat
  tag   : Nat
  time  : Nat
  lines : List Nat
  deriving DecidableEq, Repr

/-- A LINE frame owed to the last FIRE with NEW entries (R258): its payload, deadline and row-line. -/
structure OwedLine where
  payload  : Nat
  deadline : Nat
  rowLine  : Nat × Nat
  deriving DecidableEq, Repr

/-- A sequenced frame in the replay buffer (R254): `deadline` for LINE and FIRE frames, with the row-lines it carries. -/
structure HeldFrame where
  type     : Nat
  seq      : Nat
  payload  : Nat
  deadline : Option Nat
  rowLines : List (Nat × Nat)
  deriving DecidableEq, Repr

/-- Who waits for the response of a command: nobody, the mailbox, a control-ring descriptor, an identity page, or the device
itself. -/
inductive CmdFor
  | none
  | mailbox
  | desc (q idx : Nat)
  | ident (page : Nat)
  | device
  deriving DecidableEq, Repr

/-- A command to send: its payload without CID, whether a response is wanted, and for whom. -/
structure CmdTx where
  payload : Nat
  resp    : Bool
  for_    : CmdFor
  deriving DecidableEq, Repr

/-- A command that awaits its response (R280). -/
structure CmdWait where
  cid  : Nat
  op   : Nat
  for_ : CmdFor
  deriving DecidableEq, Repr

/-- The search of R228: candidates left to try, the one on trial with its number and the EYE_SEQ of the first report for it,
whether the fine step has been formed, and the best score with its codes. -/
structure EqSearch where
  left  : List (Nat × Nat)
  now   : Nat × Nat
  cand  : Nat
  first : Option Nat
  fine  : Bool
  best  : Option (Nat × Nat × Nat)
  deriving DecidableEq, Repr

/-- The hidden state of training (R272 to R278). `fails`: consecutive failed attempts; `everUp`: UP since EN was last written 1;
`limit`: only rates below this code are offered; `rxN`, `txN`: good frames received and frames sent of the present exchange;
`count`: the TS2 countdown; `changed`: the rate change is behind; `preset`, `ctle`: on trial in EQ_US with the best so far;
`restart`: RESTART frames until this time; `hold`: WAIT without a retry (R279). -/
structure Train where
  fails    : Nat
  everUp   : Bool
  fast     : Bool
  limit    : Nat
  failed   : Bool
  rxN      : Nat
  txN      : Nat
  offer    : Nat
  presets  : Nat
  caps     : Nat
  rate     : Nat
  count    : Option Nat
  changed  : Bool
  preset   : Nat
  ctle     : Nat
  sweeping : Bool
  final    : Bool
  bestUs   : Option (Nat × Nat × Nat)
  eqDs     : Option EqSearch
  pages    : Nat
  restart  : Option Nat
  hold     : Bool
  lastRate : Nat
  deriving DecidableEq, Repr

/-- The head authentication in progress (R286): message 1, the parts received of messages 2 and 3, and whether the Vault is
checking them. -/
structure AuthRun where
  msg1  : List Byte
  cert  : List (Nat × List Byte)
  sig   : List (Nat × List Byte)
  check : Bool
  deriving DecidableEq, Repr

/-- A scan in progress (R234, R235): its mode, and whether training or the automatic sweep runs it. -/
inductive Scan
  | host (mode : Nat)
  | auto
  | train
  deriving DecidableEq, Repr

/-- The hidden state of one lane beside its registers; `sync` holds the exchanges without a reply, oldest first (R269); `tlmAt` is when its last TLM frame
arrived, `lockAt` when its receiver last reached LOCKED. -/
structure Link where
  tx       : TxWire
  rx       : RxWire
  -- reliable delivery, downstream
  seq      : Nat
  heldTx   : List HeldFrame
  replay   : Option Nat
  rpBase   : Nat
  rpCount  : Nat
  -- reliable delivery, upstream
  expect   : Nat
  ackValid : Bool
  unacked  : Nat
  ackDue   : Bool
  nak      : Bool
  nakAt    : Option (Nat × Nat)
  -- frames waiting
  fireNew  : List FireEnt
  fireFix  : List FireEnt
  owed     : List OwedLine
  cmds     : List CmdTx
  waits    : List CmdWait
  cid      : Nat
  authTx   : List Nat
  marked   : List (Nat × Nat)
  -- halt
  haltCause : Nat
  haltSent  : Nat
  resume    : Bool
  -- time lock
  syncDue  : Bool
  acquire  : Nat
  xid      : Nat
  sync     : List (Nat × Nat)
  rtts     : List Nat
  discards : Nat
  okRun    : Nat
  missRun  : Nat
  need     : Nat
  -- power states
  idleTx   : Nat
  idleRx   : Nat
  wakeIdle : Nat
  wakeReq  : Bool
  usNotice : Bool
  los      : Bool
  lockAt   : Nat
  -- training, authentication, scans, telemetry
  train    : Train
  auth     : Option AuthRun
  scan     : Option Scan
  autoDue  : Bool
  eyeSeq   : Nat
  tlmFault : Bool
  tlmSeen  : Bool
  tlmAt    : Option Nat
  deriving DecidableEq, Repr

/-- The receiver after a break in its stream. -/
def RxWire.reset : RxWire := ⟨0, 0, false, 0, 0, 0, 0, 0, 329, 0, 0, []⟩

/-- Training before its first attempt. -/
def Train.reset : Train :=
  ⟨0, false, false, 3, false, 0, 0, 0, 0, 0, 0, none, false, 0, 0, false, false, none, none, 0, none, false, 0⟩

/-- A lane in OFF that has never been enabled. -/
def Link.reset : Link :=
  { tx := ⟨0, 0, false⟩, rx := RxWire.reset, seq := 0, heldTx := [], replay := none, rpBase := 0, rpCount := 0, expect := 0,
    ackValid := false, unacked := 0, ackDue := false, nak := false, nakAt := none, fireNew := [], fireFix := [], owed := [],
    cmds := [], waits := [], cid := 0, authTx := [], marked := [], haltCause := 0, haltSent := 0, resume := false,
    syncDue := false, acquire := 0, xid := 0, sync := [], rtts := [], discards := 0, okRun := 0, missRun := 0, need := 8,
    idleTx := 0, idleRx := 0, wakeIdle := 0, wakeReq := false, usNotice := false, los := false, lockAt := 0, train := Train.reset,
    auth := none, scan := none, autoDue := false, eyeSeq := 0, tlmFault := false, tlmSeen := false, tlmAt := none }

/-! ## The Vault (spec/17) -/

/-- What the one-time-programmable array holds beside what the factory put there: the anti-rollback counter, the revoked key indices, the
owner debug key's hash, the tamper count and the last cause (R454, R455, R471, R475). No reset changes it. -/
structure Otp where
  rbCount   : Nat
  revoked   : Nat
  ownerHash : Option (List Byte)
  tampers   : Nat
  lastCause : Nat
  deriving DecidableEq, Repr

/-- An operation of a context that runs in the Vault: its OP and address (R457, R460). -/
structure VaultOp where
  op   : Nat
  addr : Nat
  deriving DecidableEq, Repr

/-- The hidden state of the Vault: the operation of each context, the expiry of each slot, the target of a ROLLBACK that runs, and the
highest debug level accepted since reset (R457). -/
structure Vault where
  ops      : List (Nat × VaultOp)
  expiry   : List (Nat × Nat)
  rbTarget : Nat
  debugMax : Nat
  deriving DecidableEq, Repr

/-- The Vault after reset. -/
def Vault.reset : Vault := ⟨[], [], 0, 0⟩

/-! ## Nougat (spec/04) -/

/-- A STRIP that Nougat has accepted: the context and ring index it came by, its place in the fetch order, what it needs from its descriptor, the next block
to dispatch, and its running counts. `dead`: no further block is dispatched (R120, R122), with the status it ends with. -/
structure StripJob where
  ctx       : Nat
  ring      : Nat
  idx       : Nat
  encrypt   : Bool
  src       : Nat
  entry     : Nat
  firstLine : Nat
  lines     : Nat
  strip     : Nat
  depth     : Nat
  bsize     : Nat
  keySlot   : Nat
  nonce     : Nat
  next      : Nat
  committed : Nat
  coded     : Nat
  crumbs    : Nat
  dead      : Option Nat
  ord       : Nat := 0
  deriving DecidableEq, Repr

/-- A block in a lane: its job (context, ring, index), its number, its dispatch order in the context and, once coded, its bytes
in memory (header, payload, tag). -/
structure LaneBlock where
  ctx   : Nat
  ring  : Nat
  idx   : Nat
  i     : Nat
  order : Nat
  retried : Bool
  coded : Option (List Byte)
  deriving DecidableEq, Repr

/-- The hidden state of Nougat: accepted STRIPs in fetch order, the 16 lanes, consecutive Crumbs per lane, the blocks dispatched so
far, and the round-robin position. -/
structure Nougat where
  jobs     : List StripJob
  lanes    : List (Nat × LaneBlock)
  crumbRun : List (Nat × Nat)
  sent     : Nat
  rrTurn   : Nat
  deriving DecidableEq, Repr

/-- Nougat after reset. -/
def Nougat.reset : Nougat := ⟨[], [], [], 0, 0⟩

/-! ## The governor (spec/07) -/

/-- The hidden state of the governor: the DATA stop and the rate term as latched between their two limits (R203, R206), the two
latched causes, the demand in force below one step in 1/1,000 (R204), the demand that the present PWM period carries (R205), the
demand of the last frame sent, the frame count, when the last event frame left and whether one is due, and the launch time of the
last periodic frame (R208); when the present PWM period began; and whether the safe state was left after the last update (R207). -/
structure Gov where
  dataStop   : Bool
  rate       : Bool
  lossLatch  : Bool
  underLatch : Bool
  frac       : Nat
  pwm        : Nat
  sentDemand : Nat
  seq        : Nat
  lastEvent  : Option Nat
  eventDue   : Bool
  safeDue    : Bool
  lastPeriodic : Option Nat
  pwmStart   : Nat
  fromSafe   : Bool
  deriving DecidableEq, Repr

/-- The governor after reset. -/
def Gov.reset : Gov := ⟨false, false, false, false, 0, 1024, 1024, 0, none, false, false, none, 0, false⟩

/-! ## Fault reports (spec/18) -/

/-- A fault report on the safety bus (R477): its source, the reporting unit, its class, initiator, access type, address and
time of detection; `merged` counts the faults folded into it. -/
structure Report where
  src      : Nat
  unit     : Nat
  cls      : Nat
  initType : Nat
  initNum  : Nat
  access   : Nat
  addr     : Nat
  time     : Nat
  merged   : Nat
  deriving DecidableEq, Repr

/-- The hidden state of the Goose: its release self-test runs, and a record that reacts at class 3 or 4 has been taken since the arm
(R488); the sources that are PRESENT through promotion (R489); a block beside a cell or a pipeline has lost its heartbeat (R495); and a
self-check has failed and the record store has not passed a check since (R494). -/
structure Goose where
  relTest  : Bool
  relBad   : Bool
  promoted : List Nat
  hbLost   : Bool
  storeBad : Bool
  deriving DecidableEq, Repr

/-- The Goose after reset. -/
def Goose.reset : Goose := ⟨false, false, [], false, false⟩

/-! ## The Yoke and the Coop (spec/19, 20, 23) -/

/-- The hidden state of the Yoke and of its watchers in the Coop (spec/19). `cycle`: the cycle count of the beats. Consecutive beat windows:
`mbMiss` missed on the mailbox path, `bothMiss` on both, `differ` with good beats that differ, `mbOnly` and `brdOnly` missed on one path while
the other's beats arrive, `stMiss` of the standby; `coopMiss`: whether the Coop's own copy missed each of the last windows, newest first.
`mbLost`, `brdLost`: a path reported until it recovers (R505). `repairs`: repairs of each core since reset (R513). `syncWait`: a core waits for
one good copy (R513). `ckpts`: the times of the checkpoints in the two buffers, newest first (R510). -/
structure Yoke where
  cycle    : Nat
  mbMiss   : Nat
  bothMiss : Nat
  differ   : Nat
  mbOnly   : Nat
  brdOnly  : Nat
  stMiss   : Nat
  coopMiss : List Bool
  mbLost   : Bool
  brdLost  : Bool
  repairs  : List (Nat × Nat)
  syncWait : Bool
  ckpts    : List Nat
  deriving DecidableEq, Repr

/-- The Yoke after reset. -/
def Yoke.reset : Yoke := ⟨0, 0, 0, 0, 0, 0, 0, [], false, false, [], false, []⟩

/-- A step of the sequencer table (R519). -/
structure SeqStep where
  seg    : Nat
  addr   : Nat
  action : Nat
  rail   : Nat
  value  : Nat
  wait   : Nat
  deriving DecidableEq, Repr

/-- The hidden state of the Coop. `running`: out of its own reset; `rising`: a feed has risen and the 1 ms of R525 runs; `failed`: a self-check
has failed (R522); `hold`: the start-up hold (R526); `coreReset`: the core reset is asserted (R529); `pllOn`: the root PLL is enabled (R528);
`onRc`: SAFE and AON run on the RC (R28). `steps`, `done`, `down`: the sequencer table, the steps whose regulator has been turned on, and that it
runs backwards (R519, R520). `watched`: the rails watched (R516). `outlier`: readings in a row outside per sensor; `warned`, `tripped`:
T_WARN and T_TRIP reached (R521). `misses`: unanswered polls per list entry, `iout` the last READ_IOUT in mA (R518). `alive`: the level of ARB_ALIVE
(spec/23 R577). `disc`: the discovery set of the firmware (spec/20 R537); `discGated`: the cells that discovery gated (R545). -/
structure Coop where
  running   : Bool
  rising    : Bool
  failed    : Bool
  hold      : Bool
  coreReset : Bool
  pllOn     : Bool
  onRc      : Bool
  steps     : List SeqStep
  done      : List Nat
  down      : Bool
  watched   : Nat
  outlier   : List (Nat × Nat)
  warned    : Bool
  tripped   : Bool
  misses    : List (Nat × Nat)
  iout      : List (Nat × Nat)
  alive     : Bool
  disc      : List Nat
  discGated : List Nat
  deriving DecidableEq, Repr

/-- The Coop as power is applied: held in its reset, the core reset asserted. -/
def Coop.reset : Coop :=
  { running := false, rising := false, failed := false, hold := false, coreReset := true, pllOn := false, onRc := true, steps := [], done := [],
    down := false, watched := 0, outlier := [], warned := false, tripped := false, misses := [], iout := [], alive := false, disc := [], discGated := [] }

/-! ## The configuration fabric (spec/19 R511) -/

/-- A host write held while a takeover runs: who, and the word and fields it sets. -/
structure HeldWrite where
  who  : Sender
  addr : Nat
  lo   : Nat
  val  : Nat
  deriving DecidableEq, Repr

/-! ## The Ledger (spec/21) -/

/-- A flush that runs (R552): the kind being written (1 summary, 2 drop counts), its slot, the slots of that kind that have failed, and the records
formed at its start; no drop counts for a flush of the summary alone. -/
structure FlushRun where
  kind    : Nat
  slot    : Nat
  fails   : Nat
  sumRec  : List Byte
  dropRec : Option (List Byte)
  deriving DecidableEq, Repr

/-- The hidden state of the Ledger: a flush that runs; a flush asked for meanwhile, `true` with drop counts; the KIND of an export, and its record
once it runs; slot and GEN of the newest record of each kind in flash; the seconds since READY.HOST after a power cycle until its flush (R552);
and whether the drop counts are still to be loaded (R551). -/
structure Ledger where
  flush   : Option FlushRun
  again   : Option Bool
  exp     : Option (Nat × Option (List Byte))
  newSum  : Option (Nat × Nat)
  newDrop : Option (Nat × Nat)
  after   : Option Nat
  loading : Bool
  deriving DecidableEq, Repr

/-- The Ledger as power is applied. -/
def Ledger.reset : Ledger := ⟨none, none, none, none, none, none, false⟩

/-! ## Encoder inputs (spec/10, 11) -/

/-- A digital line behind its edge filter: the qualified level and how many samples the other level has held (R294). -/
structure LineFilter where
  level : Bool
  run   : Nat
  deriving DecidableEq, Repr

/-- The correction coefficients in the units of CAL_COEF (R318). -/
structure Coef where
  offS  : Int
  offC  : Int
  gainC : Int
  phSin : Int
  phSec : Int
  deriving DecidableEq, Repr

/-- A calibration run (R320 to R327): its phase, the settings it latched, the wraps and the bins gathered (samples, sum of raw s,
sum of raw c), whether its trim waits for the other input of the pair, and whether it ends when its trim ends. -/
structure CalRun where
  phase   : Nat
  periods : Nat
  binMin  : Nat
  wraps   : Nat
  bins    : List (Nat × (Nat × Int × Int))
  waits   : Bool
  dead    : Bool
  deriving DecidableEq, Repr

/-- The hidden state of one encoder input. Positions are in 2⁻¹⁶ wu, velocity in 2⁻³² wu/ns, acceleration in 2⁻⁴⁸ wu/ns² (R307).
`phi` is φ_prev; `rawPhi` the phase of the last sample measured, for the wraps of R293; `k` counts samples; `dist` holds the sample
numbers of the last disturbances; `coast` the samples coasted without a break; `idxBase`, `idxRef` of R303; `innov` the last
innovations; `hist` the last positions with their times; `oldCoef` the coefficients before an application (R326); `reform` after a
trim (R322). -/
structure Enc where
  t        : Nat
  count    : Int
  posOff   : Int
  x        : Int
  v        : Int
  a        : Int
  settled  : Bool
  acquired : Bool
  phi      : Option Nat
  rawPhi   : Option Nat
  k        : Nat
  wrapUp   : Option Nat
  wrapDown : Option Nat
  ovs      : Bool
  noTime   : Bool
  lineA    : LineFilter
  lineB    : LineFilter
  lineZ    : LineFilter
  disSin   : Nat
  disCos   : Nat
  disIdx   : Nat
  outl     : Nat
  dist     : List Nat
  coast    : Nat
  idxRun   : Nat
  idxDone  : Bool
  idxBase  : Option Int
  idxRef   : Option Int
  innov    : List Nat
  hist     : List (Nat × Int)
  oldCoef  : Option Coef
  reform   : Bool
  cal      : Option CalRun
  deriving DecidableEq, Repr

/-- An input after reset. -/
def Enc.reset : Enc :=
  { t := 0, count := 0, posOff := 0, x := 0, v := 0, a := 0, settled := false, acquired := false, phi := none, rawPhi := none, k := 0,
    wrapUp := none, wrapDown := none, ovs := false, noTime := false, lineA := ⟨false, 0⟩, lineB := ⟨false, 0⟩,
    lineZ := ⟨false, 0⟩, disSin := 0, disCos := 0, disIdx := 0, outl := 0, dist := [], coast := 0, idxRun := 0,
    idxDone := false, idxBase := none, idxRef := none, innov := [], hist := [], oldCoef := none, reform := false, cal := none }

/-- The hidden state of a dual pair (R312 to R315): a switch that is due at the next sample, with the position that the pair is then to
issue, the pair offset K in 2⁻¹⁶ wu, the tracked offset OFF in 2⁻⁴⁸ wu, samples since the standby joined, samples of disagreement,
and the last positions issued. -/
structure Pair where
  due    : Option Int
  offK   : Int
  off    : Int
  joined : Nat
  run    : Nat
  hist   : List (Nat × Int)
  deriving DecidableEq, Repr

/-- A pair after reset. -/
def Pair.reset : Pair := ⟨none, 0, 0, 0, 0, []⟩

/-- The virtual encoder (R316): position in 2⁻¹⁶ wu, velocity in 2·10⁻⁸ µm/s, the change of velocity of the last step, the time of
the last step, a LOAD that waits for the next step, and the last positions. -/
structure Virt where
  t    : Nat
  x    : Int
  v    : Int
  dv   : Int
  load : Bool
  hist : List (Nat × Int)
  deriving DecidableEq, Repr

/-- The virtual encoder after reset. -/
def Virt.reset : Virt := ⟨0, 0, 0, 0, false, []⟩

/-! ## Camera pipelines (spec/14) -/

/-- One entry of a CCI write list. -/
structure CciWrite where
  dev  : Nat
  alen : Nat
  dlen : Nat
  reg  : Nat
  data : Nat
  deriving DecidableEq, Repr

/-- A copy of a pipeline's settings: the class B:frame fields in the order of the register table, the defect map's words, the shading
gains and the matrix (an empty list stands for the reset values), and the CCI write list. -/
structure PipeSet where
  flds  : List Nat
  dpc   : List Nat
  shade : List Nat
  mat   : List Nat
  cci   : List CciWrite
  deriving DecidableEq, Repr

/-- A COMMIT that is pending (R399, R400): its descriptor, SETTINGS_ID and pending set; whether its list waits for the end of the open
frame; N + 1; whether its list has been acknowledged; the apply frame and whether it is late. -/
structure InspCommit where
  idx     : Nat
  id      : Nat
  set     : PipeSet
  waitEnd : Bool
  after   : Nat
  acked   : Bool
  apply   : Option Nat
  late    : Bool
  deriving DecidableEq, Repr

/-- What the record header says of a frame (R396), and whether the results ring held a BUF when the frame started. -/
structure FrameHdr where
  num      : Nat
  id       : Nat
  csi      : Nat
  flags    : Nat
  lines    : Nat
  embLen   : Nat
  tFs      : Nat
  tFe      : Nat
  posFirst : Int
  posLast  : Int
  resBuf   : Bool
  deriving DecidableEq, Repr

/-- The open frame: its header so far, its lines and their positions, newest first, its embedded bytes, whether the rest of it is dropped,
its frame-store slot, the stamp of a Line Start that waits for its line, and the buffers and tap point taken at its Frame Start. -/
structure Frame where
  hdr      : FrameHdr
  rows     : List (List Nat)
  pos      : List Int
  emb      : List Byte
  dropping : Bool
  slot     : Option Nat
  lineT    : Option Nat
  statBuf  : Option Nat
  tapBuf   : Option Nat
  tapPoint : Nat
  tapDue   : Bool
  deriving DecidableEq, Repr

/-- A frame in the frame store (R393): its slot, header, analysis plane and line positions. -/
structure Plane where
  slot : Nat
  hdr  : FrameHdr
  rows : List (List Nat)
  pos  : List Int
  deriving DecidableEq, Repr

/-- The hidden state of one pipeline: the shadow of the loaded tables and list, the pending COMMIT, the open frame, the number of the next
frame, a DISARM that waits for the frame's end, the free slots, oldest first, and the frames in store, oldest first. -/
structure Pipe where
  dpc    : List Nat
  shade  : List Nat
  mat    : List Nat
  cci    : List CciWrite
  commit : Option InspCommit
  frame  : Option Frame
  next   : Nat
  disarmDue : Bool
  free   : List Nat
  planes : List Plane
  deriving DecidableEq, Repr

/-- A pipeline after reset. -/
def Pipe.reset : Pipe := ⟨[], [], [], [], none, none, 0, false, [], []⟩

/-- A write list on a CCI master (R399, R402): the pipeline, the entries left, whether it has been launched, and whether its COMMIT still
stands. -/
structure CciJob where
  pipe     : Nat
  left     : List CciWrite
  launched : Bool
  live     : Bool
  deriving DecidableEq, Repr

/-! ## Ladders passed to pipelines (spec/15 R407, R408) -/

/-- A ladder that a cell passed to a pipeline when its line 0 entered: geometry, Q0, TAG, depth and what the analyser needs of the
cell; `frames` are the numbers of the frames that touch it, `hdr` the last one's header, `seen` the positions that frames have covered, in
wu relative to Y of line 0; `ready` says that it can be analysed, `counted` that it counts as pending. -/
structure LadderRec where
  pipe    : Nat
  cell    : Nat
  tagId   : Nat
  depth   : Nat
  dir     : Bool
  pitch   : Nat
  src     : Nat
  q0      : Int
  lines   : Nat
  blank   : Nat
  rowsEn  : Nat
  run     : LadderRun
  frames  : List Nat
  flags   : Nat
  hdr     : Option FrameHdr
  seen    : List (Int × Int)
  ready   : Bool
  counted : Bool
  deriving DecidableEq, Repr

/-! ## Motion axes (spec/12) -/

/-- A segment row (R334): duration in µs, end velocity in 2⁻¹⁶ microstep/ms, end position in 2⁻¹⁶ microstep. -/
structure SegRow where
  dur : Nat
  vel : Int
  pos : Int
  deriving DecidableEq, Repr

/-- The cubic that runs (R337): its begin state, duration, end state and the time elapsed in µs. -/
structure Seg where
  p0  : Int
  v0  : Int
  dur : Nat
  p1  : Int
  v1  : Int
  t   : Nat
  deriving DecidableEq, Repr

/-- A move over the table: the running or interrupted row, the last row, the cubic that runs, and whether its last row has ended. -/
structure AxMove where
  row  : Nat
  last : Nat
  seg  : Seg
  done : Bool
  deriving DecidableEq, Repr

/-- A motion at constant acceleration from (p0, v0) until the velocity is `goal`, and at that velocity from then on (R348, R353); `t` is
the time elapsed in µs. -/
structure Ramp where
  p0   : Int
  v0   : Int
  acc  : Nat
  goal : Int
  t    : Nat
  deriving DecidableEq, Repr

/-- Homing in progress (R353): 1 off the source, 2 toward it, 3 past the latch, 4 ended by a STOP; the direction, the source, the latch
and the motion before the present one, newest first. -/
structure Homing where
  phase : Nat
  neg   : Bool
  limit : Bool
  latch : Option Int
  old   : List Ramp
  deriving DecidableEq, Repr

/-- What one coil's bridge pair does (R331, R342, R343): released; a duty in 2⁻¹⁶; driven toward positive or negative current; or
decaying, with both low sides on or driven against the current. -/
inductive CoilOut
  | released
  | duty (d : Int)
  | drive (positive : Bool)
  | slow
  | fast (positive : Bool)
  deriving DecidableEq, Repr

/-- What a descriptor with AT_END waits for: the move's end, rest, OFF, or (a START held as the chained move) its move's begin. -/
inductive AxUntil | moveEnd | rest | off | chain
  deriving DecidableEq, Repr

/-- A descriptor that waits, by ring and index. -/
structure AxWait where
  till : AxUntil
  q    : Nat
  idx  : Nat
  deriving DecidableEq, Repr

/-- The hidden state of one axis. Positions are in 2⁻¹⁶ microstep, velocities in 2⁻¹⁶ microstep/ms. `chain` is the chained move's rows;
`abandon` the ARG of a RESUME held until rest; `holding` whether HOLD_DELAY has passed; `cur` the current I in mA; `refA`, `refB` the
coil references in 2⁻¹⁶ mA and whether their sizes fall; `blankA`, `blankB` the end of the comparators' blanking; `changes` coil A's bridge changes in this chopper window; `levels` the
qualified levels of LIM_P, LIM_N and HOME; `releaseDue` the 20 ms before the bridges are released. -/
structure Axis where
  pos     : Int
  vel     : Int
  table   : List (Nat × SegRow)
  move    : Option AxMove
  ramp    : Option Ramp
  home    : Option Homing
  chain   : Option (Nat × Nat)
  abandon : Bool
  disabling : Bool
  waits   : List AxWait
  on      : Bool
  holding : Bool
  cur     : Nat
  refA    : Int
  refB    : Int
  fallA   : Bool
  fallB   : Bool
  coilA   : CoilOut
  coilB   : CoilOut
  blankA  : Nat
  blankB  : Nat
  changes : Nat
  levels  : Nat
  limitRun : Nat
  chopSaid : Bool
  releaseDue : Bool
  deriving DecidableEq, Repr

/-- An axis after reset: bridges released, every input at its high level. -/
def Axis.reset : Axis :=
  { pos := 0, vel := 0, table := [], move := none, ramp := none, home := none, chain := none, abandon := false, disabling := false,
    waits := [], on := false, holding := true, cur := 0, refA := 0, refB := 0, fallA := false, fallB := false, coilA := .released,
    coilB := .released, blankA := 0, blankB := 0, changes := 0, levels := 7, limitRun := 0, chopSaid := false, releaseDue := false }

/-! ## Loop slots (spec/13) -/

/-- The hidden state of one slot: the ramped set-point SPR and the integrator I in 2⁻¹⁶ of a count; the following-error timer in µs; stale
samples in a row; when PV_SW was last written; and whether EN has been written 0 since the last sample. -/
structure Slot where
  spr      : Int
  i        : Int
  feUs     : Nat
  staleRun : Nat
  swAt     : Option Nat
  stopping : Bool
  deriving DecidableEq, Repr

/-- A slot after reset. -/
def Slot.reset : Slot := ⟨0, 0, 0, 0, none, false⟩

/-! ## Time and network (spec/16) -/

/-- A domain trigger that is pending (R447, R448). -/
structure DtTrig where
  number : Nat
  time   : Nat
  deriving DecidableEq, Repr

/-- The hidden state of the TIME block: a step that the next tick takes (R429); what is left of a slew in 2⁻³² ns (R430); the last values
the servo gave INCR_OFF, newest first, and its runs of good and of bad offsets (R434); the triggers pending, in order of acceptance,
and the origin, number, SEQ and time of those accepted in the last 10 ms; the level of PPS_OUT, the time of its last rise and the width
that it latched (R443); the qualified levels of the MARK inputs (spec/06 R174), low at reset (DESIGN CHOICE,
notes/assumptions/83). -/
structure TimeSt where
  step    : Option Nat
  adj     : Int
  incrs   : List Int
  good    : Nat
  bad     : Nat
  pend    : List DtTrig
  seen    : List (Nat × Nat × Nat × Nat)
  ppsOut  : Bool
  ppsRise : Option Nat
  ppsLen  : Nat
  marks   : List (Nat × Bool)
  deriving DecidableEq, Repr

/-- TIME after reset. -/
def TimeSt.reset : TimeSt := ⟨none, 0, [], 0, 0, [], [], false, none, 0, []⟩

/-- A LAUNCH at the head of its queue whose frame has been fetched, and whether it is known to be late (R440, R442). -/
structure Launch where
  q     : Nat
  idx   : Nat
  bytes : List Byte
  late  : Bool
  deriving DecidableEq, Repr

/-- The hidden state of an Ethernet port: the device time, in 0.1 ns, until which its wire is busy, the launches fetched, and the untimed
frames that wait (R441). -/
structure NetPort where
  busyTill : Nat
  launches : List Launch
  untimed  : List (List Byte)
  deriving DecidableEq, Repr

/-- A port after reset. -/
def NetPort.reset : NetPort := ⟨0, [], []⟩

/-! ## The whole block -/

/-- What leaves the block, newest first in `State.out`: the model's own record of its outputs. -/
inductive Out
  /-- A DMA write to host memory through the function of a context. -/
  | hostWrite (ctx addr : Nat) (bytes : List Byte)
  /-- The MSI-X message of a vector of a context's function (R72). -/
  | msix (ctx vec : Nat)
  /-- A frame of 288 bits on a lane, with its bits on the wire after scrambling and stuffing (R216 to R220). -/
  | laneFrame (n frame : Nat) (wire : List Bool)
  /-- The wake preamble of a lane: alternating bits for 4.0 µs to 4.5 µs (R240). -/
  | preamble (n : Nat) (wire : List Bool)
  /-- A frame on an Ethernet port, its FCS last (R209, R439). -/
  | netFrame (port : Nat) (bytes : List Byte)
  /-- A beat of a Yoke core on the mailbox or, with `board`, on HB_OUT (spec/19 R501). -/
  | beat (board : Bool) (core word : Nat)
  /-- A PMBus transaction: segment, address, command, the bytes written, and whether it reads (spec/19 R517). -/
  | pmbus (seg addr cmd : Nat) (data : List Byte) (read : Bool)
  /-- Bytes programmed into the QSPI flash at an offset, its sectors erased before (spec/21 R552). -/
  | flashWrite (off : Nat) (bytes : List Byte)
  /-- The data that a read by a master of the fabric returns (spec/22 R556). -/
  | answer (who : Sender) (value : Nat)
  /-- Configuration Request Retry Status for a request to a function (spec/02 R40). -/
  | retryStatus (ctx : Nat)
  /-- A transaction of CCI master `m`: one entry of a write list as it ends, or a mailbox transaction as it starts (R399, R402). -/
  | cci (m : Nat) (w : CciWrite) (read : Bool)
  deriving DecidableEq, Repr

/-- The state of the block. -/
structure State where
  /-- The commands that wait, first in, first out. -/
  pending  : List Instr
  /-- The part fused (R1). -/
  part     : Part
  /-- Register fields that differ from their reset value, by key: for a class B field the shadow (R12, R14). -/
  regs     : List (Nat × Nat)
  /-- Class B fields in force that differ from their reset value, by key. -/
  force    : List (Nat × Nat)
  /-- The page store: bytes that are not 0, by offset (R533: uninitialised bursts read as zeros). -/
  mem      : List Host.Cell
  /-- 64-bit words of the page store that hold an uncorrectable error (R497). -/
  badWords : List Nat
  /-- Device time: ns and 2⁻³² ns (R427). -/
  timeNs   : Nat
  timeFrac : Nat
  /-- The model's own counter of free values drawn. -/
  drawn    : Nat
  ctxs     : List (Nat × Ctx)
  rings    : List (Nat × Ring)
  cells    : List (Nat × Cell)
  nougat   : Nougat
  /-- Fault reports pending in their units, oldest first (R477). -/
  reports  : List Report
  /-- A block drives its line to the safe-state logic (R484). -/
  safeLine : Bool
  /-- Level of the ball STOP_FIRE_N and the latch of R198. -/
  stopFireN    : Bool
  stopFireLatch : Bool
  /-- A boundary-scan instruction that drives the pins is in force (R543). -/
  bscan    : Bool
  links    : List (Nat × Link)
  /-- Drops commanded per nozzle, by cell × 2048 + nozzle: 48-bit saturating counts (spec/21 R547). -/
  drops    : List (Nat × Nat)
  /-- The keys in the Vault's 64 slots: 32 bytes each, none in an empty slot. -/
  keys     : List (Nat × List Byte)
  otp      : Otp
  vault    : Vault
  gov      : Gov
  goose    : Goose
  yoke     : Yoke
  coop     : Coop
  /-- Host writes held from the decision of a takeover until it completes, oldest first (R511). -/
  heldWrites : List HeldWrite
  ledger   : Ledger
  encs     : List (Nat × Enc)
  pairs    : List (Nat × Pair)
  virt     : Virt
  pipes    : List (Nat × Pipe)
  /-- The write lists of each CCI master, in the order in which their COMMITs started. -/
  cciJobs  : List (Nat × List CciJob)
  /-- Ladders passed and not analysed, oldest first. -/
  ladders  : List LadderRec
  axes     : List (Nat × Axis)
  slots    : List (Nat × Slot)
  /-- The loop engine's ticks since reset (R361). -/
  loopTick : Nat
  /-- The first conversion of a tick of an auxiliary input, while the second is still to come (R379). -/
  ainFirst : List (Nat × Option Nat)
  /-- How long each AUX_PWM output is high in its present period, in 10 ns (R378). -/
  auxHigh  : List (Nat × Nat)
  time     : TimeSt
  nets     : List (Nat × NetPort)
  /-- Words of a counter captured by a read of its low word, by address (spec/10 R311, spec/12 R333, spec/16 R427). -/
  caps     : List (Nat × Nat)
  /-- Writes and messages to host memory that wait for their port's link to leave L1, oldest first (R42). -/
  l1Held   : List Out
  /-- What has left the block, newest first. -/
  out      : List Out
  deriving DecidableEq, Repr

/-- The machine right after reset: nothing waits, every register field at its reset value, every unit idle. -/
def State.reset : State where
  pending := []
  part := .kv6464
  regs := []
  force := []
  mem := []
  badWords := []
  timeNs := 0
  timeFrac := 0
  drawn := 0
  ctxs := []
  rings := []
  cells := []
  nougat := Nougat.reset
  reports := []
  safeLine := false
  stopFireN := false
  stopFireLatch := true
  bscan := false
  links := []
  drops := []
  keys := []
  otp := ⟨0, 0, none, 0, 0⟩
  vault := Vault.reset
  gov := Gov.reset
  goose := Goose.reset
  yoke := Yoke.reset
  coop := Coop.reset
  heldWrites := []
  ledger := Ledger.reset
  encs := []
  pairs := []
  virt := Virt.reset
  pipes := []
  cciJobs := []
  ladders := []
  axes := []
  slots := []
  loopTick := 0
  ainFirst := []
  auxHigh := []
  time := TimeSt.reset
  nets := []
  caps := []
  l1Held := []
  out := []

end Sys2Proof.Machine
end

