-- ==== Sys2Proof/Machine/Ops.lean ====
section
/-!
DEFINITION. The named operations that every meaning is built from: reading and writing register fields, the values in force, the
page store, device time, free values, the outputs, and raising a fault report on the safety bus.
-/
namespace Sys2Proof.Machine

open Sys2Proof

/-! ## Register fields -/

/-- The value of a register field; for a class B field the shadow (R14). -/
def State.rd (s : State) (f : Fld) : Nat := Store.get f.reset s.regs f.key

/-- Set a register field to a value, cut to the field's width. -/
def State.wr (s : State) (f : Fld) (v : Nat) : State :=
  { s with regs := Store.put f.reset s.regs f.key (v % 2 ^ f.width) }

/-- A one-bit field as a Boolean. -/
def State.on (s : State) (f : Fld) : Bool := s.rd f == 1

/-- Set a one-bit field from a Boolean. -/
def State.wrB (s : State) (f : Fld) (b : Bool) : State := s.wr f (b2n b)

/-- A field read as two's complement. -/
def State.rdS (s : State) (f : Fld) : Int := sext f.width (s.rd f)

/-- Set a field from an integer, as two's complement. -/
def State.wrS (s : State) (f : Fld) (x : Int) : State := s.wr f (toBits f.width x)

/-- Set a signed field, saturating at its range. -/
def State.wrSat (s : State) (f : Fld) (x : Int) : State := s.wr f (toBits f.width (satInt f.width x))

/-- Add to a saturating counter. -/
def State.bumpBy (s : State) (f : Fld) (n : Nat) : State := s.wr f (satNat f.width (s.rd f + n))

/-- Count one in a saturating counter. -/
def State.bump (s : State) (f : Fld) : State := s.bumpBy f 1

/-- Count one in a counter that wraps. -/
def State.bumpMod (s : State) (f : Fld) : State := s.wr f (s.rd f + 1)

/-- A 64-bit value held in a low and a high word. -/
def State.rd2 (s : State) (lo hi : Fld) : Nat := s.rd lo + 2 ^ 32 * s.rd hi

/-- Set a low and a high word from one value. -/
def State.wr2 (s : State) (lo hi : Fld) (v : Nat) : State := (s.wr lo v).wr hi (v / 2 ^ 32)

/-- Set each of a list of fields to 0. -/
def State.clearAll (s : State) (fs : List Fld) : State := fs.foldl (fun s f => s.wr f 0) s

/-- The value in force of a class B field. -/
def State.rdF (s : State) (f : Fld) : Nat := Store.get f.reset s.force f.key

/-- Set the value in force of a class B field. -/
def State.wrForce (s : State) (f : Fld) (v : Nat) : State := { s with force := Store.put f.reset s.force f.key (v % 2 ^ f.width) }

/-- Bring the shadow of a class B field into force (R12). -/
def State.enforce (s : State) (f : Fld) : State :=
  { s with force := Store.put f.reset s.force f.key (s.rd f) }

/-- Bring the shadows of several fields into force together. -/
def State.enforceAll (s : State) (fs : List Fld) : State := fs.foldl State.enforce s

/-- Whether bit `i` of a 64-unit mask held in two words is 1. -/
def State.maskBit (s : State) (lo hi : Fld) (i : Nat) : Bool :=
  if i < 32 then bitOf (s.rd lo) i else bitOf (s.rd hi) (i - 32)

/-- Set bit `i` of a field. -/
def State.wrBit (s : State) (f : Fld) (i : Nat) (b : Bool) : State :=
  let v := s.rd f
  s.wr f (v - (b2n (bitOf v i)) * 2 ^ i + b2n b * 2 ^ i)

/-- Set bit `i` of a 64-unit mask held in two words. -/
def State.wrMaskBit (s : State) (lo hi : Fld) (i : Nat) (b : Bool) : State :=
  if i < 32 then s.wrBit lo i b else s.wrBit hi (i - 32) b

/-! ## Hidden state of one unit -/

/-- One cell's hidden state. -/
def State.cell (s : State) (n : Nat) : Cell := Store.get Cell.reset s.cells n
/-- Replace one cell's hidden state. -/
def State.setCell (s : State) (n : Nat) (c : Cell) : State := { s with cells := Store.put Cell.reset s.cells n c }
/-- Change one cell's hidden state. -/
def State.updCell (s : State) (n : Nat) (f : Cell → Cell) : State := s.setCell n (f (s.cell n))
/-- One ring's hidden state. -/
def State.ring (s : State) (q : Nat) : Ring := Store.get Ring.reset s.rings q
/-- Replace one ring's hidden state. -/
def State.setRing (s : State) (q : Nat) (r : Ring) : State := { s with rings := Store.put Ring.reset s.rings q r }
/-- One context's hidden state. -/
def State.ctx (s : State) (k : Nat) : Ctx := Store.get Ctx.reset s.ctxs k
/-- Replace one context's hidden state. -/
def State.setCtx (s : State) (k : Nat) (c : Ctx) : State := { s with ctxs := Store.put Ctx.reset s.ctxs k c }
/-- Change one context's hidden state. -/
def State.updCtx (s : State) (k : Nat) (f : Ctx → Ctx) : State := s.setCtx k (f (s.ctx k))

/-- One lane's hidden state. -/
def State.link (s : State) (n : Nat) : Link := Store.get Link.reset s.links n
/-- Replace one lane's hidden state. -/
def State.setLink (s : State) (n : Nat) (l : Link) : State := { s with links := Store.put Link.reset s.links n l }
/-- Change one lane's hidden state. -/
def State.updLink (s : State) (n : Nat) (f : Link → Link) : State := s.setLink n (f (s.link n))

/-- One pipeline's hidden state. -/
def State.pipe (s : State) (p : Nat) : Pipe := Store.get Pipe.reset s.pipes p
/-- Replace one pipeline's hidden state. -/
def State.setPipe (s : State) (p : Nat) (x : Pipe) : State := { s with pipes := Store.put Pipe.reset s.pipes p x }
/-- Change one pipeline's hidden state. -/
def State.updPipe (s : State) (p : Nat) (f : Pipe → Pipe) : State := s.setPipe p (f (s.pipe p))
/-- The write lists of one CCI master. -/
def State.cci (s : State) (m : Nat) : List CciJob := Store.get [] s.cciJobs m
/-- Replace the write lists of one CCI master. -/
def State.setCci (s : State) (m : Nat) (js : List CciJob) : State := { s with cciJobs := Store.put [] s.cciJobs m js }

/-- One Ethernet port's hidden state. -/
def State.net (s : State) (k : Nat) : NetPort := Store.get NetPort.reset s.nets k
/-- Change one Ethernet port's hidden state. -/
def State.updNet (s : State) (k : Nat) (f : NetPort → NetPort) : State :=
  { s with nets := Store.put NetPort.reset s.nets k (f (s.net k)) }

/-! ## Outputs, free values and time -/

/-- Record an output. -/
def State.emit (s : State) (o : Out) : State := { s with out := o :: s.out }

/-- A free value: one whose content the spec leaves open. -/
def State.free (s : State) : Nat := Config.freeNat s.drawn

/-- Count a free value as drawn, so that the next one is another. -/
def State.draw (s : State) : State := { s with drawn := s.drawn + 1 }

/-- A quotient whose rounding the spec leaves open: the integer below or above, by a free value. -/
def State.divOpen (s : State) (x : Int) (d : Nat) : Int :=
  x / (d : Int) + (if x % (d : Int) = 0 then 0 else (s.free % 2 : Nat))

/-- Device time in ns, as it stands whether or not it is valid (R427). -/
def State.now (s : State) : Nat := s.timeNs

/-- The time a fault report carries: 0 while device time is not valid (R477). -/
def State.faultTime (s : State) : Nat := if s.on TIME_STAT_VALID then s.timeNs else 0

/-- Round a quotient to nearest, halves upward (spec/13 R368, spec/14 R388). -/
def halfUp (x : Int) (d : Nat) : Int := (2 * x + d) / (2 * d : Nat)

/-- A number rounded to nearest; which way a half goes is a free value. -/
def State.nearest (s : State) (x : Int) (d : Nat) : Int :=
  if 2 * (x % (d : Int)) = d then x / (d : Int) + (s.free % 2 : Nat) else divNearest x d

/-- A signed number of `w` bits; what a number outside that range becomes is a free value. -/
def State.fit (s : State) (w : Nat) (x : Int) : Int := if satInt w x = x then x else sext w s.free

/-- The square root of a natural number below 4^n, rounded down, bit by bit. -/
def isqrtGo (v : Nat) : Nat → Nat → Nat
  | 0, r => r
  | n + 1, r => if (r + 2 ^ n) * (r + 2 ^ n) ≤ v then isqrtGo v n (r + 2 ^ n) else isqrtGo v n r

/-- The square root rounded down, of a number below 2^200. -/
def isqrt (v : Nat) : Nat := isqrtGo v 100 0

/-! ## Fault reports (spec/18 R477) -/

/-- Goose sources (spec/18 R498). -/
def srcHostXs : Nat := 0x01
def srcCfgLive : Nat := 0x02
def srcRingErr : Nat := 0x03
def srcHostLoss : Nat := 0x04
def srcBlkDma : Nat := 0x08
def srcBlkFormat : Nat := 0x09
def srcBlkAuth : Nat := 0x0A
def srcBlkDecode : Nat := 0x0B
def srcBlkCrc : Nat := 0x0C
def srcNougatCrumb : Nat := 0x10
def srcNougatLane : Nat := 0x11
def srcNougatEcc : Nat := 0x12
def srcNougatDma : Nat := 0x13
def srcCellLbEcc : Nat := 0x18
def srcCellMapRange : Nat := 0x19
def srcCellLockstep : Nat := 0x1A
def srcCellMapEcc : Nat := 0x1B
def srcHeadTemp : Nat := 0x1C
def srcFeTrigIgn : Nat := 0x20
def srcFeTrigLate : Nat := 0x21
def srcFeLateWithdraw : Nat := 0x22
def srcOverspeed : Nat := 0x23
def srcFeLate : Nat := 0x24
def srcFeObsParity : Nat := 0x25
def srcStopFire : Nat := 0x26
def srcGovUnderrun : Nat := 0x28
def srcLinkStuff : Nat := 0x30
def srcLinkAlign : Nat := 0x31
def srcLinkLos : Nat := 0x32
def srcLinkRetry : Nat := 0x33
def srcLinkProto : Nat := 0x34
def srcLinkVoid : Nat := 0x35
def srcLinkDown : Nat := 0x36
def srcLinkTrain : Nat := 0x37
def srcLinkCmd : Nat := 0x38
def srcLinkTlm : Nat := 0x39
def srcLinkHead : Nat := 0x3A
def srcLinkAuth : Nat := 0x3B
def srcEncEvent : Nat := 0x40
def srcEncFault : Nat := 0x41
def srcEncIndex : Nat := 0x42
def srcEncDual : Nat := 0x43
def srcEncCal : Nat := 0x44
def srcAxFault : Nat := 0x48
def srcAxChop : Nat := 0x49
def srcLoopFe : Nat := 0x4C
def srcLoopInput : Nat := 0x4D
def srcLoopSwap : Nat := 0x4E
def srcInspFrame : Nat := 0x50
def srcInspPhy : Nat := 0x51
def srcInspCci : Nat := 0x52
def srcInspEcc : Nat := 0x53
def srcNhLadder : Nat := 0x58
def srcNhReg : Nat := 0x59
def srcNhUncovered : Nat := 0x5A
def srcNhEcc : Nat := 0x5B
def srcTimeStep : Nat := 0x60
def srcTimeLock : Nat := 0x61
def srcTimePps : Nat := 0x62
def srcNetLink : Nat := 0x63
def srcNetLate : Nat := 0x64
def srcDtDiscard : Nat := 0x65
def srcVaultBoot : Nat := 0x68
def srcVaultUnwrap : Nat := 0x69
def srcVaultDebug : Nat := 0x6A
def srcVaultTamper : Nat := 0x6B
def srcVaultOtp : Nat := 0x6C
def srcVaultEcc : Nat := 0x6D
def srcMemcEcc : Nat := 0x70
def srcYokePath : Nat := 0x74
def srcYokeCore : Nat := 0x75
def srcYokeBoth : Nat := 0x76
def srcCoopRef : Nat := 0x78
def srcCoopPll : Nat := 0x79
def srcCoopVsafe : Nat := 0x7A
def srcCoopVcore : Nat := 0x7B
def srcCoopSupply : Nat := 0x7C
def srcCoopSelf : Nat := 0x7D
def srcThermWarn : Nat := 0x7E
def srcThermTrip : Nat := 0x7F
def srcGooseSelf : Nat := 0x80
def srcGooseHb : Nat := 0x81

/-- Initiator types of a report (spec/18, table of initiators). -/
def initNone : Nat := 0
def initCell : Nat := 1
def initCtx : Nat := 2
def initYoke : Nat := 3
def initLane : Nat := 4
def initPipe : Nat := 5
def initCoop : Nat := 6
def initAxis : Nat := 7

/-- Access types of a report. -/
def accNone : Nat := 0
def accRead : Nat := 1
def accWrite : Nat := 2
def accFetch : Nat := 3
def accDmaRead : Nat := 4
def accDmaWrite : Nat := 5
def accConfig : Nat := 6

/-- Fold a report into a pending one of the same source and unit: the first keeps its fields, the class becomes the higher. -/
def Report.merge (r : Report) (cls : Nat) : Report := { r with cls := max r.cls cls, merged := r.merged + 1 }

/-- Add a report to the pending ones, merging within one unit and source. -/
def addReport (rs : List Report) (r : Report) : List Report :=
  if rs.any (fun p => p.src == r.src && p.unit == r.unit) then
    rs.map (fun p => if p.src == r.src && p.unit == r.unit then p.merge r.cls else p)
  else rs ++ [r]

/-- A unit reports a fault (R477); a report of class 3 or 4 also drives the unit's line to the safe-state logic (R484). -/
def State.report (s : State) (src unit cls initType initNum access addr : Nat) : State :=
  { s with
    reports := addReport s.reports ⟨src, unit, cls, initType, initNum, access, addr, s.faultTime, 0⟩
    safeLine := s.safeLine || decide (3 ≤ cls) }

/-- Reports that their blocks drop as they lose their core supply or their clock (spec/01 R21). -/
def State.dropReports (s : State) (p : Report → Bool) : State := { s with reports := s.reports.filter (fun r => !p r) }

/-- Whether a report is one of cell `n` or its lane: the Coop and the Goose hold theirs. -/
def Report.ofCell (r : Report) (n : Nat) : Bool := decide (r.src < srcCoopRef) && r.initType == initCell && r.initNum == n

/-- Whether the device is in the safe state or a block drives it there. -/
def State.safe (s : State) : Bool := s.on GOOSE_STATUS_SAFE || s.safeLine

/-! ## The page store (spec/02 R49, spec/18 R497) -/

/-- Whether an address of a descriptor names the page store (R49). -/
def isLocal (addr : Nat) : Bool := bitOf addr 63

/-- Whether an address obeys the bit 63 rule: bits [62:34] are 0 when bit 63 is 1 (R49). -/
def addrOk (addr : Nat) : Bool := !isLocal addr || bitsOf addr 34 29 == 0

/-- The page-store offset of a local address. -/
def localOff (addr : Nat) : Nat := addr % 2 ^ 34

/-- The canonical form of the page store: addresses below 16 GiB strictly rising, and no byte listed that equals what an unlisted byte reads
as, 0 (spec/20 R533). -/
def Memory.wf (m : List Host.Cell) : Bool := Store.wf (0 : Byte) m && m.all (fun e => decide (e.1 < 2 ^ 34))

/-- One byte of the page store. -/
def State.memByte (s : State) (off : Nat) : Byte := Store.get 0 s.mem (off % 2 ^ 34)

/-- `n` bytes of the page store. -/
def State.memRead (s : State) (off : Nat) : Nat → List Byte
  | 0 => []
  | n + 1 => s.memByte off :: s.memRead (off + 1) n

/-- Write bytes into the page store. -/
def memPut (m : List Host.Cell) (off : Nat) : List Byte → List Host.Cell
  | [] => m
  | b :: bs => memPut (Store.put 0 m (off % 2 ^ 34) b) (off + 1) bs

/-- The 64-bit words that `n` bytes at an offset touch. -/
def wordsOf (off n : Nat) : List Nat :=
  if n = 0 then [] else (List.range ((off + n - 1) / 8 - off / 8 + 1)).map (· + off / 8)

/-- Whether bytes at an offset cover a whole 64-bit word. -/
def coversWord (off n w : Nat) : Bool := decide (off ≤ 8 * w ∧ 8 * w + 8 ≤ off + n)

/-- A write to the page store on behalf of an initiator (R497): a word written whole gets fresh check bits; a word written in
part that holds an uncorrectable error makes the write fail, with MEMC_ECC at class 2. The Boolean says that it was made. -/
def State.memWrite (s : State) (initType initNum off : Nat) (bs : List Byte) : State × Bool :=
  let ws := wordsOf off bs.length
  match ws.find? (fun w => s.badWords.contains w && !coversWord off bs.length w) with
  | some w =>
    (((s.report srcMemcEcc 0 2 initType initNum accDmaWrite (8 * w)).bump MEMC_ECC_UNCORR).wr2
      MEMC_ECC_ADDR_ADDR_LO MEMC_ECC_ADDR_ADDR_HI (8 * w), false)
  | none =>
    ({ s with mem := memPut s.mem off bs,
              badWords := s.badWords.filter (fun w => !(ws.contains w)) }, true)

/-- A read of the page store on behalf of an initiator (R497), whose ECC outcome the command brings. -/
def State.memReadEcc (s : State) (initType initNum off n : Nat) (r : ReadResult) : State × Option (List Byte) :=
  let ws := wordsOf off n
  let bad (w : Nat) (s : State) : State × Option (List Byte) :=
    (((s.report srcMemcEcc 0 2 initType initNum accDmaRead (8 * w)).bump MEMC_ECC_UNCORR).wr2
      MEMC_ECC_ADDR_ADDR_LO MEMC_ECC_ADDR_ADDR_HI (8 * w), none)
  match ws.find? s.badWords.contains with
  | some w => bad w s
  | none =>
    match r with
    | .ok _ => (s, some (s.memRead off n))
    | .corrected _ =>
      ((s.report srcMemcEcc 0 1 initType initNum accDmaRead off).bump MEMC_ECC_CORR, some (s.memRead off n))
    | .failed w => bad (off / 8 + w) { s with badWords := (off / 8 + w) :: s.badWords }

/-- The context on whose behalf an initiator reads host memory: a cell's or a pipeline's owner, that of the block in a Nougat lane, or the context
itself. -/
def State.readerCtx (s : State) (initType initNum : Nat) : Nat :=
  if initType = initCell then s.rd (HOST_OWN_CELL initNum)
  else if initType = initPipe then s.rd (HOST_OWN_INSP initNum)
  else if initType = initLane then (match Store.find? s.nougat.lanes initNum with | some l => l.ctx | none => 15)
  else initNum

/-- A read of host memory for a context has failed: its port counts a completion timeout or an Unsupported Request, by a free value, as no
operand says which of the two it was (spec/22, HOST.PORT; notes/assumptions/55). -/
def State.countReadError (s : State) (k : Nat) : State :=
  (s.bump (if s.free % 2 = 0 then HOST_PORT_CPL_TO (k / 4 % 2) else HOST_PORT_UR (k / 4 % 2))).draw

/-- Whether a function can send requests: its port's link is up, its Bus Master Enable is 1, it is in D0, and no Function Level Reset of it
runs (spec/02 R37, R49, R76). -/
def State.reaches (s : State) (k : Nat) : Bool :=
  let c := s.ctx k
  s.on (HOST_PORT_UP (k / 4)) && c.busMaster && !c.flrBusy && !c.fn.d3

/-- Whether a read of `addr` for context `k` can end with `r`. One of host memory is issued under the function's Bus Master Enable (R49), waits
while the link is in L1 (R42), is discarded by a host loss (R75), and can end with data only while the link is up. -/
def State.readEnds (s : State) (k addr : Nat) (r : ReadResult) : Bool :=
  isLocal addr ||
    (!s.on (HOST_PORT_L1 (k / 4)) && !(s.ctx k).inLoss &&
      match r with
      | .failed _ => (s.ctx k).busMaster && !(s.ctx k).flrBusy && !(s.ctx k).fn.d3
      | _ => s.reaches k)

/-- Something leaves for host memory through the function of a context: it waits while the link is in L1 (R42), and is lost while the
function cannot send it (R76). -/
def State.toHost (s : State) (k : Nat) (o : Out) : State :=
  if !s.reaches k then s
  else if s.on (HOST_PORT_L1 (k / 4)) then { s with l1Held := s.l1Held ++ [o] }
  else s.emit o

/-- The port through which an output leaves for host memory, if it does. -/
def Out.port? : Out → Option Nat
  | .hostWrite k _ _ => some (k / 4)
  | .msix k _ => some (k / 4)
  | _ => none

/-- The context for which an output leaves for host memory, if it does. -/
def Out.ctx? : Out → Option Nat
  | .hostWrite k _ _ => some k
  | .msix k _ => some k
  | _ => none

/-- The link of a port is back in L0: what has waited leaves, in order (R42). -/
def State.releaseL1 (s : State) (p : Nat) : State :=
  let t := { s with l1Held := s.l1Held.filter (fun o => o.port? != some p) }
  (s.l1Held.filter (fun o => o.port? == some p)).foldl State.emit t

/-- What waits for the link of a context is discarded (R75). -/
def State.dropL1 (s : State) (k : Nat) : State := { s with l1Held := s.l1Held.filter (fun o => o.ctx? != some k) }

/-- An entry of the MSI-X table of a function (R37). -/
def State.msixVec (s : State) (k v : Nat) : MsixVec := Store.get MsixVec.reset (s.ctx k).fn.vecs v

/-- A vector of a function is to be sent (R37, R72): nothing while its MSI-X is off, its pending bit while the function or the vector is masked, else
the message. -/
def State.sendVec (s : State) (k v : Nat) : State :=
  let f := (s.ctx k).fn
  if !f.msixOn then s
  else if f.fnMask || (s.msixVec k v).masked then
    s.updCtx k (fun c => { c with fn := { c.fn with pending := v :: c.fn.pending.filter (· != v) } })
  else s.toHost k (.msix k v)

/-- The pending vectors of a function that are masked no longer are sent (R37). -/
def State.sendPending (s : State) (k : Nat) : State :=
  let f := (s.ctx k).fn
  let go := if f.msixOn && !f.fnMask then f.pending.filter (fun v => !(s.msixVec k v).masked) else []
  go.foldl (fun s v => (s.updCtx k (fun c => { c with fn := { c.fn with pending := c.fn.pending.filter (· != v) } })).sendVec k v) s

/-- Read `n` bytes at an address of a descriptor: from the page store, or from what host memory returned. -/
def State.dmaRead (s : State) (initType initNum addr n : Nat) (r : ReadResult) : State × Option (List Byte) :=
  if isLocal addr then s.memReadEcc initType initNum (localOff addr) n r
  else match r with
    | .ok bs => (s, some (bs.take n))
    | .corrected bs => (s, some (bs.take n))
    | .failed _ => (s.countReadError (s.readerCtx initType initNum), none)

/-- Write bytes at an address of a descriptor on behalf of a context: into the page store, or to host memory while its function can send
(R49, R76). The Boolean says that the write was made. -/
def State.dmaWrite (s : State) (k initType initNum addr : Nat) (bs : List Byte) : State × Bool :=
  if isLocal addr then s.memWrite initType initNum (localOff addr) bs
  else if !s.reaches k then (s, false)
  else (s.toHost k (.hostWrite k addr bs), true)

end Sys2Proof.Machine
end

