-- ==== Sys2Proof/Machine/Fabric.lean ====
section
/-!
DEFINITION. The configuration fabric: the BAR0 map (spec/22 R554), ownership and the administrator (spec/02 R43, R44), the filter
on accesses of host contexts (spec/22 R555 to R558, R563), the token of the Yoke (spec/19 R499) and the writes it holds during a
takeover (R511).
-/
namespace Sys2Proof.Machine

open Sys2Proof

/-- The blocks of the BAR0 map with their instance (R554). -/
inductive Block
  | global | goose | yoke | coop | vault | ledger | time
  | net (k : Nat) | mark (m : Nat) | enc (i : Nat) | virt | axis (a : Nat) | loop (s : Nat)
  | auxpwm (k : Nat) | ain (k : Nat) | gov | nougat | memc | host | insp (p : Nat) | cell (n : Nat) | link (n : Nat)
  deriving DecidableEq, Repr

/-- The block and the offset that a BAR0 address decodes to (R554); none outside every range. -/
def decodeAddr (a : Nat) : Option (Block × Nat) :=
  if a < 0x10000 then some (.global, a)
  else if a < 0x20000 then some (.goose, a - 0x10000)
  else if a < 0x30000 then some (.yoke, a - 0x20000)
  else if a < 0x40000 then some (.coop, a - 0x30000)
  else if a < 0x50000 then some (.vault, a - 0x40000)
  else if a < 0x60000 then some (.ledger, a - 0x50000)
  else if a < 0x70000 then some (.time, a - 0x60000)
  else if a < 0x72000 then some (.net ((a - 0x70000) / 0x1000), a % 0x1000)
  else if a < 0x7F000 then none
  else if a < 0x7F200 then some (.mark ((a - 0x7F000) / 0x80), a % 0x80)
  else if a < 0x80000 then none
  else if a < 0x84000 then some (.enc ((a - 0x80000) / 0x1000), a % 0x1000)
  else if a < 0x8C000 then none
  else if a < 0x8C020 then some (.virt, a - 0x8C000)
  else if a < 0x90000 then none
  else if a < 0x98000 then some (.axis ((a - 0x90000) / 0x1000), a % 0x1000)
  else if a < 0xA0000 then none
  else if a < 0xAA000 then some (.loop ((a - 0xA0000) / 0x200), a % 0x200)
  else if a < 0xAA100 then none
  else if a < 0xAA180 then some (.auxpwm ((a - 0xAA100) / 8), a % 8)
  else if a < 0xAA200 then none
  else if a < 0xAA240 then some (.ain ((a - 0xAA200) / 4), a % 4)
  else if a < 0xB0000 then none
  else if a < 0xC0000 then some (.gov, a - 0xB0000)
  else if a < 0xD0000 then some (.nougat, a - 0xC0000)
  else if a < 0xE0000 then some (.memc, a - 0xD0000)
  else if a < 0xF0000 then some (.host, a - 0xE0000)
  else if a < 0x100000 then none
  else if a < 0x140000 then some (.insp ((a - 0x100000) / 0x10000), a % 0x10000)
  else if a < 0x1000000 then none
  else if a < 0x1400000 then some (.cell ((a - 0x1000000) / 0x10000), a % 0x10000)
  else if a < 0x2000000 then none
  else if a < 0x2400000 then some (.link ((a - 0x2000000) / 0x10000), a % 0x10000)
  else none

/-! ## Ownership -/

/-- The administrator context (R44). -/
def State.admin (s : State) : Nat := s.rd HOST_ADMIN_CTX

/-- Whether a context may take the administration over: the administrator is in host loss and TAKEOVER is 1 (R77). -/
def State.adminOpen (s : State) : Bool := (s.ctx s.admin).inLoss && s.on HOST_ADMIN_TAKEOVER

/-- The context that a sender is, unless it is the administrator. -/
def State.otherCtx (s : State) : Sender → Option Nat
  | .ctx k => if s.admin = k then none else some k
  | _ => none

/-- The ownership field of a resource (R43). -/
def ownFld : OwnKind → Nat → Fld
  | .cell, i => HOST_OWN_CELL i
  | .axis, i => HOST_OWN_AXIS i
  | .loop, i => HOST_OWN_LOOP i
  | .insp, i => HOST_OWN_INSP i
  | .lq, i => HOST_OWN_LQ i
  | .enc, i => HOST_OWN_ENC i

/-- How many resources of a kind there are (R43). -/
def ownCount : OwnKind → Nat
  | .cell => 64 | .axis => 8 | .loop => 80 | .insp => 4 | .lq => 8 | .enc => 4

/-- Cells enabled by fuse (R1). -/
def Part.cells : Part → Nat
  | .kv6416 => 16 | .kv6432 => 32 | .kv6464 => 64

/-- Whether a cell is fused off (R2). -/
def State.fused (s : State) (n : Nat) : Bool := decide (s.part.cells ≤ n)

/-- The owner of a resource: a context, or 15 for none; a fused cell has none (R2). -/
def State.owner (s : State) (k : OwnKind) (i : Nat) : Nat :=
  if k == .cell && s.fused i then 15 else s.rd (ownFld k i)

/-- The owner of the resource that a ring follows; the event ring Q(152 + k) belongs to HCk (R43). -/
def State.ringOwner (s : State) (q : Nat) : Nat :=
  if q < 128 then s.owner .cell (q / 2)
  else if q < 144 then s.owner .insp ((q - 128) / 4)
  else if q < 152 then s.owner .lq (q - 144)
  else q - 152

/-- Whether a ring exists on the part fused (R2). -/
def State.ringExists (s : State) (q : Nat) : Bool := !(decide (q < 128) && s.fused (q / 2))

/-! ## Local windows (R50) -/

/-- Whether `n` bytes at a page-store offset lie in a window of `size` MiB at `base` MiB. -/
def inWindow (base size off n : Nat) : Bool :=
  decide (base * 2 ^ 20 ≤ off ∧ off + n ≤ (base + size) * 2 ^ 20 ∧ 0 < size)

/-- Whether `n` bytes at an address may be read on behalf of context `k` (R49, R50). -/
def State.mayReadMem (s : State) (k addr n : Nat) : Bool :=
  if isLocal addr then
    inWindow (s.rd (HOST_CTX_LMEM_BASE k)) (s.rd (HOST_CTX_LMEM_SIZE k)) (localOff addr) n ||
    (s.on HOST_LMEM_SHARED_EN &&
      inWindow (s.rd HOST_LMEM_SHARED_BASE) (s.rd HOST_LMEM_SHARED_SIZE) (localOff addr) n)
  else true

/-- Whether `n` bytes at an address may be written on behalf of context `k` (R50). -/
def State.mayWriteMem (s : State) (k addr n : Nat) : Bool :=
  if isLocal addr then
    inWindow (s.rd (HOST_CTX_LMEM_BASE k)) (s.rd (HOST_CTX_LMEM_SIZE k)) (localOff addr) n ||
    (s.admin == k && s.on HOST_LMEM_SHARED_EN &&
      inWindow (s.rd HOST_LMEM_SHARED_BASE) (s.rd HOST_LMEM_SHARED_SIZE) (localOff addr) n)
  else true

/-! ## HOST_XS and CFG_LIVE -/

/-- Causes of XS_LAST (R555). -/
def xsRule : Nat := 0
def xsSize : Nat := 1
def xsValue : Nat := 2

/-- The initiator a sender makes in a record (R558). -/
def senderInit : Sender → Nat × Nat
  | .ctx k => (initCtx, k.val)
  | .yoke .a => (initYoke, 0)
  | .yoke .b => (initYoke, 1)
  | .vault => (initNone, 0)
  | .debug => (initNone, 0)

/-- Record a refused register access (R558, R563): XS_CNT and XS_LAST follow accesses of contexts alone. -/
def State.hostXs (s : State) (who : Sender) (cause addr : Nat) (write : Bool) : State :=
  let s := s.report srcHostXs 0 1 (senderInit who).1 (senderInit who).2 accConfig addr
  match who with
  | .ctx k =>
    ((((s.bump (HOST_XS_CNT_COUNT k)).wr HOST_XS_LAST_OFFSET addr).wr HOST_XS_LAST_CTX k).wrB
      HOST_XS_LAST_WRITE write).wr HOST_XS_LAST_CAUSE cause
  | _ => s

/-- Record a descriptor of ring `q` refused for context `k`: the ring in [39:32] and the slot of its index in [15:0] (R53, R558). -/
def State.descXs (s : State) (k q idx : Nat) : State :=
  (s.report srcHostXs 0 1 initCtx k accFetch (q * 2 ^ 32 + idx % 2 ^ s.rd (HOST_RING_SIZE_LOG2 q))).bump (HOST_XS_CNT_COUNT k)

/-- Record a local address outside the windows of context `k` (R558). -/
def State.memXs (s : State) (k addr : Nat) (write : Bool) : State :=
  (s.report srcHostXs 0 1 initCtx k (if write then accDmaWrite else accDmaRead) addr).bump (HOST_XS_CNT_COUNT k)

/-- Raise CFG_LIVE as class 1 for an access of a sender (R11). -/
def State.cfgLive (s : State) (who : Sender) (addr : Nat) : State :=
  s.report srcCfgLive 0 1 (senderInit who).1 (senderInit who).2 accConfig addr

/-! ## The filter (R555) -/

/-- Whether the writers column of the map and the block's own chapter let context `k` write (R44, R77, R82, R554). HOST.ADMIN is the
administrator's until LOCK; while the administrator is in host loss only a takeover reaches it, and the write is judged by `State.takeAdmin` (R77). That a
write after LOCK is refused and recorded, and not dropped in silence, is the model's reading (DESIGN CHOICE, notes/assumptions/64). -/
def State.ctxMayWrite (s : State) (k : Nat) : Block → Nat → Bool
  | .global, off => s.admin == k && off != 0x5C
  | .vault, off => if 0x800 ≤ off ∧ off < 0x900 then (off - 0x800) / 0x20 == k else s.admin == k
  | .enc i, off =>
    if i % 2 == 0 && (0x100 ≤ off && off < 0x120) then
      s.admin == k || (s.owner .enc i == k && s.owner .enc (i + 1) == k)
    else s.admin == k || s.owner .enc i == k
  | .axis a, _ => s.admin == k || s.owner .axis a == k
  | .loop i, _ => s.admin == k || s.owner .loop i == k
  | .ain _, _ => false
  | .nougat, off =>
    if 0x100 ≤ off ∧ off < 0x200 then s.admin == k || (off - 0x100) / 0x20 == k else s.admin == k
  | .host, off =>
    if 0x200 ≤ off ∧ off < 0x240 then false
    else if off == 0x320 then false
    else if 0x1000 ≤ off ∧ off < 0x1200 then s.admin == k || (off - 0x1000) / 0x40 == k
    else if 0x2000 ≤ off ∧ off < 0x2A00 then s.admin == k || s.ringOwner ((off - 0x2000) / 0x10) == k
    else if off == 0 then
      if (s.ctx s.admin).inLoss then s.adminOpen else s.admin == k && !s.on HOST_ADMIN_LOCK
    else s.admin == k
  | .insp p, off => s.admin == k || (!(0x100 ≤ off && off < 0x200) && s.owner .insp p == k)
  | .cell n, _ => s.admin == k || s.owner .cell n == k
  | .link n, _ => s.admin == k || s.owner .cell n == k
  | _, _ => s.admin == k

/-- Registers every context may read within the blocks that not all may read whole (R41, R554, spec/17, spec/18). -/
def readableByAll : Block → Nat → Bool
  | .goose, off => off == 0x0 || (0x10 ≤ off && off < 0x20) || (0x40 ≤ off && off < 0x80) || off == 0x110 ||
      (0x800 ≤ off && off < 0xD00)
  | .vault, off => off < 0x8 || (0x10 ≤ off && off < 0x70) || (0x100 ≤ off && off < 0x200)
  | .axis _, _ => false
  | .loop _, _ => false
  | .host, off => off < 0x300
  | .insp _, _ => false
  | .cell _, _ => false
  | .link _, _ => false
  | _, _ => true

/-- Whether context `k` may read (R556, R82). -/
def State.ctxMayRead (s : State) (k : Nat) (b : Block) (off : Nat) : Bool :=
  s.admin == k || readableByAll b off ||
    (match b with
     | .host => (off != 0x320 && (s.ctxMayWrite k b off || (0x300 ≤ off && off < 0x320 && (off - 0x300) / 4 == k)))
     | .vault =>
       if 0x400 ≤ off ∧ off < 0x500 then s.rd (VAULT_SLOT_STAT_OWNER ((off - 0x400) / 4)) == k
       else s.ctxMayWrite k b off
     | _ => s.ctxMayWrite k b off)

/-- Whether the registers of a block answer before READY.HOST (R41). -/
def beforeReady (b : Block) (off : Nat) : Bool :=
  match b with
  | .global => true
  | .goose => readableByAll b off
  | .vault => readableByAll b off
  | _ => false

/-- The blocks whose host writes are held during a takeover (R511). -/
def Block.held : Block → Bool
  | .gov => true | .axis _ => true | .loop _ => true | .auxpwm _ => true | .time => true | .mark _ => true
  | .net _ => true | .coop => true | .ledger => true | .yoke => true
  | _ => false

/-- The core that holds the active token (R499). -/
def State.activeCore (s : State) : YokeCore := if s.on YOKE_STAT_ACTIVE then .b else .a

/-- What the filter makes of a write (R555, R499, R511). -/
inductive WriteGate
  | pass | hold | drop (s : State)
  deriving DecidableEq, Repr

/-- The cell whose window a block is, if it is a cell's or a lane's. -/
def Block.cell? : Block → Option Nat
  | .cell n => some n
  | .link n => some n
  | _ => none

/-- Whether a cell is power-gated (R523). -/
def State.gated (s : State) (n : Nat) : Bool := s.maskBit COOP_GATE_LO COOP_GATE_HI n

/-- A lane of the discovery set whose discovery still runs: contexts may not write its PHY_CTL (spec/20 R538). -/
def State.discovering (s : State) (n : Nat) : Bool := s.coop.disc.contains n && !s.on GLOBAL_READY_DISC

/-- Check 6 for a gated cell (R523) and for PHY_CTL during discovery (R538), then the hold of R511. -/
def State.gateBlock (s : State) (who : Sender) (b : Block) (addr : Nat) : WriteGate :=
  match b.cell?.filter s.gated with
  | some _ => .drop (s.cfgLive who addr)
  | none =>
    match who with
    | .ctx _ =>
      if (match b with | .link n => s.discovering n && addr == (LINK_PHY_CTL_EN n).addr | _ => false) then .drop (s.cfgLive who addr)
      else if s.on YOKE_STAT_HOLDING && b.held then .hold else .pass
    | _ => .pass

/-- Whether no access of a context reaches the fabric: its port is held in reset (R39), or its function is in D3hot (R37). -/
def State.portReset (s : State) (k : Nat) : Bool := s.on (HOST_PORT_PERST (k / 4)) || (s.ctx k).fn.d3

/-- A write of a master that no ownership filters: an address outside every range is dropped, and a window of a fused cell or lane refuses any access
(R2; DEDUCED, notes/assumptions/65). -/
def State.gateMaster (s : State) (who : Sender) (addr : Nat) : WriteGate :=
  match decodeAddr addr with
  | none => .drop s
  | some (b, _) => if (b.cell?.filter s.fused).isSome then .drop (s.hostXs who xsRule addr true) else s.gateBlock who b addr

/-- The filter on a register write of `size` bytes (R555, R557, R499, R39); the debug port writes only at the level FULL (spec/17 R473). -/
def State.gateWrite (s : State) (who : Sender) (addr size : Nat) : WriteGate :=
  match who with
  | .ctx k =>
    if s.portReset k then .drop s
    else if size ≠ 4 ∨ addr % 4 ≠ 0 then .drop (s.hostXs who xsSize addr true)
    else match decodeAddr addr with
      | none => .drop s
      | some (b, off) =>
        if (b.cell?.filter s.fused).isSome then .drop (s.hostXs who xsRule addr true)
        else if !s.on GLOBAL_READY_HOST then .drop s
        else if !s.ctxMayWrite k b off then .drop (s.hostXs who xsRule addr true)
        else s.gateBlock who b addr
  | .yoke c =>
    if c ≠ s.activeCore then .drop (s.bump YOKE_CNT1_BLOCKED)
    else if size ≠ 4 ∨ addr % 4 ≠ 0 then .drop (s.hostXs who xsSize addr true)
    else s.gateMaster who addr
  | .vault => if size ≠ 4 ∨ addr % 4 ≠ 0 then .drop (s.hostXs who xsSize addr true) else s.gateMaster who addr
  | .debug =>
    if s.rd VAULT_STAT_DEBUG ≠ 2 then .drop s
    else if size ≠ 4 ∨ addr % 4 ≠ 0 then .drop (s.hostXs who xsSize addr true)
    else s.gateMaster who addr

/-- A write of an enable that READY.MEM_FAIL discards: recorded as HOST_XS (spec/20 R532). -/
def State.memGate (s : State) (who : Sender) (f : Fld) (eff : State → State) : State :=
  if s.on GLOBAL_READY_MEM_FAIL then s.hostXs who xsRule f.addr true else eff s

/-- A write that one sender makes to one field that has a command of its own: filtered, held during a takeover, or given its
effect. -/
def State.gatedWrite (s : State) (who : Sender) (f : Fld) (v : Nat) (eff : State → State) : State :=
  match s.gateWrite who f.addr 4 with
  | .pass => eff s
  | .hold => { s with heldWrites := s.heldWrites ++ [⟨who, f.addr, f.lo, v⟩] }
  | .drop s' => s'

end Sys2Proof.Machine
end

