-- ==== Sys2Proof/Machine/Rings.lean ====
section
/-!
DEFINITION. Rings, descriptors, completions and events (spec/02 R52 to R73): the shared operations by which every consumer of a
ring takes a descriptor, finishes it and has its completion and event written.
-/
namespace Sys2Proof.Machine

open Sys2Proof

/-! ## Descriptor fields -/

/-- A byte of a descriptor. -/
def Desc.u8 (d : Desc) (off : Nat) : Nat := byteAt d.bytes off
/-- A 16-bit field of a descriptor. -/
def Desc.u16 (d : Desc) (off : Nat) : Nat := leAt d.bytes off 2
/-- A 32-bit field of a descriptor. -/
def Desc.u32 (d : Desc) (off : Nat) : Nat := leAt d.bytes off 4
/-- A 64-bit field of a descriptor. -/
def Desc.u64 (d : Desc) (off : Nat) : Nat := leAt d.bytes off 8
/-- A bit of a descriptor's byte. -/
def Desc.bit (d : Desc) (off i : Nat) : Bool := bitOf (d.u8 off) i
/-- TYPE (R62). -/
def Desc.type (d : Desc) : Nat := d.u8 0
/-- TAG. -/
def Desc.tag (d : Desc) : Nat := d.u16 2
/-- FLAGS.EVT. -/
def Desc.evt (d : Desc) : Bool := d.bit 1 0
/-- FLAGS.FENCE. -/
def Desc.fence (d : Desc) : Bool := d.bit 1 1
/-- Whether the descriptor takes two slots (R63). -/
def Desc.two (d : Desc) : Bool := d.bytes.length == 64
/-- The index after the descriptor (R53). -/
def Desc.after (d : Desc) : Nat := (d.idx + if d.two then 2 else 1) % 65536

/-- Descriptor types (R62). -/
def tyNop : Nat := 0x00
def tyPage : Nat := 0x01
def tyStrip : Nat := 0x02
def tyMapload : Nat := 0x03
def tyWave : Nat := 0x04
def tyTrim : Nat := 0x05
def tyLadder : Nat := 0x06
def tyAxis : Nat := 0x07
def tySync : Nat := 0x08
def tyBuf : Nat := 0x09
def tyInsp : Nat := 0x0A
def tyLaunch : Nat := 0x0B
def tyCont : Nat := 0x82

/-- Status codes (R69). -/
def stOk : Nat := 0x00
def stDropped : Nat := 0x01
def stRefused : Nat := 0x02
def stBadDesc : Nat := 0x03
def stDmaErr : Nat := 0x04
def stAuthFail : Nat := 0x05
def stTimeout : Nat := 0x06
def stAborted : Nat := 0x07
def stFenced : Nat := 0x08

/-- Completion flags (R69). -/
def cfLate : Nat := 1
def cfDefective : Nat := 2
def cfMuted : Nat := 4
def cfUnderrun : Nat := 8
def cfOverspeed : Nat := 16
def cfTemp : Nat := 32
def cfCrumb : Nat := 64

/-- Set a flag bit. -/
def orFlag (fs f : Nat) : Nat := if fs / f % 2 = 1 then fs else fs + f

/-- The kinds of ring (R51, ring numbering). -/
inductive RingKind | page | control | pipeCmd | buffers | launch | event
  deriving DecidableEq, Repr

/-- The kind of ring `q`. -/
def ringKind (q : Nat) : RingKind :=
  if q < 128 then (if q % 2 = 0 then .page else .control)
  else if q < 144 then (if q % 4 = 0 then .pipeCmd else .buffers)
  else if q < 152 then .launch
  else .event

/-- Which descriptor types a kind of ring accepts (R62). -/
def acceptsType : RingKind → Nat → Bool
  | .page, t => t == tyNop || t == tyPage || t == tyStrip || t == tyMapload || t == tyLadder || t == tySync
  | .control, t => t == tyNop || t == tyWave || t == tyTrim || t == tyAxis || t == tySync
  | .pipeCmd, t => t == tyNop || t == tySync || t == tyInsp
  | .buffers, t => t == tyNop || t == tyBuf
  | .launch, t => t == tyNop || t == tySync || t == tyLaunch
  | .event, _ => false

/-- Raw bits per dot of a DEPTH code (R64). -/
def depthBits (code : Nat) : Nat := if code = 0 then 1 else if code = 1 then 2 else 4

/-- Lines per block: 4,096 × 2^BSIZE × 8 / (1,024 × depth bits) (R64, R88). -/
def linesPerBlock (bsize depth : Nat) : Nat := 32 * 2 ^ bsize / depth

/-- Rounded-up division. -/
def ceilDiv (a b : Nat) : Nat := (a + b - 1) / b

/-- LINES of a PAGE: 0 means 2³². -/
def pageLines (v : Nat) : Nat := if v = 0 then 2 ^ 32 else v

/-- The checks a descriptor must pass when it is fetched: its type, its fields' ranges and the bit 63 rule (R49, R62, R64, R107).
The status it completes with when it fails one. FIRST_ROW and ROWS of an AXIS are judged for the operations that use them, OP 0 and 1, alone (DESIGN
CHOICE, notes/assumptions/77). -/
def checkDesc (k : RingKind) (d : Desc) : Option Nat :=
  let t := d.type
  let bad (b : Bool) : Option Nat := if b then some stBadDesc else none
  if !acceptsType k t then some stBadDesc
  else if t == tyPage then
    let depth := bitsOf (d.u8 27) 0 2
    let bsize := bitsOf (d.u8 27) 2 3
    let n := ceilDiv (pageLines (d.u32 20)) (linesPerBlock bsize (depthBits depth))
    bad (!addrOk (d.u64 4) || d.u64 4 % 16 != 0 || bitsOf (d.u8 25) 0 4 ≥ 8 || d.u8 26 < 1 || d.u8 26 > 64 || depth == 3 ||
      bsize > 4 || d.u8 28 < 1 || d.u8 29 ≥ d.u8 28 || (!d.bit 1 3 && n > 2 ^ 26))
  else if t == tyStrip then bad (!d.two || d.u8 32 != tyCont || !addrOk (d.u64 4) || !addrOk (d.u64 12))
  else if t == tyMapload then
    bad (!addrOk (d.u64 4) || (!d.bit 12 0 && !d.bit 12 1) || d.u16 16 < 1 || d.u16 14 + d.u16 16 > 2048)
  else if t == tyWave then bad (!addrOk (d.u64 4) || d.u32 12 < 32 || d.u32 12 > 65536 || d.u32 12 % 32 != 0)
  else if t == tyTrim then
    bad (!addrOk (d.u64 4) || d.u16 12 > 2047 || d.u16 14 < 1 || d.u16 14 > 2048 || bitsOf (d.u8 16) 0 4 > 3)
  else if t == tyLadder then
    bad (d.u16 4 < 8 || d.u16 4 > 4096 || d.u8 6 > 15 || d.u16 8 > 2047 || d.u16 10 < 1 || d.u16 10 > 2048 ||
      bitsOf (d.u8 13) 0 4 < 1)
  else if t == tyAxis then
    bad (bitsOf (d.u8 5) 0 4 > 6 || (bitsOf (d.u8 5) 0 4 == 0 && !addrOk (d.u64 8)) ||
      (bitsOf (d.u8 5) 0 4 ≤ 1 && (d.u16 16 > 1023 || d.u16 18 < 1 || d.u16 16 + d.u16 18 > 1024)))
  else if t == tySync then
    let c := bitsOf (d.u8 4) 0 4
    let u := d.u8 5
    bad (c > 6 || ((c == 1 || c == 2 || c == 4) && u > 63) || (c == 3 && u > 3) || (c == 5 && u > 159) || (c == 6 && u > 7))
  else if t == tyBuf then bad (!addrOk (d.u64 4) || d.u64 4 % 64 != 0 || d.u32 12 < 64 || d.u32 12 % 64 != 0)
  else if t == tyInsp then bad (bitsOf (d.u8 4) 0 4 > 6 || !addrOk (d.u64 8))
  else if t == tyLaunch then bad (!addrOk (d.u64 4) || d.u16 12 < 60 || d.u16 12 > 1514)
  else none

/-! ## Ring geometry (R52, R53, R61) -/

/-- Slots of a ring. -/
def State.ringSize (s : State) (q : Nat) : Nat := 2 ^ s.rd (HOST_RING_SIZE_LOG2 q)

/-- The base address of a ring. -/
def State.ringBase (s : State) (q : Nat) : Nat :=
  64 * s.rd (HOST_RING_BASE_LO q) + 2 ^ 32 * s.rd (HOST_RING_BASE_HI q)

/-- The address of the slot of an index. -/
def State.slotAddr (s : State) (q idx : Nat) : Nat := s.ringBase q + 32 * (idx % s.ringSize q)

/-- The index from which the passes of a ring count: the one that its first doorbell fetch after the enable gave it (R83). -/
def State.passStart (s : State) (q : Nat) : Nat := if q < 152 then (s.ring q).start else (s.ctx (q - 152)).evtStart

/-- The completion phase of an index: the complement of its pass parity (R53, R61, R83). -/
def State.phaseBit (s : State) (q idx : Nat) : Nat := 1 - (idx + 65536 - s.passStart q) % 65536 / s.ringSize q % 2

/-- The address of the doorbell entry of ring `q` in the area of context `k`. -/
def State.doorbellAddr (s : State) (k q : Nat) : Nat :=
  2 ^ 14 * s.rd (HOST_CTX_DB_BASE_LO k) + 2 ^ 32 * s.rd (HOST_CTX_DB_BASE_HI k) + 64 * q

/-- Replace the held descriptors of a ring; STATE.HELD counts them. -/
def State.putHeld (s : State) (q : Nat) (held : List Desc) : State :=
  (s.setRing q { s.ring q with held := held }).wr (HOST_RING_HELD q) (min held.length 255)

/-- Change one held descriptor. -/
def State.updDesc (s : State) (q idx : Nat) (f : Desc → Desc) : State :=
  s.putHeld q ((s.ring q).held.map (fun d => if d.idx = idx then f d else d))

/-- Set the phase of a held descriptor. -/
def State.setPhase (s : State) (q idx : Nat) (p : DescPhase) : State := s.updDesc q idx (fun d => { d with phase := p })

/-- The held descriptor of an index. -/
def State.descAt (s : State) (q idx : Nat) : Option Desc := (s.ring q).held.find? (fun d => d.idx == idx)

/-! ## MSI-X and events (R70 to R73) -/

/-- Raise a vector: every entry pending on it is signalled (R73). -/
def State.raiseVec (s : State) (k vec : Nat) : State :=
  (s.updCtx k (fun c => { c with unsig := Store.del c.unsig vec })).sendVec k vec

/-- Raise or moderate the vector of an entry just written (R72, R73). -/
def State.signal (s : State) (k vec : Nat) (moderated : Bool) : State :=
  if !moderated then s.raiseVec k vec
  else
    let n := Store.get 0 (s.ctx k).unsig vec + 1
    if max 1 (s.rd (HOST_CTX_COUNT k)) ≤ n ∨ s.rd (HOST_CTX_HOLDOFF k) = 0 then s.raiseVec k vec
    else s.updCtx k (fun c => { c with unsig := Store.put 0 c.unsig vec n })

/-- The 32 bytes of an event entry. -/
def eventBytes (e : Event) (seq lost ph : Nat) : List Byte :=
  leBytes 1 e.kind ++ leBytes 1 e.code ++ leBytes 2 e.unit ++ leBytes 4 e.info ++ leBytes 8 e.time ++ leBytes 8 e.detail ++
  leBytes 4 seq ++ leBytes 2 lost ++ leBytes 1 0 ++ leBytes 1 (b2n (lost != 0) + 128 * ph)

/-- The device writes for a context: into the page store inside the windows the context may write, else recorded and not made (R50), or to host
memory. -/
def State.ctxWrite (s : State) (k addr : Nat) (bs : List Byte) : State :=
  if s.mayWriteMem k addr bs.length then (s.dmaWrite k initCtx k addr bs).1 else s.memXs k addr true

/-- Write one event entry, its doorbell word and its vector (R70 to R73). -/
def State.writeEvent (s : State) (k : Nat) (e : Event) : State :=
  let c := s.ctx k
  let q := 152 + k
  let s := s.ctxWrite k (s.slotAddr q c.evtProd) (eventBytes e c.seq (min c.lostSince 65535) (s.phaseBit q c.evtProd))
  let prod := (c.evtProd + 1) % 65536
  let s := s.updCtx k (fun c => { c with seq := (c.seq + 1) % 2 ^ 32, lostSince := 0, evtProd := prod })
  let s := s.ctxWrite k (s.doorbellAddr k q + 8) (leBytes 4 prod)
  s.signal k e.vec e.moderated

/-- Whether the event ring of a context has space for an entry (R70, R83). -/
def State.eventSpace (s : State) (k : Nat) : Bool :=
  let c := s.ctx k
  c.evtKnown && (c.evtProd + 65536 - c.evtHost) % 65536 != s.ringSize (152 + k) % 65536

/-- Post an event to a context (R70, R71, R78). -/
def State.postEvent (s : State) (k : Nat) (e : Event) : State :=
  if !s.on (HOST_CTX_EN k) && !(s.ctx k).closing then s.bump (HOST_CTX_EVT_LOST k)
  else if !s.on (HOST_RING_EN (152 + k)) then
    (s.bump (HOST_CTX_EVT_LOST k)).updCtx k (fun c => { c with lostSince := c.lostSince + 1 })
  else if (s.ctx k).held.isEmpty && s.eventSpace k then s.writeEvent k e
  else if (s.ctx k).closing then s.bump (HOST_CTX_EVT_LOST k)
  else if (s.ctx k).held.length < 64 then s.updCtx k (fun c => { c with held := c.held ++ [e] })
  else (s.bump (HOST_CTX_EVT_LOST k)).updCtx k (fun c => { c with lostSince := c.lostSince + 1 })

/-- Write held events while there is space (R71). -/
def State.flushEvents (s : State) (k : Nat) : Nat → State
  | 0 => s
  | n + 1 =>
    match (s.ctx k).held with
    | [] => s
    | e :: es =>
      if s.eventSpace k then
        ((s.updCtx k (fun c => { c with held := es })).writeEvent k e).flushEvents k n
      else s

/-- An event on the general vector of a context (R72). -/
def State.postGeneral (s : State) (k kind code unit info detail : Nat) : State :=
  s.postEvent k ⟨kind, code, unit, info, s.now, detail, s.rd (HOST_CTX_VEC_GEN k), true⟩

/-! ## Completions (R54, R61, R63, R69) -/

/-- The 32 bytes of a completion. -/
def completionBytes (d : Desc) (c : Completion) (ph : Nat) : List Byte :=
  leBytes 1 d.type ++ leBytes 1 c.status ++ leBytes 2 d.tag ++ leBytes 4 c.info ++ leBytes 8 c.time ++ leBytes 8 c.detail ++
  leBytes 2 c.cflags ++ leBytes 5 0 ++ leBytes 1 (128 * ph)

/-- The consumer index: the first slot not completed (R54). -/
def ciOf (r : Ring) : Nat :=
  match r.held with
  | [] => r.fetch
  | d :: _ => d.idx

/-- Write the completion of a finished descriptor, advance CI, write the doorbell word and post the event. -/
def State.writeCompletion (s : State) (q : Nat) (d : Desc) (c : Completion) : State :=
  let k := s.ringOwner q
  let s := s.ctxWrite k (s.slotAddr q d.idx) (completionBytes d c (s.phaseBit q d.idx))
  let s := if d.two then
      let i2 := (d.idx + 1) % 65536
      s.ctxWrite k (s.slotAddr q i2) (leBytes 31 tyCont ++ leBytes 1 (128 * s.phaseBit q i2))
    else s
  let s := s.putHeld q ((s.ring q).held.filter (fun e => e.idx != d.idx))
  let ci := ciOf (s.ring q)
  let moved := s.rd (HOST_RING_CI q) != ci
  let s := s.wr (HOST_RING_CI q) ci
  let s := if moved && s.on (HOST_RING_CI_WB q) then s.ctxWrite k (s.doorbellAddr k q + 8) (leBytes 4 ci) else s
  if d.evt && k < 8 then
    s.postEvent k ⟨0x01, c.status, q, d.tag + d.idx * 2 ^ 16, c.time, c.detail, s.rd (HOST_RING_VEC q), true⟩
  else s

/-- Whether a descriptor completes in index order with the PAGEs and LADDERs of a page ring (R54). -/
def Desc.pageLike (d : Desc) : Bool := d.type == tyPage || d.type == tyLadder

/-- Whether an unfinished SYNC among the descriptors before one guards it (R68). -/
def guardedBy : List Desc → Bool
  | [] => false
  | d :: ds => (d.type == tySync && (d.phase == .queued || d.phase == .started) && ds.length < d.u8 6) || guardedBy ds

/-- The next descriptor whose completion may be written: on a page ring a PAGE or LADDER waits for the earlier ones, and one that an
unfinished SYNC guards waits for it (R68); on every other ring completions are written in index order (R54). -/
def nextDone (k : RingKind) : List Desc → List Desc → Bool → Option (Desc × Completion)
  | _, [], _ => none
  | before, d :: ds, blocked =>
    let next := nextDone k (before ++ [d]) ds (blocked || k != .page || d.pageLike)
    match d.phase with
    | .finished c =>
      if (if k == .page then !(d.pageLike && blocked) && !guardedBy before else !blocked) then some (d, c) else next
    | _ => next

/-- Discard the events a context still holds and disable its event ring (R78 step 4). -/
def State.closeEvents (s : State) (k : Nat) : State :=
  let lost := (s.ctx k).held.length
  let s := (s.bumpBy (HOST_CTX_EVT_LOST k) lost).updCtx k (fun c => { c with closing := false, held := [], evtKnown := false })
  (s.wr (HOST_RING_EN (152 + k)) 0).wr (HOST_RING_RUN (152 + k)) 0

/-- Whether a context has a descriptor that is not completed. -/
def State.hasHeld (s : State) (k : Nat) : Bool := s.rings.any (fun e => s.ringOwner e.1 == k && !e.2.held.isEmpty)

/-- End a context's disable once its last completion has been written (R78). -/
def State.settleClose (s : State) (k : Nat) : State :=
  if (s.ctx k).closing && !s.hasHeld k then s.closeEvents k else s

/-- Write every completion whose turn has come; a disabled or stopped ring stops running with its last one (R79). -/
def State.drain (s : State) (q : Nat) : Nat → State
  | 0 => s
  | n + 1 =>
    match nextDone (ringKind q) [] (s.ring q).held false with
    | some (d, c) => (s.writeCompletion q d c).drain q n
    | none =>
      let s := if (!s.on (HOST_RING_EN q) || s.on (HOST_RING_ERR q)) && (s.ring q).held.isEmpty then s.wr (HOST_RING_RUN q) 0 else s
      s.settleClose (s.ringOwner q)

/-- A completion made now. -/
def State.mkDone (s : State) (status info detail cflags : Nat) : Completion := ⟨status, info, s.now, detail, cflags⟩

/-- Finish a held descriptor and write what completions can be written. -/
def State.finishRaw (s : State) (q idx : Nat) (c : Completion) : State :=
  (s.setPhase q idx (.finished c)).drain q ((s.ring q).held.length + 1)

/-! ## SYNC (R65 to R68) -/

/-- Whether a RING_CI condition holds: CI has reached VALUE (R65). -/
def State.ciReached (s : State) (d : Desc) : Bool :=
  (s.rd (HOST_RING_CI (d.u8 5)) + 65536 - d.u16 8) % 65536 < 32768

/-- A SYNC that waits at the head of its ring with condition `cond`. -/
def waitingSync (cond : Nat) (d : Desc) : Bool :=
  d.type == tySync && d.phase == .started && bitsOf (d.u8 4) 0 4 == cond

/-- The first ring whose waiting RING_CI SYNC is met. -/
def State.metRingCi (s : State) : Option (Nat × Nat) :=
  s.rings.findSome? (fun e =>
    (e.2.held.find? (fun d => waitingSync 5 d && s.ciReached d)).map (fun d => (e.1, d.idx)))

/-- Complete every RING_CI SYNC that is met, until none is (R65). -/
def State.settleSyncs (s : State) : Nat → State
  | 0 => s
  | n + 1 =>
    match s.metRingCi with
    | none => s
    | some (q, idx) => (s.finishRaw q idx (s.mkDone stOk 1 s.now 0)).settleSyncs n

/-- Finish a held descriptor: its completion in turn, and the RING_CI SYNCs it releases. -/
def State.finish (s : State) (q idx : Nat) (c : Completion) : State := (s.finishRaw q idx c).settleSyncs 160

/-- DETAIL of a descriptor that did nothing: of a PAGE, that no line is defective; else 0 (R69). -/
def Desc.noDetail (d : Desc) : Nat := if d.type == tyPage then 0xFFFFFFFF else 0

/-- The completion of a descriptor that did nothing, with a status (R69). -/
def State.bareDone (s : State) (d : Desc) (status : Nat) : Completion := s.mkDone status 0 d.noDetail 0

/-- Finish a held descriptor that did nothing, with a status. -/
def State.finishSt (s : State) (q idx status : Nat) : State :=
  match s.descAt q idx with
  | some d => s.finish q idx (s.bareDone d status)
  | none => s.finish q idx (s.mkDone status 0 0 0)

/-- An awaited event occurs: every SYNC that waits for it completes (R65). `edge` is the polarity of a MARK. -/
def State.syncEvent (s : State) (cond unit : Nat) (edge : Option Bool) : State :=
  s.rings.foldl (fun s e =>
    match e.2.held.find? (fun d => waitingSync cond d && d.u8 5 == unit &&
        (match edge with | none => true | some b => d.bit 4 4 == b)) with
    | some d => s.finish e.1 d.idx (s.mkDone stOk 1 s.now 0)
    | none => s) s

/-- Whether a TIME condition is late (R66). -/
def State.timeLate (s : State) (d : Desc) : Bool := decide (d.u64 8 < s.now)

/-- Complete the guarded descriptors of a SYNC that was dropped or timed out; those not yet fetched follow when they come. -/
def State.applyGuard (s : State) (q idx guard status : Nat) : State :=
  let later := (s.ring q).held.dropWhile (fun d => d.idx != idx)
  let hit := (later.drop 1).take guard
  let s := hit.foldl (fun s d => s.setPhase q d.idx (.finished (s.bareDone d status))) s
  s.setRing q { s.ring q with guard := guard - hit.length, guardStatus := status }

/-- Decide a TIME condition at the head of its ring with device time valid: dropped or sent when late (R66). -/
def State.decideTime (s : State) (q : Nat) (d : Desc) : State :=
  if !s.timeLate d then s
  else if d.bit 1 2 then s.finish q d.idx (s.mkDone stOk 1 s.now cfLate)
  else
    let k := s.ringOwner q
    let s := s.bump (HOST_CTX_SYNC_DROPS k)
    let s := s.applyGuard q d.idx (d.u8 6) stDropped
    s.finishSt q d.idx stDropped

/-- Evaluate every waiting TIME condition when device time becomes valid (R67). -/
def State.evalTimes (s : State) : State :=
  s.rings.foldl (fun s e => (e.2.held.filter (waitingSync 0)).foldl (fun s d => s.decideTime e.1 d) s) s

/-! ## Taking a descriptor -/

/-- Whether a descriptor may start (R54, R65, R68): FENCE waits for all before it; STRIP and MAPLOAD of a page ring start in the
order of their kind unless a SYNC guards them; any other starts when all before it have started and no SYNC holds the ring. -/
def mayStart (k : RingKind) (held : List Desc) (d : Desc) : Bool :=
  let before := held.takeWhile (fun e => e.idx != d.idx)
  d.phase == .queued && (!d.fence || before.isEmpty) &&
  (if k == .page && (d.type == tyStrip || d.type == tyMapload) then
     before.all (fun e => !(e.type == d.type && e.phase == .queued)) && !guardedBy before
   else before.all (fun e => e.phase != .queued && !(e.type == tySync && e.phase == .started)))

/-- The descriptor of a type that may start now on a ring, if there is one. Descriptors held on a ring that PI_BAD has stopped go on starting (DESIGN
CHOICE, notes/assumptions/76). Those of a control ring wait while the Yoke fails over
(spec/01 R24). -/
def State.takeable (s : State) (q ty : Nat) : Option Desc :=
  if ringKind q == .control && s.on YOKE_STAT_HOLDING then none
  else (s.ring q).held.find? (fun d => d.type == ty && mayStart (ringKind q) (s.ring q).held d)

end Sys2Proof.Machine
end

