-- ==== Sys2Proof/Machine/Sense.lean ====
section
/-!
DEFINITION. Position sources (spec/10, spec/06 R192): the phase of an analogue sample (R292), the arithmetic of the tracking observer
(R307), the correction of a pair of raw samples (spec/11 R318), and what a consumer reads of a source. Positions are in 2⁻¹⁶ wu,
velocities in 2⁻³² wu/ns, accelerations in 2⁻⁴⁸ wu/ns².
-/
namespace Sys2Proof.Machine

open Sys2Proof

/-- A position in 2⁻¹⁶ wu wrapped as R16 says. -/
def wrapPos (x : Int) : Int := sext 64 (toBits 64 x)

/-- The difference of two positions (R17). -/
def posDiff (a b : Int) : Int := wrapPos (a - b)

/-- A position in whole wu wrapped to 48 bits, as an integer. -/
def wrapWu (x : Int) : Int := sext 48 (toBits 48 x)

/-- Round 2⁻¹⁶ wu to whole wu, a half upward (R165, R169). -/
def roundWu (x : Int) : Int := (x + 32768) / 65536

/-- A quotient whose rounding the spec leaves open: the integer below or above, by the `j`th free value from here. -/
def State.divOpenAt (s : State) (j : Nat) (x : Int) (d : Nat) : Int :=
  x / (d : Int) + (if x % (d : Int) = 0 then 0 else (Config.freeNat (s.drawn + j) % 2 : Nat))

/-- Count `n` free values as drawn. -/
def State.drawN (s : State) (n : Nat) : State := { s with drawn := s.drawn + n }

/-! ## Hidden state of the inputs -/

/-- One input's hidden state. -/
def State.enc (s : State) (i : Nat) : Enc := Store.get Enc.reset s.encs i
/-- Replace one input's hidden state. -/
def State.setEnc (s : State) (i : Nat) (e : Enc) : State := { s with encs := Store.put Enc.reset s.encs i e }
/-- Change one input's hidden state. -/
def State.updEnc (s : State) (i : Nat) (f : Enc → Enc) : State := s.setEnc i (f (s.enc i))
/-- One pair's hidden state. -/
def State.pair (s : State) (p : Nat) : Pair := Store.get Pair.reset s.pairs p
/-- Replace one pair's hidden state. -/
def State.setPair (s : State) (p : Nat) (e : Pair) : State := { s with pairs := Store.put Pair.reset s.pairs p e }
/-- Change one pair's hidden state. -/
def State.updPair (s : State) (p : Nat) (f : Pair → Pair) : State := s.setPair p (f (s.pair p))

/-! ## Sources (R192) -/

/-- The unit of a sample's velocity and acceleration is 1 / 5¹⁸ of the observer's: in it the virtual encoder's are whole numbers, so that
it issues them exactly (R316). -/
def fine : Nat := 3814697265625

/-- What a consumer has of a position source: the last sample issued (R308). The position is in 2⁻¹⁶ wu, the velocity in
2⁻³² / 5¹⁸ wu/ns and the acceleration in 2⁻⁴⁸ / 5¹⁸ wu/ns². -/
structure Sample where
  t  : Nat
  x  : Int
  v  : Int
  a  : Int
  ok : Bool
  deriving DecidableEq, Repr

/-- A source that gives nothing. -/
def Sample.none : Sample := ⟨0, 0, 0, 0, false⟩

/-- The sample of an encoder input. -/
def State.encSample (s : State) (i : Nat) : Sample :=
  let e := s.enc i
  ⟨e.t, e.x, e.v * fine, e.a * fine, s.on (ENC_STAT_VALID i)⟩

/-- The active input of a pair (R312). -/
def State.pairActive (s : State) (p : Nat) : Nat := 2 * p + s.rd (ENC_DUAL_ACTIVE (2 * p))
/-- The other input of a pair. -/
def State.pairOther (s : State) (p : Nat) : Nat := 2 * p + (1 - s.rd (ENC_DUAL_ACTIVE (2 * p)))
/-- Whether a pair is enabled. -/
def State.pairOn (s : State) (p : Nat) : Bool := s.on (ENC_DUAL_EN (2 * p))

/-- The sample of a pair: its active input's, with the pair offset K (R312). It stays valid while a switch is due (R313). -/
def State.pairSample (s : State) (p : Nat) : Sample :=
  let m := s.encSample (s.pairActive p)
  { m with x := wrapPos (m.x + (s.pair p).offK), ok := (m.ok || (s.pair p).due.isSome) && s.pairOn p }

/-- Whether the virtual encoder is valid (R316). -/
def State.virtOk (s : State) : Bool := s.on VIRT_EN && s.on TIME_STAT_VALID

/-- While the virtual encoder is not valid, its v and a are 0 (R316). -/
def State.virtRest (s : State) : State := if s.virtOk then s else { s with virt := { s.virt with v := 0, dv := 0 } }

/-- The sample of the virtual encoder, exact (R316): its velocity is kept in 2·10⁻⁸ µm/s, which is 2⁻⁸ / 5¹⁷ wu/ns, and its acceleration is
the change of the last step over 20 ns. -/
def State.virtSample (s : State) : Sample :=
  if s.virtOk then ⟨s.virt.t, s.virt.x, s.virt.v * 83886080, s.virt.dv * 274877906944, true⟩
  else ⟨s.virt.t, s.virt.x, 0, 0, false⟩

/-- The last sample of source `src` (R192). -/
def State.source (s : State) (src : Nat) : Sample :=
  if src < 4 then s.encSample src
  else if src < 6 then s.pairSample (src - 4)
  else if src = 6 then s.virtSample
  else Sample.none

/-- The last positions of a source, newest first. -/
def State.sourceHist (s : State) (src : Nat) : List (Nat × Int) :=
  if src < 4 then (s.enc src).hist
  else if src < 6 then (s.pair (src - 4)).hist
  else if src = 6 then s.virt.hist
  else []

/-- Keep the positions that a latch may ask for: those of the last 2 µs (R175), and of CAM_LAT at its longest (spec/14 R387). -/
def pushHist (h : List (Nat × Int)) (t : Nat) (x : Int) : List (Nat × Int) := ((t, x) :: h).take 52533

/-- Interpolate a position at time `t` in a history, newest first. -/
def State.interpolate (s : State) (t : Nat) : List (Nat × Int) → Option Int
  | (t1, x1) :: (t0, x0) :: h =>
    if t0 ≤ t then some (wrapPos (x0 + s.divOpen (posDiff x1 x0 * ((t - t0 : Nat) : Int)) (max 1 (t1 - t0))))
    else s.interpolate t ((t0, x0) :: h)
  | [(_, x)] => some x
  | [] => none

/-- The position of a source at device time `t`: interpolated between its samples, and beyond the last one predicted from it. -/
def State.posAt (s : State) (src t : Nat) : Int :=
  let m := s.source src
  if m.t ≤ t then wrapPos (m.x + m.v * ((t - m.t : Nat) : Int) / (65536 * fine : Nat))
  else (s.interpolate t (s.sourceHist src)).getD m.x

/-- Whether a sample's speed reaches a number of µm/s: 1 µm/s is 256·10⁻⁹ wu/ns. -/
def atLeastUm (v : Int) (um : Nat) : Bool := decide (um * 1099511627776 * fine ≤ v.natAbs * 1000000000)

/-! ## Correction and phase (R291, R292, R318) -/

/-- The coefficients in force of an input (R319). -/
def State.coef (s : State) (i : Nat) : Coef :=
  ⟨s.rdS (ENC_CAL_COEF_OFF_S i), s.rdS (ENC_CAL_COEF_OFF_C i), s.rd (ENC_CAL_COEF_GAIN_C i), s.rdS (ENC_CAL_COEF_PH_SIN i),
   s.rd (ENC_CAL_COEF_PH_SEC i)⟩

/-- Bring coefficients into force, all at once (R319). -/
def State.putCoef (s : State) (i : Nat) (c : Coef) : State :=
  ((((s.wrS (ENC_CAL_COEF_OFF_S i) c.offS).wrS (ENC_CAL_COEF_OFF_C i) c.offC).wrS (ENC_CAL_COEF_GAIN_C i) c.gainC).wrS
    (ENC_CAL_COEF_PH_SIN i) c.phSin).wrS (ENC_CAL_COEF_PH_SEC i) c.phSec

/-- The corrected pair of a raw pair of codes, in 2⁻² code (R318); each product is carried to 2⁻² code, its rounding open. -/
def State.correct (s : State) (c : Coef) (rs rc : Int) : Int × Int :=
  let s1 := 4 * rs - c.offS
  let c1 := s.divOpenAt 0 ((4 * rc - c.offC) * c.gainC) 32768
  let d := c1 + s.divOpenAt 1 (s1 * c.phSin) 32768
  (s1, s.divOpenAt 2 (d * c.phSec) 32768)

/-- cos and sin of 2π·2^j / 4,096 in 2⁻⁸⁰, for j = 0 to 9. -/
def rotTable : List (Int × Int) :=
  [(1208924397255013589970078, 1854468253976911810989),
   (1208920130179513785331761, 3708932144210887464776),
   (1208903061927718747322595, 7417829378539895499670),
   (1208834789723801514652793, 14835379479996263089095),
   (1208561713760085258884695, 29668524806411653107242),
   (1207469615520205493846559, 59319178402857521215137),
   (1203104511360146332467513, 118495451709196174743783),
   (1185696648977439268413811, 235849727442229801031474),
   (1116901821066387782991457, 462635882124905661503633),
   (854839645001009215068542, 854839645001009215068542)]

/-- The product of two rotations in 2⁻⁸⁰. -/
def rotMul (p q : Int × Int) : Int × Int :=
  ((p.1 * q.1 - p.2 * q.2) / 1208925819614629174706176, (p.1 * q.2 + p.2 * q.1) / 1208925819614629174706176)

/-- The largest step count below 1,024 whose angle does not pass that of a point of the first quadrant, bit by bit from 2^9. -/
def phaseSearch (x y : Int) : Nat → (Int × Int) → Nat → Nat
  | 0, _, k => k
  | n + 1, r, k =>
    let r' := rotMul r (rotTable.getD n (0, 0))
    if 0 ≤ y * r'.1 - x * r'.2 then phaseSearch x y n r' (k + 2 ^ n) else phaseSearch x y n r k

/-- The steps of 2π/1,024 of a quadrant below the angle of a point with x > 0 and y ≥ 0. -/
def phaseQuad (x y : Int) : Nat := phaseSearch x y 10 (1208925819614629174706176, 0) 0

/-- The angle of the point (x, y) in steps of 2π/4,096, rounded down. -/
def phaseFloor (x y : Int) : Nat :=
  if 0 < x ∧ 0 ≤ y then phaseQuad x y
  else if x ≤ 0 ∧ 0 < y then 1024 + phaseQuad y (-x)
  else if x < 0 ∧ y ≤ 0 then 2048 + phaseQuad (-x) (-y)
  else if 0 ≤ x ∧ y < 0 then 3072 + phaseQuad (-y) x
  else 0

/-- The phase φ of a corrected pair (R292): the angle of the point (s′, c′), which grows as SIN leads COS (R288), mirrored by INV; the
rounding to an integer is open and fixed by the point, but on the axes and the diagonals, whose angle is a whole number of steps. -/
def phaseOf (inv : Bool) (p : Int × Int) : Nat :=
  let y := if inv then -p.2 else p.2
  let k := phaseFloor p.1 y
  let exact := p.1 = 0 ∨ y = 0 ∨ p.1.natAbs = y.natAbs
  (if exact then k else k + Config.phaseRound p.1 y % 2) % 4096

/-- A phase step reduced to −2,048 to 2,047 (R292). -/
def phaseStep (now prev : Nat) : Int := (((now : Int) - prev + 2048) % 4096) - 2048

/-! ## The observer (R300, R307) -/

/-- The measured position of a count (R300), its last bit open. -/
def State.measured (s : State) (i : Nat) (c : Int) : Int :=
  wrapPos (s.divOpenAt 3 (c * (s.rd (ENC_SCALE i) : Int) * (2 ^ s.rd (ENC_SCALE_SHIFT i) : Nat)) 256 + (s.enc i).posOff)

/-- The measurement latency in ns (R307). -/
def State.encLat (s : State) (i : Nat) : Nat :=
  if s.on (ENC_CTL_MODE i) then 60 + 20 * max 1 (s.rd (ENC_CFG_EDGE_MIN i)) else 160

/-- The observer bandwidth in Hz: 20 kHz while acquiring, else BW in force, limited to its range (R307, R310). -/
def State.encBw (s : State) (i : Nat) : Nat :=
  if s.on (ENC_STAT_ACQ i) then 20000 else clampNat 200 20000 (s.rdF (ENC_OBS_BW i))

/-- 2π·10³⁶. -/
def tau36 : Int := 6283185307179586476925286766559005768

/-- The prediction of a step: position and velocity in 2⁻⁴⁸, acceleration in 2⁻⁴⁸. -/
def predict (x v a : Int) : Int × Int × Int := (x * 4294967296 + v * 1310720 + a * 200, v * 65536 + a * 20, a)

/-- One observer step with a measurement (R307): the new x, v, a and |e| in 2⁻¹⁶ wu. -/
def State.observe (s : State) (i : Nat) (m : Int) (x v a : Int) : Int × Int × Int × Nat :=
  let (xp, vp, ap) := predict x v a
  let lat : Int := s.encLat i
  let xl := xp - vp * lat + ap * lat * lat / 2
  let e := sext 96 (toBits 96 (m * 4294967296 - xl))
  -- ω per ns is τ·BW / 10⁴⁵
  let w := tau36 * s.encBw i
  let u : Nat := 10 ^ 45
  let x' := s.divOpenAt 4 (xp * u + 60 * w * e) (4294967296 * u)
  let v' := s.divOpenAt 5 (vp * (u * u : Nat) + 60 * w * w * e) (65536 * u * u)
  let a' := s.divOpenAt 6 (ap * (u * u * u : Nat) + 20 * w * w * w * e) (u * u * u)
  (wrapPos x', v', a', (e / 4294967296).natAbs)

/-- One observer step without a measurement (R301, R307). -/
def State.coastStep (s : State) (x v a : Int) : Int × Int × Int :=
  let (xp, vp, ap) := predict x v a
  (wrapPos (s.divOpenAt 4 xp 4294967296), s.divOpenAt 5 vp 65536, ap)

end Sys2Proof.Machine
end

