-- ==== Sys2Proof/Machine/AxisOps.lean ====
section
/-!
DEFINITION. Motion axes, what their commands share (spec/12): the cubic of a row and the ramps, the drive, the end of moves with what
waits for it, and faults with the safe action. Positions are in 2⁻¹⁶ microstep, velocities in 2⁻¹⁶ microstep/ms.
-/
namespace Sys2Proof.Machine

open Sys2Proof

/-- One axis's hidden state. -/
def State.axis (s : State) (a : Nat) : Axis := Store.get Axis.reset s.axes a
/-- Replace one axis's hidden state. -/
def State.setAxis (s : State) (a : Nat) (x : Axis) : State := { s with axes := Store.put Axis.reset s.axes a x }
/-- Change one axis's hidden state. -/
def State.updAxis (s : State) (a : Nat) (f : Axis → Axis) : State := s.setAxis a (f (s.axis a))

/-- Axis states (R333). -/
def axOff : Nat := 0
def axReady : Nat := 1
def axMoving : Nat := 2
def axStopping : Nat := 3
def axStopped : Nat := 4
def axHoming : Nat := 5
def axFault : Nat := 6

/-- The state of an axis. -/
def State.axState (s : State) (a : Nat) : Nat := s.rd (AXIS_STAT_STATE a)
/-- Enter a state. -/
def State.axEnter (s : State) (a st : Nat) : State := s.wr (AXIS_STAT_STATE a) st

/-! ## Switches (R351) -/

/-- The enable and the active level of a switch input: 0 LIM_P, 1 LIM_N, 2 HOME. -/
def limFlds (a : Nat) : Nat → Fld × Fld
  | 0 => (AXIS_LIM_LIM_P_EN a, AXIS_LIM_LIM_P_POL a)
  | 1 => (AXIS_LIM_LIM_N_EN a, AXIS_LIM_LIM_N_POL a)
  | _ => (AXIS_LIM_HOME_EN a, AXIS_LIM_HOME_POL a)

/-- Whether a switch input is active: enabled, and its qualified level its active level. -/
def State.limActive (s : State) (a i : Nat) : Bool :=
  s.on (limFlds a i).1 && bitOf (s.axis a).levels i == s.on (limFlds a i).2

/-- The word AXIS[a].STAT. -/
def State.axStat (s : State) (a : Nat) : Nat :=
  s.axState a + 8 * s.rd (AXIS_STAT_DRIVE_NOW a) + 32 * s.rd (AXIS_STAT_POS_VALID a) + 64 * s.rd (AXIS_STAT_CHAIN_PEND a) +
  128 * s.rd (AXIS_STAT_RESUME_PEND a) + 256 * b2n (s.limActive a 0) + 512 * b2n (s.limActive a 1) + 1024 * b2n (s.limActive a 2) +
  2048 * s.rd (AXIS_STAT_BRAKE a) + 4096 * s.rd (AXIS_STAT_FAULT_CAUSE a) + 65536 * s.rd (AXIS_STAT_ROW a)

/-! ## Profiles -/

/-- The position and velocity of the cubic at its time (R337): at its end exactly the end state. -/
def Seg.at (g : Seg) (s : State) : Int × Int :=
  if g.dur ≤ g.t then (g.p1, g.v1)
  else
    let t : Int := g.t
    let d : Int := g.dur
    let d3 := g.dur * g.dur * g.dur
    let p := ((2 * t * t * t - 3 * t * t * d + d * d * d) * g.p0 + (3 * t * t * d - 2 * t * t * t) * g.p1) * 1000 +
      ((t * t * t - 2 * t * t * d + t * d * d) * g.v0 + (t * t * t - t * t * d) * g.v1) * d
    let v := ((6 * t * t - 6 * t * d) * g.p0 + (6 * t * d - 6 * t * t) * g.p1) * 1000 +
      ((3 * t * t - 4 * t * d + d * d) * g.v0 + (3 * t * t - 2 * t * d) * g.v1) * d
    (s.nearest p (1000 * d3), s.divOpenAt 1 v d3)

/-- Whether a ramp has reached its velocity at time `t`. -/
def Ramp.reached (r : Ramp) (t : Nat) : Bool := decide ((r.goal - r.v0).natAbs * 1000 ≤ r.acc * t)

/-- The position and velocity of a ramp at time `t` in µs, rounding open. -/
def Ramp.at (r : Ramp) (s : State) (t : Nat) : Int × Int :=
  let sgn : Int := if r.v0 ≤ r.goal then 1 else -1
  let a := sgn * r.acc
  if r.acc = 0 then (r.p0 + s.divOpenAt 0 (r.v0 * t) 1000, r.v0)
  else if r.reached t then
    (r.p0 + s.divOpenAt 0 (sgn * (1000 * (r.goal * r.goal - r.v0 * r.v0) + 2 * a * r.goal * t -
      2000 * r.goal * (r.goal - r.v0))) (2000 * r.acc), r.goal)
  else (r.p0 + s.divOpenAt 0 (2000 * r.v0 * t + a * t * t) 2000000, r.v0 + s.divOpenAt 1 (a * t) 1000)

/-- Whether a ramp has come to rest. -/
def Ramp.atRest (r : Ramp) : Bool := r.goal == 0 && r.reached r.t

/-- A ramp from the present state. -/
def Axis.ramping (x : Axis) (acc : Nat) (goal : Int) : Axis := { x with ramp := some ⟨x.pos, x.vel, acc, goal, 0⟩ }

/-- The rows that are locked (R336): the running or interrupted one and the two after it, in a chained move where one follows. -/
def Axis.locked (x : Axis) : List Nat :=
  match x.move with
  | none => []
  | some m =>
    let own := (List.range (min 3 (m.last + 1 - m.row))).map (· + m.row)
    let next := match x.chain with
      | some (f, l) => (List.range (min 3 (l + 1 - f))).map (· + f)
      | none => [m.last + 1, m.last + 2]
    (own ++ next).take 3

/-- One row of the table. -/
def Axis.rowAt (x : Axis) (r : Nat) : SegRow := Store.get ⟨0, 0, 0⟩ x.table r

/-- Begin a row from a state (R337, R338). -/
def Axis.beginRow (x : Axis) (row last : Nat) (p0 v0 : Int) : Axis :=
  let r := x.rowAt row
  { x with move := some ⟨row, last, ⟨p0, v0, r.dur, r.pos, r.vel, 0⟩, false⟩ }

/-! ## The drive (R341 to R346) -/

/-- Drive modes. -/
def drLamb : Nat := 0
def drCross : Nat := 1
def drBull : Nat := 2

/-- The cosine and sine of a step of 2π/4,096, in 2⁻⁸⁰. -/
def cosSin (k : Nat) : Int × Int :=
  let (c, s) := (List.range 10).foldl (fun r j => if bitOf k j then rotMul r (rotTable.getD j (0, 0)) else r)
    (1208925819614629174706176, 0)
  match k / 1024 % 4 with
  | 0 => (c, s)
  | 1 => (-s, c)
  | 2 => (-c, -s)
  | _ => (s, -c)

/-- The cosine and sine of θ (R341); INV turns the field the other way. -/
def State.axTheta (s : State) (a : Nat) : Int × Int :=
  let m : Nat := 2 ^ min 8 (s.rd (AXIS_CTL_RES a))
  let whole := (s.axis a).pos / 65536
  let k := ((whole * (m : Int) / 256) % ((4 * m : Nat) : Int)).toNat
  let (c, sn) := cosSin (k * (1024 / m))
  (c, if s.on (AXIS_CTL_INV a) then -sn else sn)

/-- The current references of the two coils on the present θ, in 2⁻¹⁶ mA; a size that shrinks is falling (R341, R343). -/
def State.axRefs (s : State) (a : Nat) : State :=
  let x := s.axis a
  let (c, sn) := s.axTheta a
  let ra := s.divOpenAt 2 (c * x.cur * 65536) 1208925819614629174706176
  let rb := s.divOpenAt 3 (sn * x.cur * 65536) 1208925819614629174706176
  s.setAxis a { x with refA := ra, refB := rb, fallA := decide (ra.natAbs < x.refA.natAbs), fallB := decide (rb.natAbs < x.refB.natAbs) }

/-- A quotient in 2⁻¹⁶; with a divisor of 0 a free value. -/
def State.ratio (s : State) (j : Nat) (x : Int) (d : Nat) : Int :=
  if d = 0 then sext 18 (Config.freeNat (s.drawn + j)) else s.divOpenAt j (x * 65536) d

/-- A duty is limited to −1 to +1, in 2⁻¹⁶ (R342, R345). -/
def unitDuty (d : Int) : Int := clampInt (-65536) 65536 d

/-- The velocity as the coils see it: INV turns the field the other way. -/
def State.axVel (s : State) (a : Nat) : Int := if s.on (AXIS_CTL_INV a) then -(s.axis a).vel else (s.axis a).vel

/-- The weight W of cross mode in 2⁻⁸ × 1/(V_UP − V_DN): linear between the thresholds, held beyond them (R345). -/
def State.crossWeight (s : State) (a : Nat) : Int × Nat :=
  let dn : Int := (s.rd (AXIS_MODE_V_V_DN a) : Int) * 65536
  let up : Int := (s.rd (AXIS_MODE_V_V_UP a) : Int) * 65536
  let v := clampInt dn up (s.axis a).vel.natAbs
  let lo : Int := s.rd (AXIS_CROSS_W_LO a)
  let hi : Int := s.rd (AXIS_CROSS_W_HI a)
  (lo * (up - dn) + (hi - lo) * (v - dn), (up - dn).toNat)

/-- The duty of one coil in Lamb or cross mode, in 2⁻¹⁶ (R342, R345): `c`, `q` are the functions of θ that its voltage takes. -/
def State.duty (s : State) (a j : Nat) (c q ref i : Int) : Int :=
  let x := s.axis a
  let two80 : Nat := 1208925819614629174706176
  let u36 : Nat := 10 ^ 36
  let ri : Int := (s.rd (AXIS_COIL_R_COIL a) * x.cur * 1000 : Nat)
  let lik : Int := (s.rd (AXIS_COIL_L_COIL a) * x.cur + 1000 * s.rd (AXIS_KE a) : Nat)
  -- volts × 10⁹, scaled by 10³⁶ × 2²⁶ × 2⁸⁰
  let u := ri * c * (u36 * 67108864 : Nat) + lik * (tau36 * s.axVel a * 1000) * q
  let lamb := unitDuty (s.ratio j u (s.rd (AXIS_VM a) * 1000000 * u36 * 67108864 * two80))
  if s.rd (AXIS_STAT_DRIVE_NOW a) ≠ drCross then lamb
  else
    let (w, wd) := s.crossWeight a
    let kp : Int := s.rd (AXIS_CROSS_KP_X a)
    let e := ref - i * 65536
    unitDuty (lamb + s.ratio (j + 1) (w * kp * e) (wd * 256 * 4096 * 65536 * s.rd (AXIS_ISNS_IFS a)))

/-- The duties of both coils (R342, R345). -/
def State.duties (s : State) (a : Nat) : State :=
  let x := s.axis a
  let (c, sn) := s.axTheta a
  let da := s.duty a 4 c (-sn) x.refA (s.rdS (AXIS_IAB_IA a))
  let db := s.duty a 6 sn c x.refB (s.rdS (AXIS_IAB_IB a))
  s.setAxis a { x with coilA := .duty da, coilB := .duty db }

/-- The mode that DRIVE and the speed ask for (R346). -/
def State.axTarget (s : State) (a : Nat) : Nat :=
  let now := s.rd (AXIS_STAT_DRIVE_NOW a)
  let v := (s.axis a).vel.natAbs
  match s.rd (AXIS_CTL_DRIVE a) with
  | 0 => drLamb
  | 1 => drBull
  | _ =>
    if s.rd (AXIS_MODE_V_V_UP a) * 65536 ≤ v then drBull
    else if v < s.rd (AXIS_MODE_V_V_DN a) * 65536 then drLamb
    else if s.on (AXIS_CTL_CROSS a) then drCross else now

/-- The end of the blanking that a change of bridge state starts (R343). -/
def State.blankEnd (s : State) (a : Nat) : Nat := s.timeNs + max 100 (s.rd (AXIS_PWM_BLANK a))

/-- What the bridge itself does: a fast decay drives it. -/
def CoilOut.bridge (c : CoilOut) : CoilOut := match c with | .fast p => .drive p | c => c

/-- A coil of the chopper takes a state; a change of its bridge blanks its comparators, and coil A's is counted (R343, R344). -/
def State.chopTo (s : State) (a : Nat) (coilB : Bool) (c : CoilOut) : State :=
  let till := s.blankEnd a
  s.updAxis a (fun x =>
    if coilB then { x with coilB := c, blankB := if c.bridge = x.coilB.bridge then x.blankB else till }
    else if c.bridge = x.coilA.bridge then { x with coilA := c }
    else { x with coilA := c, blankA := till, changes := x.changes + 1 })

/-- How a coil decays (R343): fast, driven against the current, while its reference falls, and slowly otherwise. -/
def decayOf (ref : Int) (falling : Bool) : CoilOut := if falling then .fast (decide (ref < 0)) else .slow

/-- The decay that a decaying coil turns to as its reference moves (R343). -/
def CoilOut.decayNow (c : CoilOut) (ref : Int) (falling : Bool) : CoilOut :=
  match c with
  | .slow | .fast _ => decayOf ref falling
  | c => c

/-- The decay of both coils follows their references in Bull mode (R343). -/
def State.axDecay (s : State) (a : Nat) : State :=
  if s.rd (AXIS_STAT_DRIVE_NOW a) ≠ drBull then s
  else
    let x := s.axis a
    (s.chopTo a false (x.coilA.decayNow x.refA x.fallA)).chopTo a true (x.coilB.decayNow x.refB x.fallB)

/-- Take a drive mode (R343, R344, R346): Bull begins with H at H_MAX and its comparators blanked; the state its bridges begin in is
open. -/
def State.takeDrive (s : State) (a mode : Nat) : State :=
  let s := s.wr (AXIS_STAT_DRIVE_NOW a) mode
  if !(s.axis a).on then s
  else if mode = drBull then
    let coil (j : Nat) (ref : Int) : CoilOut := if Config.freeNat (s.drawn + j) % 2 = 0 then .slow else .drive (decide (0 ≤ ref))
    let x := s.axis a
    ((s.wr (AXIS_CHOP_H_NOW a) (s.rd (AXIS_BULL_H_MAX a))).setAxis a
      { x with coilA := coil 8 x.refA, coilB := coil 9 x.refB, blankA := s.blankEnd a, blankB := s.blankEnd a, changes := 0,
               limitRun := 0 }).drawN 10
  else s.duties a

/-- A change of mode is taken at a sign change of i_A*, or at once at rest (R346). -/
def State.axMode (s : State) (a : Nat) (wasNeg : Bool) : State :=
  let x := s.axis a
  let target := s.axTarget a
  if target = s.rd (AXIS_STAT_DRIVE_NOW a) then s
  else if x.vel = 0 ∨ decide (x.refA < 0) ≠ wasNeg then s.takeDrive a target
  else s

/-- Release the bridges (R331); without the brake the position is lost (R333). -/
def State.releaseBridges (s : State) (a : Nat) : State :=
  let s := s.updAxis a (fun x => { x with on := false, cur := 0, refA := 0, refB := 0, coilA := .released, coilB := .released,
                                            releaseDue := false })
  if s.on (AXIS_STAT_BRAKE a) then s else s.wr (AXIS_STAT_POS_VALID a) 0

/-- Engage or release the brake; with the bridges released too the position is lost (R333). -/
def State.setBrake (s : State) (a : Nat) (on : Bool) : State :=
  let s := s.wrB (AXIS_STAT_BRAKE a) on
  if on || (s.axis a).on then s else s.wr (AXIS_STAT_POS_VALID a) 0

/-! ## Completions and the end of moves (R340) -/

/-- Complete a held AXIS descriptor: INFO is STAT, DETAIL is STAT.POS. -/
def State.axComplete (s : State) (a q idx status : Nat) : State :=
  match s.descAt q idx with
  | some d =>
    if d.type = tyAxis ∧ d.u8 4 % 8 = a then s.finish q idx (s.mkDone status (s.axStat a) (toBits 64 (s.axis a).pos) 0) else s
  | none => s

/-- Complete the descriptors that wait for one thing. -/
def State.axRelease (s : State) (a : Nat) (till : AxUntil) (status : Nat) : State :=
  let ws := (s.axis a).waits.filter (fun w => w.till == till)
  ws.foldl (fun s w => s.axComplete a w.q w.idx status)
    (s.updAxis a (fun x => { x with waits := x.waits.filter (fun w => w.till != till) }))

/-- Discard a pending chained move (R339, R358). -/
def State.dropChain (s : State) (a : Nat) : State :=
  ((s.updAxis a (fun x => { x with chain := none })).wr (AXIS_STAT_CHAIN_PEND a) 0).axRelease a .chain stAborted

/-- A move or a homing ends (R340): those that wait for it complete, and every SYNC on AXIS_END. -/
def State.axMoveEnd (s : State) (a status : Nat) : State :=
  if (s.axis a).move.isNone ∧ (s.axis a).home.isNone then s
  else
    let s := s.updAxis a (fun x => { x with move := none, home := none })
    (s.axRelease a .moveEnd status).syncEvent 6 a none

/-! ## Safe action and faults (R347, R352, R355, R356) -/

/-- The value in force of STOP_DECEL; 0 acts as 2⁻¹⁶. -/
def State.axDecel (s : State) (a : Nat) : Nat := max 1 (s.rdF (AXIS_STOP_DECEL a))

/-- Decelerate to rest at STOP_DECEL, latched now. -/
def State.axDecelerate (s : State) (a : Nat) : State :=
  let s := s.enforce (AXIS_STOP_DECEL a)
  s.updAxis a (fun x => x.ramping (s.axDecel a) 0)

/-- Engage the brake and have the bridges released 20 ms later. -/
def State.brakeThenRelease (s : State) (a : Nat) : State :=
  (s.setBrake a true).updAxis a (fun x => { x with releaseDue := true })

/-- The safe action of an axis (R356). HOLD leaves the brake of an axis whose bridges are released as it is (DEDUCED,
notes/assumptions/91). -/
def State.axSafeAction (s : State) (a : Nat) : State :=
  match s.rd (AXIS_CTL_SAFE_ACT a) with
  | 0 => ((s.setBrake a false).updAxis a (fun x => { x with vel := 0, ramp := none })).releaseBridges a
  | 1 => (if (s.axis a).on then s.setBrake a false else s).updAxis a (fun x => { x with vel := 0, ramp := none, holding := true })
  | _ => s.axDecelerate a

/-- An axis enters FAULT (R355): move, remainder and chained move are discarded, what waits on them completes ABORTED, and the safe
action is taken, or with cause OCP the bridges are released with the brake engaged (R347). A DISABLE under way goes on to OFF. -/
def State.axFaultEnter (s : State) (a cause : Nat) : State :=
  let s := (s.bump (AXIS_CNT2_FAULTS a)).report srcAxFault a 2 initAxis a accNone cause
  let s := (s.axEnter a axFault).wr (AXIS_STAT_FAULT_CAUSE a) cause
  let s := ((s.dropChain a).wr (AXIS_STAT_RESUME_PEND a) 0).axMoveEnd a stAborted
  let s := s.axRelease a .rest stAborted
  let s := if cause = 3 then ((s.setBrake a true).updAxis a (fun x => { x with vel := 0, ramp := none })).releaseBridges a
    else s.axSafeAction a
  if (s.axis a).disabling && (s.axis a).ramp.isNone then s.brakeThenRelease a else s

/-- Motion toward an active limit (R352): the limit that guards the sign of the velocity, unless homing uses it as its source. -/
def State.axLimitHit (s : State) (a : Nat) : Option Nat :=
  let x := s.axis a
  let i : Nat := if 0 < x.vel then 0 else 1
  if x.vel = 0 ∨ ¬ s.limActive a i then none
  else match x.home with
    | some h => if h.limit && (i == 1) == h.neg then none else some 4
    | none => some (1 + i)

/-- Fault an axis that moves into a limit. -/
def State.axGuard (s : State) (a : Nat) : State :=
  if s.axState a = axOff ∨ s.axState a = axFault then s
  else match s.axLimitHit a with
    | some cause => s.axFaultEnter a cause
    | none => s

end Sys2Proof.Machine
end

