-- ==== Sys2Proof/Machine/Axis.lean ====
section
/-!
DEFINITION. Motion axes (spec/12): the AXIS operations by descriptor and by register, the table, the evaluation of every microsecond,
homing, the drive modes and the timers of an axis.
-/
namespace Sys2Proof.Machine

open Sys2Proof

/-! ## Operations -/

/-- How an operation that was looked at ends: with a status, or, with AT_END, when something has happened. -/
inductive AxEnd
  | done (status : Nat)
  | waits (till : AxUntil)
  deriving DecidableEq, Repr

/-- Begin a move from the present position at rest (R338). -/
def State.axBegin (s : State) (a first rows : Nat) : State :=
  ((s.updAxis a (fun x => { x.beginRow first (first + rows - 1) x.pos 0 with ramp := none, vel := 0 })).wr (AXIS_STAT_ROW a)
    first).axEnter a axMoving

/-- START (R338, R339). -/
def State.axOpStart (s : State) (a first rows arg : Nat) : State × AxEnd :=
  let st := s.axState a
  if 2 ≤ arg ∨ (s.axis a).disabling then (s, .done stBadDesc)
  else if st = axReady then (s.axBegin a first rows, .waits .moveEnd)
  else if st = axStopped then ((s.axMoveEnd a stAborted).axBegin a first rows, .waits .moveEnd)
  else if st = axMoving ∧ arg = 1 ∧ (s.axis a).chain.isNone then
    ((s.updAxis a (fun x => { x with chain := some (first, first + rows - 1) })).wr (AXIS_STAT_CHAIN_PEND a) 1, .waits .chain)
  else (s, .done stBadDesc)

/-- STOP (R348). -/
def State.axOpStop (s : State) (a arg : Nat) : State × AxEnd :=
  let st := s.axState a
  if arg ≠ 0 then (s, .done stBadDesc)
  else if st = axMoving then
    ((((s.dropChain a).axDecelerate a).bump (AXIS_CNT2_STOPS a)).axEnter a axStopping, .waits .rest)
  else if st = axHoming then
    ((s.axDecelerate a).updAxis a (fun x => { x with home := x.home.map (fun h => { h with phase := 4 }) }), .waits .rest)
  else if st = axStopping then (s, .waits .rest)
  else (s, .done stOk)

/-- The first row from the interrupted one onward that a re-join can take (R349). -/
def rejoinRow (x : Axis) (p : Int) (acc last : Nat) : Nat → Nat → Option Nat
  | 0, _ => none
  | n + 1, r =>
    let w := x.rowAt r
    let d := w.pos - p
    if (w.vel ≠ 0 ∧ 0 < d * w.vel ∧ 4 * w.vel * w.vel ≤ 3 * acc * d.natAbs) ∨ (w.vel = 0 ∧ r = last) then some r
    else rejoinRow x p acc last n (r + 1)

/-- The duration of a re-join in µs, its rounding open (R349). -/
def State.rejoinTime (s : State) (d v : Int) (acc : Nat) : Nat :=
  if v ≠ 0 then (s.divOpenAt 0 (1500 * d.natAbs) v.natAbs).toNat
  else
    let q := 6000000 * d.natAbs
    let r := isqrt (q / acc)
    if r * r * acc = q then r else r + s.free % 2

/-- A RESUME takes effect at rest (R349, R350). Where no row can be re-joined the axis stays STOPPED (DESIGN CHOICE, notes/assumptions/90). -/
def State.axResume (s : State) (a : Nat) (abandon : Bool) : State :=
  if abandon then (s.axEnter a axReady).axMoveEnd a stAborted
  else
    let s := s.enforce (AXIS_STOP_DECEL a)
    let x := s.axis a
    match x.move with
    | none => s
    | some m =>
      match rejoinRow x x.pos (s.axDecel a) m.last (m.last + 1 - m.row) m.row with
      | none => s
      | some r =>
        let w := x.rowAt r
        let dur := s.rejoinTime (w.pos - x.pos) w.vel (s.axDecel a)
        ((((s.setAxis a { x with ramp := none, move := some ⟨r, m.last, ⟨x.pos, 0, dur, w.pos, w.vel, 0⟩, false⟩ }).drawN 1).wr
          (AXIS_STAT_ROW a) r).axEnter a axMoving)

/-- RESUME (R349, R350). -/
def State.axOpResume (s : State) (a arg : Nat) : State × AxEnd :=
  let st := s.axState a
  if 2 ≤ arg then (s, .done stBadDesc)
  else if (s.axis a).disabling then (s, .done stOk)
  else if st = axStopped then
    if arg = 1 then (s.axResume a true, .done stOk) else (s.axResume a false, .waits .moveEnd)
  else if st = axStopping then
    ((s.updAxis a (fun x => { x with abandon := arg == 1 })).wr (AXIS_STAT_RESUME_PEND a) 1,
      .waits (if arg = 1 then .rest else .moveEnd))
  else (s, .done stOk)

/-- The switch that homing looks for. -/
def Homing.source (h : Homing) : Nat := if h.limit then (if h.neg then 1 else 0) else 2

/-- Homing step 2: toward the source (R353). -/
def State.homeToward (s : State) (a : Nat) : State :=
  let v : Int := s.rdF (AXIS_HOME_VEL a)
  s.updAxis a (fun x => match x.home with
    | none => x
    | some h => { x.ramping (s.rdF (AXIS_HOME_ACC a)) (if h.neg then -v else v) with
        home := some { h with phase := 2, old := x.ramp.toList ++ h.old } })

/-- HOME (R353). -/
def State.axOpHome (s : State) (a arg : Nat) : State × AxEnd :=
  let st := s.axState a
  if 4 ≤ arg ∨ (s.axis a).disabling then (s, .done stBadDesc)
  else if st ≠ axReady ∧ st ≠ axStopped then (s, .done stBadDesc)
  else
    let s := s.axMoveEnd a stAborted
    let s := s.enforceAll [AXIS_HOME_VEL a, AXIS_HOME_ACC a, AXIS_HOME_MAX a, AXIS_HOME_POS_LO a, AXIS_HOME_POS_HI a]
    let h : Homing := ⟨1, bitOf arg 0, bitOf arg 1, none, []⟩
    let s := (s.updAxis a (fun x => { x with vel := 0, ramp := none, home := some h })).axEnter a axHoming
    let v : Int := s.rdF (AXIS_HOME_VEL a)
    let s := if s.limActive a h.source then
        s.updAxis a (fun x => x.ramping (s.rdF (AXIS_HOME_ACC a)) (if h.neg then v else -v))
      else s.homeToward a
    (s, .waits .moveEnd)

/-- The counters of an axis, which clear when EN is written 1 from OFF. -/
def axCounters (a : Nat) : List Fld := [AXIS_CNT_CHAT a, AXIS_CNT_ROW_LOCK a, AXIS_CNT2_STOPS a, AXIS_CNT2_FAULTS a]

/-- ENABLE (R355, R357): in OFF or FAULT the brake is released and the bridges energised at HOLD_CUR on the present θ. -/
def State.axOpEnable (s : State) (a arg : Nat) : State × AxEnd :=
  let st := s.axState a
  if arg ≠ 0 then (s, .done stBadDesc)
  else if st ≠ axOff ∧ st ≠ axFault then (s, .done stOk)
  else
    let s := if st = axOff then s.clearAll (axCounters a) else s
    let s := (s.wr (AXIS_CTL_EN a) 1).wr (AXIS_STAT_FAULT_CAUSE a) 0
    let s := s.updAxis a (fun x => { x with on := true, cur := s.rd (AXIS_CUR_HOLD_CUR a), holding := true, vel := 0, ramp := none,
                                            releaseDue := false, disabling := false })
    let s := ((s.setBrake a false).axRefs a).axEnter a axReady
    let s := (s.takeDrive a (s.axTarget a)).drawN 10
    (s.axRelease a .off stAborted, .done stOk)

/-- DISABLE (R357): to rest, the move abandoned, the brake engaged, and 20 ms later OFF. -/
def State.axOpDisable (s : State) (a arg : Nat) : State × AxEnd :=
  let st := s.axState a
  if arg ≠ 0 then (s, .done stBadDesc)
  else if st = axOff then (s.wr (AXIS_CTL_EN a) 0, .done stOk)
  else
    let s := s.wr (AXIS_CTL_EN a) 0
    if (s.axis a).disabling then (s, .waits .off)
    else
      let s := s.updAxis a (fun x => { x with disabling := true })
      let s := (s.dropChain a).wr (AXIS_STAT_RESUME_PEND a) 0
      let s := if (s.axis a).vel ≠ 0 ∧ st ≠ axFault then (s.axDecelerate a).axEnter a axStopping
        else if (s.axis a).vel ≠ 0 then s
        else
          let s := if st = axFault then s else s.axEnter a axReady
          ((s.updAxis a (fun x => { x with ramp := none })).axMoveEnd a stAborted).brakeThenRelease a
      (s, .waits .off)

/-- An operation by its number, but LOAD_TABLE. -/
def State.axOp (s : State) (a op first rows arg : Nat) : State × AxEnd :=
  match op with
  | 1 => s.axOpStart a first rows arg
  | 2 => s.axOpStop a arg
  | 3 => s.axOpResume a arg
  | 4 => s.axOpHome a arg
  | 5 => s.axOpEnable a arg
  | 6 => s.axOpDisable a arg
  | _ => (s, .done stBadDesc)

/-- Mark the register command as completed (CMD_RES). -/
def State.axCmdRes (s : State) (a status : Nat) : State := (s.wr (AXIS_CMD_RES_STATUS a) status).wr (AXIS_CMD_RES_DONE a) 1

/-- AXIS[a].CMD is written with GO and an operation: it completes when it is accepted or refused. -/
def State.axCommand (s : State) (a op : Nat) : State :=
  let s := s.wr (AXIS_CMD_OP a) op
  let first := s.rd (AXIS_CMD_ROWS_FIRST_ROW a)
  let rows := s.rd (AXIS_CMD_ROWS_ROWS a)
  if op = 1 ∧ (rows < 1 ∨ 1024 < first + rows) then s.axCmdRes a stBadDesc
  else match s.axOp a op first rows (s.rd (AXIS_ARG a)) with
    | (s, .done st) => s.axCmdRes a st
    | (s, .waits _) => s.axCmdRes a stOk

/-- The AXIS descriptor that may start on the control ring of cell `n`, if it asks for operation `op`. -/
def State.axDesc (s : State) (n op : Nat) : Option Desc :=
  (s.takeable (2 * n + 1) tyAxis).filter (fun d => bitsOf (d.u8 5) 0 4 == op)

/-- Whether the poster of a descriptor owns the axis it names (R46). -/
def State.axOwned (s : State) (n : Nat) (d : Desc) : Bool := s.owner .axis (d.u8 4 % 8) == s.ringOwner (2 * n + 1)

/-- An AXIS descriptor of a control ring with operation `op` starts: refused, completed, or left to wait with AT_END. -/
def State.axRing (s : State) (n op : Nat) : State :=
  let q := 2 * n + 1
  match s.axDesc n op with
  | none => s
  | some d =>
    let a := d.u8 4 % 8
    if !s.axOwned n d then (s.descXs (s.ringOwner q) q d.idx).finishSt q d.idx stRefused
    else
      let s := s.setPhase q d.idx .started
      match s.axOp a op (d.u16 16) (d.u16 18) (d.u32 20) with
      | (s, .done st) => s.axComplete a q d.idx st
      | (s, .waits till) =>
        if d.bit 1 2 then s.updAxis a (fun x => { x with waits := x.waits ++ [⟨till, q, d.idx⟩] })
        else s.axComplete a q d.idx stOk

/-- An operation by whichever way it comes. A write of CTL.EN is an ENABLE or a DISABLE and no other operation. -/
def State.axVia (s : State) (via : AxisVia) (op : Nat) : State :=
  match via with
  | .ring n => s.axRing n op
  | .cmd who a => s.gatedWrite who (AXIS_CMD_GO a) (2 ^ 31 + op) (fun s => s.axCommand a op)
  | .ctl who a =>
    if op = 5 then s.gatedWrite who (AXIS_CTL_EN a) 1 (fun s => (s.axOpEnable a 0).1)
    else if op = 6 then s.gatedWrite who (AXIS_CTL_EN a) 0 (fun s => (s.axOpDisable a 0).1)
    else s

/-- START. -/
def execAxisStart (via : AxisVia) (s : State) : Host.Outcome State Fault Refusal := .next (s.axVia via 1)
/-- STOP. -/
def execAxisStop (via : AxisVia) (s : State) : Host.Outcome State Fault Refusal := .next (s.axVia via 2)
/-- RESUME. -/
def execAxisResume (via : AxisVia) (s : State) : Host.Outcome State Fault Refusal := .next (s.axVia via 3)
/-- HOME. -/
def execAxisHome (via : AxisVia) (s : State) : Host.Outcome State Fault Refusal := .next (s.axVia via 4)
/-- ENABLE. -/
def execAxisEnable (via : AxisVia) (s : State) : Host.Outcome State Fault Refusal := .next (s.axVia via 5)
/-- DISABLE. -/
def execAxisDisable (via : AxisVia) (s : State) : Host.Outcome State Fault Refusal := .next (s.axVia via 6)

/-! ## The table (R334, R335) -/

/-- A row from its 16 bytes, if it passes the checks of R335. -/
def segRow (bs : List Byte) : Option SegRow :=
  let dur := leAt bs 0 4
  let pos := sext 64 (leAt bs 8 8)
  if dur = 0 ∨ satInt 47 pos ≠ pos then none else some ⟨dur, sext 32 (leAt bs 4 4), pos⟩

/-- The rows of a block of bytes, if all pass. -/
def segRows : Nat → List Byte → Option (List SegRow)
  | 0, _ => some []
  | n + 1, bs => (segRow (bs.take 16)).bind (fun r => (segRows n (bs.drop 16)).map (fun rs => r :: rs))

/-- Whether a range of rows includes a locked one. -/
def Axis.hitsLock (x : Axis) (first rows : Nat) : Bool := x.locked.any (fun r => decide (first ≤ r ∧ r < first + rows))

/-- Write rows from `first` on. -/
def Axis.putRows (x : Axis) (first : Nat) (rs : List SegRow) : Axis :=
  { x with table := rs.zipIdx.foldl (fun t e => Store.put ⟨0, 0, 0⟩ t (first + e.2) e.1) x.table }

/-- LOAD_TABLE (R335): its rows are read, all are checked, and only then written. -/
def execAxisLoadTable (n : CellId) (result : ReadResult) (s : State) : Host.Outcome State Fault Refusal :=
  let q := 2 * n.val + 1
  match s.axDesc n 0 with
  | none => .next s
  | some d =>
    let a := d.u8 4 % 8
    let k := s.ringOwner q
    let first := d.u16 16
    let rows := d.u16 18
    if !s.axOwned n d then .next ((s.descXs k q d.idx).finishSt q d.idx stRefused)
    else if !s.mayReadMem k (d.u64 8) (16 * rows) then .next ((s.memXs k (d.u64 8) false).finishSt q d.idx stRefused)
    else if !s.readEnds k (d.u64 8) result then .next s
    else
      let s := s.setPhase q d.idx .started
      if d.u32 20 ≠ 0 then .next (s.axComplete a q d.idx stBadDesc)
      else if (s.axis a).hitsLock first rows then .next ((s.bump (AXIS_CNT_ROW_LOCK a)).axComplete a q d.idx stBadDesc)
      else
        match s.dmaRead initCtx k (d.u64 8) (16 * rows) result with
        | (s, none) => .next (s.axComplete a q d.idx stDmaErr)
        | (s, some bs) =>
          match segRows rows bs with
          | none => .next (s.axComplete a q d.idx stBadDesc)
          | some rs => .next ((s.updAxis a (fun x => x.putRows first rs)).axComplete a q d.idx stOk)

/-- TBL_W[3] is written (R335). -/
def State.tblCommit (s : State) (a v : Nat) : State :=
  let s := s.wr (AXIS_TBL_W a 3) v
  let row := s.rd (AXIS_TBL_IDX a)
  let bs := (List.range 4).flatMap (fun w => leBytes 4 (s.rd (AXIS_TBL_W a w)))
  let s :=
    if (s.axis a).hitsLock row 1 then (s.bump (AXIS_CNT_ROW_LOCK a)).axCmdRes a stBadDesc
    else match segRow bs with
      | none => s.axCmdRes a stBadDesc
      | some r => (s.updAxis a (fun x => x.putRows row [r])).axCmdRes a stOk
  s.wr (AXIS_TBL_IDX a) (row + 1)

/-- TBL_COMMIT (R335). -/
def execTblCommit (who : Sender) (a : AxisId) (value : Word) (s : State) : Host.Outcome State Fault Refusal :=
  .next (s.gatedWrite who (AXIS_TBL_W a 3) value.toNat (fun s => s.tblCommit a value.toNat))

/-- CTL.POS_LOAD is written (R333). -/
def State.posLoad (s : State) (who : Sender) (a : Nat) : State :=
  if s.axState a = axOff ∨ s.axState a = axReady then
    (s.updAxis a (fun x => { x with pos := sext 47 (s.rd2 (AXIS_POS_SET_LO a) (AXIS_POS_SET_HI a)) })).wr (AXIS_STAT_POS_VALID a) 1
  else s.cfgLive who (AXIS_CTL_POS_LOAD a).addr

/-- POS_LOAD (R333). -/
def execPosLoad (who : Sender) (a : AxisId) (s : State) : Host.Outcome State Fault Refusal :=
  .next (s.gatedWrite who (AXIS_CTL_POS_LOAD a) 4096 (fun s => s.posLoad who a))

/-! ## Every microsecond (R336, R337, R341, R346, R352) -/

/-- The move goes on by 1 µs: within its row, into the next row, or into the chained move (R337, R339). -/
def State.axRowStep (s : State) (a : Nat) (m : AxMove) : State :=
  let x := s.axis a
  let next (s : State) (x : Axis) (row last : Nat) : State :=
    (s.setAxis a (x.beginRow row last m.seg.p1 m.seg.v1)).wr (AXIS_STAT_ROW a) row
  let chained (s : State) (x : Axis) : State :=
    match x.chain with
    | some (f, l) =>
      let ws := x.waits.map (fun w => if w.till = .chain then { w with till := .moveEnd } else w)
      (next s { x with chain := none, waits := ws } f l).wr (AXIS_STAT_CHAIN_PEND a) 0
    | none => s.setAxis a { x with vel := 0, move := some { m with done := true } }
  if m.done then chained s x
  else
    let g := { m.seg with t := m.seg.t + 1 }
    let (p, v) := g.at s
    let x := { x with pos := s.fit 47 p, vel := s.fit 32 v, move := some { m with seg := g } }
    if g.t < g.dur then s.setAxis a x
    else if m.row < m.last then next s x (m.row + 1) m.last
    else chained s x

/-- The motion of 1 µs. -/
def State.axMotion (s : State) (a : Nat) : State :=
  let x := s.axis a
  match x.ramp with
  | some r =>
    let r := { r with t := r.t + 1 }
    let (p, v) := r.at s r.t
    s.setAxis a { x with pos := s.fit 47 p, vel := s.fit 32 v, ramp := some r }
  | none =>
    match x.move with
    | some m => if s.axState a = axMoving then s.axRowStep a m else s
    | none => s

/-- The current I moves toward RUN_CUR or HOLD_CUR at 1 mA per µs (R341). -/
def State.axCurrent (s : State) (a : Nat) : State :=
  let x := s.axis a
  let holding := x.holding && x.vel == 0
  let goal := if holding then s.rd (AXIS_CUR_HOLD_CUR a) else s.rd (AXIS_CUR_RUN_CUR a)
  let cur := if x.cur < goal then x.cur + 1 else if goal < x.cur then x.cur - 1 else x.cur
  s.setAxis a { x with holding := holding, cur := cur }

/-- AXIS_TICK (R333, R336, R337, R339 to R341, R343, R346, R352). -/
def execAxisTick (a : AxisId) (s : State) : Host.Outcome State Fault Refusal :=
  let a := a.val
  if s.axState a = axOff then .next s
  else
    let s := (s.axMotion a).drawN 2
    let s := s.axGuard a
    if !(s.axis a).on then .next s
    else
      let wasNeg := decide ((s.axis a).refA < 0)
      .next (((((s.axCurrent a).axRefs a).axDecay a).axMode a wasNeg).drawN 10)

/-- AXIS_AT_REST (R348, R349, R353, R356, R357): a decelerating axis has come to rest. -/
def execAxisAtRest (a : AxisId) (s : State) : Host.Outcome State Fault Refusal :=
  let a := a.val
  match (s.axis a).ramp with
  | none => .next s
  | some r =>
    if !r.atRest then .next s
    else
      let x := s.axis a
      let p := (r.at s r.t).1
      let s := s.setAxis a { x with pos := s.fit 47 p, vel := 0, ramp := none }
      let s := s.drawN 2
      let st := s.axState a
      if x.disabling then
        let s := if st = axFault then s else s.axEnter a axReady
        .next (((s.axRelease a .rest stOk).axMoveEnd a stAborted).brakeThenRelease a)
      else if st = axFault then .next (s.brakeThenRelease a)
      else if st = axStopping then
        let left := match x.move with
          | some m => (x.rowAt m.last).pos - (s.axis a).pos
          | none => 0
        let s := (s.axEnter a axStopped).wr2 (AXIS_REMAIN_LO a) (AXIS_REMAIN_HI a) (toBits 64 left)
        let s := s.axRelease a .rest stOk
        .next (if s.on (AXIS_STAT_RESUME_PEND a) then (s.wr (AXIS_STAT_RESUME_PEND a) 0).axResume a x.abandon else s)
      else
        match x.home with
        | none => .next s
        | some h =>
          if h.phase = 1 then .next ((s.updAxis a (fun x => { x with home := some { h with old := r :: h.old } })).homeToward a)
          else if h.phase = 3 then
            let home := sext 64 (s.rdF (AXIS_HOME_POS_LO a) + 2 ^ 32 * s.rdF (AXIS_HOME_POS_HI a))
            let s := s.updAxis a (fun x => { x with pos := s.fit 47 (home + x.pos - h.latch.getD x.pos) })
            .next ((((s.drawN 1).wr (AXIS_STAT_POS_VALID a) 1).axEnter a axReady).axMoveEnd a stOk)
          else if h.phase = 4 then .next (((s.axEnter a axReady).axRelease a .rest stOk).axMoveEnd a stAborted)
          else .next s

/-- MOVE_END (R340): the last row has ended with no chained move pending. -/
def execMoveEnd (a : AxisId) (s : State) : Host.Outcome State Fault Refusal :=
  let a := a.val
  match (s.axis a).move with
  | none => .next s
  | some m =>
    if !m.done || (s.axis a).chain.isSome || s.axState a != axMoving then .next s
    else .next ((s.axEnter a axReady).axMoveEnd a stOk)

/-! ## Drive (R342 to R345) -/

/-- The readings of the current converters (R332): codes −2,048 to 2,047 stand for −IFS to +IFS, in mA with the rounding open; IAB
saturates (DEDUCED, notes/assumptions/90). -/
def State.showCurrents (s : State) (a : Nat) (i : CoilCodes) : State :=
  let ifs : Int := s.rd (AXIS_ISNS_IFS a)
  ((s.wrSat (AXIS_IAB_IA a) (s.divOpenAt 8 (sext 12 i.a.toNat * ifs) 2048)).wrSat (AXIS_IAB_IB a)
    (s.divOpenAt 9 (sext 12 i.b.toNat * ifs) 2048))

/-- LAMB_PERIOD (R332, R342, R345): a PWM period of Lamb or cross mode starts. -/
def execLambPeriod (a : AxisId) (ia ib : BitVec 12) (s : State) : Host.Outcome State Fault Refusal :=
  let s := s.showCurrents a ⟨ia, ib⟩
  .next ((if (s.axis a).on && s.rd (AXIS_STAT_DRIVE_NOW a) != drBull then s.duties a else s).drawN 10)

/-- What the chopper does with a coil at a comparator sample (R343): driven below the band, decaying above it, kept within. -/
def chopCoil (now : CoilOut) (ref i h : Int) (falling : Bool) : CoilOut :=
  let sgn : Int := if 0 ≤ ref then 1 else -1
  if sgn * i < sgn * ref - h then .drive (decide (0 ≤ ref))
  else if sgn * ref + h < sgn * i then decayOf ref falling
  else now

/-- The current that a sense pair shows (R332): ±0.9 V stand for ±IFS. In 2⁻¹⁶ mA × 900,000. -/
def State.sensed (s : State) (a : Nat) (microvolts : Int) : Int :=
  clampInt (-900000) 900000 microvolts * s.rd (AXIS_ISNS_IFS a) * 65536

/-- CHOPPER_COMPARE (R332, R343): the comparators of a coil of a Bull-mode axis are sampled. -/
def execChopperCompare (a : AxisId) (coilB : Bool) (microvolts : Int) (s : State) : Host.Outcome State Fault Refusal :=
  let x := s.axis a
  if !x.on || s.rd (AXIS_STAT_DRIVE_NOW a) != drBull || s.timeNs < (if coilB then x.blankB else x.blankA) then .next s
  else
    let h : Int := (s.rd (AXIS_CHOP_H_NOW a) : Int) * 65536 * 900000
    let i := s.sensed a microvolts
    .next (s.chopTo a coilB (if coilB then chopCoil x.coilB (x.refB * 900000) i h x.fallB
      else chopCoil x.coilA (x.refA * 900000) i h x.fallA))

/-- Whether a frequency in whole kHz is what the bridge changes of coil A in the present window give: 64 periods of CHOP_F, two changes in a
period, rounded to either side and saturated (R344; DEDUCED, notes/assumptions/89). -/
def State.chopFreqOk (s : State) (a f : Nat) : Bool :=
  let q := (s.axis a).changes * clampNat 20 100 (s.rd (AXIS_PWM_CHOP_F a))
  decide (f = satNat 8 (q / 128)) || decide (f = satNat 8 ((q + 127) / 128))

/-- CHOP_WINDOW (R344): a window of the chopper ends; the band follows the frequency, and F_NOW shows it. A frequency that the bridge changes of
the window do not give belongs to no window. -/
def execChopWindow (a : AxisId) (f : Fin 256) (s : State) : Host.Outcome State Fault Refusal :=
  let a := a.val
  let x := s.axis a
  if !x.on || s.rd (AXIS_STAT_DRIVE_NOW a) != drBull || !s.chopFreqOk a f then .next s
  else
    let n := x.changes
    let h : Int := s.rd (AXIS_CHOP_H_NOW a)
    let h' := s.divOpenAt 0 (h * (clampNat 64 256 n : Nat)) 128
    let lo := s.rd (AXIS_BULL_H_MIN a)
    let hi := s.rd (AXIS_BULL_H_MAX a)
    let h2 := clampNat lo hi h'.toNat
    let out := decide (5 * n < 4 * 128 ∨ 6 * 128 < 5 * n)
    let run := if out && (h2 == lo || h2 == hi) then min 16 (x.limitRun + 1) else 0
    let raise := decide (run = 16) && !x.chopSaid
    let s := ((s.wr (AXIS_CHOP_H_NOW a) h2).wr (AXIS_CHOP_F_NOW a) f).setAxis a
      { x with changes := 0, limitRun := run, chopSaid := out && (x.chopSaid || raise) }
    .next ((if raise then s.report srcAxChop a 1 initAxis a accNone 0 else s).draw)

/-! ## Faults and timers -/

/-- Whether a converter sample of an axis exceeds IMAX in either coil (R347). -/
def State.overImax (s : State) (a : Nat) (i : CoilCodes) : Bool :=
  let tooHigh (c : BitVec 12) : Bool :=
    decide (s.rd (AXIS_ISNS_IMAX a) * 2048 < (sext 12 c.toNat).natAbs * s.rd (AXIS_ISNS_IFS a))
  tooHigh i.a || tooHigh i.b

/-- OVERCURRENT (R332, R347): three consecutive converter samples; when each exceeds IMAX the axis faults. -/
def execOvercurrent (c : CoilSamples) (s : State) : Host.Outcome State Fault Refusal :=
  let a := c.axis.val
  let s := (s.showCurrents a c.i3).drawN 10
  .next (if (s.axis a).on && s.overImax a c.i1 && s.overImax a c.i2 && s.overImax a c.i3 then s.axFaultEnter a 3 else s)

/-- The number of a switch input. -/
def inputNum : AxisInput → Nat
  | .limP => 0 | .limN => 1 | .home => 2

/-- The commanded position some evaluations ago, along the motion of a homing (R353). -/
def homePast (s : State) (r : Ramp) : List Ramp → Nat → Int
  | old, n =>
    if n ≤ r.t then (r.at s (r.t - n)).1
    else match old with
      | [] => r.p0
      | q :: qs => homePast s q qs (n - r.t)

/-- What a homing axis makes of a change of a switch input (R353, R354). -/
def State.homeInput (s : State) (a i : Nat) (h : Homing) (became : Bool) (age : Nat) : State :=
  let ahead := if h.neg then 1 else 0
  if i ≠ h.source then
    if became ∧ (i = 1 - ahead ∨ i = ahead) then s.axFaultEnter a 4 else s
  else if h.phase = 1 ∧ ¬ became then s.updAxis a (fun x => { x.ramping (s.rdF (AXIS_HOME_ACC a)) 0 with
    home := some { h with old := x.ramp.toList ++ h.old } })
  else if h.phase = 2 ∧ became then
    let x := s.axis a
    let p := match x.ramp with
      | some r => homePast s r h.old age
      | none => x.pos
    (s.wr2 (AXIS_HOME_LATCH_LO a) (AXIS_HOME_LATCH_HI a) (toBits 64 p)).setAxis a
      { x.ramping (s.rdF (AXIS_HOME_ACC a)) 0 with home := some { h with phase := 3, latch := some p } }
  else if h.phase = 3 then s.bump (AXIS_CNT_CHAT a)
  else s

/-- LIMIT_CHANGE (R351 to R354): a switch input shows a level that began `age` µs ago; it qualifies once it has held for LIM_FILT. -/
def execLimitChange (a : AxisId) (input : AxisInput) (high : Bool) (age : Fin 65537) (s : State) : Host.Outcome State Fault Refusal :=
  let a := a.val
  let i := inputNum input
  if age.val < s.rd (AXIS_LIM_LIM_FILT a) then .next s
  else
  let was := s.limActive a i
  let s := s.updAxis a (fun x => { x with levels := x.levels - b2n (bitOf x.levels i) * 2 ^ i + b2n high * 2 ^ i })
  let now := s.limActive a i
  if was = now then .next s
  else match (s.axis a).home with
    | some h => .next ((s.homeInput a i h now age).drawN 2)
    | none => .next (s.axGuard a)

/-- HOME_TIMEOUT (R354): no latch within HOME_MAX. -/
def execHomeTimeout (a : AxisId) (s : State) : Host.Outcome State Fault Refusal :=
  match (s.axis a).home with
  | some h => .next (if h.phase = 1 ∨ h.phase = 2 then s.axFaultEnter a 5 else s)
  | none => .next s

/-- HOLD_DELAY_EXPIRY (R341): the velocity has been 0 for HOLD_DELAY. -/
def execHoldDelayExpiry (a : AxisId) (s : State) : Host.Outcome State Fault Refusal :=
  .next (if (s.axis a).vel = 0 then s.updAxis a (fun x => { x with holding := true }) else s)

/-- BRIDGE_RELEASE_TIMER (R356, R357): 20 ms after the brake engaged. -/
def execBridgeReleaseTimer (a : AxisId) (s : State) : Host.Outcome State Fault Refusal :=
  let x := s.axis a
  if !x.releaseDue then .next s
  else
    let s := s.releaseBridges a
    if x.disabling then
      .next (((s.updAxis a (fun x => { x with disabling := false })).axEnter a axOff).axRelease a .off stOk)
    else .next s

end Sys2Proof.Machine
end

