-- ==== Sys2Proof/Machine/Crc.lean ====
section
/-!
DEFINITION. The CRC-32 of IEEE 802.3 as spec/03 R105 defines it: polynomial 0x04C1_1DB7, input and output reflected, initial value
and final exclusive-OR 0xFFFF_FFFF.
-/
namespace Sys2Proof.Machine

open Sys2Proof

/-- `k` steps of the reflected register. -/
def crc32Steps : Nat → Nat → Nat
  | 0, c => c
  | k + 1, c => crc32Steps k (if c % 2 = 1 then c / 2 ^^^ 0xEDB88320 else c / 2)

/-- One byte into the CRC. -/
def crc32Byte (c : Nat) (b : Byte) : Nat := crc32Steps 8 (c ^^^ b.toNat)

/-- CRC-32 of bytes (R105). -/
def crc32 (bs : List Byte) : Nat := bs.foldl crc32Byte 0xFFFFFFFF ^^^ 0xFFFFFFFF

end Sys2Proof.Machine
end

