-- ==== Sys2Proof/Machine/BlockCodec.lean ====
section
/-!
DEFINITION. The Kyovan Block Codec (spec/03): dots in a strip line (R85), the LZW coder and decoder (R99 to R103), the block header
(R96), the block IV (R107) and the sealing of a payload (R106).
-/
namespace Sys2Proof.Machine

open Sys2Proof

/-! ## Dots (R85) -/

/-- Bytes of a strip line at a depth. -/
def lineBytes (d : Nat) : Nat := 128 * d

/-- The dot of strip column `i` of line `l` in raw data at depth `d`. -/
def rawDot (d : Nat) (raw : List Byte) (l i : Nat) : Nat :=
  bitsOf (leAt raw (lineBytes d * l + 2 * (i * d / 16)) 2) (i % (16 / d) * d) d

/-! ## LZW (R99 to R103) -/

/-- The width of the code at position `j` (R101). -/
def codeWidth (j : Nat) : Nat :=
  if j < 255 then 9 else if j < 767 then 10 else if j < 1791 then 11 else if j < 3839 then 12 else if j < 7935 then 13 else 14

/-- The string of a code in a dictionary of the strings from 258 on. -/
def dictGet (dict : List (List Byte)) (code : Nat) : Option (List Byte) :=
  if code < 256 then some [BitVec.ofNat 8 code] else if code < 258 then none else dict[code - 258]?

/-- The reference decoder (R103): `v` holds the stream bits that are left, `left` their number; the output is built in reverse. The
width grows with the next free code. At END the rest must be the zero padding of its word. -/
def lzwLoop (raw : Nat) : Nat → Nat → Nat → List (List Byte) → Option (List Byte) → List Byte → Nat → Option (List Byte)
  | 0, _, _, _, _, _, _ => none
  | fuel + 1, v, left, dict, prev, out, len =>
    let next := 258 + dict.length
    let width := if next < 512 then 9 else if next < 1024 then 10 else if next < 2048 then 11 else if next < 4096 then 12
      else if next < 8192 then 13 else 14
    if left < width then none
    else
      let code := v % 2 ^ width
      let v := v / 2 ^ width
      let left := left - width
      if code = 256 then
        if len = raw ∧ left < 16 ∧ v = 0 then some out.reverse else none
      else
        let entry := match prev with
          | none => if code < 256 then dictGet dict code else none
          | some p => if code = next ∧ next < 16384 then some (p ++ p.take 1) else dictGet dict code
        match entry with
        | none => none
        | some e =>
          if raw < len + e.length then none
          else
            let dict := match prev with
              | some p => if next < 16384 then dict ++ [p ++ e.take 1] else dict
              | none => dict
            lzwLoop raw fuel v left dict (some e) (e.reverse ++ out) (len + e.length)

/-- Decode a payload to `raw` bytes, or fail (R103). -/
def lzwDecode (payload : List Byte) (raw : Nat) : Option (List Byte) :=
  lzwLoop raw (payload.length + 1) (leNat payload) (8 * payload.length) [] none [] 0

/-- The code of a string, if the dictionary has one. -/
def codeOf (dict : List (List Byte)) (w : List Byte) : Option Nat :=
  match w with
  | [b] => some b.toNat
  | _ => (dict.findIdx? (· == w)).map (· + 258)

/-- The stream under construction: its value and its bits. -/
def putCode (st : Nat × Nat × Nat) (code : Nat) : Nat × Nat × Nat :=
  (st.1 + code * 2 ^ st.2.1, st.2.1 + codeWidth st.2.2, st.2.2 + 1)

/-- The greedy encoder (R104): the match so far, its code, the dictionary, and the stream (value, bits, codes put). -/
def lzwStep (dict : List (List Byte)) (w : List Byte) (code : Nat) (st : Nat × Nat × Nat) : List Byte → Nat × Nat × Nat
  | [] => putCode (putCode st code) 256
  | c :: cs =>
    match codeOf dict (w ++ [c]) with
    | some k => lzwStep dict (w ++ [c]) k st cs
    | none => lzwStep (if 258 + dict.length < 16384 then dict ++ [w ++ [c]] else dict) [c] c.toNat (putCode st code) cs

/-- The code stream of raw data, in whole 16-bit words. -/
def lzwEncode : List Byte → List Byte
  | [] => []
  | b :: bs =>
    let st := lzwStep [] [b] b.toNat (0, 0, 0) bs
    leBytes (2 * ceilDiv st.2.1 16) st.1

/-! ## Blocks (R96, R106, R107) -/

/-- The 32 header bytes. -/
def kbcHeader (stored encrypted : Bool) (rawLen codedLen strip lineCount firstLine crc : Nat) : List Byte :=
  leBytes 2 0x4B42 ++ leBytes 1 1 ++ leBytes 1 (b2n stored + 2 * b2n encrypted) ++ leBytes 4 rawLen ++ leBytes 4 codedLen ++
  leBytes 1 strip ++ leBytes 1 0 ++ leBytes 2 lineCount ++ leBytes 4 firstLine ++ leBytes 4 crc ++ leBytes 8 0

/-- The block identifier (R107). -/
def blkId (strip b : Nat) : Nat := strip * 2 ^ 26 + b

/-- The IV of a block (R107). -/
def blkIv (nonce strip b : Nat) : List Byte := leBytes 8 nonce ++ leBytes 4 (blkId strip b)

/-- Seal a payload: ciphertext and tag (R106). -/
def gcmSeal (key iv aad payload : List Byte) : List Byte :=
  let c := gcmXor key iv payload
  c ++ gcmTag key iv aad c

/-- Open a ciphertext with its tag, or refuse it (R106, R109). -/
def gcmOpen (key iv aad cipher tag : List Byte) : Option (List Byte) :=
  if tag = gcmTag key iv aad cipher then some (gcmXor key iv cipher) else none

/-- The faults of a block (R111). -/
inductive BlkFault | dma | format | auth | decode | crc
  deriving DecidableEq, Repr

/-- Whether a header is the one that block `b` of strip `s` must have (R97). -/
def headerOk (h : List Byte) (depth strip firstLine lineCount size : Nat) (nokey : Bool) : Bool :=
  let fl := byteAt h 3
  let raw := leAt h 4 4
  let coded := leAt h 8 4
  let enc := bitOf fl 1
  leAt h 0 2 == 0x4B42 && byteAt h 2 == 1 && fl < 4 && byteAt h 13 == 0 && leAt h 24 8 == 0 && byteAt h 12 == strip &&
  leAt h 16 4 == firstLine && leAt h 14 2 == lineCount && raw == lineCount * lineBytes depth &&
  (if bitOf fl 0 then coded == raw else coded % 2 == 0 && decide (4 ≤ coded ∧ coded ≤ raw)) && enc == !nokey &&
  size == 32 + coded + (if enc then 16 else 0)

/-- Check, open and decode the bytes of a block, in the order of R111. `key` is empty for an empty slot. -/
def openBlock (bytes : List Byte) (depth strip b firstLine lineCount size : Nat) (nokey : Bool) (key : List Byte) (nonce : Nat) :
    Except BlkFault (List Byte) :=
  let h := bytes.take 32
  if !headerOk h depth strip firstLine lineCount size nokey then .error .format
  else
    let coded := leAt h 8 4
    let body := (bytes.drop 32).take coded
    let plain := if nokey then some body
      else if key.isEmpty then none
      else gcmOpen key (blkIv nonce strip b) h body ((bytes.drop (32 + coded)).take 16)
    match plain with
    | none => .error .auth
    | some p =>
      match (if bitOf (byteAt h 3) 0 then some p else lzwDecode p (leAt h 4 4)) with
      | none => .error .decode
      | some raw => if crc32 raw = leAt h 20 4 then .ok raw else .error .crc

end Sys2Proof.Machine
end

