-- ==== Sys2Proof/Machine/Page.lean ====
section
/-!
DEFINITION. The page a cell prints: its lines' numbers, its defect account (spec/02 R64, R69) and its completion; gangs (spec/05
R160 to R162); and the row-lines a link loses (spec/09 R263).
-/
namespace Sys2Proof.Machine

open Sys2Proof

/-! ## Cell states and gangs -/

/-- STATE.STATE codes (R128). -/
def csOff : Nat := 0
def csIdle : Nat := 1
def csArmed : Nat := 2
def csPrinting : Nat := 3
def csFenced : Nat := 4

/-- The state of a cell. -/
def State.cellState (s : State) (n : Nat) : Nat := s.rd (CELL_STATE_STATE n)

/-- Whether a cell is ARMED or PRINTING. -/
def State.cellBusy (s : State) (n : Nat) : Bool := s.cellState n == csArmed || s.cellState n == csPrinting

/-- Whether a cell belongs to a formed gang (R160). -/
def State.ganged (s : State) (n : Nat) : Bool := s.on (CELL_CTL_GANG (2 * (n / 2)))

/-- Whether a cell is the follower of a formed gang. -/
def State.follower (s : State) (n : Nat) : Bool := s.ganged n && n % 2 == 1

/-- The cell whose fire engine times cell `n` (R191): the leader of its gang, or the cell. -/
def State.leader (s : State) (n : Nat) : Nat := if s.ganged n then 2 * (n / 2) else n

/-- The cells that print together with cell `n`: both of a gang, leader first. -/
def State.crew (s : State) (n : Nat) : List Nat := if s.ganged n then [2 * (n / 2), 2 * (n / 2) + 1] else [n]

/-! ## Lines -/

/-- The page line of data line `i` (R190). -/
def PageRun.pageLine (p : PageRun) (i : Nat) : Nat := p.phase + i * p.stride

/-- Count data line `i` as defective (R64, R69). -/
def PageRun.defectLine (p : PageRun) (i : Nat) : PageRun :=
  { p with defects := p.defects + 1,
           firstDef := some (match p.firstDef with | none => i | some j => min i j) }

/-- Set a completion flag. -/
def PageRun.flag (p : PageRun) (f : Nat) : PageRun := { p with cflags := orFlag p.cflags f }

/-- A line in flight becomes defective (once). -/
def PageRun.defectFlight (p : PageRun) (i : Nat) : PageRun :=
  if p.flight.any (fun l => l.line == i && !l.defect) then
    { p.defectLine i with flight := p.flight.map (fun l => if l.line = i then { l with defect := true } else l) }
  else p

/-- A line that has left flight becomes defective (once) and no longer counts as fired. -/
def PageRun.defectPast (p : PageRun) (l : LineSt) : PageRun :=
  if l.defect then p
  else { p.defectLine l.line with fired := p.fired - b2n (!l.muted && !l.skipped),
                                  past := p.past.map (fun x => if x.line = l.line then { x with defect := true } else x) }

/-- The line of a line tag becomes defective, whether it is still in flight or has left it. -/
def PageRun.defectTag (p : PageRun) (tag : Nat) : PageRun :=
  match p.flight.find? (fun l => l.tag == tag), p.past.find? (fun l => l.tag == tag) with
  | some l, _ => (p.defectFlight l.line).flag cfDefective
  | none, some l => (p.defectPast l).flag cfDefective
  | none, none => p

/-- Every line that has not fired becomes defective: those in flight, and those not entered. -/
def PageRun.defectRest (p : PageRun) : PageRun :=
  let p := p.flight.foldl (fun p l => p.defectFlight l.line) p
  if p.entered < p.lines then
    { p with defects := p.defects + (p.lines - p.entered),
             firstDef := some (match p.firstDef with | none => p.entered | some j => min p.entered j) }
  else p

/-- The status of a PAGE: the first cause in the order FENCED, AUTH_FAIL, DMA_ERR, ABORTED (R69). -/
def PageRun.status (p : PageRun) : Nat :=
  if p.fenced then stFenced else if p.authFail then stAuthFail else if p.dmaErr then stDmaErr
  else if p.aborted then stAborted else stOk

/-- DETAIL of a PAGE: the page line of the first defective line, and how many (R69). -/
def PageRun.detail (p : PageRun) : Nat :=
  (match p.firstDef with | none => 0xFFFFFFFF | some i => p.pageLine i % 2 ^ 32) + 2 ^ 32 * min p.defects (2 ^ 32 - 1)

/-- The completion of a PAGE or LADDER: INFO is the lines fired without muting; DETAIL of a LADDER is its start position (R69,
spec/15 R407). -/
def PageRun.completion (p : PageRun) (s : State) : Completion :=
  s.mkDone p.status (min p.fired (2 ^ 32 - 1)) (if p.ladder.isSome then toBits 64 p.p0 else p.detail) p.cflags

/-! ## Row-lines lost to the link (R263) -/

/-- Mark a row-line of lane `n`: counted, LINK_VOID raised, and its line defective in the page; once for each row-line. -/
def State.markRowLine (s : State) (n : Nat) (rl : Nat × Nat) : State :=
  if (s.link n).marked.contains rl then s
  else
    let s := (s.updLink n (fun l => { l with marked := (rl :: l.marked).take 64 })).bump (LINK_LL_CNT_VOID n)
    let s := s.report srcLinkVoid n 2 initCell n accNone 0
    s.updCell (s.leader n) (fun c => { c with cur := c.cur.map (·.defectTag rl.2), tails := c.tails.map (·.defectTag rl.2) })

end Sys2Proof.Machine
end

