-- ==== Sys2Proof/Machine/Wire.lean ====
section
/-!
DEFINITION. The wire of a Mirold Link lane, both directions: frame layout and CRC (spec/09 R247 to R249), bit order, scrambler,
stuffing (spec/08 R216 to R221) and frame alignment (R222, R223).
-/
namespace Sys2Proof.Machine

open Sys2Proof

/-! ## Frames -/

/-- Frame types (table of frame types). -/
def ftIdle : Nat := 0x0
def ftLine : Nat := 0x1
def ftFire : Nat := 0x2
def ftCmd : Nat := 0x3
def ftRsp : Nat := 0x4
def ftTlm : Nat := 0x5
def ftTime : Nat := 0x6
def ftTrain : Nat := 0x7
def ftAuth : Nat := 0x8
def ftHalt : Nat := 0x9
def ftLctl : Nat := 0xA
def ftVoid : Nat := 0xB

/-- Whether a frame type is sequenced. -/
def sequenced (t : Nat) : Bool := t == ftLine || t == ftFire || t == ftCmd || t == ftRsp || t == ftAuth || t == ftVoid

/-- Whether a frame type may arrive upstream. -/
def upstreamType (t : Nat) : Bool :=
  t == ftIdle || t == ftRsp || t == ftTlm || t == ftTime || t == ftTrain || t == ftAuth || t == ftLctl

/-- The low `n` bits of a value, most significant first. -/
def msbBits : Nat → Nat → List Bool
  | 0, _ => []
  | n + 1, v => bitOf v n :: msbBits n v

/-- One bit into the frame CRC (R249). -/
def crc16Step (c : Nat) (b : Bool) : Nat :=
  let c2 := c * 2 % 65536
  if bitOf c 15 != b then c2 ^^^ 0x8BB7 else c2

/-- The frame CRC of `n` bits, most significant first (R249). -/
def crc16 (n v : Nat) : Nat := (msbBits n v).foldl crc16Step 0

/-- The first `n` 16-bit words of a payload in wire order (R248). -/
def revWords : Nat → Nat → Nat
  | 0, _ => 0
  | n + 1, p => p % 65536 * 2 ^ (16 * n) + revWords n (p / 65536)

/-- The 288 bits of a frame as one number, header first (R247). -/
def frameBits (type seq payload : Nat) : Nat :=
  let body := (0xB000 + type * 256 + seq) * 2 ^ 256 + revWords 16 payload
  body * 65536 + crc16 272 body

/-- TYPE of a received frame. -/
def frameType (f : Nat) : Nat := bitsOf f 280 4
/-- SEQ of a received frame. -/
def frameSeq (f : Nat) : Nat := bitsOf f 272 8
/-- The payload of a received frame. -/
def framePayload (f : Nat) : Nat := revWords 16 (bitsOf f 16 256)
/-- Whether the sync nibble is 0b1011. -/
def syncOk (f : Nat) : Bool := bitsOf f 284 4 == 11
/-- Whether the CRC checks. -/
def crcOk (f : Nat) : Bool := crc16 272 (f / 65536) == f % 65536

/-- A byte of a payload. -/
def payByte (p i : Nat) : Nat := bitsOf p (8 * i) 8
/-- A 16-bit field of a payload at a byte offset. -/
def pay16 (p i : Nat) : Nat := bitsOf p (8 * i) 16
/-- A 32-bit field of a payload at a byte offset. -/
def pay32 (p i : Nat) : Nat := bitsOf p (8 * i) 32

/-! ## Transmitter -/

/-- Scramble and stuff one bit (R217, R220). -/
def TxWire.send (t : TxWire) (d : Bool) : TxWire × List Bool :=
  let b := d != (bitOf t.hist 2 != bitOf t.hist 40)
  let run := if b = t.last ∧ 0 < t.run then t.run + 1 else 1
  let hist := (t.hist * 2 + b2n b) % 2 ^ 41
  if run = 36 then (⟨hist, 0, b⟩, [b, !b]) else (⟨hist, run, b⟩, [b])

/-- Scramble and stuff the bits of a frame. -/
def TxWire.sendAll (t : TxWire) : List Bool → TxWire × List Bool
  | [] => (t, [])
  | d :: ds =>
    let (t1, w) := t.send d
    let (t2, ws) := t1.sendAll ds
    (t2, w ++ ws)

/-- The wake preamble on the wire: pairs of a 1 and a 0, inverted under TX_INV, neither scrambled nor stuffed (R240). -/
def preambleBits (pairs : Nat) (inv : Bool) : List Bool := (List.range pairs).flatMap (fun _ => [!inv, inv])

/-- The fewest pairs of bits of a preamble of 4.0 µs at a rate, and how many more 4.5 µs admit (R240). -/
def preamblePairs (rate : Nat) : Nat × Nat := if rate = 0 then (5000, 625) else if rate = 1 then (10000, 1250) else (12500, 1562)

/-- The run counter after a wake preamble, which ends in 0 (R220, R240). -/
def TxWire.afterPreamble (t : TxWire) : TxWire := { t with run := 1, last := false }

/-! ## Receiver -/

/-- Count a received bit for the offset canceller: each window of 4,096 bits leaves its number of ones (R232). -/
def RxWire.count (r : RxWire) (w : Bool) : RxWire :=
  let ones := r.ones + b2n w
  if 4095 ≤ r.bits then { r with bits := 0, ones := 0, wins := r.wins ++ [ones] } else { r with bits := r.bits + 1, ones := ones }

/-- Take one wire bit: delete a stuffed bit, or descramble. The Boolean says that the bit was kept (R218, R221). -/
def RxWire.take (r : RxWire) (w : Bool) : RxWire × Bool :=
  let r := r.count w
  if r.run = 36 then ({ r with run := 0, clean := if w = r.last then 0 else r.clean }, false)
  else
    let d := w != (bitOf r.hist 2 != bitOf r.hist 40)
    let run := if w = r.last ∧ 0 < r.run then r.run + 1 else 1
    ({ r with run := run, last := w, hist := (r.hist * 2 + b2n w) % 2 ^ 41, sr := (r.sr * 2 + b2n d) % 2 ^ 288,
              seen := min 329 (r.seen + 1), clean := min 329 (r.clean + 1), pos := r.pos + 1 }, true)

/-- The receiver at a break in its stream; the counts of R232 go on. -/
def RxWire.broken (r : RxWire) : RxWire := { RxWire.reset with bits := r.bits, ones := r.ones, wins := r.wins }

/-- The receiver with its input inverted from here on (R222). -/
def RxWire.invert (r : RxWire) : RxWire :=
  { r with hist := 2 ^ 41 - 1 - r.hist, sr := 2 ^ 288 - 1 - r.sr, last := !r.last }

/-- Whether the last 288 kept bits hold no stuffing violation; one just before their first bit counts as theirs (R221, DESIGN CHOICE,
notes/assumptions/85). -/
def RxWire.unbroken (r : RxWire) : Bool := decide (288 < r.clean)

/-- What frame alignment finds at a bit: nothing, a frame for the link layer (failed or good), a frame without its sync nibble, or the loss of LOCKED. -/
inductive AlignEvent
  | none
  | frame (f : Nat) (ok : Bool)
  | unsynced
  | lost
  deriving DecidableEq, Repr

/-- Frame alignment after a kept bit (R222): the receiver, its state, whether the input was inverted, and what was found. -/
def RxWire.align (r : RxWire) (align : Nat) (invAuto : Bool) : RxWire × Nat × Bool × AlignEvent :=
  if align = 0 then
    if r.seen < 329 then (r, 0, false, .none)
    else if !r.unbroken then (r, 0, false, .none)
    else if syncOk r.sr && crcOk r.sr then ({ r with pos := 0, good := 0 }, 1, false, .none)
    else
      let f := 2 ^ 288 - 1 - r.sr
      if invAuto && syncOk f && crcOk f then ({ r.invert with pos := 0, good := 0 }, 1, true, .none)
      else (r, 0, false, .none)
  else if r.pos < 288 then (r, align, false, .none)
  else
    let good := crcOk r.sr && r.unbroken
    let r' := { r with pos := 0 }
    if align = 1 then
      if syncOk r.sr && good then
        if r.good = 1 then ({ r' with good := 2, bad := 0 }, 2, false, .none)
        else ({ r' with good := r.good + 1 }, 1, false, .none)
      else (r', 0, false, .none)
    else if syncOk r.sr then ({ r' with bad := 0 }, 2, false, .frame r.sr good)
    else if r.bad = 3 then ({ r' with bad := 0 }, 0, false, .lost)
    else ({ r' with bad := r.bad + 1 }, 2, false, .unsynced)

end Sys2Proof.Machine
end

