-- ==== Sys2Proof/Machine/LinkTx.lean ====
section
/-!
DEFINITION. The downstream side of a lane (spec/09 R250 to R266, R271 to R278): the frames that wait, halts, the replay buffer and
the frame that leaves at a frame boundary.
-/
namespace Sys2Proof.Machine

open Sys2Proof

/-! ## Link states and timing -/

/-- LL_STAT.STATE codes. -/
def lsOff : Nat := 0
def lsDetect : Nat := 1
def lsRate : Nat := 2
def lsEqUs : Nat := 3
def lsEqDs : Nat := 4
def lsStart : Nat := 5
def lsTimeAcq : Nat := 6
def lsUp : Nat := 7
def lsWait : Nat := 8

/-- PWR_STAT codes. -/
def pwOff : Nat := 0
def pwOn : Nat := 1
def pwDoze : Nat := 2
def pwEntering : Nat := 3
def pwSleep : Nat := 4
def pwWaking : Nat := 5

/-- A rate code; 0b11 acts as 0b01 (R213). -/
def rateCode (v : Nat) : Nat := if v = 3 then 1 else v

/-- The worst-case frame time at a rate, in units of 0.01 ns (table of line rates). -/
def frameTime (rate : Nat) : Nat := if rate = 0 then 11840 else if rate = 1 then 5920 else 4736

/-- D_lane in ns: the delay D_ds, in 2⁻¹⁶ ns, plus one frame time, rounded up (R270). -/
def dLane (ds rate : Nat) : Nat := ceilDiv (ds * 100 + frameTime rate * 65536) 6553600

/-- The state of a lane. -/
def State.linkState (s : State) (n : Nat) : Nat := s.rd (LINK_LL_STAT_STATE n)

/-! ## Halts (R265) -/

/-- Whether a lane must halt: its cell is fenced, or the device is in the safe state. -/
def State.mustHalt (s : State) (n : Nat) : Bool := s.cellState n == csFenced || s.on GOOSE_STATUS_SAFE

/-- Halt a lane: no new LINE or FIRE frame, HALT frames first. -/
def State.haltLane (s : State) (n cause : Nat) : State :=
  if s.on (LINK_LL_STAT_HALTED n) then s.updLink n (fun l => { l with haltCause := cause })
  else (s.updLink n (fun l => { l with haltCause := cause, haltSent := 0, fireNew := [], fireFix := [], owed := [], resume := false })).wr
    (LINK_LL_STAT_HALTED n) 1

/-- A command of the device itself with a response. -/
def deviceCmd (op arg : Nat) : CmdTx := ⟨op + arg * 2 ^ 32, true, .device⟩

/-- Queue a command for the head. -/
def State.queueCmd (s : State) (n : Nat) (c : CmdTx) : State := s.updLink n (fun l => { l with cmds := l.cmds ++ [c] })

/-- Command codes (R280). -/
def opIdent : Nat := 0x01
def opPing : Nat := 0x02
def opResume : Nat := 0x03
def opUpwr : Nat := 0x08
def opWaveBegin : Nat := 0x10
def opWaveData : Nat := 0x11
def opWaveEnd : Nat := 0x12
def opTrimBegin : Nat := 0x14
def opTrimData : Nat := 0x15
def opTrimEnd : Nat := 0x16
def opTrimSelect : Nat := 0x18
def opLevelMap : Nat := 0x19
def opHeater : Nat := 0x20
def opSense : Nat := 0x28

/-- Send RESUME on a lane that is UP, or remember that it is owed. -/
def State.sendResume (s : State) (n : Nat) : State :=
  if s.linkState n == lsUp then s.queueCmd n (deviceCmd opResume 0) else s

/-- End the halt of a lane when nothing holds it any more; RESUME follows (R265). -/
def State.unhaltLane (s : State) (n : Nat) : State :=
  if s.on (LINK_LL_STAT_HALTED n) && !s.mustHalt n then
    ((s.updLink n (fun l => { l with haltCause := 0 })).wr (LINK_LL_STAT_HALTED n) 0).sendResume n
  else s

/-- Whether the cell may take a PAGE as far as its lane goes: UP, downstream ON, time lock confirmed, and no halt or RESUME
outstanding (R244, R265, R271, R279). -/
def State.laneReady (s : State) (n : Nat) : Bool :=
  s.linkState n == lsUp && s.rd (LINK_PWR_STAT_DS n) == pwOn && s.on (LINK_LL_STAT_TLOCK n) && !s.on (LINK_LL_STAT_HALTED n) &&
  !(s.link n).cmds.any (fun c => c.payload % 256 == opResume)

/-! ## FIRE and LINE payloads -/

/-- The nozzle values of LINE frames: 256 / d values to a frame, value k at bits [q + d − 1 : q] (R260). -/
def packLine (d : Nat) : List Nat → Nat
  | [] => 0
  | v :: vs => v % 2 ^ d + 2 ^ d * packLine d vs

/-- The LINE payloads of a row's values, in order. -/
def linePayloads (d : Nat) : Nat → List Nat → List Nat
  | 0, _ => []
  | k + 1, vs => packLine d (vs.take (256 / d)) :: linePayloads d k (vs.drop (256 / d))

/-- The 64 bits of a FIRE entry (R257). -/
def FireEnt.bits (e : FireEnt) : Nat :=
  e.op + e.row * 4 + (if e.op = 1 then b2n e.muted * 32 + e.depth * 64 + e.lines.length * 256 else 0) + e.tag * 2 ^ 16 +
  e.time % 2 ^ 32 * 2 ^ 32

/-- A FIRE payload of up to four entries. -/
def firePayload : List FireEnt → Nat
  | [] => 0
  | e :: es => e.bits + 2 ^ 64 * firePayload es

/-- The deadline of a FIRE frame: the earliest fire time minus 500 ns (R256). -/
def fireDeadline (es : List FireEnt) : Nat :=
  match es with
  | [] => 0
  | e :: es => es.foldl (fun d e => min d (e.time - 500)) (e.time - 500)

/-- The row-line of an entry. -/
def FireEnt.rowLine (e : FireEnt) : Nat × Nat := (e.row, e.tag)

/-- The LINE frames owed after a FIRE with NEW entries, in entry order (R259). -/
def owedLines (es : List FireEnt) : List OwedLine :=
  es.flatMap (fun e => e.lines.map (fun p => ⟨p, e.time - 500, e.rowLine⟩))

/-! ## Sending -/

/-- NEXT: the number of the next sequenced frame to be sent, new or replayed (R250). -/
def Link.next (l : Link) : Nat :=
  match l.replay with
  | some i => ((l.heldTx.drop i).head?.map (·.seq)).getD l.seq
  | none => l.seq

/-- Put a frame on the wire; TX_INV inverts every bit of it there (spec/08 R219, PHY_CTL). -/
def State.putFrame (s : State) (n type seq payload : Nat) : State :=
  let f := frameBits type seq payload
  let r := (s.link n).tx.sendAll (msbBits 288 f)
  (s.updLink n (fun l => { l with tx := r.1 })).emit
    (.laneFrame n f (r.2.map (fun b => b != s.on (LINK_PHY_CTL_TX_INV n))))

/-- Send an unsequenced frame. -/
def State.sendPlain (s : State) (n type payload : Nat) : State := s.putFrame n type (s.link n).next payload

/-- The link-control word; sending it acknowledges what has been delivered (R253). -/
def Link.lcw (l : Link) (nak : Bool) : Nat := l.expect + b2n l.ackValid * 256 + b2n nak * 512

/-- Send a frame that begins with the link-control word. -/
def State.sendLcw (s : State) (n type : Nat) (nak : Bool) (rest : Nat) : State :=
  (s.sendPlain n type ((s.link n).lcw nak + rest)).updLink n (fun l => { l with unacked := 0, ackDue := false })

/-- Whether a LINE or FIRE frame must leave as VOID (R256). -/
def State.mustVoid (s : State) (n : Nat) (deadline : Option Nat) : Bool :=
  match deadline with
  | none => false
  | some d => s.on (LINK_LL_STAT_HALTED n) || decide (d < s.now + s.rd (LINK_TL_DLANE n))

/-- Send a new sequenced frame and hold it for replay (R254); past its deadline it leaves as VOID and marks its row-lines. -/
def State.sendSeq (s : State) (n type payload : Nat) (deadline : Option Nat) (rls : List (Nat × Nat)) : State :=
  let seq := (s.link n).seq
  let void := s.mustVoid n deadline
  let type := if void then ftVoid else type
  let s := s.putFrame n type seq payload
  let s := s.updLink n (fun l => { l with seq := (seq + 1) % 256, heldTx := l.heldTx ++ [⟨type, seq, payload, deadline, rls⟩] })
  if void then rls.foldl (fun s rl => s.markRowLine n rl) s else s

/-- Send the held frame of an index again (R255, R256). -/
def State.resend (s : State) (n i : Nat) (f : HeldFrame) : State :=
  let void := s.mustVoid n f.deadline
  let type := if void then ftVoid else f.type
  let s := s.putFrame n type f.seq f.payload
  let s := s.updLink n (fun l =>
    { l with heldTx := l.heldTx.map (fun g => if g.seq = f.seq then { g with type := type } else g),
             replay := if i + 1 < l.heldTx.length then some (i + 1) else none })
  if void && f.type != ftVoid then f.rowLines.foldl (fun s rl => s.markRowLine n rl) s else s

/-- Send the next command: CID and RESP filled in, and its response awaited (R280). -/
def State.sendCmd (s : State) (n : Nat) (c : CmdTx) : State :=
  let l := s.link n
  let op := c.payload % 256
  let p := c.payload - bitsOf c.payload 8 24 * 256 + b2n c.resp * 256 + l.cid * 2 ^ 16
  let s := s.sendSeq n ftCmd p none []
  s.updLink n (fun l => { l with cmds := l.cmds.erase c, cid := (l.cid + 1) % 65536,
                                 waits := if c.resp then l.waits ++ [⟨l.cid, op, c.for_⟩] else l.waits })

/-- Whether the upstream of a lane sleeps: no sequenced frame but UPWR may be sent (R283). -/
def State.usAsleep (s : State) (n : Nat) : Bool := s.rd (LINK_PWR_STAT_US n) == pwSleep || s.rd (LINK_PWR_STAT_US n) == pwEntering

/-- Whether a command is UPWR. -/
def CmdTx.isUpwr (c : CmdTx) : Bool := c.payload % 256 == opUpwr

/-- Whether a held frame is UPWR. -/
def HeldFrame.isUpwr (f : HeldFrame) : Bool := f.type == ftCmd && f.payload % 256 == opUpwr

/-- The next command that may leave: the oldest, or while the upstream sleeps the oldest UPWR; at most 4 await a response (R280, R283). -/
def State.nextCmd (s : State) (n : Nat) : Option CmdTx :=
  let l := s.link n
  (if s.usAsleep n then l.cmds.find? CmdTx.isUpwr else l.cmds.head?).filter (fun c => !c.resp || decide (l.waits.length < 4))

/-- Send the TIME SYNC frame that is due (R267, R271). -/
def State.sendSync (s : State) (n : Nat) : State :=
  let l := s.link n
  let frac := s.timeFrac / 2 ^ 16 % 2 ^ 16
  let p := 1 + l.xid * 2 ^ 8 + frac * 2 ^ 16 + s.timeNs * 2 ^ 32 + s.rd (LINK_TL_DS n) * 2 ^ 96 +
    b2n (l.acquire != 0) * 2 ^ 128 + b2n (s.on (LINK_LL_STAT_TLOCK n)) * 2 ^ 129
  let s := s.sendPlain n ftTime p
  s.updLink n (fun l => { l with syncDue := false, acquire := l.acquire - 1, xid := (l.xid + 1) % 256,
                                 sync := l.sync ++ [(l.xid, s.timeNs * 2 ^ 16 + frac)] })

/-- Whether anything but IDLE waits for a lane (R238, R244). -/
def Link.queued (l : Link) : Bool :=
  !(l.fireNew.isEmpty && l.fireFix.isEmpty && l.owed.isEmpty && l.cmds.isEmpty && l.authTx.isEmpty && l.replay.isNone &&
    !l.syncDue && !l.nak && !l.ackDue)

/-- The frame of a lane that carries traffic, in frame order (R258). -/
def State.sendTraffic (s : State) (n : Nat) : State :=
  let l := s.link n
  let halted := s.on (LINK_LL_STAT_HALTED n)
  let asleep := s.usAsleep n
  let room := decide (l.heldTx.length < 32)
  let data := room && !asleep
  let cause := l.haltCause * 2 ^ 32
  if halted && l.haltSent < 4 then (s.sendLcw n ftHalt false cause).updLink n (fun l => { l with haltSent := l.haltSent + 1 })
  else if l.nak then (s.sendLcw n ftLctl true 0).updLink n (fun l => { l with nak := false })
  else match (l.replay.bind (fun i => (l.heldTx.drop i).head?.map (fun f => (i, f)))).filter (fun e => !asleep || e.2.isUpwr) with
  | some (i, f) => s.resend n i f
  | none =>
  if l.syncDue then s.sendSync n
  else if data && !l.fireFix.isEmpty then
    let es := l.fireFix.take 4
    (s.updLink n (fun l => { l with fireFix := l.fireFix.drop 4 })).sendSeq n ftFire (firePayload es) (some (fireDeadline es))
      (es.map FireEnt.rowLine)
  else match (if data then l.owed.head? else none) with
  | some o => (s.updLink n (fun l => { l with owed := l.owed.drop 1 })).sendSeq n ftLine o.payload (some o.deadline) [o.rowLine]
  | none =>
  if data && l.owed.isEmpty && !l.fireNew.isEmpty then
    let es := l.fireNew.take 4
    (s.updLink n (fun l => { l with fireNew := l.fireNew.drop 4, owed := owedLines es })).sendSeq n ftFire (firePayload es)
      (some (fireDeadline es)) (es.map FireEnt.rowLine)
  else match (if room && (l.owed.isEmpty || asleep) then s.nextCmd n else none) with
  | some c => s.sendCmd n c
  | none =>
  match (if data && l.owed.isEmpty then l.authTx.head? else none) with
  | some p => (s.updLink n (fun l => { l with authTx := l.authTx.drop 1 })).sendSeq n ftAuth p none []
  | none =>
  if l.ackDue then s.sendLcw n ftLctl false 0
  else if halted then s.sendLcw n ftHalt false cause
  else (s.sendLcw n ftIdle false 0).updLink n (fun l => { l with idleTx := l.idleTx + 1 })

/-! ## Training frames (R272) -/

/-- TRAIN subtypes. -/
def subTs1 : Nat := 1
def subTs2 : Nat := 2
def subPreset : Nat := 3
def subEye : Nat := 4
def subTxeq : Nat := 5
def subSleep : Nat := 6
def subStart : Nat := 7
def subRestart : Nat := 8

/-- The rates the device offers in an attempt, bit by rate code (R273, R274, R278). -/
def State.offered (s : State) (n : Nat) : Nat :=
  let t := (s.link n).train
  let top := rateCode (s.rd (LINK_PHY_CTL_RATE n))
  if t.fast then 2 ^ t.lastRate else (if top < t.limit then 2 ^ (top + 1) else 2 ^ t.limit) - 1

/-- Count a frame sent in the present exchange of training. -/
def State.trainSent (s : State) (n : Nat) : State :=
  s.updLink n (fun l => { l with train := { l.train with txN := l.train.txN + 1 } })

/-- Change the training state of a lane. -/
def State.updTrain (s : State) (n : Nat) (f : Train → Train) : State := s.updLink n (fun l => { l with train := f l.train })

/-- Whether something asks for the downstream: a queued frame, a PAGE at the head of the cell's page ring, or a control-ring
command for the head (R244). -/
def State.wantsWake (s : State) (n : Nat) : Bool :=
  (s.link n).queued || (s.takeable (2 * s.leader n) tyPage).isSome || (s.takeable (2 * n + 1) tyWave).isSome ||
  (s.takeable (2 * n + 1) tyTrim).isSome

/-- Whether the downstream may leave ON for its idle state: the cell is IDLE or OFF and nothing asks for it (R244). -/
def State.dsMayIdle (s : State) (n : Nat) : Bool :=
  (s.cellState n == csIdle || s.cellState n == csOff) && s.linkState n == lsUp && !s.wantsWake n &&
  !s.on (LINK_LL_STAT_HALTED n)

/-- Send the sleep notice when the downstream's idle state is SLEEP and its conditions hold (R239, R244). -/
def State.maySleep (s : State) (n : Nat) : Bool := s.rd (LINK_PWR_CTL_DS_IDLE n) == 2 && s.dsMayIdle n

end Sys2Proof.Machine
end

