-- ==== Sys2Proof/Machine/NougatOps.lean ====
section
/-!
DEFINITION. Nougat's jobs, lanes and arenas (spec/04 R116, R120 to R124): the commit of a block, and a STRIP that is stopped (spec/02 R80).
-/
namespace Sys2Proof.Machine

open Sys2Proof

/-! ## Jobs and lanes -/

/-- Lines per block of a job. -/
def StripJob.lb (j : StripJob) : Nat := linesPerBlock j.bsize j.depth

/-- Blocks of a job (R116). -/
def StripJob.blocks (j : StripJob) : Nat := ceilDiv j.lines j.lb

/-- Lines of block `i`. -/
def StripJob.blockLines (j : StripJob) (i : Nat) : Nat := min j.lb (j.lines - i * j.lb)

/-- Whether a lane's block belongs to a job. -/
def StripJob.owns (j : StripJob) (l : LaneBlock) : Bool := j.ring == l.ring && j.idx == l.idx

/-- Change Nougat's hidden state. -/
def State.updNougat (s : State) (f : Nougat → Nougat) : State := { s with nougat := f s.nougat }

/-- The block in a lane. -/
def State.laneBlock (s : State) (lane : Nat) : Option LaneBlock := Store.find? s.nougat.lanes lane

/-- The job of a lane's block. -/
def State.jobOf (s : State) (l : LaneBlock) : Option StripJob := s.nougat.jobs.find? (·.owns l)

/-- Change the job of a lane's block. -/
def State.updJob (s : State) (l : LaneBlock) (f : StripJob → StripJob) : State :=
  s.updNougat (fun g => { g with jobs := g.jobs.map (fun j => if j.owns l then f j else j) })

/-- A lane holds no block any more. -/
def State.freeLane (s : State) (lane : Nat) : State := s.updNougat (fun g => { g with lanes := Store.del g.lanes lane })

/-- The completion of a STRIP: blocks written, compressed bytes and Crumbs (spec/02 R69). -/
def StripJob.completion (j : StripJob) (s : State) (status : Nat) : Completion :=
  s.mkDone status j.committed (j.coded % 2 ^ 32 + min j.crumbs 65535 * 2 ^ 32) (if 0 < j.crumbs then cfCrumb else 0)

/-- A STRIP completes once every block is committed, or, when nothing more of it is dispatched, once its lanes are free (R120,
R122). -/
def State.settleStrip (s : State) (l : LaneBlock) : State :=
  match s.jobOf l with
  | none => s
  | some j =>
    let busy := s.nougat.lanes.any (fun e => j.owns e.2)
    let ended := match j.dead with | some _ => !busy | none => j.committed == j.blocks
    if ended then
      let s := s.updNougat (fun g => { g with jobs := g.jobs.filter (fun k => !k.owns l) })
      s.finish j.ring j.idx (j.completion s (j.dead.getD stOk))
    else s

/-- A block is given up: its lane is free, and no further block of its STRIP is dispatched (R120, R122). -/
def State.dropBlock (s : State) (lane : Nat) (l : LaneBlock) (status : Nat) : State :=
  ((s.updJob l (fun j => { j with dead := some (j.dead.getD status) })).freeLane lane).settleStrip l

/-! ## Arenas (R123, R124) -/

/-- ARENA.FULL follows whether the next block of a context to commit is held for space (R124). -/
def State.refreshFull (s : State) (k : Nat) (full : Bool) : State :=
  let rise := full && !s.on (NOUGAT_ARENA_FULL k)
  let s := s.wrB (NOUGAT_ARENA_FULL k) full
  if rise && s.on (NOUGAT_ARENA_EVT_FULL k) then
    s.postGeneral k 0x06 2 k (s.nougat.lanes.filter (fun e => e.2.ctx == k && e.2.coded.isSome)).length (s.rd (NOUGAT_ARENA_HEAD k))
  else s

/-- Units of an arena. -/
def State.arenaUnits (s : State) (k : Nat) : Nat := s.rd (NOUGAT_ARENA_SIZE k) * 16384

/-- Where a block of `u` units is placed (R123): at HEAD, or at 0 when it would run past the end. -/
def State.arenaStart (s : State) (k u : Nat) : Nat := if s.rd (NOUGAT_ARENA_HEAD k) + u ≤ s.arenaUnits k then s.rd (NOUGAT_ARENA_HEAD k) else 0

/-- Whether a block of `u` units fits: HEAD does not reach or pass TAIL from below, where moving HEAD to 0 passes a TAIL above it (R124). -/
def State.arenaFits (s : State) (k u : Nat) : Bool :=
  let head := s.rd (NOUGAT_ARENA_HEAD k)
  let tail := s.rd (NOUGAT_ARENA_TAIL k)
  let start := s.arenaStart k u
  decide (start + u ≤ s.arenaUnits k) &&
  (if head < tail then decide (start = head ∧ head + u < tail)
   else if start < head then decide (start + u < tail)
   else decide (start + u < 2 ^ 28 ∨ 0 < tail))

/-- The next block of a context to commit, with its lane: the first in dispatch order, if it is coded (R123). -/
def State.nextCommit (s : State) (k : Nat) : Option (Nat × LaneBlock × List Byte) :=
  match s.nougat.lanes.filter (fun e => e.2.ctx == k) with
  | [] => none
  | e :: es =>
    let m := es.foldl (fun m e => if e.2.order < m.2.order then e else m) e
    m.2.coded.map (fun bs => (m.1, m.2, bs))

/-- Bring FULL to the next block of a context. -/
def State.checkFull (s : State) (k : Nat) : State :=
  s.refreshFull k (match s.nextCommit k with | some (_, _, bs) => !s.arenaFits k (ceilDiv bs.length 64) | none => false)

/-! ## Commit (R123, R124) -/

/-- The 16 bytes of a valid entry (R90). -/
def entryBytes (addr size : Nat) : List Byte := leBytes 8 addr ++ leBytes 3 size ++ leBytes 1 1 ++ leBytes 4 0

/-- The next block of a context in dispatch order is placed at HEAD, written, and its entry made valid; while it does not fit it waits
(R123, R124). -/
def State.commitNext (s : State) (k : Nat) : State :=
  match s.nextCommit k with
  | none => s
  | some (lane, l, bs) =>
    let u := ceilDiv bs.length 64
    match s.jobOf l with
    | none => s
    | some j =>
      if !s.arenaFits k u then s.checkFull k
      else
        let start := s.arenaStart k u
        let off := s.rd (NOUGAT_ARENA_BASE k) * 2 ^ 20 + 64 * start
        let s := if start < s.rd (NOUGAT_ARENA_HEAD k) then s.wr (NOUGAT_ARENA_WRAPPED k) 1 else s
        let s := s.wr (NOUGAT_ARENA_HEAD k) (start + u)
        match s.memWrite initLane lane off bs with
        | (s, false) => (s.dropBlock lane l stDmaErr).checkFull k
        | (s, true) =>
          match s.memWrite initLane lane (localOff (j.entry + 16 * l.i)) (entryBytes (2 ^ 63 + off) bs.length) with
          | (s, false) => (s.dropBlock lane l stDmaErr).checkFull k
          | (s, true) =>
            let payload := bs.length - 32 - (if j.encrypt then 16 else 0)
            let s := s.updJob l (fun j => { j with committed := j.committed + 1, coded := j.coded + payload })
            (((s.bump NOUGAT_STAT_BLOCKS).freeLane lane).settleStrip l).checkFull k

/-! ## A STRIP that is stopped (spec/02 R80, R81) -/

/-- Whether the next block of a context to commit belongs to a STRIP and has room: it is the block that Nougat is writing
(DEDUCED, notes/assumptions/73). -/
def State.writesFor (s : State) (j : StripJob) : Bool :=
  match s.nextCommit j.ctx with
  | some (_, l, bs) => j.owns l && s.arenaFits j.ctx (ceilDiv bs.length 64)
  | none => false

/-- A STRIP of ring `q` goes no further: Nougat finishes the block it is writing (R80), its other blocks leave their lanes, and it completes with
what it has written; its unfinished entries stay invalid. -/
def State.killStrip (s : State) (q idx status : Nat) : State :=
  match s.nougat.jobs.find? (fun j => j.ring == q && j.idx == idx) with
  | none => s.finishSt q idx status
  | some j0 =>
    let s := s.updNougat (fun g => { g with jobs := g.jobs.map (fun j => if j.ring == q && j.idx == idx then { j with dead := some status } else j) })
    let s := if s.writesFor j0 then s.commitNext j0.ctx else s
    match s.nougat.jobs.find? (fun j => j.ring == q && j.idx == idx) with
    | none => s
    | some j =>
      let s := s.updNougat (fun g =>
        { g with jobs := g.jobs.filter (fun j => !(j.ring == q && j.idx == idx)),
                 lanes := g.lanes.filter (fun l => !(l.2.ring == q && l.2.idx == idx)) })
      (s.finish q idx (j.completion s status)).checkFull j.ctx

end Sys2Proof.Machine
end

