-- ==== Sys2Proof/Machine/CellOps.lean ====
section
/-!
DEFINITION. What happens to a cell's pages and descriptors from outside the fire engine: the line buffer's account (spec/05 R136 to
R142), rows firing and pages ending (R128, spec/02 R64), abort and disable (R79, R80, spec/05 R131), and the fence (R158).
-/
namespace Sys2Proof.Machine

open Sys2Proof

/-! ## Rows and nozzles (R134, R166) -/

/-- Jet rows of a cell's head. -/
def State.jetRows (s : State) (n : Nat) : Nat := s.rd (CELL_GEOM_ROWS n) + 1

/-- Whether row `r` of a page is enabled (R166). -/
def PageRun.rowOn (p : PageRun) (r : Nat) : Bool := decide (r < p.rows.length) && bitOf p.par.rowsEn r

/-- The enabled rows of a page. -/
def PageRun.onRows (p : PageRun) : List RowSt := (p.rows.zipIdx.filter (fun e => p.rowOn e.2)).map (·.1)

/-- The row of a nozzle of a head with `noz` nozzles and `rows` rows (R134). -/
def nozzleRow (noz rows : Nat) (blocked : Bool) (g : Nat) : Nat :=
  if blocked then g / (noz / rows) else g % rows

/-- The nozzles of cell `n` that belong to row `r`, ascending (R134, R160, R260). -/
def State.rowNozzles (s : State) (n r : Nat) : List Nat :=
  let noz := if s.ganged n then 4096 else s.rd (CELL_GEOM_NOZZLES n)
  let base := if s.follower n then 2048 else 0
  let own := if s.ganged n then 2048 else noz
  (List.range own).filter (fun k => nozzleRow noz (s.jetRows n) (s.on (CELL_GEOM_LAYOUT n)) (base + k) == r)

/-! ## Lines mapped and fired -/

/-- The lines a row has mapped or skipped: a withdrawn line stays mapped (R182). -/
def RowSt.mapped (r : RowSt) : Nat := r.next

/-- The lines that every enabled row has mapped. -/
def PageRun.mappedAll (p : PageRun) : Nat := p.onRows.foldl (fun m r => min m r.mapped) p.entered

/-- Whether every row has mapped the last line. -/
def PageRun.allMapped (p : PageRun) : Bool := p.started && p.entered == p.lines && p.mappedAll == p.lines

/-- Whether a line has left every enabled row: fired, or skipped. -/
def PageRun.lineGone (p : PageRun) (i : Nat) : Bool :=
  p.onRows.all (fun r => decide (i < r.next) && !r.fly.any (·.line == i) && !r.back.any (·.line == i))

/-- Lines of a block row. -/
def PageRun.lb (p : PageRun) : Nat := linesPerBlock p.bsize p.depth

/-- Lines of block row `b`. -/
def PageRun.rowLines (p : PageRun) (b : Nat) : Nat := min p.lb (p.lines - b * p.lb)

/-- Whether a data line stands ready in the line buffer. -/
def PageRun.lineReady (p : PageRun) (i : Nat) : Bool := p.ladder.isSome || p.ready.any (fun r => r.b == i / p.lb)

/-- The ready block row of a line. -/
def PageRun.readyRow (p : PageRun) (i : Nat) : Option LbRow := p.ready.find? (fun r => r.b == i / p.lb)

/-- Ready lines at or above the next line to enter (R139); a ladder needs no data, so each of its lines is ready. -/
def PageRun.readyCount (p : PageRun) : Nat :=
  if p.ladder.isSome then p.lines - p.entered
  else p.ready.foldl (fun c r => c + (r.b * p.lb + p.rowLines r.b - max p.entered (r.b * p.lb))) 0

/-- Line-buffer slots a page holds: of its ready rows, the lines neither mapped by every row nor skipped; and the row in fetch
(R138, R186). -/
def PageRun.slots (p : PageRun) : Nat :=
  let m := p.mappedAll
  p.ready.foldl (fun c r =>
    let lo := max m (r.b * p.lb)
    let hi := r.b * p.lb + p.rowLines r.b
    c + (hi - lo) - (p.flight.filter (fun l => l.skipped && decide (lo ≤ l.line ∧ l.line < hi))).length) 0 +
  (match p.row with | some _ => p.lb | none => 0)

/-- Drop ready rows that every row has mapped. -/
def PageRun.freeRows (p : PageRun) : PageRun :=
  { p with ready := p.ready.filter (fun r => decide (p.mappedAll < r.b * p.lb + p.rowLines r.b)) }

/-- The pages a cell holds, in printing order. -/
def Cell.pages (c : Cell) : List PageRun := c.tails ++ c.cur.toList ++ c.nxt.toList

/-- The page line that enters a cell next: of the page in print, or line 0 of the taken next page (R142). -/
def Cell.nextLine (c : Cell) : Nat :=
  match c.cur, c.nxt with
  | some p, some q => if p.entered < p.lines then p.pageLine p.entered else q.pageLine 0
  | some p, none => p.pageLine p.entered
  | none, some q => q.pageLine 0
  | none, none => 0

/-- Refresh LB_STAT.READY and LOW, and post LB_LOW when LOW rises (R139, R142). -/
def State.updReady (s : State) (n : Nat) : State :=
  let c := s.cell n
  let ready := match c.cur with
    | some p => if p.entered < p.lines then p.readyCount else (match c.nxt with | some q => q.readyCount | none => 0)
    | none => (match c.nxt with | some q => q.readyCount | none => 0)
  let s := s.wr (CELL_LB_STAT_READY n) (min ready 1023)
  let wm := s.rd (CELL_LB_CTL_WM_LOW n)
  let low := s.on (CELL_LB_STAT_LOW n)
  if s.cellState n == csPrinting && !low && decide (ready < wm) then
    let s := s.wr (CELL_LB_STAT_LOW n) 1
    let k := s.owner .cell n
    if s.on (CELL_LB_CTL_EVT_LOW n) && k < 8 then
      s.postGeneral k 0x06 1 n ready c.nextLine
    else s
  else if low && (decide (wm + 8 ≤ ready) || wm == 0) then s.wr (CELL_LB_STAT_LOW n) 0
  else s

/-! ## Background bank at a stop -/

/-- The bank in the foreground. -/
def State.fgBank (s : State) (n : Nat) : Nat := s.rd (CELL_BANK_STAT_FG n)

/-- The entries of a bank. -/
def Cell.bank (c : Cell) (b : Nat) : List (Nat × Nat) := if b = 0 then c.bank0 else c.bank1

/-- Replace the entries of a bank. -/
def Cell.setBank (c : Cell) (b : Nat) (m : List (Nat × Nat)) : Cell :=
  if b = 0 then { c with bank0 := m } else { c with bank1 := m }

/-- BG_STATE codes (R150). -/
def bgReady : Nat := 0
def bgHost : Nat := 1
def bgPolicy : Nat := 2
def bgRetiring : Nat := 3
def bgMirroring : Nat := 4

/-- Write entries into the background bank; keys from 2048 are MERGE entries. -/
def State.putBg (s : State) (n : Nat) (ws : List (Nat × Nat)) : State :=
  let b := 1 - s.fgBank n
  s.updCell n (fun c => c.setBank b (ws.foldl (fun m w => Store.put 0 m w.1 w.2) (c.bank b)))

/-- The old foreground leaves RETIRING: a mirror copy when CTL.MIRROR is 1, else READY (R153). -/
def State.leaveRetiring (s : State) (n : Nat) : State :=
  s.wr (CELL_BANK_STAT_BG_STATE n) (if s.on (CELL_CTL_MIRROR n) then bgMirroring else bgReady)

/-- The writes of a MAPLOAD by CORE clock: one MAP entry and one MERGE entry each (R151; spec/02, MAPLOAD, for the order in memory). -/
def maploadClocks (d : Desc) (es : List Nat) : List (List (Nat × Nat)) :=
  let first := d.u16 14
  let count := d.u16 16
  let m := if d.bit 12 0 then es.take count else []
  let g := if d.bit 12 1 then (if d.bit 12 0 then es.drop count else es).take count else []
  (List.range count).map (fun j =>
    (m[j]?.toList.map (fun v => (first + j, v))) ++ (g[j]?.toList.map (fun v => (2048 + first + j, v))))

/-- All the writes of a MAPLOAD. -/
def maploadWrites (d : Desc) (es : List Nat) : List (Nat × Nat) := (maploadClocks d es).flatten

/-- A MAPLOAD that holds the lock is stopped: for how many clocks it had written by then is not fixed, so it is a free value
(R154). `mirror`: the foreground is then copied into the background. -/
def State.stopHolder (s : State) (n : Nat) (mirror : Bool) : State :=
  match (s.cell n).holder with
  | none => s
  | some (idx, es) =>
    let s := match s.descAt (2 * n) idx with
      | some d =>
        let ws := maploadClocks d es
        (s.putBg n (ws.take (s.free % (ws.length + 1))).flatten).draw
      | none => s
    let s := s.updCell n (fun c => { c with holder := none })
    if mirror then s.leaveRetiring n else s.wr (CELL_BANK_STAT_BG_STATE n) bgReady

/-- The updates of a cell's policy that have not been written are discarded and reported as skipped (spec/15 R418, R425). -/
def State.dropUpdates (s : State) (n cause : Nat) : State :=
  let q := (s.cell n).nhQ
  let s := s.updCell n (fun c =>
    { c with nhQ := [], bgWait := c.bgWait.filter (fun w => match w with | .policy => false | .mapload _ _ => true) })
  q.foldl (fun s u =>
    let s := s.wr (CELL_NH_STAT_SKIP_CAUSE n) cause
    if s.owner .cell n < 8 then s.postGeneral (s.owner .cell n) 0x08 3 n u.seq cause else s) s

/-- The background bank settles at a fence, and a pending swap is dropped (R154). -/
def State.fenceBank (s : State) (n : Nat) : State :=
  let s := if s.rd (CELL_BANK_STAT_BG_STATE n) == bgRetiring then s.leaveRetiring n else s
  let s := s.stopHolder n true
  let s := if s.rd (CELL_BANK_STAT_BG_STATE n) == bgPolicy then s.leaveRetiring n else s
  let s := s.dropUpdates n 2
  (s.wr (CELL_BANK_STAT_SWAP_PEND n) 0).updCell n (fun c => { c with bgWait := [], swapIdx := [], nhSwap := [] })

/-! ## Drops (spec/21 R547) -/

/-- Add one drop for a nozzle of a cell to its count and to the cell's TOTAL. -/
def State.addDrop (s : State) (n k : Nat) : State :=
  let key := n * 2048 + k
  let s := { s with drops := Store.put 0 s.drops key (satNat 48 (Store.get 0 s.drops key + 1)) }
  s.wr2 (LEDGER_HEAD_TOTAL_LO n) (LEDGER_HEAD_TOTAL_HI n) (satNat 64 (s.rd2 (LEDGER_HEAD_TOTAL_LO n) (LEDGER_HEAD_TOTAL_HI n) + 1))

/-- Count the drops of a row-line that fires on one lane: not muted, not marked, value not 0 (R547). -/
def State.countDrops (s : State) (n r : Nat) (c : Commit) (data : List Nat) : State :=
  if c.muted || !c.sent || !s.on LEDGER_CTL_DROP_EN || (s.link n).marked.contains (r, c.tag) then s
  else ((s.rowNozzles n r).zip data).foldl (fun s e => if e.2 = 0 then s else s.addDrop n e.1) s

/-- Count the drops of a row-line on every lane that carries it. -/
def State.countCrew (s : State) (n r : Nat) (c : Commit) : State :=
  let s := s.countDrops n r c c.data
  if s.ganged n then s.countDrops (n + 1) r c c.mate else s

/-! ## Firing and the end of a page -/

/-- Take the fired commits out of a row: those whose fire time has come. -/
def RowSt.retire (r : RowSt) (now : Nat) : RowSt :=
  let fired := r.fly.filter (fun c => decide (c.tSent ≤ now))
  { r with fly := r.fly.filter (fun c => decide (now < c.tSent)),
           tPrev := match fired.getLast? with | some c => some c.tSent | none => r.tPrev }

/-- The lines gone from every row leave flight. The last of them are kept: a replay may still mark their row-lines (spec/09 R263). -/
def PageRun.dropGone (p : PageRun) : PageRun :=
  { p with flight := p.flight.filter (fun l => !p.lineGone l.line),
           past := ((p.flight.filter (fun l => p.lineGone l.line)).reverse ++ p.past).take 128 }

/-- Whether a line that has gone from every row counts as fired (R69). -/
def LineSt.counts (l : LineSt) : Bool := !l.muted && !l.skipped && !l.defect

/-- A page after its row-lines whose fire time has come have fired: lines gone from every row leave flight, and count as fired
unless muted, skipped or defective (R64, R69). -/
def PageRun.retire (p : PageRun) (now : Nat) : PageRun :=
  let last := p.rows.foldl (fun t r => (r.fly.filter (fun c => decide (c.tSent ≤ now))).foldl (fun t c => max t c.tSent) t) p.lastFire
  let p := ({ p with rows := p.rows.map (fun r => r.retire now), lastFire := last } : PageRun)
  let gone := p.flight.filter (fun l => p.lineGone l.line)
  { p.dropGone with fired := p.fired + (gone.filter LineSt.counts).length }

/-- Count the drops of every row-line of a page that fires now. -/
def State.firePage (s : State) (n : Nat) (p : PageRun) : State :=
  p.rows.zipIdx.foldl (fun s e =>
    (e.1.fly.filter (fun c => decide (c.tSent ≤ s.now))).foldl (fun s c => s.countCrew n e.2 c) s) s

/-- Fire the commands that a lost page could not withdraw (R193), and forget them. -/
def State.fireOrphans (s : State) (n : Nat) : State :=
  let due := (s.cell n).orphans.filter (fun e => decide (e.2.tSent ≤ s.now))
  let s := due.foldl (fun s e => s.countCrew n e.1 e.2) s
  s.updCell n (fun c => { c with orphans := c.orphans.filter (fun e => decide (s.now < e.2.tSent)) })

/-- Fire everything of a cell whose time has come. -/
def State.retireCell (s : State) (n : Nat) : State :=
  let s := if (s.cell n).orphans.isEmpty then s else s.fireOrphans n
  let c := s.cell n
  let s := (c.tails ++ c.cur.toList).foldl (fun s p => s.firePage n p) s
  s.updCell n (fun c => { c with tails := c.tails.map (·.retire s.now), cur := c.cur.map (·.retire s.now) })

/-- Whether the last line of a page has been fired or muted by every row (R64). -/
def PageRun.over (p : PageRun) : Bool := p.started && p.entered == p.lines && p.flight.isEmpty

/-- Drop the follower's copy of a page of the leader. -/
def State.dropCopy (s : State) (n idx : Nat) : State :=
  if s.ganged n && n % 2 == 0 then
    (s.updCell (n + 1) (fun c =>
      { c with cur := c.cur.filter (fun p => p.idx ≠ idx), nxt := c.nxt.filter (fun p => p.idx ≠ idx),
               tails := c.tails.filter (fun p => decide (p.idx ≠ idx)) })).wr (CELL_STATE_NEXT_TAKEN (n + 1)) 0
  else s

/-- Take a page out of its cell. -/
def State.removePage (s : State) (n idx : Nat) : State :=
  (s.updCell n (fun c =>
    { c with cur := c.cur.filter (fun p => p.idx ≠ idx), nxt := c.nxt.filter (fun p => p.idx ≠ idx),
             tails := c.tails.filter (fun p => decide (p.idx ≠ idx)) })).dropCopy n idx

/-- Set the state of a cell, and of its follower in a gang. -/
def State.setCrewState (s : State) (n st : Nat) : State := (s.crew n).foldl (fun s m => s.wr (CELL_STATE_STATE m) st) s

/-- Restart a cell's counts at an enable from OFF (R131): the line tag count, LINE, the cell's counters and the fire engine's. -/
def State.restartCounts (s : State) (n : Nat) : State :=
  ((s.updCell n (fun c => { c with lineTag := 0, prev := none, badSamples := 0, underRun := false })).updLink n (fun l => { l with marked := [] })).clearAll
    [CELL_LINE n, CELL_CNT_MUTE n, CELL_CNT_UNDERRUN n, CELL_CNT_ECC_CORR n, CELL_CNT_ECC_UNCORR n, CELL_SWAP_COUNT n,
     CELL_FE_CNT_SKIP_SKIP_OVS n, CELL_FE_CNT_SKIP_SKIP_LATE n, CELL_FE_CNT_CORR_CORR n, CELL_FE_CNT_TRIG_IGN n,
     CELL_FE_CNT_TRIG_WITHDRAW n, CELL_BANK_STAT_BG_WR_DROP n]

/-- A cell running toward OFF arrives there; a held write of EN = 1 then takes it to IDLE at once (R131). -/
def State.reachOff (s : State) (n : Nat) : State :=
  let held := (s.cell n).enHeld
  let s := s.updCell n (fun c => { c with goingOff := false, enHeld := false })
  if held then ((s.restartCounts n).wr (CELL_CTL_EN n) 1).wr (CELL_STATE_STATE n) csIdle
  else s.wr (CELL_STATE_STATE n) csOff

/-- The pages of a cell settle after one has ended, been mapped or dropped (R128, R130): a next page moves up, and the cell is
PRINTING with a page whose print start has come, ARMED with one that waits for its trigger, else IDLE or OFF. -/
def State.settleCell (s : State) (n : Nat) : State :=
  if s.cellState n == csOff || s.cellState n == csFenced then s
  else
    let s := s.updCell n (fun c =>
      let c := match c.cur with
        | some p => if p.allMapped then { c with tails := c.tails ++ [p], cur := none } else c
        | none => c
      match c.cur, c.nxt with
      | none, some q => { c with cur := some q, nxt := none }
      | _, _ => c)
    let c := s.cell n
    let s := s.wr (CELL_STATE_NEXT_TAKEN n) (b2n c.nxt.isSome)
    let s := match c.cur with
      | some p => s.wr (CELL_STATE_STATE n) (if p.started then csPrinting else csArmed)
      | none =>
        if c.goingOff then (if c.tails.isEmpty then s.reachOff n else s)
        else s.wr (CELL_STATE_STATE n) csIdle
    s.updReady n

/-- Settle a cell and its gang partner. -/
def State.settleCrew (s : State) (n : Nat) : State := (s.crew n).foldl (fun s m => s.settleCell m) s

/-- A page ends: it leaves the cell, PAGE_END occurs if it had started, its completion is written, and the cell settles. -/
def State.endPage (s : State) (n : Nat) (p : PageRun) : State :=
  let s := s.removePage n p.idx
  let s := s.finish (2 * n) p.idx (p.completion s)
  let s := if p.started then s.syncEvent 2 n none else s
  s.settleCrew n

/-- The page of a cell by its ring index. -/
def Cell.pageAt (c : Cell) (idx : Nat) : Option PageRun := c.pages.find? (fun p => p.idx == idx)

/-- A page whose print start has not come is dropped: ABORTED without DEFECTIVE (R79). -/
def State.dropPage (s : State) (n idx : Nat) : State :=
  ((s.removePage n idx).finishSt (2 * n) idx stAborted).settleCrew n

/-! ## Abort and disable (R79, R80, R131) -/

/-- Mute a printing page from the next line boundary; it completes ABORTED and DEFECTIVE (R80). -/
def PageRun.abort (p : PageRun) : PageRun := ({ p with muteAll := true, aborted := true }).flag cfDefective

/-- An ARMED page ends at once with every line defective (R131). -/
def PageRun.abortArmed (p : PageRun) : PageRun :=
  { p.flag cfDefective with aborted := true, defects := p.lines, firstDef := some 0 }

/-- Change a page of a cell by its index. -/
def State.updPage (s : State) (n idx : Nat) (f : PageRun → PageRun) : State :=
  s.updCell n (fun c =>
    { c with cur := c.cur.map (fun p => if p.idx = idx then f p else p), nxt := c.nxt.map (fun p => if p.idx = idx then f p else p),
             tails := c.tails.map (fun p => if p.idx = idx then f p else p) })

/-- A MAPLOAD that waits, writes or waits for its swap is ended. -/
def State.killMapload (s : State) (n idx status : Nat) : State :=
  let s := if ((s.cell n).holder.map (·.1)) == some idx then s.stopHolder n false else s
  (s.updCell n (fun c =>
    { c with bgWait := c.bgWait.filter (fun w => match w with | .mapload i _ => decide (i ≠ idx) | .policy => true),
             swapIdx := c.swapIdx.filter (fun i => decide (i ≠ idx)) })).finishSt (2 * n) idx status

/-- The pending set of a pipeline's COMMIT is discarded; a list that has been launched finishes, one that has not is dropped (spec/14). -/
def State.dropCommit (s : State) (p : Nat) : State :=
  let m := s.rd (INSP_BIND_PORT p)
  ((s.updPipe p (fun x => { x with commit := none })).wr (INSP_SET_STAT_PEND p) 0).setCci m
    (((s.cci m).filter (fun j => !(j.pipe == p && !j.launched))).map (fun j => if j.pipe = p then { j with live := false } else j))

/-- Abort one held descriptor of a ring (R80). -/
def State.abortDesc (s : State) (q : Nat) (d : Desc) : State :=
  let n := q / 2
  match d.phase with
  | .finished _ => s
  | _ =>
    if ringKind q == .page then
      match (s.cell n).pageAt d.idx with
      | some p =>
        if p.started then s.updPage n d.idx PageRun.abort
        else if ((s.cell n).cur.map (·.idx)) == some d.idx then s.endPage n p.abortArmed
        else s.dropPage n d.idx
      | none =>
        if d.type == tyStrip && d.phase == .started then s.killStrip q d.idx stAborted
        else if d.type == tyMapload && d.phase == .started then s.killMapload n d.idx stAborted
        else s.finishSt q d.idx stAborted
    else
      let p := (q - 128) / 4
      let s := if ringKind q == .pipeCmd && ((s.pipe p).commit.map (·.idx)) == some d.idx then s.dropCommit p else s
      s.finishSt q d.idx stAborted

/-- The effect of CFG.ABORT on a ring (R80): every started and held descriptor, and STATE.ERR cleared. A ring that an error had stopped and whose EN is 1
fetches again from then on, while STATE.RUN keeps its 0 until the ring is enabled anew (DESIGN CHOICE, notes/assumptions/78). -/
def State.abortRing (s : State) (q : Nat) : State :=
  let s := (s.ring q).held.foldl (fun s d => s.abortDesc q d) s
  (s.wr (HOST_RING_ERR q) 0).wr (HOST_RING_ERR_CODE q) 0

/-- Whether an open frame fills the buffer of an index of a tap or statistics ring. -/
def State.bufFilling (s : State) (q idx : Nat) : Bool :=
  match (s.pipe ((q - 128) / 4)).frame with
  | some f => (q % 4 == 3 && f.statBuf == some idx) || (q % 4 == 2 && f.tapBuf == some idx)
  | none => false

/-- Whether a descriptor of a disabled ring completes normally (R79): a page in progress, and on any ring what has started; a buffer has started once a
frame fills it. A SYNC that waits on a page ring is taken as held (DEDUCED, notes/assumptions/79). -/
def State.keepsRunning (s : State) (q : Nat) (d : Desc) : Bool :=
  match d.phase with
  | .finished _ => true
  | .printing => true
  | .started =>
    if ringKind q == .page then !d.pageLike && d.type != tySync
    else d.type != tyBuf || s.bufFilling q d.idx
  | .queued => false

/-- Disable a ring: EN 0, and every descriptor that does not keep running completes with ABORTED (R79). -/
def State.disableRing (s : State) (q : Nat) : State :=
  let s := s.wr (HOST_RING_EN q) 0
  let s := ((s.ring q).held.filter (fun d => !s.keepsRunning q d)).foldl (fun s d =>
    match (if ringKind q == .page then (s.cell (q / 2)).pageAt d.idx else none) with
    | some _ => s.dropPage (q / 2) d.idx
    | none => s.finishSt q d.idx stAborted) s
  s.drain q ((s.ring q).held.length + 1)

/-! ## The fence (R158, R81) -/

/-- Fence causes. -/
def fcLockstep : Nat := 1
def fcMapEcc : Nat := 2
def fcLane : Nat := 3
def fcGang : Nat := 4
def fcCommanded : Nat := 5

/-- A fenced page: it ends with FENCED. -/
def PageRun.fence (p : PageRun) : PageRun := { p with fenced := true }

/-- Complete with FENCED every descriptor on both rings of a cell from the page in progress, `first`, on (R81): on the page ring, those
that have not finished, but for a STRIP started before that page. -/
def State.fenceRings (s : State) (n : Nat) (first : Option Desc) : State :=
  let s := (s.ring (2 * n)).held.foldl (fun s d =>
    match d.phase with
    | .finished _ => s
    | .queued => s.finishSt (2 * n) d.idx stFenced
    | .printing => s
    | .started =>
      if d.type == tyStrip then
        match first with
        | some f => if (d.idx + 65536 - f.idx) % 65536 < 32768 then s.killStrip (2 * n) d.idx stFenced else s
        | none => s.killStrip (2 * n) d.idx stFenced
      else s.finishSt (2 * n) d.idx stFenced) s
  (s.ring (2 * n + 1)).held.foldl (fun s d =>
    match d.phase with
    | .finished _ => s
    | _ => s.finishSt (2 * n + 1) d.idx stFenced) s

/-- Fence one cell (R158): fetching and mapping stop, the lane halts, the line buffer clears, its pages and descriptors complete
with FENCED, the bank settles, and the cell enters FENCED. -/
def State.fenceOne (s : State) (n cause : Nat) : State :=
  if s.cellState n == csFenced then s
  else
    let pages := if s.follower n then [] else (s.cell n).pages
    let first := (s.ring (2 * n)).held.find? (fun d => d.phase == .printing)
    let s := (s.fenceBank n).updCell (if n % 2 = 0 then n + 1 else n - 1) (fun c => { c with relPending := false })
    let s := s.updCell n (fun c =>
      { c with cur := none, nxt := none, tails := [], goingOff := false, enHeld := false, selfTest := false, relPending := false,
               orphans := [], underRun := false })
    let s := (((s.wr (CELL_STATE_STATE n) csFenced).wr (CELL_STATE_FENCE_CAUSE n) cause).wr (CELL_STATE_NEXT_TAKEN n) 0).clearAll
      [CELL_LB_STAT_READY n, CELL_LB_STAT_LOW n]
    let s := s.haltLane n 1
    let s := pages.foldl (fun s p =>
      let s := s.finish (2 * n) p.idx ((p.fence).completion s)
      if p.started then s.syncEvent 2 n none else s) s
    s.fenceRings n first

/-- Fence a cell and its gang partner (R158, R162), raising the source of the cause (fence-cause table). -/
def State.fence (s : State) (n cause : Nat) : State :=
  if s.cellState n == csFenced then s
  else
    let partner := if n % 2 = 0 then n + 1 else n - 1
    let gang := s.ganged n
    let s := s.fenceOne n cause
    let s := if cause == fcLockstep then s.report srcCellLockstep n 2 initCell n accNone 0
      else if cause == fcMapEcc then s.report srcCellMapEcc n 2 initCell n accNone 0 else s
    let s := if cause == fcLockstep || cause == fcMapEcc then s.bump (GOOSE_FENCE_STAT_FENCES n) else s
    if gang then s.fenceOne partner fcGang else s

/-! ## The safe state at a cell (spec/18 R485) -/

/-- Every PAGE and LADDER in print or held completes ABORTED and DEFECTIVE, its unfired lines defective, and the cell enters
IDLE. -/
def State.safeCell (s : State) (n : Nat) : State :=
  if s.cellState n == csFenced || s.cellState n == csOff then s
  else
    let pages := if s.follower n then [] else (s.cell n).pages
    let off := (s.cell n).goingOff
    let s := s.updCell n (fun c => { c with cur := none, nxt := none, tails := [] })
    let s := pages.foldl (fun s p =>
      let q := if p.started then { p.defectRest.flag cfDefective with aborted := true } else p.abortArmed
      let s := s.finish (2 * n) p.idx (q.completion s)
      if p.started then s.syncEvent 2 n none else s) s
    let s := ((s.ring (2 * n)).held.filter (fun d => d.pageLike && d.phase == .queued)).foldl
      (fun s d => (s.finish (2 * n) d.idx (s.mkDone stAborted 0
        (if d.type == tyPage then min (pageLines (d.u32 20)) (2 ^ 32 - 1) * 2 ^ 32 + d.u8 29 else s.free) cfDefective)).draw) s
    let s := s.wr (CELL_STATE_NEXT_TAKEN n) 0
    let s := if off then s.reachOff n else s.wr (CELL_STATE_STATE n) csIdle
    s.updReady n

end Sys2Proof.Machine
end

