-- ==== Sys2Proof/Machine/GovOps.lean ====
section
/-!
DEFINITION. The stop causes of the governor and the level of STOP_REQ (spec/07 R206, R207), which other units set.
-/
namespace Sys2Proof.Machine

open Sys2Proof

/-- The causes of R206 that hold, at their CAUSE bits. -/
def State.stopCauses (s : State) : Nat :=
  b2n s.gov.dataStop + 8 * b2n (s.on GOV_CTL_SW_STOP) + 16 * b2n (s.cells.any (fun e => e.2.pause)) + 32 * b2n s.gov.lossLatch +
  64 * b2n (s.on GOOSE_STATUS_SAFE) + 128 * b2n s.gov.underLatch

/-- Whether the safe state drives STOP_REQ and SLOW_REQ: while it holds, and until the update that follows it (R207). -/
def State.safeDrives (s : State) : Bool := s.on GOOSE_STATUS_SAFE || s.gov.fromSafe

/-- The level of STOP_REQ: high while a cause holds; only the safe state drives it while EN or STOP_EN is 0 (R206, R207). -/
def State.stopLevel (s : State) : Bool :=
  s.safeDrives || (s.on GOV_CTL_EN && s.on GOV_CTL_STOP_EN && s.stopCauses != 0)

/-- Bring STOP_REQ, LATCH and the stop bits of CAUSE to the causes that hold; a rise makes an event frame due (R208). -/
def State.refreshStop (s : State) : State :=
  let level := s.stopLevel
  let rise := level && !s.on GOV_STAT_STOP
  let dem := bitsOf (s.rd GOV_STAT_CAUSE) 1 2 * 2
  let soft := if s.rd GOV_SW_DEM_SW_DEM < 1024 && !s.on GOV_CTL_SW_STOP then 8 else 0
  let data := if bitOf (s.rd GOV_STAT_CAUSE) 0 && !s.gov.dataStop then 1 else 0
  let s := ((s.wrB GOV_STAT_STOP level).wrB GOV_STAT_LATCH (s.gov.lossLatch || s.gov.underLatch)).wr GOV_STAT_CAUSE
    (s.stopCauses + dem + soft + data)
  { s with gov := { s.gov with eventDue := s.gov.eventDue || rise } }

/-- A latched stop cause of the governor: host loss under STOP (R75), or an underrun (R206). -/
def State.latchStop (s : State) (loss : Bool) : State :=
  let g := s.gov
  ({ s with gov := if loss then { g with lossLatch := true } else { g with underLatch := true } } : State).refreshStop

/-- STAT.SLOW: SLOW_REQ is not static low (R205); the safe state drives it high (R207). -/
def State.refreshSlow (s : State) : State :=
  s.wrB GOV_STAT_SLOW (s.safeDrives || (s.on GOV_CTL_SLOW_EN && decide (s.gov.pwm < 1024)))

/-- How many of the 1,024 steps of its PWM period SLOW_REQ is high, first in the period (R205). -/
def State.slowSteps (s : State) : Nat := 1024 - min 1024 s.gov.pwm

/-- The PWM level at a time: high for the first steps of each period from the start of the present one (R205). -/
def State.slowPwm (s : State) (t : Nat) : Bool :=
  let period := 1000 * max 1 (s.rdF GOV_PWM_PERIOD)
  decide ((t - s.gov.pwmStart) % period * 1024 < s.slowSteps * period)

/-- Whether the NET block runs: its supply VDD_CORE and its clock stand and the core reset is off (R208). -/
def State.coreRuns (s : State) : Bool := !s.coop.coreReset && s.on GLOBAL_READY_PLL && bitOf (s.rd COOP_SUP_STAT_IN_RANGE) 0

/-- A frame goes out on an Ethernet port with its FCS, the CRC-32 of its bytes, low byte first (PRESUMED from IEEE 802.3, notes/assumptions/84): its wire
is busy for the frame and 24 byte times around it (spec/16 R441). -/
def State.sendFrame (s : State) (k : Nat) (bytes : List Byte) : State :=
  let wire := (bytes.length + 24) * (if s.on (NET_CTL_MODE k) then 80 else 8)
  ((s.emit (.netFrame k (bytes ++ leBytes 4 (crc32 bytes)))).bumpMod (NET_TX_FRAMES k)).updNet k (fun x => { x with busyTill := max x.busyTill (10 * s.now) + wire })

end Sys2Proof.Machine
end

