-- ==== Sys2Proof/Machine/FireOps.lean ====
section
/-!
DEFINITION. The fire engine and what it does at a line boundary (spec/06 R164 to R194, spec/05 R132 to R155): targets, fire times,
nozzle values, bank swaps, line entry with its mutes, commits, corrections, withdrawals, and the loss of a source.
-/
namespace Sys2Proof.Machine

open Sys2Proof

/-! ## Targets (R164, R165, R167) -/

/-- The direction sign of a page. -/
def PageRun.sgn (p : PageRun) : Int := if p.dir then -1 else 1

/-- s × L × PITCH in whole wu, a half upward (R165). -/
def pitchTerm (sgn : Int) (line pitch : Nat) : Int := (sgn * ((line * pitch : Nat) : Int) + 2147483648) / 4294967296

/-- The reference target of data line `i`: its target without the ROW_OFF term (R170). -/
def PageRun.refTarget (p : PageRun) (i : Nat) : Int :=
  wrapWu (p.p0 + p.par.cellOff + p.par.dirOff + pitchTerm p.sgn (p.pageLine i) p.par.pitch)

/-- The target X(L, r) of data line `i` for row `r`, in wu (R164). -/
def PageRun.target (p : PageRun) (i r : Nat) : Int := wrapWu (p.refTarget i + p.par.rowOff.getD r 0)

/-- The enabled row numbers of a page, ascending. -/
def PageRun.rowNums (p : PageRun) : List Nat := (List.range p.rows.length).filter p.rowOn

/-- The leading row (R167): the smallest ROW_OFF forward, the largest in reverse, the lower number at a tie. -/
def PageRun.leading (p : PageRun) : Nat :=
  match p.rowNums with
  | [] => 0
  | r :: rs => rs.foldl (fun b c => if p.sgn * p.par.rowOff.getD c 0 < p.sgn * p.par.rowOff.getD b 0 then c else b) r

/-! ## Fire times (R177, R178) -/

/-- The way travelled in `q` quarter-nanoseconds in the page direction, in 2⁻⁵³ / 5¹⁸ wu. -/
def travel (sgn v a q : Int) : Int := sgn * (v * q * 524288 + a * q * q)

/-- The largest `k` of the form `start` plus distinct powers of two below 2^n that a downward-closed test accepts. -/
def bitSearch (ok : Int → Bool) : Nat → Int → Int
  | 0, k => k
  | n + 1, k => if ok (k + 2 ^ n) then bitSearch ok n (k + 2 ^ n) else bitSearch ok n k

/-- Quarter-nanoseconds to the vertex of the motion, if it turns. -/
def vertex (v a : Int) : Int := if a = 0 then 2 ^ 60 else 4 * (v.natAbs * 65536 : Nat) / (a.natAbs : Int)

/-- Round a root that lies between two neighbouring quarter-nanoseconds to a nanosecond: which of them it is taken for is open, within
the 0.25 ns of R177. -/
def roundRoot (free : Nat) (lo hi : Int) : Int := if free % 2 = 0 then (lo + 2) / 4 else (hi + 2) / 4

/-- τ in ns for a target `d` (in 2⁻¹⁶ wu) ahead, or none when there is no root up to 1 ms (R177, R178). -/
def landing (free : Nat) (sgn d v a : Int) : Option Int :=
  let goal := sgn * d * 137438953472 * fine
  if 0 < goal then
    let top := if sgn * a < 0 then min 4000000 (vertex v a) else 4000000
    if travel sgn v a top < goal then none
    else
      let k := bitSearch (fun q => decide (q < top) && decide (travel sgn v a q < goal)) 22 0
      some (roundRoot free k (k + 1))
  else if goal = 0 then some 0
  else
    let top := if 0 < sgn * a then min (2 ^ 42) (vertex v a) else 2 ^ 42
    let k := bitSearch (fun q => decide (q ≤ top) && decide (goal < travel sgn v a (-q))) 42 0
    some (roundRoot free (-(k + 1)) (-k))

/-- The ideal fire time of data line `i` for row `r` at a sample, or none when it is not due (R177, R178). -/
def PageRun.ideal (p : PageRun) (free : Nat) (m : Sample) (i r : Nat) : Option Int :=
  if !m.ok || !atLeastUm m.v p.par.vmin || decide (m.v * p.sgn < 0) then none
  else (landing free p.sgn (posDiff (p.target i r * 65536) m.x) m.v m.a).map (fun t => (m.t : Int) + t - p.par.flight)

/-! ## Nozzle values (R144 to R149, spec/15 R405) -/

/-- The dot of window column `x` on data line `i` (R135, R147). -/
def PageRun.dot (p : PageRun) (i x : Nat) : Nat :=
  let col := p.winBase + x
  if 64 * p.winWidth ≤ x ∨ p.strips * 1024 ≤ col then 0
  else
    match p.readyRow i with
    | none => 0
    | some row =>
      match row.blocks.find? (fun e => e.1 == col / 1024) with
      | some (_, .raw bs) => rawDot p.depth bs (i - row.b * p.lb) (col % 1024)
      | _ => 0

/-- The merge rules (R147). -/
def mergeRule (rule a b line n max : Nat) : Nat :=
  let sum := min max (a + b)
  if rule = 0 then sum
  else if rule = 1 then (if line % 2 = 0 then sum else a)
  else if rule = 2 then (if line % 2 = 1 then sum else a)
  else if rule = 3 then Nat.max a b
  else if rule = 4 then (if a = 0 then b else a)
  else if rule = 5 then min max (a + (b + 1) / 2)
  else if rule = 6 then (if (line + n) % 2 = 0 then sum else a)
  else (a + b + 1) / 2

/-- Whether the stitch mask at a window field passes nozzle `n` on page line `line` (R146, R163). -/
def PageRun.maskPasses (p : PageRun) (fld : Nat → Fld) (line n : Nat) : Bool :=
  let l := line % 256
  let k := n % 256
  bitOf (Store.get 0xFFFFFFFF p.masks (fld (8 * l + k / 32)).key) (k % 32)

/-- The drop of nozzle `k` on ladder line `i` (spec/15 R405); `row` is its row. -/
def LadderRun.value (l : LadderRun) (blank lines i k row : Nat) : Nat :=
  let r := (lines - blank) / max 1 l.step
  let rung := (i - blank) / max 1 r
  let inRung := decide (blank ≤ i ∧ rung < l.step ∧ 0 < r)
  let on :=
    if l.pattern = 0 then inRung && (k - l.first) % l.step == rung
    else if l.pattern = 1 then inRung && (k - l.first) % l.step == rung && i % 2 == 0
    else if l.pattern = 2 then decide (blank ≤ i)
    else false
  if on && decide (l.first ≤ k ∧ k < l.first + l.count) && bitOf l.rows row then l.level else 0

/-- The value nozzle `k` of cell `n` sends on data line `i` from a bank (R147), and whether a column it names lies outside the window
(R149). -/
def State.nozzleValue (s : State) (n : Nat) (p : PageRun) (bank i k : Nat) : Nat × Bool :=
  let c := s.cell n
  let w := 64 * p.winWidth
  let m := Store.get 0 (c.bank bank) k
  let line := p.pageLine i
  if !bitOf m 15 then (0, false)
  else
    let src := bitsOf m 0 13
    let a := p.dot i src
    let bad := decide (w ≤ src)
    let op := bitsOf m 13 2
    if op = 0 then (a, bad)
    else if op = 1 then (if p.maskPasses (CELL_MASK_A n) line k then a else 0, bad)
    else if op = 2 then (if p.maskPasses (CELL_MASK_B n) line k then a else 0, bad)
    else
      let g := Store.get 0 (c.bank bank) (2048 + k)
      let x := bitsOf g 0 13
      (mergeRule (bitsOf g 13 3) a (p.dot i x) line k (2 ^ p.depth - 1), bad || decide (w ≤ x))

/-- Whether a row of cell `n` reads a column outside the window on a line. -/
def State.rowOutside (s : State) (n : Nat) (p : PageRun) (bank i r : Nat) : Bool :=
  p.ladder.isNone && (s.rowNozzles n r).any (fun k => (s.nozzleValue n p bank i k).2)

/-- The values of a row of cell `n` on a line, in nozzle order; all 0 when muted (R134, R148). -/
def State.rowData (s : State) (n : Nat) (p : PageRun) (bank i r : Nat) (muted : Bool) : List Nat :=
  (s.rowNozzles n r).map (fun k =>
    if muted then 0
    else match p.ladder with
      | some l => l.value p.par.blank p.lines i k r
      | none => (s.nozzleValue n p bank i k).1)

/-! ## Print start (R129, R133, R169) -/

/-- The class B:page fields of a cell that come into force at a print start, but for SRC (R129). -/
def pageFields (n : Nat) : List Fld :=
  [CELL_FE_CTL_ABS n, CELL_FE_CTL_DOMAIN_ID n, CELL_FE_ROWS_EN n, CELL_FE_PITCH_INT n, CELL_FE_PITCH_FRAC n, CELL_FE_CELL_OFF n,
   CELL_FE_DIR_OFF_F n, CELL_FE_DIR_OFF_R n, CELL_FE_START_DIST n, CELL_FE_START_POS_F_LO n, CELL_FE_START_POS_R_LO n,
   CELL_FE_START_POS_F_HI n, CELL_FE_START_POS_R_HI n, CELL_FE_FLIGHT n, CELL_FE_LEAD n, CELL_FE_LINE_MIN n, CELL_FE_LAG_MAX n,
   CELL_FE_VMIN_VMIN n] ++ (List.range 8).map (CELL_FE_ROW_OFF n)

/-- The row offsets whose shadow stands (R137). -/
def State.rowOffs (s : State) (n : Nat) : List Int := (List.range 8).map (fun r => s.rdS (CELL_FE_ROW_OFF n r))

/-- PITCH in 2⁻³² wu, of the shadow. -/
def State.pitch (s : State) (n : Nat) : Nat := s.rd (CELL_FE_PITCH_INT n) * 2 ^ 32 + s.rd (CELL_FE_PITCH_FRAC n)

/-- The fire-engine parameters that the shadows of a cell hold, for a page direction and source. -/
def State.fireParams (s : State) (n : Nat) (dir : Bool) (src : Nat) : FireParams where
  src := src
  rowsEn := s.rd (CELL_FE_ROWS_EN n)
  pitch := s.pitch n
  cellOff := s.rdS (CELL_FE_CELL_OFF n)
  dirOff := s.rdS (if dir then CELL_FE_DIR_OFF_R n else CELL_FE_DIR_OFF_F n)
  rowOff := s.rowOffs n
  flight := s.rd (CELL_FE_FLIGHT n)
  lead := max 2000 (s.rd (CELL_FE_LEAD n))
  lineMin := max 5000 (s.rd (CELL_FE_LINE_MIN n))
  lagMax := s.rd (CELL_FE_LAG_MAX n)
  vmin := max 1 (s.rd (CELL_FE_VMIN_VMIN n))
  blank := 0

/-- The row span S of enabled rows with their offsets, at a fired-line pitch in 2⁻³² wu (R133). -/
def rowSpan (rows : Nat) (rowsEn : Nat) (offs : List Int) (step : Nat) : Nat :=
  let on := (offs.zipIdx.filter (fun e => decide (e.2 < rows) && bitOf rowsEn e.2)).map (·.1)
  match on with
  | [] => 0
  | o :: os =>
    let d := (os.foldl max o - os.foldl min o) - 1
    if d ≤ 0 then 0 else ceilDiv (d.toNat * 2 ^ 32) (max 1 step)

/-- The page origin that the shadows give for a PT in 2⁻¹⁶ wu (R169, R189). -/
def State.originFor (s : State) (n : Nat) (dir : Bool) (pt : Int) : Int :=
  if s.on (CELL_FE_CTL_MODE n) || s.on (CELL_FE_CTL_ABS n) then
    wrapWu (if dir then s.rd2 (CELL_FE_START_POS_R_LO n) (CELL_FE_START_POS_R_HI n)
      else s.rd2 (CELL_FE_START_POS_F_LO n) (CELL_FE_START_POS_F_HI n) : Nat)
  else wrapWu (roundWu pt + (if dir then -1 else 1) * (s.rd (CELL_FE_START_DIST n) : Int))

/-- The stitch masks of a cell that differ from all ones. -/
def State.maskWords (s : State) (n : Nat) : List (Nat × Nat) :=
  let lo := (CELL_MASK_A n 0).key
  let hi := (CELL_MASK_B n 2047).key
  s.regs.filter (fun e => decide (lo ≤ e.1 ∧ e.1 ≤ hi))

/-- The armed page of a cell: taken, its trigger not taken (R168). -/
def Cell.armed (c : Cell) : Option PageRun :=
  match c.cur with
  | some p => if !p.started then (if p.trig.isNone then some p else none)
    else (match c.nxt with | some q => if q.trig.isNone then some q else none | none => none)
  | none => none

/-- The page in print that a new page follows: the last one whose print start has come (R170). -/
def Cell.inPrint (c : Cell) : Option PageRun :=
  match c.cur with
  | some p => if p.started then some p else c.tails.getLast?
  | none => c.tails.getLast?

/-- Ignore a trigger: counted, and the source raised (R170, R172). -/
def State.ignoreTrig (s : State) (n src : Nat) : State :=
  (s.bump (CELL_FE_CNT_TRIG_IGN n)).report src n 1 initCell n accNone 0

/-- Whether the page a cell has armed overlaps the page in print of the same direction (R170), for a PT. -/
def State.overlaps (s : State) (n : Nat) (p : PageRun) (pt : Int) : Bool :=
  match (s.cell n).inPrint with
  | none => false
  | some q =>
    if q.dir != p.dir then false
    else
      let par := s.fireParams n p.dir 0
      let ref0 := wrapWu (s.originFor n p.dir pt + par.cellOff + par.dirOff + pitchTerm p.sgn (p.pageLine 0) par.pitch)
      decide (p.sgn * wrapWu (ref0 - q.refTarget (q.lines - 1)) ≤ 0)

/-- The source that gives an armed page its PT: the shadow's; a ladder keeps that of the page before it (R592, spec/15 R404). -/
def State.pageSrc (s : State) (n : Nat) (p : PageRun) : Nat := if p.ladder.isSome then p.par.src else s.rd (CELL_FE_CTL_SRC n)

/-- Whether a source is valid for a cell: three samples in a row with a parity error make it invalid (R173, R196). -/
def State.srcOk (s : State) (n src : Nat) : Bool := (s.source src).ok && decide ((s.cell n).badSamples < 3)

/-- A trigger of the armed page's kind arrives at time `t` with PT (R592): taken, or ignored when the source is invalid (R173) or the
page would overlap (R170). -/
def State.takeTrigger (s : State) (n : Nat) (p : PageRun) (t : Nat) (pt : Int) : State :=
  let src := s.pageSrc n p
  if !s.srcOk n src || (p.ladder.isNone && s.overlaps n p pt) then s.ignoreTrig n srcFeTrigIgn
  else s.updPage n p.idx (fun p => { p with trig := some (t, pt), srcFixed := src })

/-- The reference position of the line after the previous page's last line, in 2⁻¹⁶ wu (R171). -/
def PrevPage.follow (q : PrevPage) : Int :=
  (q.p0 + pitchTerm (if q.dir then -1 else 1) (q.lastLine + 1) q.pitch) * 65536

/-- IMMEDIATE and FOLLOW arrive once, at the first moment the armed page's condition holds with a valid source (R168, R173). -/
def State.condTrigger (s : State) (n : Nat) : State :=
  match (s.cell n).armed with
  | none => s
  | some p =>
    let src := s.pageSrc n p
    if p.arrived || !s.srcOk n src then s
    else if p.ladder.isNone && p.trigKind == 0 then
      (s.updPage n p.idx (fun p => { p with arrived := true })).takeTrigger n p s.now (s.posAt src s.now)
    else if p.ladder.isSome || p.trigKind == 5 then
      let ended := match (s.cell n).inPrint with | some q => q.entered == q.lines | none => true
      match (s.cell n).prev with
      | some q => if ended then (s.updPage n p.idx (fun p => { p with arrived := true })).takeTrigger n p s.now q.follow else s
      | none => s
    else s

/-! ## Bank swap (R152, R153) -/

/-- Whether a line served by a bank has yet to be mapped by some row of a cell (R153). -/
def State.retiringLeft (s : State) (n bank : Nat) : Bool :=
  let c := s.cell n
  (c.tails ++ c.cur.toList).any (fun p => p.flight.any (fun l => l.bank == bank && !l.skipped && decide (p.mappedAll ≤ l.line)))

/-- The compensation updates whose swap has been taken are reported (spec/15 R422, R425). -/
def State.nhSwapped (s : State) (n line : Nat) : State :=
  let seqs := (s.cell n).nhSwap
  let s := s.updCell n (fun c => { c with nhSwap := [] })
  seqs.foldl (fun s q =>
    let s := (s.wr (CELL_NH_STAT_LAST_SEQ n) q).wr (CELL_NH_STAT_LAST_LINE n) line
    if s.owner .cell n < 8 then s.postGeneral (s.owner .cell n) 0x08 1 n q line else s) s

/-- Whether an entry that the policy wrote differs in a bank. -/
def Kept.replaced (r : Kept) (bank : List (Nat × Nat)) : Bool := r.wrote.any (fun w => Store.get 0 bank w.1 != w.2)

/-- A compensation whose entries a host write has replaced, with no overlay, is gone from the swap on (spec/15 R421). -/
def State.dropReplaced (s : State) (n : Nat) : State :=
  s.updCell n (fun c => { c with kept := c.kept.filter (fun r => !r.2.replaced (c.bank (s.fgBank n))) })

/-- The banks of one cell exchange at the boundary before page line `line` (R152, R153). -/
def State.takeSwap (s : State) (n line : Nat) : State :=
  let old := s.fgBank n
  let s := (((s.wr (CELL_BANK_STAT_FG n) (1 - old)).wr (CELL_BANK_STAT_BG_STATE n) bgRetiring).wr (CELL_BANK_STAT_SWAP_PEND n) 0).wr
    (CELL_SWAP_LINE n) line
  let s := (s.bump (CELL_SWAP_COUNT n)).dropReplaced n
  let idxs := (s.cell n).swapIdx
  let s := s.updCell n (fun c => { c with swapIdx := [], swapBySoft := false })
  let s := idxs.foldl (fun s i => s.finish (2 * n) i (s.mkDone stOk (line % 2 ^ 32) 0 0)) s
  let s := (s.nhSwapped n line).syncEvent 4 n none
  if s.retiringLeft n old then s else s.leaveRetiring n

/-- A pending swap of a cell or gang is taken at a line boundary once every background is READY (R152, R162) and no overlay of the
policy is due (spec/15 R421). -/
def State.boundarySwap (s : State) (n line : Nat) : State :=
  let crew := s.crew n
  if crew.any (fun m => s.on (CELL_BANK_STAT_SWAP_PEND m)) && crew.all (fun m => s.rd (CELL_BANK_STAT_BG_STATE m) == bgReady) &&
      crew.all (fun m => !(s.cell m).nhQ.any (·.overlay)) then
    crew.foldl (fun s m => s.takeSwap m line) s
  else s

/-! ## Line entry (R132, R141, R155, R186) -/

/-- What mutes a line at its entry in one cell (R155): block fault, underrun, temperature, CTL.MUTE, abort, STOP_FIRE. -/
structure MuteCauses where
  fault    : Bool
  underrun : Bool
  temp     : Bool
  ctl      : Bool
  stop     : Bool
  deriving DecidableEq, Repr

/-- Whether any cause holds. -/
def MuteCauses.any (c : MuteCauses) : Bool := c.fault || c.underrun || c.temp || c.ctl || c.stop

/-- Whether a cause other than CTL.MUTE holds: the line is defective. -/
def MuteCauses.defect (c : MuteCauses) : Bool := c.fault || c.underrun || c.temp || c.stop

/-- The causes that hold on data line `i` in cell `n`. -/
def State.muteCauses (s : State) (n : Nat) (p : PageRun) (i : Nat) : MuteCauses where
  fault := p.ladder.isNone && (match p.readyRow i with | some r => r.muted | none => false)
  underrun := p.ladder.isNone && !p.lineReady i
  temp := s.on (CELL_TEMP_STAT_TRIP n)
  ctl := s.rdF (CELL_CTL_MUTE n) == 1
  stop := p.muteAll || s.stopFireLatch || s.bscan

/-- Set the completion flags of a line's causes (R155). -/
def PageRun.flagCauses (p : PageRun) (c : MuteCauses) : PageRun :=
  let p := if c.any then p.flag cfMuted else p
  let p := if c.defect then p.flag cfDefective else p
  let p := if c.underrun then p.flag cfUnderrun else p
  if c.temp then p.flag cfTemp else p

/-- Whether the governor counts a cell whose source moves at `v` (R200). -/
def State.govCounts (s : State) (n : Nat) (v : Int) (vmin : Nat) : Bool :=
  s.maskBit GOV_CELL_EN_LO GOV_CELL_EN_HI n && s.cellState n == csPrinting && !s.follower n && atLeastUm v vmin

/-- An underrun line of a cell (R141, R210): counted, with GOV_UNDERRUN for the first of a run. -/
def State.underrunLine (s : State) (n : Nat) (counted : Bool) : State :=
  let first := !(s.cell n).underRun
  let s := (s.bump (CELL_CNT_UNDERRUN n)).updCell n (fun c => { c with underRun := true })
  let s := if counted then s.bump GOV_UNDERRUN else s
  let s := if first then s.report srcGovUnderrun n 2 initCell n accNone 0 else s
  if counted && s.on GOV_CTL_STOP_ON_UNDERRUN then s.latchStop false else s

/-- Whether a registration slot of a cell is active while the cell's source is `src` (spec/15 R408). -/
def State.slotActive (s : State) (n src j : Nat) : Bool :=
  let pipe := s.rd (CELL_NH_SLOT_PIPE n j)
  let e := s.rd (INSP_CFG_ENC pipe)
  s.on (CELL_NH_SLOT_EN n j) && (s.owner .insp pipe == s.owner .cell n || s.owner .insp pipe == s.admin) && s.on (INSP_CTL_EN pipe) &&
  (e == src || ((src == 4 || src == 5) && e / 2 == src - 4))

/-- Pass a ladder to each pipeline that an active registration slot of its cell names, once each (spec/15 R407, R408); one that is not
armed will not see it (R412; DEDUCED, notes/assumptions/93). -/
def State.passLadder (s : State) (n : Nat) (p : PageRun) : State :=
  match p.ladder with
  | none => s
  | some run =>
    let on := [0, 1].filter (fun j => s.on (CELL_NH_SLOT_EN n j))
    let active := [0, 1].filter (fun j => s.slotActive n p.par.src j)
    let s := s.bumpBy (CELL_NH_STAT_REG_IDLE n) (on.length - active.length)
    let pipes := (active.map (fun j => s.rd (CELL_NH_SLOT_PIPE n j))).eraseDups
    pipes.foldl (fun s q =>
      let full := decide (64 ≤ s.rd (INSP_NH_STAT_PENDING q))
      let blind := !s.on (INSP_CTL_ARMED q)
      let s := if full then s.bump (INSP_NH_CNT_OVERLOAD q) else s.wr (INSP_NH_STAT_PENDING q) (s.rd (INSP_NH_STAT_PENDING q) + 1)
      { s with ladders := s.ladders ++ [
        { pipe := q, cell := n, tagId := p.tagId, depth := p.depth, dir := p.dir, pitch := p.par.pitch, src := p.par.src, q0 := p.p0,
          lines := p.lines, blank := p.par.blank, rowsEn := p.par.rowsEn, run := run,
          frames := [], flags := (if full then 128 else 0) + b2n blind, hdr := none, seen := [], ready := full || blind, counted := !full }] }) s

/-- A line of a ladder was muted or skipped (spec/15 R412). -/
def State.ladderMuted (s : State) (n : Nat) (p : PageRun) : State :=
  { s with ladders := s.ladders.map (fun l =>
      if l.cell = n ∧ l.tagId = p.tagId ∧ l.q0 = p.p0 then { l with flags := orFlag l.flags 8 } else l) }

/-- What entry of a line does in each cell of the crew beside the page: line counts, the last line, its tag. -/
def State.enterCell (s : State) (n line : Nat) (muted : Bool) (c : MuteCauses) (counted : Bool) : State :=
  let s := (s.wr (CELL_LINE n) line).wrB (CELL_STATE_MUTED n) muted
  let s := if muted then s.bump (CELL_CNT_MUTE n) else s
  let s := if c.underrun then s.underrunLine n counted else s.updCell n (fun c => { c with underRun := false })
  s.updCell n (fun c => { c with lineTag := (c.lineTag + 1) % 65536 })

/-- Data line `i` of a page enters (R132), skipped or not (R183, R186): class B:line fields and a pending swap first, then its mutes, which hold
for both cells of a gang, its tag and its counts. The governor counts the underruns of the leader alone (spec/07 R200). -/
def State.enterLine (s : State) (n : Nat) (p : PageRun) (i : Nat) (v : Int) (skip : Bool) : State :=
  let line := p.pageLine i
  let crew := s.crew n
  let s := crew.foldl (fun s m => s.enforce (CELL_CTL_MUTE m)) s
  let s := s.boundarySwap n line
  let pageOf (m : Nat) : PageRun := if m = n then p else ((s.cell m).pageAt p.idx).getD p
  let causes := crew.map (fun m => (m, s.muteCauses m (pageOf m) i))
  let muted := causes.any (fun e => e.2.any)
  let defect := causes.any (fun e => e.2.defect)
  let counted := s.govCounts n v p.par.vmin
  let tag := (s.cell n).lineTag
  let s := crew.foldl (fun s m => s.updLink m (fun l => { l with marked := l.marked.filter (fun e => e.2 != tag) })) s
  let s := causes.foldl (fun s e => s.enterCell e.1 line muted e.2 (counted && e.1 == n)) s
  let s := crew.foldl (fun s m =>
    let bank := s.fgBank m
    s.updPage m p.idx (fun q =>
      { q with entered := i + 1, flight := q.flight ++ [⟨i, muted, skip, bank, skip || defect, tag⟩] })) s
  let s := s.updPage n p.idx (fun q =>
    let q := causes.foldl (fun q e => q.flagCauses e.2) q
    if skip || defect then q.defectLine i else q)
  let s := if i = 0 && p.ladder.isSome then crew.foldl (fun s m => s.passLadder m p) s else s
  if p.ladder.isSome && (muted || skip) then crew.foldl (fun s m => s.ladderMuted m p) s else s

/-! ## Commit, correction, withdrawal (R179 to R187) -/

/-- Change one row of a page. -/
def PageRun.updRow (p : PageRun) (r : Nat) (f : RowSt → RowSt) : PageRun :=
  { p with rows := p.rows.zipIdx.map (fun e => if e.2 = r then f e.1 else e.1) }

/-- One row of a page. -/
def PageRun.row? (p : PageRun) (r : Nat) : RowSt := p.rows.getD r ⟨0, [], [], none, 0⟩

/-- Insert a commit in line order. -/
def insCommit : List Commit → Commit → List Commit
  | [], c => [c]
  | d :: ds, c => if c.line < d.line then c :: d :: ds else d :: insCommit ds c

/-- t_prev of a line of a row: the time last sent for the row's previous line, none for the first line of a page (R179). -/
def RowSt.prevTime (r : RowSt) (i : Nat) : Option Nat :=
  if i = 0 then none
  else match (r.fly.filter (fun c => decide (c.line < i))).getLast? with
    | some c => some c.tSent
    | none => r.tPrev

/-- Queue a correction or withdrawal on every lane of the crew (R191); a halted lane takes no FIRE frame (R265). -/
def State.queueFix (s : State) (n op r tag time : Nat) : State :=
  (s.crew n).foldl (fun s m =>
    if s.on (LINK_LL_STAT_HALTED m) then s
    else s.updLink m (fun l => { l with fireFix := l.fireFix ++ [⟨op, r, false, 0, tag, time, []⟩] })) s

/-- The largest D_lane of the crew: a command goes on both lanes or on neither (R191). -/
def State.crewDelay (s : State) (n : Nat) : Nat := (s.crew n).foldl (fun d m => max d (s.rd (LINK_TL_DLANE m))) 0

/-- Whether a NEW entry of a commit still waits in the queue of one lane. -/
def Link.queues (l : Link) (r tag : Nat) : Bool := l.fireNew.any (fun e => e.row == r && e.tag == tag)

/-- Take back a command that can still be withdrawn, on every lane of the crew: out of the queue of a lane that has not sent it, with the withdrawal
form on one that has (R182, R191). -/
def State.withdraw (s : State) (n r : Nat) (c : Commit) : State :=
  if !c.sent then s
  else
    let left := (s.crew n).any (fun m => !(s.link m).queues r c.tag)
    let s := (s.crew n).foldl (fun s m =>
      if (s.link m).queues r c.tag then
        s.updLink m (fun l => { l with fireNew := l.fireNew.filter (fun e => !(e.row == r && e.tag == c.tag)) })
      else if s.on (LINK_LL_STAT_HALTED m) then s
      else s.updLink m (fun l => { l with fireFix := l.fireFix ++ [⟨3, r, false, 0, c.tag, c.tSent, []⟩] })) s
    if left then s.bump (CELL_FE_CNT_TRIG_WITHDRAW n) else s

/-- What a sample makes of one committed line that has not fired (R181, R182). A correction is sent from the commit on, so also before the NEW entry has
left, which then carries the time last sent (DEDUCED, notes/assumptions/81). -/
def State.fixCommit (s : State) (n idx r : Nat) (m : Sample) (c : Commit) : State :=
  match (s.cell n).pageAt idx with
  | none => s
  | some p =>
    let inTime (t : Int) : Bool := decide ((m.t : Int) + s.crewDelay n + 500 ≤ t)
    let id := p.ideal s.free m c.line r
    let s := s.draw
    match id with
    | none =>
      if inTime c.tSent then
        (s.withdraw n r c).updPage n idx (fun p => p.updRow r (fun w =>
          { w with fly := w.fly.filter (fun d => decide (d.line ≠ c.line)), back := insCommit w.back { c with sent := false } }))
      else if c.late then s
      else (s.report srcFeLateWithdraw n 0 initCell n accNone 0).updPage n idx (fun p => p.updRow r (fun w =>
        { w with fly := w.fly.map (fun d => if d.line = c.line then { d with late := true } else d) }))
    | some tid =>
      let row := p.row? r
      let tNew : Int := match row.prevTime c.line with
        | none => tid
        | some t => max tid ((t + p.par.lineMin : Nat) : Int)
      let gap := max 20 (s.rd (CELL_FE_CORR_CORR_INT n))
      if decide (max 1 (s.rd (CELL_FE_CORR_CORR_MIN n)) ≤ (tNew - (c.tSent : Int)).natAbs) &&
          inTime (min tNew c.tSent) && decide (max c.tCorr row.tCorr + gap ≤ m.t) then
        ((s.queueFix n 2 r c.tag tNew.toNat).bump (CELL_FE_CNT_CORR_CORR n)).updPage n idx (fun p => p.updRow r (fun w =>
          { w with tCorr := m.t,
                   fly := w.fly.map (fun d => if d.line = c.line then { d with tSent := tNew.toNat, tCorr := m.t } else d) }))
      else s

/-- Whether data line `i` of a page is the last line that has entered its cell. -/
def Cell.lastIn (c : Cell) (idx i : Nat) : Bool :=
  match (c.tails ++ c.cur.toList).reverse.find? (fun p => 0 < p.entered) with
  | some p => p.idx == idx && p.entered == i + 1
  | none => false

/-- A line-buffer error of cell `m` of the crew, found when a row reads its line (R143): the corrected one is counted, the other mutes the rows not
mapped, in both cells of a gang (R162). -/
def State.lbError (s : State) (n idx i m : Nat) (uncorr : Bool) (line : Nat) : State :=
  if !uncorr then (s.bump (CELL_CNT_ECC_CORR m)).report srcCellLbEcc m 1 initCell m accRead (line % 2 ^ 32)
  else
    let s := (s.bump (CELL_CNT_ECC_UNCORR m)).report srcCellLbEcc m 2 initCell m accRead (line % 2 ^ 32)
    let was := match (s.cell n).pageAt idx with
      | some p => p.flight.any (fun l => l.line == i && l.muted)
      | none => true
    let last := (s.cell n).lastIn idx i
    let s := if was then s else (s.crew n).foldl (fun s k =>
      let s := s.bump (CELL_CNT_MUTE k)
      if last then s.wr (CELL_STATE_MUTED k) 1 else s) s
    let s := s.updPage n idx (fun p => ((p.defectFlight i).flag cfDefective).flag cfMuted)
    (s.crew n).foldl (fun s k => s.updPage k idx (fun p =>
      { p with flight := p.flight.map (fun l => if l.line = i then { l with muted := true } else l) })) s

/-- A memory error that a row of a page meets as it maps its line: in the line buffer (R143), or in a bank or mask, where an uncorrectable one fences the
cell (R158). A ladder reads neither (R149). -/
def State.rowError (s : State) (n idx i line : Nat) (e : RowErr) : State :=
  let m := if e.mate && s.ganged n then n + 1 else n
  match (s.cell n).pageAt idx with
  | none => s
  | some p =>
    if p.ladder.isSome then s
    else if !e.bank then s.lbError n idx i m e.uncorr line
    else if e.uncorr then (s.bump (CELL_CNT_ECC_UNCORR m)).fence m fcMapEcc
    else (s.bump (CELL_CNT_ECC_CORR m)).report srcCellMapEcc m 1 initCell m accRead 0

/-- The first read outside the window in a page (R149). -/
def State.noteRange (s : State) (n idx : Nat) (p : PageRun) (outside : Bool) : State :=
  if outside && !p.rangeSeen then
    (s.report srcCellMapRange n 0 initCell n accNone 0).updPage n idx (fun p => { p with rangeSeen := true })
  else s

/-- Commit data line `i` for row `r` at fire time `t` (R180): map the row's nozzles, or take the data kept at a withdrawal. -/
def State.commit (s : State) (n idx r i t tk : Nat) (kept : Option Commit) (err : Option RowErr) : State :=
  let line := match (s.cell n).pageAt idx with | some p => p.pageLine i | none => i
  let s := match err, kept with
    | some e, none => s.rowError n idx i line e
    | _, _ => s
  match (s.cell n).pageAt idx with
  | none => s
  | some p =>
    let l := (p.flight.find? (fun l => l.line == i)).getD ⟨i, false, false, s.fgBank n, false, 0⟩
    let c : Commit := match kept with
      | some c => { c with tSent := t, tCorr := tk, sent := false, late := false }
      | none =>
        let mate := if s.ganged n then
            (match (s.cell (n + 1)).pageAt idx with
             | some q =>
               let lb := (q.flight.find? (fun l => l.line == i)).map (·.bank)
               s.rowData (n + 1) { q with par := p.par, p0 := p.p0 } (lb.getD 0) i r l.muted
             | none => [])
          else []
        ⟨i, t, tk, false, l.muted, l.tag, false, s.rowData n p l.bank i r l.muted, mate⟩
    let s := if kept.isNone && !l.muted then
        (s.crew n).foldl (fun s m =>
          match (s.cell m).pageAt idx with
          | some q =>
            let bank := ((q.flight.find? (fun l => l.line == i)).map (·.bank)).getD l.bank
            s.noteRange m idx q (s.rowOutside m { q with par := p.par, p0 := p.p0 } bank i r)
          | none => s) s
      else s
    let s := s.updPage n idx (fun p => p.updRow r (fun w =>
      { w with next := if kept.isSome then w.next else i + 1, back := if kept.isSome then w.back.drop 1 else w.back,
               fly := insCommit w.fly c }))
    (s.crew n).foldl (fun s m => s.updPage m idx PageRun.freeRows) s

/-- The leading row's lag of a line in 2⁻³² / 5¹⁸ wu against LAG_MAX, 0 meaning half the fired-line pitch (R186). -/
def PageRun.lagOver (p : PageRun) (lag : Int) : Bool :=
  if p.par.lagMax = 0 then decide (((p.stride * p.par.pitch * fine : Nat) : Int) < 2 * lag)
  else decide (((p.par.lagMax * 2 ^ 32 * fine : Nat) : Int) < lag)

/-- Skip a line whose lag is too great (R186). -/
def State.skipLine (s : State) (n : Nat) (p : PageRun) (r i : Nat) (v : Int) (overspeed : Bool) : State :=
  let s := s.enterLine n p i v true
  let s := (s.updPage n p.idx (fun p => ((p.flag cfOverspeed).flag cfDefective).updRow r (fun w => { w with next := i + 1 }))).wr
    (CELL_FE_STAT_SKIP_CAUSE n) (if overspeed then 1 else 2)
  if overspeed then (s.bump (CELL_FE_CNT_SKIP_SKIP_OVS n)).report srcOverspeed n 2 initCell n accNone 0
  else (s.bump (CELL_FE_CNT_SKIP_SKIP_LATE n)).report srcFeLate n 2 initCell n accNone 0

/-- One row tries to commit its next line at a sample (R179, R186). -/
def State.tryCommit (s : State) (n idx r : Nat) (m : Sample) (err : Option RowErr) : State :=
  match (s.cell n).pageAt idx with
  | none => s
  | some p =>
    let row := p.row? r
    let kept := row.back.head?
    let i := match kept with | some c => c.line | none => row.next
    let leading := r == p.leading
    if p.lines ≤ i ∨ (!leading && decide (p.entered ≤ i)) then s
    else
      let id := p.ideal s.free m i r
      let s := s.draw
      match id with
      | none => s
      | some tid =>
        if (m.t : Int) < tid - p.par.lead - 400 then s
        else if kept.isNone && p.flight.any (fun l => l.line == i && l.skipped) then
          s.updPage n idx (fun p => p.updRow r (fun w => { w with next := i + 1 }))
        else
          let soonest : Int := m.t + p.par.lead + 400
          let spaced : Option Int := (row.prevTime i).map (fun t => ((t + p.par.lineMin : Nat) : Int))
          let others := max tid soonest
          let tAct := match spaced with | none => others | some t => max others t
          if leading && kept.isNone && decide (p.entered ≤ i) then
            let lag := (m.v.natAbs : Int) * (tAct - tid)
            if p.lagOver lag then
              s.skipLine n p r i m.v (match spaced with | none => false | some t => decide (others ≤ t))
            else
              let s := ((s.wr (CELL_FE_LAG_LAG n) (min (s.divOpen lag (2 ^ 32 * fine)).toNat 0xFFFFFF)).wrB (CELL_FE_STAT_LAGGING n)
                (decide (0 < lag))).draw
              (s.enterLine n p i m.v false).commit n idx r i tAct.toNat m.t none err
          else s.commit n idx r i tAct.toNat m.t kept err

/-! ## Loss of the source (R193) -/

/-- A page in print whose source has become invalid (R193): what can be withdrawn is, what cannot fires at its sent time and is reported (R182), and
the page
completes ABORTED and DEFECTIVE with every unfired line defective. -/
def State.losePage (s : State) (n idx : Nat) : State :=
  match (s.cell n).pageAt idx with
  | none => s
  | some p =>
    let cs := p.rows.zipIdx.flatMap (fun e => e.1.fly.map (fun c => (e.2, c)))
    let late (c : Commit) : Bool := decide (c.tSent < s.now + s.crewDelay n + 500)
    let gone := cs.filter (fun e => late e.2 && e.2.sent)
    let s := (cs.filter (fun e => !late e.2)).foldl (fun s e => s.withdraw n e.1 e.2) s
    let s := (gone.filter (fun e => !e.2.late)).foldl (fun s _ => s.report srcFeLateWithdraw n 0 initCell n accNone 0) s
    let s := s.updCell n (fun c => { c with orphans := c.orphans ++ gone })
    let s := if p.ladder.isSome then (s.crew n).foldl (fun s m => s.ladderMuted m p) s else s
    s.endPage n ({ p.defectRest.flag cfDefective with aborted := true })

/-- Whether a page takes its position from source `src`, or from a pair that holds encoder `src` (R194). -/
def usesEnc (src i : Nat) : Bool := src == i || ((src == 4 || src == 5) && i / 2 == src - 4 && i < 4)

/-- Every page in print of a cell that is PRINTING and whose source is invalid is lost (R193); while the cell is ARMED only R173 applies. -/
def State.loseSources (s : State) : State :=
  s.cells.foldl (fun s e =>
    if s.follower e.1 || s.cellState e.1 != csPrinting then s
    else ((e.2.tails ++ e.2.cur.toList).filter (fun p => p.started && !(s.source p.par.src).ok)).foldl
      (fun s p => s.losePage e.1 p.idx) s) s

/-- The source of a page that a cell holds: fixed from its print start, or from the trigger taken (R592), and the shadow's before. -/
def State.sourceOf (s : State) (n : Nat) (p : PageRun) : Nat :=
  if p.started || p.ladder.isSome then p.par.src else if p.trig.isSome then p.srcFixed else s.rd (CELL_FE_CTL_SRC n)

/-- Whether an encoder input is in use by a cell that is ARMED or PRINTING (R194): by any page that the cell holds. -/
def State.encInUse (s : State) (i : Nat) : Bool :=
  s.cells.any (fun e => s.cellBusy e.1 && !s.follower e.1 && e.2.pages.any (fun p => usesEnc (s.sourceOf e.1 p) i))

end Sys2Proof.Machine
end

