-- ==== Sys2Proof/Machine/NhOps.lean ====
section
/-!
DEFINITION. The compensation policy of a cell (spec/15 R414, R415, R418 to R423): nozzle states, the updates it forms and the entries
it writes.
-/
namespace Sys2Proof.Machine

open Sys2Proof

/-! ## Nozzle states (R414, R415) -/

/-- Nozzle states. -/
def nzUnseen : Nat := 0
def nzOk : Nat := 1
def nzSuspect : Nat := 2
def nzOut : Nat := 3
def nzPinnedOk : Nat := 4
def nzPinnedOut : Nat := 5
def nzExcluded : Nat := 6

/-- A nozzle that nothing has been seen of. -/
def Noz.reset : Noz := ⟨0, 0, 0, false⟩

/-- One nozzle of a cell. -/
def Cell.nozzle (c : Cell) (k : Nat) : Noz := Store.get Noz.reset c.noz k

/-- Replace one nozzle. -/
def Cell.setNozzle (c : Cell) (k : Nat) (z : Noz) : Cell := { c with noz := Store.put Noz.reset c.noz k z }

/-- The state of a nozzle: fixed by its pin, else by its score (R414, R415). -/
def State.nzState (s : State) (n k : Nat) : Nat :=
  let pin := s.rd (CELL_NH_PIN n k)
  if pin = 1 then nzPinnedOk else if pin = 2 then nzPinnedOut else if pin = 3 then nzExcluded else ((s.cell n).nozzle k).state

/-- Whether a nozzle's state calls for compensation. -/
def State.nzBad (s : State) (n k : Nat) : Bool := s.nzState n k == nzOut || s.nzState n k == nzPinnedOut

/-! ## What an update covers (R418 to R420) -/

/-- The base entry at a key: the one kept from before the policy wrote it, else the bank's (R419, R420). -/
def baseEntry (kept : List (Nat × Kept)) (bank : List (Nat × Nat)) (key : Nat) : Nat :=
  match kept.findSome? (fun r => r.2.base.find? (fun e => e.1 == key)) with
  | some e => e.2
  | none => Store.get 0 bank key

/-- Whether a nozzle should be compensated: OUT or PINNED_OUT, with a base entry that is valid; a base with V = 0 is left alone
(R419). -/
def State.calledFor (s : State) (n : Nat) (bank : List (Nat × Nat)) (k : Nat) : Bool :=
  s.nzBad n k && bitOf (baseEntry (s.cell n).kept bank k) 15

/-- Whether the compensation in force for a nozzle differs from what its state and pin call for: it lacks one, has one too many, or a
donor of it can donate no longer (R418, R419). -/
def State.nzDiffers (s : State) (n : Nat) (bank : List (Nat × Nat)) (k : Nat) : Bool :=
  match Store.find? (s.cell n).kept k with
  | none => s.calledFor n bank k
  | some r => !s.calledFor n bank k || r.donors.any (fun m => s.nzBad n m || s.nzState n m == nzExcluded)

/-- The nozzles that the updates waiting already cover. -/
def Cell.covered (c : Cell) (k : Nat) : Bool := c.nhQ.any (fun u => u.cover.contains k)

/-- The nozzles a new update of a cell covers (R418); a VETOED nozzle waits for a change or CLEAR (R423). -/
def State.nhCover (s : State) (n : Nat) : List Nat :=
  let c := s.cell n
  let bank := c.bank (s.fgBank n)
  (List.range (s.rd (CELL_GEOM_NOZZLES n))).filter (fun k => s.nzDiffers n bank k && !(c.nozzle k).vetoed && !c.covered k)

/-- An event of the policy to the cell's owner (R425). -/
def State.nhEvent (s : State) (n code info detail : Nat) : State :=
  if s.owner .cell n < 8 then s.postGeneral (s.owner .cell n) 0x08 code n info detail else s

/-- The cause for which an update is skipped as it is formed, 0 for none (R418). -/
def State.nhSkip (s : State) (n : Nat) : Nat :=
  if !s.on (CELL_CTL_MIRROR n) then 1
  else if s.cellState n == csOff || s.cellState n == csFenced then 2
  else if s.safe then 3
  else 0

/-- The first update joins the writers that wait for the background once its hold has ended (R151, R422). -/
def State.queuePolicy (s : State) (n : Nat) : State :=
  let c := s.cell n
  match c.nhQ with
  | u :: _ =>
    if u.held || c.bgWait.contains .policy || s.rd (CELL_BANK_STAT_BG_STATE n) == bgPolicy then s
    else s.updCell n (fun c => { c with bgWait := c.bgWait ++ [.policy] })
  | [] => s

/-- Form an update: it takes the next UPD_SEQ, and is skipped, held or queued (R418, R422, R423). -/
def State.formUpdate (s : State) (n : Nat) (cover : List Nat) (overlay : Bool) : State :=
  let seq := (s.cell n).nhSeq % 65535 + 1
  let s := s.updCell n (fun c => { c with nhSeq := seq })
  let skip := s.nhSkip n
  if skip ≠ 0 then (s.wr (CELL_NH_STAT_SKIP_CAUSE n) skip).nhEvent n 3 seq skip
  else
    let held := !overlay && s.rd (CELL_NH_CTL_VETO_HOLD n) != 0
    let s := s.updCell n (fun c => { c with nhQ := c.nhQ ++ [⟨seq, cover, held, overlay⟩] })
    if held then s.nhEvent n 2 seq cover.length else s.queuePolicy n

/-- Form an update in AUTO mode when something differs (R418). -/
def State.nhUpdate (s : State) (n : Nat) : State :=
  if s.rd (CELL_NH_CTL_MODE n) = 2 && !(s.cell n).nhBlind then
    let cover := s.nhCover n
    if cover.isEmpty then s else s.formUpdate n cover false
  else s

/-- A host write to the background is overlaid before it can swap in (R421). -/
def State.nhOverlay (s : State) (n : Nat) : State :=
  if s.on (CELL_NH_CTL_OVERLAY n) && !(s.cell n).kept.isEmpty then s.formUpdate n [] true else s

/-! ## Writing an update (R419, R420) -/

/-- A MAP entry that merges its own source: V, OP MERGE, SRC. -/
def mergeMap (entry : Nat) : Nat := 0xE000 + bitsOf entry 0 13

/-- A MERGE entry of a rule and a source. -/
def mergeEntry (rule src : Nat) : Nat := rule * 0x2000 + src

/-- Compensate one nozzle against the records kept so far (R419). -/
def State.compensate (s : State) (n : Nat) (bank : List (Nat × Nat)) (kept : List (Nat × Kept)) (k : Nat) : List (Nat × Kept) :=
  let base (key : Nat) : Nat := baseEntry kept bank key
  let entry := base k
  let busy (m : Nat) : Bool := kept.any (fun r => r.2.donors.contains m)
  let usable (m : Nat) : Bool :=
    decide (m < s.rd (CELL_GEOM_NOZZLES n)) && !s.nzBad n m && s.nzState n m != nzExcluded && bitsOf (base m) 13 3 == 4 && !busy m
  let copy := bitsOf entry 13 2 == 0
  let lo := copy && decide (0 < k) && usable (k - 1)
  let hi := copy && usable (k + 1)
  let src := bitsOf entry 0 13
  let ruleLo := if hi then s.rd (CELL_NH_POL_RULE_LO n) else s.rd (CELL_NH_POL_RULE_ONE n)
  let ruleHi := if lo then s.rd (CELL_NH_POL_RULE_HI n) else s.rd (CELL_NH_POL_RULE_ONE n)
  let donor (m rule : Nat) : List (Nat × Nat) := [(m, mergeMap (base m)), (2048 + m, mergeEntry rule src)]
  let keep (m : Nat) : List (Nat × Nat) := [(m, base m), (2048 + m, base (2048 + m))]
  let rec' : Kept :=
    { base := (k, entry) :: ((if lo then keep (k - 1) else []) ++ (if hi then keep (k + 1) else [])),
      wrote := (k, 0) :: ((if lo then donor (k - 1) ruleLo else []) ++ (if hi then donor (k + 1) ruleHi else [])),
      donors := (if lo then [k - 1] else []) ++ (if hi then [k + 1] else []),
      uncov := !lo && !hi }
  Store.ins kept k rec'

/-- The entry at a key once the records stand: what the policy wrote, else the base. -/
def finalEntry (kept : List (Nat × Kept)) (old : List (Nat × Kept)) (bank : List (Nat × Nat)) (key : Nat) : Nat :=
  match kept.findSome? (fun r => r.2.wrote.find? (fun e => e.1 == key)) with
  | some e => e.2
  | none => baseEntry old bank key

/-- The kept records after an update and the entries to write, when the nozzles of `cover` are taken anew, in ascending order. -/
def State.planUpdate (s : State) (n : Nat) (bank : List (Nat × Nat)) (old : List (Nat × Kept)) (cover : List Nat) :
    List (Nat × Kept) × List (Nat × Nat) :=
  let left := old.filter (fun r => !cover.contains r.1)
  let gone := old.filter (fun r => cover.contains r.1)
  -- the bank as it stands with the covered records undone
  let undo := gone.flatMap (fun r => r.2.base)
  let bank' := undo.foldl (fun m e => Store.put 0 m e.1 (baseEntry old bank e.1)) bank
  let kept := cover.foldl (fun kept k =>
    if s.nzBad n k && bitOf (baseEntry kept bank' k) 15 then s.compensate n bank' kept k else kept) left
  let keys := (gone ++ kept.filter (fun r => cover.contains r.1)).flatMap (fun r => r.2.wrote.map (·.1))
  (kept, keys.eraseDups.map (fun key => (key, finalEntry kept old bank' key)))

/-- In an overlay the host's entries become the new base where they differ from what the policy wrote (R421). -/
def rebase (bank : List (Nat × Nat)) (r : Kept) : Kept :=
  { r with base := r.base.map (fun e =>
      match r.wrote.find? (fun w => w.1 == e.1) with
      | some w => if Store.get 0 bank e.1 = w.2 then e else (e.1, Store.get 0 bank e.1)
      | none => e) }

/-- Flag and report the nozzles that an update leaves UNCOVERED (R419, R425, R426). -/
def State.noteUncovered (s : State) (n seq : Nat) (old kept : List (Nat × Kept)) : State :=
  (kept.filter (fun r => r.2.uncov && !(old.any (fun o => o.1 == r.1 && o.2.uncov)))).foldl (fun s r =>
    (s.report srcNhUncovered n 1 initCell n accNone r.1).nhEvent n 4 r.1 seq) s

/-- Write an update into the background, whose lock the policy holds. -/
def State.writeUpdate (s : State) (n : Nat) (u : NhUpdate) : State :=
  let c := s.cell n
  let bank := c.bank (if u.overlay then 1 - s.fgBank n else s.fgBank n)
  let based := if u.overlay then c.kept.map (fun r => (r.1, if r.2.replaced bank then rebase bank r.2 else r.2)) else c.kept
  let cover := if u.overlay then (c.kept.filter (fun r => r.2.replaced bank)).map (·.1) else u.cover
  let plan := s.planUpdate n bank based cover
  ((s.updCell n (fun c => { c with kept := plan.1 })).putBg n plan.2).noteUncovered n u.seq c.kept plan.1

end Sys2Proof.Machine
end

