-- ==== Sys2Proof/Machine/Cell.lean ====
section
/-!
DEFINITION. The commands of the print cell (spec/05): enabling, disabling, the self-test of a release, the background bank, and the
taking of PAGE and LADDER descriptors (R129 to R137, R160, spec/15 R404 to R406).
-/
namespace Sys2Proof.Machine

open Sys2Proof

/-! ## Enable and disable (R128, R131) -/

/-- A write of CTL.EN = 1 (R131). No page has printed since it, unless one is in print (R171). -/
def State.cellOn (s : State) (n : Nat) : State :=
  let s := if s.cellState n == csPrinting then s else s.updCell n (fun c => { c with prev := none })
  if s.cellState n == csFenced then s.wr (CELL_CTL_EN n) 1
  else if (s.cell n).goingOff then s.updCell n (fun c => { c with enHeld := true })
  else if s.cellState n == csOff then ((s.restartCounts n).wr (CELL_CTL_EN n) 1).wr (CELL_STATE_STATE n) csIdle
  else s.wr (CELL_CTL_EN n) 1

/-- A write of CTL.EN = 0 (R131). A gang prints with both of its cells, so the pages that a gang has taken end with either. -/
def State.cellOff (s : State) (n : Nat) : State :=
  let st := s.cellState n
  let s := s.wr (CELL_CTL_EN n) 0
  if st == csPrinting then
    let s := s.updCell n (fun c => { c with goingOff := true, enHeld := false })
    let s := (s.abortRing (2 * n)).abortRing (2 * n + 1)
    if s.follower n then
      let s := ((s.cell (s.leader n)).cur.toList).foldl (fun s p => if p.started then s.updPage (s.leader n) p.idx PageRun.abort else s) s
      ((s.cell (s.leader n)).nxt.toList).foldl (fun s p => s.dropPage (s.leader n) p.idx) s
    else s
  else if st == csArmed then
    let s := (s.abortRing (2 * n)).abortRing (2 * n + 1)
    let s := if s.follower n then
        ((s.cell (s.leader n)).cur.toList).foldl (fun s p => if p.started then s else s.endPage (s.leader n) p.abortArmed) s
      else s
    s.wr (CELL_STATE_STATE n) csOff
  else if st == csIdle then s.wr (CELL_STATE_STATE n) csOff
  else if (s.cell n).goingOff then s.updCell n (fun c => { c with enHeld := false })
  else s

/-- CELL_ENABLE: a write of CELL[n].CTL.EN = 1. -/
def execCellEnable (who : Sender) (n : CellId) (s : State) : Host.Outcome State Fault Refusal :=
  .next (s.gatedWrite who (CELL_CTL_EN n.val) 1 (fun s => s.memGate who (CELL_CTL_EN n.val) (fun s => s.cellOn n.val)))

/-- CELL_DISABLE: a write of CELL[n].CTL.EN = 0. -/
def execCellDisable (who : Sender) (n : CellId) (s : State) : Host.Outcome State Fault Refusal :=
  .next (s.gatedWrite who (CELL_CTL_EN n.val) 0 (fun s => s.memGate who (CELL_CTL_EN n.val) (fun s => s.cellOff n.val)))

/-- CELL_SELFTEST_DONE: the self-test of a granted release ends (R159). After MAP_ECC the banks and masks take their reset values; a
cell that fails stays FENCED with cause LOCKSTEP. -/
def execCellSelftestDone (n : CellId) (pass : Bool) (s : State) : Host.Outcome State Fault Refusal :=
  let n := n.val
  if !(s.cell n).selfTest || s.cellState n != csFenced then .next s
  else
    let s := s.updCell n (fun c => { c with selfTest := false })
    if !pass then
      .next (((s.wr (CELL_STATE_FENCE_CAUSE n) fcLockstep).bump (GOOSE_FENCE_STAT_FENCES n)).report srcCellLockstep n 2 initCell n accNone 0)
    else
      let s := if s.rd (CELL_STATE_FENCE_CAUSE n) == fcMapEcc then
          let lo := (CELL_MASK_A n 0).key
          let hi := (CELL_MASK_B n 2047).key
          ({ s with regs := s.regs.filter (fun e => !decide (lo ≤ e.1 ∧ e.1 ≤ hi)) } : State).updCell n
            (fun c => { c with bank0 := [], bank1 := [] })
        else s
      let s := (s.wr (CELL_STATE_STATE n) (if s.on (CELL_CTL_EN n) then csIdle else csOff)).wr (CELL_STATE_FENCE_CAUSE n) 0
      .next ((s.updCell n (fun c => { c with fenceSrc := 0 })).unhaltLane n)

/-! ## The background bank (R150 to R154, R162) -/

/-- A request for a bank swap: for both cells of a gang; a cell that is FENCED discards it (R152, R154, R162). -/
def State.requestSwap (s : State) (n : Nat) : State :=
  if s.cellState n == csFenced then s
  else ((s.crew n).filter (fun m => s.cellState m != csFenced)).foldl (fun s m => s.wr (CELL_BANK_STAT_SWAP_PEND m) 1) s

/-- The effect of CTL.SWAP_REQ: an overlay of the policy comes first (spec/15 R421). -/
def State.swapReq (s : State) (n : Nat) : State := if s.cellState n == csFenced then s else (s.nhOverlay n).requestSwap n

/-- SWAP_REQ: a write of CTL.SWAP_REQ. -/
def execSwapReq (who : Sender) (n : CellId) (s : State) : Host.Outcome State Fault Refusal :=
  .next (s.gatedWrite who (CELL_CTL_SWAP_REQ n.val) 1 (fun s => s.swapReq n.val))

/-- RETIRING_END: the last row has mapped the last line that the old foreground serves (R153). -/
def execRetiringEnd (n : CellId) (s : State) : Host.Outcome State Fault Refusal :=
  let n := n.val
  if s.rd (CELL_BANK_STAT_BG_STATE n) == bgRetiring && !s.retiringLeft n (1 - s.fgBank n) then .next (s.leaveRetiring n) else .next s

/-- MIRROR_DONE: the copy of the foreground into the background ends (R153). -/
def execMirrorDone (n : CellId) (s : State) : Host.Outcome State Fault Refusal :=
  let n := n.val
  if s.rd (CELL_BANK_STAT_BG_STATE n) == bgMirroring then
    let fg := s.fgBank n
    .next ((s.updCell n (fun c => c.setBank (1 - fg) (c.bank fg))).wr (CELL_BANK_STAT_BG_STATE n) bgReady)
  else .next s

/-- The effect of a register write of two entries of the background bank: taken in READY only (R151, R163). -/
def State.bgWrite (s : State) (who : Sender) (n : Nat) (merge : Bool) (word value : Nat) : State :=
  if s.rd (CELL_BANK_STAT_BG_STATE n) == bgReady then
    let key := 2048 * b2n merge + 2 * word
    s.putBg n [(key, value % 65536), (key + 1, value / 65536)]
  else (s.bump (CELL_BANK_STAT_BG_WR_DROP n)).cfgLive who (0x1000000 + 0x10000 * n + 0x4000 + 0x1000 * b2n merge + 4 * word)

/-- BG_TABLE_WRITE: a register write of two entries of the background bank (R151, R163). -/
def execBgTableWrite (who : Sender) (n : CellId) (merge : Bool) (word : Fin 1024) (value : Word) (s : State) :
    Host.Outcome State Fault Refusal :=
  let addr := 0x1000000 + 0x10000 * n.val + 0x4000 + 0x1000 * b2n merge + 4 * word.val
  match s.gateWrite who addr 4 with
  | .pass => .next (s.bgWrite who n.val merge word.val value.toNat)
  | .hold => .next s
  | .drop s => .next s

/-- TEMP_HOLD_EXPIRY: the head has been below TEMP_CLEAR for HOLD_TIME and its mute ends (R157). -/
def execTempHoldExpiry (n : CellId) (s : State) : Host.Outcome State Fault Refusal :=
  let n := n.val
  if s.on (CELL_TEMP_STAT_TRIP n) && decide (s.rdS (CELL_TEMP_STAT_TEMP n) < s.rdS (CELL_TEMP_CLR_TEMP_CLEAR n)) then
    let pause := (s.cell n).pause
    let s := (s.wr (CELL_TEMP_STAT_TRIP n) 0).updCell n (fun c => { c with pause := false })
    .next (if pause then s.refreshStop else s)
  else .next s

/-! ## MAPLOAD (R151, spec/02) -/

/-- A little-endian list of 16-bit entries. -/
def entries16 (bs : List Byte) : Nat → List Nat
  | 0 => []
  | n + 1 => leAt bs 0 2 :: entries16 (bs.drop 2) n

/-- MAPLOAD: the entries of a MAPLOAD are read, and it waits for the background (R151). -/
def execMapload (n : CellId) (result : ReadResult) (s : State) : Host.Outcome State Fault Refusal :=
  let n := n.val
  let q := 2 * n
  match s.takeable q tyMapload with
  | none => .next s
  | some d =>
    let k := s.ringOwner q
    let count := d.u16 16 * (b2n (d.bit 12 0) + b2n (d.bit 12 1))
    let addr := d.u64 4
    if s.cellState n == csFenced then .next s
    else if !s.readEnds k addr result then .next s
    else if !s.mayReadMem k addr (2 * count) then .next ((s.memXs k addr false).finishSt q d.idx stRefused)
    else
      match s.dmaRead initCell n addr (2 * count) result with
      | (s, none) => .next (s.finishSt q d.idx stDmaErr)
      | (s, some bs) =>
        .next ((s.setPhase q d.idx .started).updCell n (fun c =>
          { c with bgWait := c.bgWait ++ [.mapload d.idx (entries16 bs count)] }))

/-- MAPLOAD_LOCK: the first writer that waits is a MAPLOAD, the background is READY, and it takes the lock (R151). -/
def execMaploadLock (n : CellId) (s : State) : Host.Outcome State Fault Refusal :=
  let n := n.val
  if s.rd (CELL_BANK_STAT_BG_STATE n) != bgReady then .next s
  else
    match (s.cell n).bgWait with
    | .mapload idx es :: rest =>
      let s := (s.updCell n (fun c => { c with bgWait := rest, holder := some (idx, es) })).wr (CELL_BANK_STAT_BG_STATE n) bgHost
      .next (s.nhOverlay n)
    | _ => .next s

/-- MAPLOAD_WRITE_DONE: the MAPLOAD that holds the lock writes its last entry (R151, R152). -/
def execMaploadWriteDone (n : CellId) (s : State) : Host.Outcome State Fault Refusal :=
  let n := n.val
  match (s.cell n).holder with
  | none => .next s
  | some (idx, es) =>
    match s.descAt (2 * n) idx with
    | none => .next s
    | some d =>
      let s := ((s.putBg n (maploadWrites d es)).updCell n (fun c => { c with holder := none })).wr (CELL_BANK_STAT_BG_STATE n) bgReady
      if d.bit 1 2 then .next ((s.updCell n (fun c => { c with swapIdx := c.swapIdx ++ [idx] })).requestSwap n)
      else .next (s.finishSt (2 * n) idx stOk)

/-! ## Taking a page (R129, R130, R134 to R137, R160, R161, R264) -/

/-- Columns of the cell's window by the shadow of WIN.WIDTH. -/
def State.winCols (s : State) (n : Nat) : Nat := 64 * s.rd (CELL_WIN_WIDTH n)

/-- Line-buffer capacity C (R136). -/
def lbCapacity (cols depth : Nat) : Nat := min 512 (1048576 / max 1 (cols * depth))

/-- Whether GEOM obeys R134 and agrees with the identity page of the head (R277). -/
def State.geomOk (s : State) (n : Nat) : Bool :=
  let noz := s.rd (CELL_GEOM_NOZZLES n)
  let w := s.rd (LINK_HEAD_IDENT1 n 1)
  decide (1 ≤ noz ∧ noz ≤ 2048) && noz % s.jetRows n == 0 &&
  noz == bitsOf w 0 16 && s.jetRows n == bitsOf w 16 8 && s.rd (CELL_GEOM_LAYOUT n) == bitsOf w 24 8

/-- The row numbers that the shadow of FE_ROWS.EN enables. -/
def State.enabledRows (s : State) (n : Nat) : List Nat :=
  (List.range (s.jetRows n)).filter (fun r => bitOf (s.rd (CELL_FE_ROWS_EN (s.leader n))) r)

/-- Whether the lane carries the frames of one line within 80 % of LINE_MIN (R264). -/
def State.laneCarries (s : State) (n depth : Nat) : Bool :=
  let rows := s.enabledRows n
  let f := rows.foldl (fun f r => f + ceilDiv ((s.rowNozzles n r).length * depth) 256 + 1) 0
  let lineMin := max 5000 (s.rd (CELL_FE_LINE_MIN (s.leader n)))
  decide (f * frameTime (rateCode (s.rd (LINK_LL_STAT_RATE n))) ≤ 80 * lineMin)

/-- The status with which a gang's page completes when a condition of R160 fails, if one does. -/
def State.gangBad (s : State) (n k : Nat) : Option Nat :=
  if !s.ganged n then none
  else
    let m := n + 1
    if s.rd (CELL_GEOM_NOZZLES n) != 2048 || s.rd (CELL_GEOM_NOZZLES m) != 2048 || s.jetRows n != s.jetRows m ||
        s.rd (CELL_GEOM_LAYOUT n) != s.rd (CELL_GEOM_LAYOUT m) || !(s.jetRows n == 1 || s.jetRows n == 2 || s.jetRows n == 4 || s.jetRows n == 8) ||
        !s.on (CELL_CTL_EN n) || !s.on (CELL_CTL_EN m) then some stBadDesc
    else if s.owner .cell n != k || s.owner .cell m != k then some stRefused
    else none

/-- What a PAGE and a LADDER need alike at the fetch start: a legal GEOM, an enabled row, and a lane that carries it (R134, R166,
R264). -/
def State.takeOk (s : State) (n depth : Nat) : Bool :=
  (s.crew n).all (fun m => s.geomOk m && s.laneCarries m depth) && !(s.enabledRows n).isEmpty

/-- Whether PITCH is in range (R165). -/
def pitchOk (p : Nat) : Bool := decide (256 * 2 ^ 32 ≤ p ∧ p ≤ 16777215 * 2 ^ 32)

/-- Whether a cell of the crew accepts the page's window and line buffer (R64, R135, R137). -/
def State.windowOk (s : State) (n m strips depth lb span : Nat) : Bool :=
  let w := s.rd (CELL_WIN_WIDTH m)
  decide (1 ≤ w ∧ w ≤ 128) && decide (s.rd (CELL_WIN_BASE m) < strips * 1024) &&
  decide (lb + span + 8 ≤ lbCapacity (64 * w) depth) && decide (n ≤ m)

/-- Whether the last block row of a page has begun decoding (R130). -/
def PageRun.lastBegun (p : PageRun) : Bool :=
  p.ladder.isSome ||
  (decide (ceilDiv p.lines p.lb ≤ p.nextRow) && (match p.row with | none => true | some r => r.faulted || !r.blocks.isEmpty))

/-- Whether a cell may take a page or ladder now (R128, R130, R244, R265, R486): IDLE, or PRINTING with PREFETCH once the last block
row of its page has begun decoding, at the same depth and window width. `depth` is the new page's. -/
def State.mayTake (s : State) (n depth : Nat) : Bool :=
  !s.safe && (s.crew n).all s.laneReady &&
  (if s.cellState n == csIdle then (s.cell n).cur.isNone && !(s.cell n).goingOff && (s.crew n).all (fun m => s.cellState m == csIdle)
   else if s.cellState n == csPrinting then
     (s.cell n).nxt.isNone && !(s.cell n).goingOff && s.on (CELL_CTL_PREFETCH n) &&
     (match (s.cell n).cur with
      | some p => p.started && p.depth == depth &&
          (s.crew n).all (fun m =>
            match (s.cell m).pageAt p.idx with | some q => q.lastBegun && q.winWidth == s.rd (CELL_WIN_WIDTH m) | none => false)
      | none => false)
   else false)

/-- The first strip of a window, and the strip after its last, limited to the page (R95). -/
def firstStrip (base : Nat) : Nat := base / 1024
def endStrip (base cols strips : Nat) : Nat := min strips ((base + cols - 1) / 1024 + 1)

/-- A page just taken by cell `m`, before anything of it is fetched. -/
def State.newRun (s : State) (m : Nat) (d : Desc) (par : FireParams) (depth bsize lines stride phase strips trig : Nat) (dir : Bool)
    (ladder : Option LadderRun) : PageRun where
  idx := d.idx
  tagId := d.tag
  dir := dir
  nokey := d.bit 1 3
  table := d.u64 4
  nonce := d.u64 12
  lines := lines
  keySlot := bitsOf (d.u8 24) 0 6
  trigKind := trig
  edge := d.bit 25 4
  strips := strips
  depth := depth
  bsize := bsize
  stride := stride
  phase := phase
  winBase := s.rd (CELL_WIN_BASE m)
  winWidth := s.rd (CELL_WIN_WIDTH m)
  ladder := ladder
  entB := 0
  entS := firstStrip (s.rd (CELL_WIN_BASE m))
  entWait := false
  entRetry := false
  entAgain := false
  entries := []
  row := none
  nextRow := 0
  ready := []
  armedAt := s.now
  trig := none
  arrived := false
  srcFixed := 0
  started := false
  startAt := 0
  p0 := 0
  par := par
  masks := []
  entered := 0
  rows := []
  flight := []
  past := []
  muteAll := false
  fired := 0
  defects := 0
  firstDef := none
  cflags := 0
  fenced := false
  authFail := false
  dmaErr := false
  aborted := false
  rangeSeen := false
  lastFire := 0

/-- A crew takes a page: it becomes the page to fetch next of each cell, at its fetch start (R129). -/
def State.takePage (s : State) (n : Nat) (d : Desc) (run : Nat → PageRun) : State :=
  let s := s.setPhase (2 * n) d.idx .started
  let s := (s.crew n).foldl (fun s m =>
    let p := run m
    let s := (s.enforce (CELL_WIN_BASE m)).enforce (CELL_WIN_WIDTH m)
    let s := s.wr (CELL_LB_STAT_CAP m) (lbCapacity (64 * p.winWidth) p.depth)
    if (s.cell m).cur.isNone then (s.updCell m (fun c => { c with cur := some p })).wr (CELL_STATE_STATE m) csArmed
    else (s.updCell m (fun c => { c with nxt := some p })).wr (CELL_STATE_NEXT_TAKEN m) 1) s
  s.condTrigger n

/-- Whether a key slot holds a key of context `k` with a usage bit (R48, spec/17 R462): bit 0 DECRYPT, bit 1 ENCRYPT. -/
def State.keyFits (s : State) (k slot use : Nat) : Bool :=
  s.on (VAULT_SLOT_STAT_VALID slot) && s.rd (VAULT_SLOT_STAT_OWNER slot) == k && bitOf (s.rd (VAULT_SLOT_STAT_USAGE slot)) use

/-- What a PAGE completes with at its fetch start when the cell does not accept it. -/
def State.pageBad (s : State) (n : Nat) (d : Desc) : Option Nat :=
  let k := s.ringOwner (2 * n)
  let depth := depthBits (bitsOf (d.u8 27) 0 2)
  let bsize := bitsOf (d.u8 27) 2 3
  let lb := linesPerBlock bsize depth
  let span := rowSpan (s.jetRows n) (s.rd (CELL_FE_ROWS_EN n)) (s.rowOffs n) (d.u8 28 * s.pitch n)
  match s.gangBad n k with
  | some st => some st
  | none =>
    if !s.takeOk n depth || !pitchOk (s.pitch n) || s.rd (CELL_FE_CTL_SRC n) == 7 ||
        (bitsOf (d.u8 25) 0 4 == 5 && (s.cell n).prev.isNone) ||
        !(s.crew n).all (fun m => s.windowOk n m (d.u8 26) depth lb span) then some stBadDesc
    else none

/-- The bytes of a page's block table (R90). -/
def tableSize (d : Desc) : Nat :=
  16 * (d.u8 26 * ceilDiv (pageLines (d.u32 20)) (linesPerBlock (bitsOf (d.u8 27) 2 3) (depthBits (bitsOf (d.u8 27) 0 2))))

/-- PAGE: the cell takes a PAGE at its fetch start, or completes it with the status of the check it fails; one posted on a gang that fails a condition
of R160 does not wait. -/
def execPage (n : CellId) (s : State) : Host.Outcome State Fault Refusal :=
  let n := n.val
  let q := 2 * n
  match s.takeable q tyPage with
  | none => .next s
  | some d =>
    let depth := depthBits (bitsOf (d.u8 27) 0 2)
    let k := s.ringOwner q
    if s.follower n then .next (s.finishSt q d.idx stBadDesc)
    else if !s.mayTake n depth && (s.gangBad n k).isNone then .next s
    else
      match s.pageBad n d with
      | some st => .next ((if st = stRefused then s.descXs k q d.idx else s).finishSt q d.idx st)
      | none =>
        if !s.mayReadMem k (d.u64 4) (tableSize d) then .next ((s.memXs k (d.u64 4) false).finishSt q d.idx stRefused)
        else if !d.bit 1 3 && !s.keyFits k (bitsOf (d.u8 24) 0 6) 0 then
          .next ((s.descXs k q d.idx).finishSt q d.idx stRefused)
        else
          let par := s.fireParams n (d.bit 1 2) (s.rd (CELL_FE_CTL_SRC n))
          .next (s.takePage n d (fun m => s.newRun m d par depth (bitsOf (d.u8 27) 2 3) (pageLines (d.u32 20)) (d.u8 28) (d.u8 29)
            (d.u8 26) (bitsOf (d.u8 25) 0 4) (d.bit 1 2) none))

/-- LADDER: the cell takes a LADDER to print after the preceding page, or completes it with BAD_DESC (spec/15 R404 to R406). -/
def execLadder (n : CellId) (s : State) : Host.Outcome State Fault Refusal :=
  let n := n.val
  let q := 2 * n
  match s.takeable q tyLadder with
  | none => .next s
  | some d =>
    if s.follower n then .next (s.finishSt q d.idx stBadDesc)
    else
      match (s.cell n).prev with
      | none => if s.mayTake n 0 || s.cellState n == csIdle && !s.safe then .next (s.finishSt q d.idx stBadDesc) else .next s
      | some prev =>
        if !s.mayTake n prev.depth then .next s
        else
          let blank := max 1 (s.rd (CELL_NH_LADDER_BLANK n))
          let step := if d.u8 12 % 64 = 0 then 64 else d.u8 12 % 64
          let lines := d.u16 4
          let level := d.u8 13 % 16
          let s := (s.crew n).foldl (fun s m => s.enforce (CELL_NH_LADDER_BLANK m)) s
          match s.gangBad n (s.ringOwner q) with
          | some st => .next ((if st = stRefused then s.descXs (s.ringOwner q) q d.idx else s).finishSt q d.idx st)
          | none =>
            if !s.takeOk n prev.depth || decide (4 ≤ d.u8 6) || decide (2 ^ prev.depth ≤ level) || decide (2048 < d.u16 8 + d.u16 10) ||
                (decide (d.u8 6 ≤ 1) && decide (lines < blank + 2 * step)) then .next (s.finishSt q d.idx stBadDesc)
            else
              let par0 := s.fireParams n prev.dir prev.src
              let par : FireParams := { par0 with pitch := prev.pitch, blank := blank }
              .next (s.takePage n d (fun m => s.newRun m d par prev.depth 0 lines 1 0 0 5 prev.dir
                (some ⟨d.u8 6, d.u8 7, d.u16 8, d.u16 10, step, level⟩)))

end Sys2Proof.Machine
end

