-- ==== Sys2Proof/Machine/TimeOps.lean ====
section
/-!
DEFINITION. Device time (spec/16 R427 to R431): validity, the tick, steps and slews, PPS_OUT, and the presentation of domain triggers
(R448).
-/
namespace Sys2Proof.Machine

open Sys2Proof

/-! ## PPS_OUT (R443) -/

/-- Whether PPS_OUT may run. -/
def State.ppsRuns (s : State) : Bool :=
  s.on TIME_PPS_CTL_OUT_EN && s.on TIME_STAT_VALID && (!s.on TIME_PPS_CTL_OUT_REQ_LOCK || s.on TIME_STAT_LOCKED)

/-- PPS_OUT is low at all times at which it may not run. -/
def State.ppsCheck (s : State) : State := if s.ppsRuns then s else { s with time := { s.time with ppsOut := false } }

/-! ## Validity (R428) -/

/-- STAT.RUNNING and SET, with VALID; time that becomes valid evaluates the TIME conditions that wait (R67), and while it is not valid
the virtual encoder stands still (R316). -/
def State.setTimeStat (s : State) (running set : Bool) : State :=
  let was := s.on TIME_STAT_VALID
  let s := (((s.wrB TIME_STAT_RUNNING running).wrB TIME_STAT_SET set).wrB TIME_STAT_VALID (running && set)).virtRest
  let s := s.ppsCheck
  if running && set && !was then s.evalTimes else s

/-! ## Slew (R430) -/

/-- Set what is left of a slew, in 2⁻³² ns: ADJ_REM shows it in ns, away from 0, so that it reads 0 only when none is left. -/
def State.setAdj (s : State) (x : Int) : State :=
  let ns : Int := if 0 ≤ x then (x + 4294967295) / 4294967296 else -((4294967295 - x) / 4294967296)
  (({ s with time := { s.time with adj := x } } : State).wrS TIME_ADJ_REM ns).wrB TIME_STAT_SLEWING (decide (x ≠ 0))

/-- A number of ppm of a tick, in 2⁻³² ns. -/
def State.ppm (s : State) (n : Nat) : Int := s.divOpen ((n * 8589934592 : Nat) : Int) 1000000

/-- The time that the slew would add in this tick, in 2⁻³² ns: SLEW ppm with the sign of ADJ_REM, and in the last tick only what
remains. -/
def State.slewStep (s : State) : Int :=
  let full := s.ppm (max 1 (s.rd TIME_SLEW))
  clampInt (-full) full s.time.adj

/-- The time a tick adds beyond 2 ns, in 2⁻³² ns: from the slew and from INCR_OFF, with |r| limited to RATE_LIM by reducing the slew's
share first; the Boolean says that one was limited. -/
def State.tickShare (s : State) : Int × Int × Bool :=
  let lim : Int := ((max 1 (s.rd TIME_RATE_LIM) * 8589934592 : Nat) : Int) / 1000000
  let inc := s.rdS TIME_INCR_OFF
  let sl := s.slewStep
  let sl' := if 0 ≤ sl then clampInt 0 sl (lim - inc) else clampInt sl 0 (-lim - inc)
  let r := clampInt (-lim) lim (inc + sl')
  (sl', r, sl' != sl || r != inc + sl')

/-! ## Steps (R429) -/

/-- A time stamp moved with a step from `old` to `new`. -/
def moved (old new t : Nat) : Nat := t + new - old

/-- The times that the block keeps for its own intervals move with a step, so that no interval changes. -/
def State.moveTimes (s : State) (old new : Nat) : State :=
  let mv := moved old new
  let mvh (h : List (Nat × Int)) : List (Nat × Int) := h.map (fun e => (mv e.1, e.2))
  { s with
    encs := s.encs.map (fun e => (e.1, { e.2 with t := mv e.2.t, hist := mvh e.2.hist }))
    pairs := s.pairs.map (fun e => (e.1, { e.2 with hist := mvh e.2.hist }))
    virt := { s.virt with t := mv s.virt.t, hist := mvh s.virt.hist }
    axes := s.axes.map (fun e => (e.1, { e.2 with blankA := mv e.2.blankA, blankB := mv e.2.blankB }))
    slots := s.slots.map (fun e => (e.1, { e.2 with swAt := e.2.swAt.map mv }))
    links := s.links.map (fun e => (e.1, { e.2 with nakAt := e.2.nakAt.map (fun a => (a.1, mv a.2)), tlmAt := e.2.tlmAt.map mv, lockAt := mv e.2.lockAt,
                                                    train := { e.2.train with restart := e.2.train.restart.map mv } }))
    gov := { s.gov with lastEvent := s.gov.lastEvent.map mv, pwmStart := mv s.gov.pwmStart, lastPeriodic := if new = 0 then none else some (new - 1) }
    nets := s.nets.map (fun e => (e.1, { e.2 with busyTill := e.2.busyTill + 10 * new - 10 * old }))
    time := { s.time with seen := s.time.seen.map (fun e => (e.1, e.2.1, e.2.2.1, mv e.2.2.2)) } }

/-- Whether a step is refused: a cell is ARMED or PRINTING (R184, R429). -/
def State.stepBlocked (s : State) : Bool :=
  (List.range 64).any (fun n => s.cellState n == csArmed || s.cellState n == csPrinting)

/-- The cells that a domain trigger reaches: an armed page waits for DOMAIN with its number (R168). -/
def State.domainPage (s : State) (n number : Nat) : Option PageRun :=
  (s.cell n).armed.filter (fun p => p.ladder.isNone && p.trigKind == 6 && !s.follower n && s.rd (CELL_FE_CTL_DOMAIN_ID n) == number)

/-- A trigger that reaches the cells late: ignored and counted, and the page stays armed (R172). -/
def State.presentLate (s : State) (number : Nat) : State :=
  (List.range 64).foldl (fun s n => if (s.domainPage n number).isSome then s.ignoreTrig n srcFeTrigLate else s) s

/-- A trigger presented at its time: a cell acts when it was armed at an earlier tick (R448). -/
def State.present (s : State) (t : DtTrig) : State :=
  (List.range 64).foldl (fun s n =>
    match s.domainPage n t.number with
    | some p => if p.armedAt < t.time then s.takeTrigger n p t.time (s.posAt (s.pageSrc n p) t.time) else s
    | none => s) s

/-- Replace the pending triggers; DT_PENDING counts them. -/
def State.setPend (s : State) (ts : List DtTrig) : State :=
  ({ s with time := { s.time with pend := ts } } : State).wr TIME_DT_PENDING ts.length

/-- A step is taken (R429): the count, SET, and what it does to what is pending. -/
def State.takeStep (s : State) (v : Nat) : State :=
  let v := v % 2 ^ 64
  let s := s.moveTimes s.timeNs v
  let s : State := { s with timeNs := v, timeFrac := 0, time := { s.time with ppsOut := false, ppsRise := none } }
  let s := (s.setAdj 0).setTimeStat (s.on TIME_STAT_RUNNING) true
  let past := s.time.pend.filter (fun t => decide (t.time < v))
  let s := (past.map (·.number)).foldl State.presentLate (s.setPend (s.time.pend.filter (fun t => decide (v ≤ t.time))))
  if s.on TIME_STAT_VALID then s.evalTimes else s

/-- A step is refused. -/
def State.refuseStep (s : State) : State := (s.wr TIME_STAT_STEP_REFUSED 1).report srcTimeStep 0 1 initNone 0 accNone 0

/-! ## The tick (R427) -/

/-- One tick of the TIME clock: a step that waits is taken or refused; else the effective increment is added, and the slew's share leaves
what remains of it. -/
def State.tick (s : State) : State :=
  if !s.on TIME_STAT_RUNNING then s
  else
    match s.time.step with
    | some v =>
      let s : State := { s with time := { s.time with step := none } }
      if s.stepBlocked then s.refuseStep else s.takeStep v
    | none =>
      let (sl, r, clipped) := s.tickShare
      let total : Int := (s.timeNs * 4294967296 + s.timeFrac : Nat) + 8589934592 + r
      let left := s.time.adj - sl
      let s : State := { s with timeNs := (total / 4294967296).toNat % 2 ^ 64, timeFrac := (total % 4294967296).toNat }
      let s := if s.time.adj = 0 then s else (s.setAdj left).draw
      if clipped then s.wr TIME_STAT_CLIPPED 1 else s

end Sys2Proof.Machine
end

