-- ==== Sys2Proof/Machine/Fire.lean ====
section
/-!
DEFINITION. The commands of the fire engine (spec/06): software triggers, print starts, the row step of every observer sample, sending
FIRE frames, the end of a page, lockstep, and STOP_FIRE_N.
-/
namespace Sys2Proof.Machine

open Sys2Proof

/-! ## Triggers -/

/-- A SOFT trigger reaches the cell (R168). -/
def State.softTrig (s : State) (n : Nat) : State :=
  match (s.cell n).armed with
  | some p => if p.ladder.isNone && p.trigKind == 7 && !s.follower n then s.takeTrigger n p s.now (s.posAt (s.pageSrc n p) s.now) else s
  | none => s

/-- SOFT_TRIG: a write of FE_CTL.SOFT_TRIG = 1. -/
def execSoftTrig (who : Sender) (n : CellId) (s : State) : Host.Outcome State Fault Refusal :=
  .next (s.gatedWrite who (CELL_FE_CTL_SOFT_TRIG n.val) 1 (fun s => s.softTrig n.val))

/-! ## Print start (R129, R133, R169, R592) -/

/-- The page whose trigger has been taken and whose print start may come: the armed page, or the next one once the last line of the
page in print has entered (R129, R592). -/
def Cell.starting (c : Cell) : Option PageRun :=
  match c.cur with
  | none => none
  | some p =>
    if !p.started then (if p.trig.isSome then some p else none)
    else if p.entered < p.lines then none
    else match c.nxt with
      | some q => if q.trig.isSome then some q else none
      | none => none

/-- The page of an index becomes the page in print; one that it follows keeps its last lines. -/
def Cell.promote (c : Cell) (idx : Nat) : Cell :=
  if (c.nxt.map (·.idx)) == some idx then { c with tails := c.tails ++ c.cur.toList, cur := c.nxt, nxt := none } else c

/-- What a page has in force from its print start on. -/
def State.startPar (s : State) (n : Nat) (p : PageRun) : FireParams :=
  let par := s.fireParams n p.dir (if p.ladder.isSome then p.par.src else p.srcFixed)
  { par with blank := p.par.blank, pitch := if p.ladder.isSome then p.par.pitch else par.pitch }

/-- The origin of a page for its PT (R169); that of a ladder is its PT (spec/15 R404). -/
def State.startOrigin (s : State) (n : Nat) (p : PageRun) (pt : Int) : Int :=
  if p.ladder.isSome then wrapWu (roundWu pt) else s.originFor n p.dir pt

/-- The print start of a page with PT `pt`. -/
def State.startPage (s : State) (n : Nat) (p : PageRun) (pt : Int) : State :=
  let par := s.startPar n p
  let p0 := s.startOrigin n p pt
  let rows := List.replicate (s.jetRows n) (⟨0, [], [], none, 0⟩ : RowSt)
  let span := rowSpan (s.jetRows n) par.rowsEn par.rowOff (p.stride * par.pitch)
  let s := (s.crew n).foldl (fun s m =>
    let s := (s.enforceAll (pageFields m)).updCell m (fun c => c.promote p.idx)
    let s := { s with force := Store.put 0 s.force (CELL_FE_CTL_SRC m).key par.src }
    let s := s.updPage m p.idx (fun q => { q with started := true, startAt := s.now, p0 := p0, par := par, rows := rows, masks := s.maskWords m })
    (s.wr (CELL_LB_SPAN_SPAN m) span).wr (CELL_STATE_NEXT_TAKEN m) 0) s
  let s := (s.wr2 (CELL_FE_P0_P0_LO n) (CELL_FE_P0_P0_HI n) (toBits 48 p0)).wrB (CELL_FE_STAT_DIR n) p.dir
  let s := (s.wr (CELL_FE_STAT_SWITCHED n) 0).updCell n (fun c =>
    { c with prev := some ⟨p.dir, p0, p.pageLine (p.lines - 1), par.pitch, par.src, p.depth⟩ })
  ((s.setPhase (2 * n) p.idx .printing).settleCrew n).syncEvent 1 n none

/-- PRINT_START: the page whose trigger has been taken starts; not while its source is invalid (R193). -/
def execPrintStart (n : CellId) (s : State) : Host.Outcome State Fault Refusal :=
  let n := n.val
  if s.follower n || s.safe || !(s.cellBusy n) then .next s
  else
    match (s.cell n).starting with
    | some p =>
      match p.trig with
      | some (_, pt) => if s.srcOk n (if p.ladder.isSome then p.par.src else p.srcFixed) then .next (s.startPage n p pt) else .next s
      | none => .next s
    | none => .next s

/-! ## The row step (R177 to R188, R193, R196) -/

/-- The sample of a source that a cell's fire engine uses: a discarded one is replaced by the one before it (R196). -/
def State.feSample (s : State) (n src : Nat) (parityErr : Bool) : Sample :=
  if parityErr then
    match Store.find? (s.cell n).lastSamples src with
    | some (t, x, v, a) => ⟨t, x, v, a, true⟩
    | none => Sample.none
  else s.source src

/-- Report the fire times of the leading row that have come (FE_LAST_FIRE, FE_PERIOD). -/
def State.noteFires (s : State) (n : Nat) (p : PageRun) : State :=
  ((p.row? p.leading).fly.filter (fun c => decide (c.tSent ≤ s.now))).foldl (fun s c =>
    let last := s.rd2 (CELL_FE_LAST_FIRE_FIRE_LO n) (CELL_FE_LAST_FIRE_FIRE_HI n)
    let s := if last = 0 then s else s.wr (CELL_FE_PERIOD_PERIOD n) (satNat 20 (c.tSent - last))
    s.wr2 (CELL_FE_LAST_FIRE_FIRE_LO n) (CELL_FE_LAST_FIRE_FIRE_HI n) c.tSent) s

/-- What has come to its fire time fires. -/
def State.fireDue (s : State) (n : Nat) : State :=
  let c := s.cell n
  ((c.tails ++ c.cur.toList).foldl (fun s p => s.noteFires n p) s).retireCell n

/-- Whether a row still has a line of an earlier page to commit. -/
def Cell.rowBusy (c : Cell) (idx r : Nat) : Bool :=
  ((c.tails ++ c.cur.toList).takeWhile (fun p => p.idx != idx)).any (fun p =>
    p.rowOn r && (decide ((p.row? r).next < p.lines) || !(p.row? r).back.isEmpty))

/-- One page at one sample: corrections and withdrawals first, then each row that is free tries to commit, the leading row first. -/
def State.stepPage (s : State) (n idx : Nat) (parityErr : Bool) (err : Option RowErr) : State :=
  match (s.cell n).pageAt idx with
  | none => s
  | some p =>
    let m := s.feSample n p.par.src parityErr
    let busy := s.cell n
    let s := p.rowNums.foldl (fun s r => (p.row? r).fly.foldl (fun s c => s.fixCommit n idx r m c) s) s
    let order := p.leading :: p.rowNums.filter (· ≠ p.leading)
    order.foldl (fun s r =>
      if !p.rowOn r || busy.rowBusy idx r then s
      else s.tryCommit n idx r m (err.filter (fun e => e.row.val == r))) s

/-- The follower of a gang is timed by the leader's rows (R161, R191). -/
def State.syncFollower (s : State) (n : Nat) : State :=
  if s.ganged n then
    ((s.cell n).tails ++ (s.cell n).cur.toList).foldl (fun s p =>
      s.updPage (n + 1) p.idx (fun q =>
        ({ q with rows := p.rows, lastFire := p.lastFire } : PageRun).dropGone.freeRows)) s
  else s

/-- The readings of FE_STAT that follow each sample. -/
def State.feStat (s : State) (n : Nat) (parityErr : Bool) : State :=
  let s := s.wrB (CELL_FE_STAT_SRC_VALID n) (s.srcOk n (s.rdF (CELL_FE_CTL_SRC n)))
  match (s.cell n).cur with
  | some p =>
    if p.started then
      let m := s.feSample n p.par.src parityErr
      let row := p.row? p.leading
      let i := match row.back.head? with | some c => c.line | none => row.next
      let due := decide (i < p.lines) && (p.ideal 0 m i p.leading).isSome
      (s.wrB (CELL_FE_STAT_DUE n) due).wrB (CELL_FE_STAT_STALLED n) (!atLeastUm m.v p.par.vmin)
    else (s.wr (CELL_FE_STAT_DUE n) 0).wr (CELL_FE_STAT_STALLED n) 0
  | none => (s.wr (CELL_FE_STAT_DUE n) 0).wr (CELL_FE_STAT_STALLED n) 0

/-- The sources whose samples the cell keeps: those of the pages it holds, and the one that its shadow names. -/
def State.feSources (s : State) (n : Nat) : List Nat :=
  (s.rd (CELL_FE_CTL_SRC n) :: (s.cell n).pages.map (s.sourceOf n)).eraseDups

/-- A sample with a parity error is discarded and counted; a good one is kept (R196). -/
def State.noteSample (s : State) (n : Nat) (parityErr : Bool) : State :=
  if parityErr then
    (s.report srcFeObsParity n 1 initCell n accNone 0).updCell n (fun c => { c with badSamples := c.badSamples + 1 })
  else
    let good := (s.feSources n).foldl (fun g src =>
      let m := s.source src
      if m.ok then Store.ins g src (m.t, m.x, m.v, m.a) else g) []
    s.updCell n (fun c => { c with badSamples := 0, lastSamples := good })

/-- The pages in print of one cell whose source is invalid for it are lost while it is PRINTING (R193, R196). -/
def State.loseCell (s : State) (n : Nat) : State :=
  if s.cellState n != csPrinting then s else
  (((s.cell n).tails ++ (s.cell n).cur.toList).filter (fun p => p.started && !s.srcOk n p.par.src)).foldl
    (fun s p => s.losePage n p.idx) s

/-- ROW_STEP: the fire engine of a cell at one observer sample. -/
def execRowStep (n : CellId) (parityErr : Bool) (err : Option RowErr) (s : State) : Host.Outcome State Fault Refusal :=
  let n := n.val
  if s.follower n || s.cellState n == csFenced then .next s
  else if s.cellState n == csOff then .next (s.fireDue n)
  else
    let s := ((s.fireDue n).noteSample n parityErr).loseCell n
    let s := if s.safe then s else
      ((s.cell n).tails ++ (s.cell n).cur.toList).foldl (fun s p => if p.started then s.stepPage n p.idx parityErr err else s) s
    let s := (s.syncFollower n).settleCrew n
    .next ((s.condTrigger n).feStat n parityErr)

/-! ## Sending (R180, R257 to R260) -/

/-- DEPTH code of a number of bits. -/
def depthCode (d : Nat) : Nat := if d = 1 then 0 else if d = 2 then 1 else 2

/-- The NEW entry of a committed row-line for one lane, with the payloads of its LINE frames; a muted one has none. -/
def fireNewEnt (p : PageRun) (r : Nat) (c : Commit) (data : List Nat) : FireEnt :=
  ⟨1, r, c.muted, depthCode p.depth, c.tag, c.tSent,
   if c.muted then [] else linePayloads p.depth (ceilDiv (data.length * p.depth) 256) data⟩

/-- The first unsent commit of a row whose send time t_act − LEAD has come, with its page. -/
def State.dueSend (s : State) (n r : Nat) : Option (PageRun × Commit) :=
  ((s.cell n).tails ++ (s.cell n).cur.toList).findSome? (fun p =>
    ((p.row? r).fly.find? (fun c => !c.sent && decide (c.tSent ≤ s.now + p.par.lead))).map (fun c => (p, c)))

/-- FIRE_SEND: the FIRE and LINE frames of a committed row are queued on each lane of its crew. -/
def execFireSend (n : CellId) (row : Fin 8) (s : State) : Host.Outcome State Fault Refusal :=
  let n := n.val
  if s.follower n || s.cellState n == csFenced || s.cellState n == csOff then .next s
  else
    match s.dueSend n row.val with
    | none => .next s
    | some (p, c) =>
      let s := s.updPage n p.idx (fun p => p.updRow row.val (fun w =>
        { w with fly := w.fly.map (fun d => if d.line = c.line then { d with sent := true } else d) }))
      .next ((s.crew n).foldl (fun s m =>
        if s.on (LINK_LL_STAT_HALTED m) then s
        else s.updLink m (fun l => { l with fireNew := l.fireNew ++ [fireNewEnt p row.val c (if m = n then c.data else c.mate)] })) s)

/-! ## The end of a page (R64) -/

/-- PAGE_COMPLETE: the oldest page of a cell whose last line has left every row completes. -/
def execPageComplete (n : CellId) (s : State) : Host.Outcome State Fault Refusal :=
  let n := n.val
  if s.follower n || s.cellState n == csFenced then .next s
  else
    let s := s.fireDue n
    match ((s.cell n).tails ++ (s.cell n).cur.toList).find? (·.over) with
    | some p => .next (s.endPage n p)
    | none => .next s

/-! ## Lockstep and STOP_FIRE_N (R195, R197, R198) -/

/-- LOCKSTEP_MISMATCH: the two copies of a fire engine disagree. -/
def execLockstepMismatch (n : CellId) (s : State) : Host.Outcome State Fault Refusal := .next (s.fence n.val fcLockstep)

/-- The level of FIRE_ENg (R197): only cells enabled by fuse raise it (spec/00 R3, R4); low in the start-up hold and in core reset (spec/20 R544), and held low by a boundary-scan drive
instruction (R543). -/
def State.fireEn (s : State) (g : Nat) : Bool :=
  s.stopFireN && !s.stopFireLatch && !s.safe && !s.bscan && !s.coop.hold && !s.coop.coreReset &&
  (List.range 8).any (fun i => !s.fused (8 * g + i) && s.on (CELL_CTL_EN (8 * g + i)) && s.on (CELL_FE_CTL_FIRE_EN_REQ (8 * g + i)))

/-- STOP_FIRE_FALL: STOP_FIRE_N falls; the latch is set and STOP_FIRE raised. -/
def execStopFireFall (s : State) : Host.Outcome State Fault Refusal :=
  if s.stopFireN then .next (({ s with stopFireN := false, stopFireLatch := true } : State).report srcStopFire 0 2 initCoop 0 accNone 0)
  else .next s

/-- STOP_FIRE_RISE: STOP_FIRE_N rises; the latch holds. -/
def execStopFireRise (s : State) : Host.Outcome State Fault Refusal := .next { s with stopFireN := true }

/-- STOP_FIRE_CLEAR: STOP_FIRE_N has been high for 10 µs and the latch clears. -/
def execStopFireClear (s : State) : Host.Outcome State Fault Refusal :=
  if s.stopFireN then .next { s with stopFireLatch := false } else .next s

end Sys2Proof.Machine
end

