-- ==== Sys2Proof/Machine/Gov.lean ====
section
/-!
DEFINITION. The speed governor (spec/07 R200 to R211): time-to-starve, the demand, SLOW_REQ, and the speed-demand frames.
-/
namespace Sys2Proof.Machine

open Sys2Proof

/-! ## Counted cells (R200, R201) -/

/-- What the governor has of a counted cell: its number, its time-to-starve in ns as a fraction (none: unbounded), its speed in
2⁻³² / 5¹⁸ wu/ns, its fired-line pitch in 2⁻³² / 5¹⁸ wu and LINE_MIN in ns. -/
structure Counted where
  cell    : Nat
  tts     : Option (Nat × Nat)
  speed   : Nat
  pitch   : Nat
  lineMin : Nat
  deriving DecidableEq, Repr

/-- READY of a counted cell (R200): none when every remaining line is ready and no FOLLOW page has been taken; with one, its ready
lines count too. -/
def State.ttsReady (s : State) (n : Nat) (p : PageRun) : Option Nat :=
  let ready := s.rd (CELL_LB_STAT_READY n)
  if p.lines - p.entered ≤ p.readyCount then
    match (s.cell n).nxt with
    | some q => if q.trigKind = 5 then some (p.readyCount + q.readyCount) else none
    | none => none
  else some ready

/-- One cell as the governor counts it. -/
def State.countCell (s : State) (n : Nat) : Option Counted :=
  match (s.cell n).cur with
  | none => none
  | some p =>
    let m := s.source p.par.src
    if !p.started || !s.govCounts n m.v p.par.vmin then none
    else
      let v := m.v.natAbs
      let pitch := p.stride * p.par.pitch * fine
      some ⟨n, (s.ttsReady n p).map (fun r => (r * max (p.par.lineMin * v) pitch, v)), v, pitch, p.par.lineMin⟩

/-- The counted cells. -/
def State.counted (s : State) : List Counted := s.cells.filterMap (fun e => s.countCell e.1)

/-- The least time-to-starve with its cell (R201); the lower cell at a tie. -/
def leastTts : List Counted → Option (Nat × Nat × Nat)
  | [] => none
  | c :: cs =>
    match c.tts, leastTts cs with
    | none, r => r
    | some (a, b), none => some (a, b, c.cell)
    | some (a, b), some (x, y, k) => if a * y ≤ x * b then some (a, b, c.cell) else some (x, y, k)

/-! ## The demand (R202 to R204) -/

/-- Whether a time-to-starve is at or above a number of µs. -/
def ttsAtLeast (t : Option (Nat × Nat × Nat)) (us : Nat) : Bool :=
  match t with
  | none => true
  | some (a, b, _) => decide (us * 1000 * b ≤ a)

/-- DEM_DATA (R202). -/
def State.demData (s : State) (t : Option (Nat × Nat × Nat)) : Nat :=
  let warn := s.rd GOV_TTS_WARN
  let stop := s.rd GOV_TTS_STOP
  match t with
  | none => 1024
  | some (a, b, _) =>
    if ttsAtLeast t warn then 1024
    else if !ttsAtLeast t stop then 0
    else 1024 * (a - stop * 1000 * b) / (b * 1000 * (warn - stop))

/-- Whether a counted cell's speed is at or above a share, in 1/10,000, of its rate limit (R203). -/
def State.overRate (s : State) (c : Counted) (share : Nat) : Bool :=
  decide (share * s.rd GOV_OVS_PCT * c.pitch ≤ c.speed * 1000000 * c.lineMin)

/-- DEM_RATE of the counted cells while the limit is asked for (R203). -/
def State.rateLimit (s : State) (cs : List Counted) : Nat :=
  cs.foldl (fun d c =>
    min d (1024 * s.rd GOV_OVS_PCT * c.pitch * 1000000000 / (100 * c.lineMin * max 1 (s.rd GOV_V_NOM) * 1099511627776 * fine))) 1024

/-- Whether a die temperature sensor stands at or above T_WARN (R204). -/
def State.hot (s : State) : Bool :=
  (List.range 16).any (fun j => !bitOf (s.rd COOP_THERM2_EXCLUDED) j && decide (s.rdS COOP_THERM_T_WARN ≤ s.rdS (COOP_TEMP_TEMP j)))

/-- The demand after one update (R204), in steps and 1/1,000 of a step: a fall at once, a rise at RISE steps per millisecond. -/
def nextDemand (cur frac target rise : Nat) : Nat × Nat :=
  if target ≤ cur then (target, 0)
  else
    let d := min (target * 1000) (cur * 1000 + frac + max 1 rise)
    (d / 1000, d % 1000)

/-- GOV_UPDATE: the governor's update of every µs (R200 to R206). While EN is 0 the demand is 1,024 and no cell is watched. -/
def execGovUpdate (s : State) : Host.Outcome State Fault Refusal :=
  let cs := if s.on GOV_CTL_EN then s.counted else []
  let t := leastTts cs
  let us := match t with | some (a, b, _) => min (a / (b * 1000)) 0xFFFFFFFF | none => 0xFFFFFFFF
  let s := (s.wr GOV_TTS us).wr GOV_TTS_MIN (min us (s.rd GOV_TTS_MIN))
  let s := s.wr GOV_STAT_WORST_CELL (match t with | some (_, _, k) => k | none => 255)
  let stop := !ttsAtLeast t (s.rd GOV_TTS_STOP) || (s.gov.dataStop && !ttsAtLeast t (s.rd GOV_TTS_WARN))
  let rate := cs.any (fun c => s.overRate c 10000) || (s.gov.rate && cs.any (fun c => s.overRate c 9900))
  let s := ({ s with gov := { s.gov with dataStop := stop, rate := rate, fromSafe := false } } : State).refreshStop.refreshSlow
  let data := s.demData t
  let rateDem := if rate then s.rateLimit cs else 1024
  let therm := if s.hot then min 1024 (s.rd GOV_DEM_CTL_THERM) else 1024
  let soft := min 1024 (s.rd GOV_SW_DEM_SW_DEM)
  let stopDem := if s.on GOV_STAT_STOP then 0 else 1024
  let target := if s.on GOV_CTL_EN then min data (min rateDem (min therm (min soft stopDem))) else 1024
  let (dem, frac) := if s.on GOV_CTL_EN then nextDemand (s.rd GOV_STAT_DEMAND) s.gov.frac target (s.rd GOV_DEM_CTL_RISE) else (1024, 0)
  let cause := s.stopCauses
  let orBit (c i : Nat) (b : Bool) : Nat := if b && !bitOf c i then c + 2 ^ i else c
  let cause := orBit (orBit (orBit (orBit cause 0 (decide (data < 1024))) 1 (decide (rateDem < 1024))) 2 (decide (therm < 1024))) 3
    (decide (soft < 1024))
  let s := (s.wr GOV_STAT_DEMAND dem).wr GOV_STAT_CAUSE cause
  let fell := decide (dem + max 1 (s.rd GOV_NET_DELTA) ≤ s.gov.sentDemand)
  .next { s with gov := { s.gov with frac := frac, eventDue := s.gov.eventDue || fell } }

/-! ## SLOW_REQ (R205, R207) -/

/-- SLOW_REQ_PERIOD: a PWM period starts and carries the demand in force and the period written (R205). -/
def execSlowReqPeriod (s : State) : Host.Outcome State Fault Refusal :=
  let s := s.enforce GOV_PWM_PERIOD
  .next ({ s with gov := { s.gov with pwm := s.rd GOV_STAT_DEMAND, pwmStart := s.now } } : State).refreshSlow

/-! ## Speed-demand frames (R208, R209) -/

/-- The template bytes. -/
def State.govTemplate (s : State) : List Byte :=
  let n := clampNat 14 28 (s.rd GOV_NET_TPL_LEN)
  ((List.range 7).flatMap (fun j => leBytes 4 (s.rd (GOV_TPL j)))).take n

/-- The payload of a frame. -/
def State.govPayload (s : State) (kind time : Nat) : List Byte :=
  leBytes 2 0x4447 ++ leBytes 1 1 ++ leBytes 1 kind ++ leBytes 2 (s.rd TIME_STATION_ID) ++ leBytes 2 s.gov.seq ++
  leBytes 2 (s.rd GOV_STAT_DEMAND) ++ leBytes 2 (s.rd GOV_STAT_CAUSE) ++ leBytes 4 (s.rd GOV_TTS) ++ leBytes 8 time ++
  leBytes 1 (s.rd GOV_STAT_WORST_CELL) ++ leBytes 1 (s.rd GOV_STAT_STOP) ++ leBytes 6 0

/-- Pad a frame to 60 bytes. -/
def padFrame (bs : List Byte) : List Byte := bs ++ List.replicate (60 - bs.length) 0

/-- Whether a port's link is up. -/
def State.netUp (s : State) (k : Nat) : Bool := s.on (NET_CTL_EN k) && s.on (NET_STAT_LINK k)

/-- Send a speed-demand frame, or count it as lost when the link is down: it is not sent later, and the demand it would have carried is the one that the next
fall is taken from (DESIGN CHOICE, notes/assumptions/84). -/
def State.sendGov (s : State) (kind time : Nat) : State :=
  let port := s.rd GOV_NET_PORT
  let s : State := { s with gov := { s.gov with sentDemand := s.rd GOV_STAT_DEMAND } }
  if !s.netUp port then s.bump GOV_NET_LOST
  else
    let s := s.sendFrame port (padFrame (s.govTemplate ++ s.govPayload kind time))
    { s with gov := { s.gov with seq := (s.gov.seq + 1) % 65536 } }

/-- The launch time of the periodic frame that is due: the last multiple of the period plus SLOT_OFF that has come since the last launch, the enable
or a change of the schedule. -/
def State.periodicDue (s : State) : Option Nat :=
  let p := max 10 (s.rd GOV_NET_PERIOD) * 1000
  let off := s.rd GOV_NET_SLOT_OFF
  if s.now < off then none
  else
    let t := (s.now - off) / p * p + off
    match s.gov.lastPeriodic with
    | some l => if l < t then some t else none
    | none => some t

/-- SPEED_FRAME_PERIODIC: the launch time of a periodic frame comes; none is sent while device time is invalid. -/
def execSpeedFramePeriodic (s : State) : Host.Outcome State Fault Refusal :=
  if !s.on GOV_NET_EN || !s.on TIME_STAT_VALID then .next s
  else
    match s.periodicDue with
    | none => .next s
    | some t =>
      let s := s.sendGov 0 t
      .next { s with gov := { s.gov with lastPeriodic := some t } }

/-- The schedule of periodic frames begins afresh: the next is at the next launch time (R208). -/
def State.newSchedule (s : State) : State := { s with gov := { s.gov with lastPeriodic := some s.now } }

/-- SPEED_FRAME_EVENT: a frame for the safe state, while NET and VDD_CORE still run, or for a fall of the demand or a rise of STOP_REQ, is sent; an event frame at
least 10 µs after the one before it. -/
def execSpeedFrameEvent (s : State) : Host.Outcome State Fault Refusal :=
  let time := if s.on TIME_STAT_VALID then s.now else 0
  if !s.on GOV_NET_EN then .next { s with gov := { s.gov with eventDue := false, safeDue := false } }
  else if s.gov.safeDue then
    let s := if s.coreRuns then s.sendGov 2 time else s
    .next { s with gov := { s.gov with safeDue := false } }
  else if s.gov.eventDue && (match s.gov.lastEvent with | some l => decide (l + 10000 ≤ s.now) | none => true) then
    let s := s.sendGov 1 time
    .next { s with gov := { s.gov with eventDue := false, lastEvent := some s.now } }
  else .next s

/-! ## Registers with a row of their own -/

/-- The effect of a 1 written to GOV.STAT.LATCH: both latched causes clear (R206). -/
def State.clearLatch (s : State) : State :=
  ({ s with gov := { s.gov with lossLatch := false, underLatch := false } } : State).refreshStop

/-- GOV_LATCH_CLEAR: a write of 1 to GOV.STAT.LATCH. -/
def execGovLatchClear (who : Sender) (s : State) : Host.Outcome State Fault Refusal :=
  .next (s.gatedWrite who GOV_STAT_LATCH 1 State.clearLatch)

/-- TTS_MIN_RESET: any write of GOV.TTS_MIN resets it (R201). -/
def execTtsMinReset (who : Sender) (s : State) : Host.Outcome State Fault Refusal :=
  .next (s.gatedWrite who GOV_TTS_MIN 0xFFFFFFFF (fun s => s.wr GOV_TTS_MIN 0xFFFFFFFF))

end Sys2Proof.Machine
end

