-- ==== Sys2Proof/Machine/Image.lean ====
section
/-!
DEFINITION. The image stages of a pipeline as functions of one frame (spec/14 R388 to R392, R394, R397): from the pixels received to the
colour image, the analysis plane and the statistics body.
-/
namespace Sys2Proof.Machine

open Sys2Proof

/-- An image of one value per pixel, by lines. -/
abbrev Gray := List (List Nat)

/-- What the stages take of the settings in force for a frame: geometry, bits per pixel, CFA code, black levels, the defect map, dynamic
detection, shading gains by channel, row and column, white balance, the matrix and its offsets, and the analysis weights. -/
structure ImgCfg where
  width    : Nat
  height   : Nat
  bits     : Nat
  cfa      : Nat
  linescan : Bool
  black    : List Nat
  map      : List (Nat × Nat)
  dyn      : Option Nat
  gain     : Nat → Nat → Nat → Nat
  wb       : List Nat
  mat      : List Int
  off      : List Int
  weight   : List Int

/-- An index mirrored about the edge pixels of a line or column of `n` (R388). -/
def mirror (n : Nat) (i : Int) : Nat :=
  let m : Int := (n : Int) - 1
  (clampInt 0 m (if i < 0 then -i else if m < i then 2 * m - i else i)).toNat

/-- The pixel at a place, mirrored at the edges. -/
def Gray.at (g : Gray) (w : Nat) (x y : Int) : Nat := (g.getD (mirror g.length y) []).getD (mirror w x) 0

/-- Change every pixel. -/
def Gray.mapPx (g : Gray) (f : Nat → Nat → Nat → Nat) : Gray :=
  g.zipIdx.map (fun r => r.1.zipIdx.map (fun p => f p.2 r.2 p.1))

/-- Limit to 16 bits unsigned. -/
def lim16 (x : Int) : Nat := (clampInt 0 65535 x).toNat

/-- Whether the image is mono (R389). -/
def ImgCfg.mono (c : ImgCfg) : Bool := decide (4 ≤ c.cfa)

/-- The CFA channel of a pixel (R389). -/
def ImgCfg.chan (c : ImgCfg) (x y : Nat) : Nat := if c.mono then 0 else 2 * (y % 2) + x % 2

/-- The colour of a pixel: 0 R, 1 G, 2 B (R389). -/
def ImgCfg.colour (c : ImgCfg) (x y : Nat) : Nat :=
  let pat : List Nat := match c.cfa with
    | 0 => [0, 1, 1, 2]
    | 1 => [1, 0, 2, 1]
    | 2 => [1, 2, 0, 1]
    | 3 => [2, 1, 1, 0]
    | _ => [1, 1, 1, 1]
  pat.getD (2 * (y % 2) + x % 2) 1

/-- Stages 1 and 2: unpack and black level (R388). -/
def ImgCfg.unpack (c : ImgCfg) (g : Gray) : Gray := g.mapPx (fun _ _ v => v % 2 ^ c.bits * 2 ^ (16 - c.bits))
/-- Stage 2. -/
def ImgCfg.blacken (c : ImgCfg) (g : Gray) : Gray := g.mapPx (fun x y v => v - c.black.getD (c.chan x y) 0)

/-- Whether the static map names a pixel (R390). -/
def ImgCfg.mapped (c : ImgCfg) (x y : Nat) : Bool := c.map.any (fun e => e.1 == x && (e.2 == y || e.2 == 0x3FFF))

/-- Step 1 of stage 3: the static map (R390). -/
def ImgCfg.staticFix (c : ImgCfg) (g : Gray) : Gray :=
  let st := if c.mono then 1 else 2
  g.mapPx (fun x y v =>
    if !c.mapped x y then v
    else
      let row := g.getD y []
      let good (i : Nat) : Option Nat := if i < c.width ∧ ¬ c.mapped i y then some (row.getD i 0) else none
      match (if st ≤ x then good (x - st) else none), good (x + st) with
      | some a, some b => (a + b + 1) / 2
      | some a, none => a
      | none, some b => b
      | none, none => Config.deadPixel x y % 65536)

/-- Insert into a sorted list. -/
def insertNat (v : Nat) : List Nat → List Nat
  | [] => [v]
  | x :: xs => if v ≤ x then v :: x :: xs else x :: insertNat v xs

/-- Sort numbers. -/
def sortNat (xs : List Nat) : List Nat := xs.foldr insertNat []

/-- The 8 nearest same-channel neighbours (R390). -/
def ImgCfg.around (c : ImgCfg) (g : Gray) (x y : Nat) : List Nat :=
  let st : Int := if c.mono then 1 else 2
  [(-1, -1), (0, -1), (1, -1), (-1, 0), (1, 0), (-1, 1), (0, 1), (1, 1)].map
    (fun (d : Int × Int) => g.at c.width (x + st * d.1) (y + st * d.2))

/-- Whether dynamic detection replaces a pixel, and by what (R390). -/
def ImgCfg.dynamic (c : ImgCfg) (g : Gray) (x y v : Nat) : Option Nat :=
  match c.dyn with
  | none => none
  | some thr =>
    if c.mapped x y then none
    else
      let s := sortNat (c.around g x y)
      if s.getD 7 0 + thr < v ∨ v + thr < s.getD 0 0 then some ((s.getD 3 0 + s.getD 4 0 + 1) / 2) else none

/-- Stage 3 with the numbers of static and of dynamic replacements. -/
def ImgCfg.fixPixels (c : ImgCfg) (g : Gray) : Gray × Nat × Nat :=
  let g1 := c.staticFix g
  let out := g1.mapPx (fun x y v => (c.dynamic g1 x y v).getD v)
  let count (f : Nat → Nat → Nat → Bool) : Nat :=
    (g1.zipIdx.map (fun r => (r.1.zipIdx.filter (fun p => f p.2 r.2 p.1)).length)).sum
  (out, count (fun x y _ => c.mapped x y), count (fun x y v => (c.dynamic g1 x y v).isSome))

/-- Stage 4: the bilinear gain at a pixel over WIDTH × HEIGHT (R391), and the product with it. -/
def ImgCfg.shade (c : ImgCfg) (g : Gray) : Gray :=
  let w := max 1 c.width
  let h := max 1 c.height
  g.mapPx (fun x y v =>
    let ch := c.chan x y
    let i := min 31 (32 * x / w)
    let fx : Int := (32 * x : Nat) - (i * w : Nat)
    let last := decide (h ≤ y)
    let j := if c.linescan then 0 else if last then 24 else 24 * y / h
    let fy : Int := if c.linescan || last then 0 else ((24 * y : Nat) : Int) - (j * h : Nat)
    let row (j : Nat) : Int := (c.gain ch j i : Int) * (w - fx) + (c.gain ch j (i + 1) : Int) * fx
    let top := row j * (h - fy) + (if fy = 0 then 0 else row (j + 1) * fy)
    lim16 (halfUp (v * top) (4096 * w * h)))

/-- Stage 5: white balance (R388). -/
def ImgCfg.balance (c : ImgCfg) (g : Gray) : Gray :=
  g.mapPx (fun x y v => lim16 (halfUp (v * c.wb.getD (c.colour x y) 0 : Nat) 4096))

/-- The green of every pixel (R392). -/
def ImgCfg.greens (c : ImgCfg) (g : Gray) : Gray :=
  g.mapPx (fun x y v =>
    if c.colour x y = 1 then v
    else
      let at' (dx dy : Int) : Int := g.at c.width (x + dx) (y + dy)
      let c2 : Int := 2 * v
      let along (dx dy : Int) : Int × Int :=
        let gm := at' (-dx) (-dy)
        let gp := at' dx dy
        let bend := c2 - at' (-2 * dx) (-2 * dy) - at' (2 * dx) (2 * dy)
        ((gm - gp).natAbs + bend.natAbs, 2 * (gm + gp) + bend)
      let (dh, eh) := along 1 0
      let (dv, ev) := along 0 1
      lim16 (if dh < dv then halfUp eh 4 else if dv < dh then halfUp ev 4 else halfUp (eh + ev) 8))

/-- Colour `k` (0 or 2) at a pixel: its difference to green averaged over the nearest pixels of that colour (R392). -/
def ImgCfg.other (c : ImgCfg) (g gr : Gray) (k x y : Nat) : Nat :=
  let own := c.colour x y
  let diff (dx dy : Int) : Int := (g.at c.width (x + dx) (y + dy) : Int) - gr.at c.width (x + dx) (y + dy)
  let green : Int := gr.at c.width x y
  if own = k then g.at c.width x y
  else if own = 1 then
    let pair := if c.colour (x + 1) y = k then diff (-1) 0 + diff 1 0 else diff 0 (-1) + diff 0 1
    lim16 (green + halfUp pair 2)
  else lim16 (green + halfUp (diff (-1) (-1) + diff 1 (-1) + diff (-1) 1 + diff 1 1) 4)

/-- Stage 6: red, green and blue at every pixel. -/
def ImgCfg.demosaic (c : ImgCfg) (g : Gray) : List (List (Nat × Nat × Nat)) :=
  if c.mono then List.map (fun r => List.map (fun v => (v, v, v)) r) g
  else
    let gr := c.greens g
    gr.zipIdx.map (fun r => r.1.zipIdx.map (fun p => (c.other g gr 0 p.2 r.2, p.1, c.other g gr 2 p.2 r.2)))

/-- One row of the colour matrix (R388): each product rounded, the offset added twice, the result limited. -/
def ImgCfg.mix (c : ImgCfg) (i : Nat) (p : Nat × Nat × Nat) : Nat :=
  let m (k v : Nat) : Int := halfUp (c.mat.getD (3 * i + k) 0 * v) 4096
  lim16 (m 0 p.1 + m 1 p.2.1 + m 2 p.2.2 + 2 * c.off.getD i 0)

/-- What the stages make of a frame: after stage 1, after stage 5, after stage 7, and the two replacement counts. -/
structure Developed where
  raw    : Gray
  flat   : Gray
  colour : List (List (Nat × Nat × Nat))
  static : Nat
  dyn    : Nat

/-- All stages of R388. -/
def ImgCfg.develop (c : ImgCfg) (rows : Gray) : Developed :=
  let raw := c.unpack rows
  let (fixed, ns, nd) := c.fixPixels (c.blacken raw)
  let flat := c.balance (c.shade fixed)
  ⟨raw, flat, (c.demosaic flat).map (fun r => r.map (fun p => (c.mix 0 p, c.mix 1 p, c.mix 2 p))), ns, nd⟩

/-- The analysis plane (R394). -/
def ImgCfg.plane (c : ImgCfg) (d : Developed) : Gray :=
  let w (k : Nat) (v : Nat) : Int := c.weight.getD k 0 * v
  d.colour.map (fun r => r.map (fun p => (min 255 (halfUp (max 0 (w 0 p.1 + w 1 p.2.1 + w 2 p.2.2)) 8388608)).toNat))

/-- The three colours of a developed frame, each as a flat list with places. -/
def Developed.channel (d : Developed) (k : Nat) : List (Nat × Nat × Nat) :=
  d.colour.zipIdx.flatMap (fun r => r.1.zipIdx.map (fun p => (p.2, r.2, if k = 0 then p.1.1 else if k = 1 then p.1.2.1 else p.1.2.2)))

/-- A quotient whose rounding is open. -/
def openDiv (x : Int) (d : Nat) : Int := x / (d : Int) + (if x % (d : Int) = 0 then 0 else (Config.roundUp x d % 2 : Nat))

/-- The statistics body after the embedded data (R397): histograms, zone means, full-scale counts, replacements. -/
def Developed.stats (d : Developed) (w : Nat) : List Byte :=
  let lines := d.colour.length
  let chans := [d.channel 0, d.channel 1, d.channel 2]
  let hist := chans.flatMap (fun c => (List.range 64).flatMap (fun b => leBytes 4 (c.filter (fun p => p.2.2 / 1024 == b)).length))
  let zones := chans.flatMap (fun c => (List.range 8).flatMap (fun j => (List.range 8).flatMap (fun i =>
    let zone := c.filter (fun p => 8 * p.1 / w == i && 8 * p.2.1 / lines == j)
    leBytes 2 (if zone.isEmpty then Config.roundUp 0 0 else (openDiv (zone.map (fun p => p.2.2)).sum zone.length).toNat))))
  let full := chans.flatMap (fun c => leBytes 4 (c.filter (fun p => p.2.2 == 65535)).length)
  hist ++ zones ++ full ++ leBytes 4 d.dyn ++ leBytes 4 d.static ++ List.replicate 44 0

end Sys2Proof.Machine
end

