-- ==== Sys2Proof/Machine/InspOps.lean ====
section
/-!
DEFINITION. The parts of a camera pipeline (spec/14): its settings, its records and buffers, the ladders that its frames touch, its CCI
master, and the start and the end of a frame.
-/
namespace Sys2Proof.Machine

open Sys2Proof

/-! ## Settings (R398 to R400) -/

/-- The class B:frame fields of a pipeline, in the order of the register table. -/
def frameFields (p : Nat) : List Fld :=
  [INSP_GEOM2_HEIGHT p, INSP_CFG_CAM_LAT p, INSP_BLACK_BL0 p, INSP_BLACK_BL1 p, INSP_BLACK_BL2 p, INSP_BLACK_BL3 p,
   INSP_WB_WB_R p, INSP_WB_WB_G p, INSP_WB_WB_B p, INSP_DPC_DYN_EN p, INSP_DPC_THR p, INSP_ANA_W_R p, INSP_ANA_W_G p, INSP_ANA_W_B p]

/-- The shadow settings of a pipeline. -/
def State.shadowSet (s : State) (p : Nat) : PipeSet :=
  let x := s.pipe p
  ⟨(frameFields p).map s.rd, x.dpc, x.shade, x.mat, x.cci⟩

/-- Give a window of equal fields new contents; past the list, and when it is empty, they read their reset values. -/
def State.putWindow (s : State) (fld : Nat → Fld) (count : Nat) (vs : List Nat) : State :=
  let s := { s with regs := s.regs.filter (fun e => !decide ((fld 0).addr * 32 ≤ e.1 ∧ e.1 < (fld (count - 1)).addr * 32 + 32)) }
  (vs.take count).zipIdx.foldl (fun s v => s.wr (fld v.2) v.1) s

/-- Bring a set into force: its fields and the three tables (R400). -/
def State.forceSet (s : State) (p : Nat) (x : PipeSet) : State :=
  let s := ((frameFields p).zip x.flds).foldl (fun s e => s.wrForce e.1 e.2) s
  ((s.putWindow (INSP_DEFECT p) 4096 x.dpc).putWindow (INSP_SHADING p) 3300 x.shade).putWindow (INSP_MATRIX p) 12 x.mat

/-- What the stages take of the settings in force. -/
def State.imgCfg (s : State) (p : Nat) : ImgCfg where
  width := s.rd (INSP_GEOM_WIDTH p)
  height := s.rdF (INSP_GEOM2_HEIGHT p)
  bits := match s.rd (INSP_BIND_DT p) with | 0 => 8 | 2 => 12 | 3 => 14 | 4 => 16 | _ => 10
  cfa := min 4 (s.rd (INSP_BIND_CFA p))
  linescan := s.on (INSP_BIND_LINESCAN p)
  black := [s.rdF (INSP_BLACK_BL0 p), s.rdF (INSP_BLACK_BL1 p), s.rdF (INSP_BLACK_BL2 p), s.rdF (INSP_BLACK_BL3 p)]
  map := ((List.range 4096).map (fun j => s.rd (INSP_DEFECT p j))).filterMap (fun w =>
    if w = 0xFFFFFFFF then none else some (bitsOf w 0 14, bitsOf w 16 14))
  dyn := if s.rdF (INSP_DPC_DYN_EN p) = 1 then some (s.rdF (INSP_DPC_THR p)) else none
  gain := fun c j i => s.rd (INSP_SHADING p ((c * 25 + j) * 33 + i))
  wb := [s.rdF (INSP_WB_WB_R p), s.rdF (INSP_WB_WB_G p), s.rdF (INSP_WB_WB_B p)]
  mat := (List.range 9).map (fun j => sext 16 (s.rd (INSP_MATRIX p j)))
  off := (List.range 3).map (fun j => sext 16 (s.rd (INSP_MATRIX p (9 + j))))
  weight := [sext 16 (s.rdF (INSP_ANA_W_R p)), sext 16 (s.rdF (INSP_ANA_W_G p)), sext 16 (s.rdF (INSP_ANA_W_B p))]

/-! ## Stamps and positions (R387) -/

/-- A stamp: device time to 2 ns, less CAM_LAT. Which 2-ns value a time between two takes is open. -/
def State.stamp (s : State) (p : Nat) : Nat :=
  (s.now / 2 * 2 + 2 * (s.free % 2) * (s.now % 2) + 2 ^ 64 - s.rdF (INSP_CFG_CAM_LAT p)) % 2 ^ 64

/-- The position of the pipeline's encoder at a stamp, in whole wu; none when the encoder is invalid (R386, R387). -/
def State.stampPos (s : State) (p t : Nat) : Option Int :=
  let e := s.rd (INSP_CFG_ENC p)
  if (s.source e).ok then some (wrapWu (roundWu (s.posAt e t))) else none

/-! ## Records (R396) -/

/-- The first buffer posted on a ring of buffers. -/
def State.firstBuf (s : State) (q : Nat) : Option Nat :=
  ((s.ring q).held.find? (fun d => d.type == tyBuf && d.phase == .started)).map (·.idx)

/-- The length of a posted buffer. -/
def State.bufLen (s : State) (q : Nat) (idx : Option Nat) : Option Nat := (idx.bind (s.descAt q)).map (·.u32 12)

/-- The record header (R396). -/
def headerBytes (p width : Nat) (h : FrameHdr) (kind point format body : Nat) : List Byte :=
  leBytes 2 0x4951 ++ leBytes 1 1 ++ leBytes 1 kind ++ leBytes 2 (p + 16 * point) ++ leBytes 2 h.id ++ leBytes 4 h.num ++
  leBytes 2 h.csi ++ leBytes 2 h.flags ++ leBytes 2 width ++ leBytes 2 h.lines ++ leBytes 1 format ++ leBytes 2 h.embLen ++
  leBytes 1 0 ++ leBytes 8 h.tFs ++ leBytes 8 h.tFe ++ leBytes 8 (toBits 64 h.posFirst) ++ leBytes 8 (toBits 64 h.posLast) ++
  leBytes 4 body ++ leBytes 4 0

/-- Write a record into its buffer, cut at the buffer's length, and complete the BUF; nothing when the buffer has gone (R396). -/
def State.putRecord (s : State) (p q : Nat) (idx : Option Nat) (h : FrameHdr) (bytes : List Byte) : State :=
  match idx.bind (s.descAt q) with
  | none => s
  | some d =>
    let cut := bytes.take (d.u32 12)
    match s.dmaWrite (s.ringOwner q) initPipe p (d.u64 4) cut with
    | (s, true) => s.finish q d.idx (s.mkDone stOk cut.length (h.num + h.id * 2 ^ 32) 0)
    | (s, false) => s.finishSt q d.idx stDmaErr

/-- The bytes of a tap record's pixels (R395). -/
def tapBytes (point : Nat) (d : Developed) : List Byte :=
  if point = 3 then d.colour.flatMap (fun r => r.flatMap (fun v => leBytes 2 v.1 ++ leBytes 2 v.2.1 ++ leBytes 2 v.2.2))
  else (if point = 1 then d.raw else d.flat).flatMap (fun r => r.flatMap (leBytes 2))

/-! ## Frame-store slots (R393, R416) -/

/-- How many slots fit (R393). -/
def State.slotCount (s : State) (p : Nat) : Nat :=
  let ml := s.rd (INSP_GEOM_MAX_LINES p)
  min 8 (268435456 / (s.rd (INSP_GEOM_WIDTH p) * ml + 8 * ml * s.rd (INSP_CFG_LINE_POS p)))

/-- Replace the free slots, oldest first; STAT.FREE counts them. -/
def State.setFree (s : State) (p : Nat) (free : List Nat) : State :=
  (s.updPipe p (fun x => { x with free := free })).wr (INSP_STAT_FREE p) free.length

/-- Free the slot of every stored frame that no pending ladder touches (R416). -/
def State.freeSlots (s : State) (p : Nat) : State :=
  let x := s.pipe p
  let busy (pl : Plane) : Bool := s.ladders.any (fun l => l.pipe == p && l.frames.contains pl.hdr.num)
  let gone := x.planes.filter (fun pl => !busy pl)
  (s.updPipe p (fun x => { x with planes := x.planes.filter busy })).setFree p (x.free ++ gone.map (·.slot))

/-! ## Which ladders a frame touches (R409, R412, R416) -/

/-- A position along a ladder: wu past Y of line 0 in the ladder's sense. -/
def State.ladderPos (s : State) (l : LadderRec) (x : Int) : Int :=
  (if l.dir then -1 else 1) * wrapWu (x - l.q0 - s.rdS (INSP_NH_CAMOFF_CAMOFF l.pipe))

/-- Whether intervals, each half open, cover `[lo, hi]`: each step passes the ones that reach beyond it. -/
def coveredBy (ivs : List (Int × Int)) (hi : Int) : Nat → Int → Bool
  | 0, lo => decide (hi < lo)
  | n + 1, lo =>
    let next := ivs.foldl (fun m iv => if iv.1 ≤ lo ∧ m < iv.2 then iv.2 else m) lo
    if hi < next then true else if next = lo then false else coveredBy ivs hi n next

/-- The frame events that flag a ladder FRAME (R412): TRUNC, OVERFLOW, MEM, OVERSIZE, NOT_ANALYSED, POS_INVALID. -/
def badFrame (flags : Nat) : Bool := [0, 1, 2, 3, 7, 9].any (bitOf flags)

/-- A ladder and a frame that has closed. The span is that of all its lines, half a pitch beyond each end (R409). -/
def State.meetFrame (s : State) (l : LadderRec) (h : FrameHdr) : LadderRec :=
  if l.ready || h.lines = 0 then l
  else
    let a := s.ladderPos l h.posFirst
    let b := s.ladderPos l h.posLast
    let lo := min a b
    let top := max a b
    let step := ceilDiv (top - lo).toNat (max 1 (h.lines - 1))
    let start : Int := -((l.pitch : Int) / 2 ^ 33)
    let stop : Int := ((2 * l.lines - 1 : Nat) : Int) * l.pitch / 2 ^ 33
    let touches := decide (lo ≤ stop ∧ start ≤ top)
    let l : LadderRec := if touches then
        { l with frames := l.frames ++ [h.num], hdr := some h, seen := l.seen ++ [(lo, top + step)],
                 flags := if badFrame h.flags then orFlag l.flags 16 else l.flags }
      else l
    if coveredBy l.seen stop (l.seen.length + 1) start then { l with ready := true }
    else if stop < a then { l with ready := true, flags := orFlag l.flags 1 }
    else l

/-- Disarming flags every pending ladder NOT_SEEN and frees every slot (R412, R416). -/
def State.loseLadders (s : State) (p : Nat) : State :=
  let n := (s.pipe p).planes.map (·.slot)
  let lost (l : LadderRec) : LadderRec := if l.pipe = p then { l with flags := orFlag l.flags 1, ready := true } else l
  let s := { s with ladders := s.ladders.map lost }
  (s.updPipe p (fun x => { x with planes := [] })).setFree p ((s.pipe p).free ++ n)

/-! ## The CCI master (R399 to R402) -/

/-- Whether a mailbox transaction must wait on master `m`: a COMMIT of its pipelines is pending, or a launched list runs. -/
def State.cciHeld (s : State) (m : Nat) : Bool :=
  (List.range 4).any (fun p => s.rd (INSP_BIND_PORT p) == m && s.on (INSP_SET_STAT_PEND p)) || (s.cci m).any (·.launched)

/-- A mailbox transaction starts. -/
def State.mailboxRun (s : State) (m : Nat) : State :=
  ((s.wr (INSP_CCI_STAT_WAIT m) 0).wr (INSP_CCI_STAT_BUSY m) 1).emit
    (.cci m ⟨s.rd (INSP_CCI_MB0_DEV m), s.rd (INSP_CCI_MB0_ALEN m), s.rd (INSP_CCI_MB0_DLEN m), s.rd (INSP_CCI_MB1_REG m),
      s.rd (INSP_CCI_MB2_DATA m)⟩ (s.on (INSP_CCI_MB0_READ m)))

/-- A mailbox transaction that waits starts once nothing holds it. -/
def State.mailboxTry (s : State) (m : Nat) : State :=
  if s.on (INSP_CCI_STAT_WAIT m) && !s.cciHeld m then s.mailboxRun m else s

/-- The lists at the front of a master that have no entry left end; the COMMIT of one that still stands is acknowledged. -/
def State.cciSettle (s : State) (m : Nat) : Nat → State
  | 0 => s
  | n + 1 =>
    match s.cci m with
    | j :: js =>
      if j.launched && j.left.isEmpty then
        let s := s.setCci m js
        let s := if j.live then s.updPipe j.pipe (fun x => { x with commit := x.commit.map (fun c => { c with acked := true }) }) else s
        s.cciSettle m n
      else s
    | [] => s

/-- The write list of a pipeline's COMMIT is launched. -/
def State.launchList (s : State) (p : Nat) : State :=
  let m := s.rd (INSP_BIND_PORT p)
  let s := s.updPipe p (fun x => { x with commit := x.commit.map (fun c => { c with waitEnd := false }) })
  let s := s.setCci m ((s.cci m).map (fun j => if j.pipe = p ∧ j.live then { j with launched := true } else j))
  s.cciSettle m (s.cci m).length

/-- A pending COMMIT completes ABORTED and its set is discarded (R401, R403). -/
def State.abortCommit (s : State) (p : Nat) : State :=
  match (s.pipe p).commit with
  | none => s
  | some c =>
    let m := s.rd (INSP_BIND_PORT p)
    let s := s.dropCommit p
    ((s.finishSt (128 + 4 * p) c.idx stAborted).cciSettle m (s.cci m).length).mailboxTry m

/-- The pipeline disarms: its ladders are lost and a pending COMMIT is aborted. -/
def State.disarmNow (s : State) (p : Nat) : State :=
  ((((s.wr (INSP_CTL_ARMED p) 0).updPipe p (fun x => { x with disarmDue := false })).loseLadders p).abortCommit p)

/-! ## The end of a frame (R386, R393, R396, R397) -/

/-- Close the open frame: its records are written, its plane goes to the analyser, a list that waits for it is launched, and a DISARM
that waits for it acts. -/
def State.closeFrame (s : State) (p : Nat) (flag : Nat) (tFe : Nat) : State :=
  match (s.pipe p).frame with
  | none => s
  | some f =>
    let cfg := s.imgCfg p
    let rows := f.rows.reverse
    let dev := cfg.develop rows
    let qs := 131 + 4 * p
    let qt := 130 + 4 * p
    let tap := if f.tapDue then tapBytes f.tapPoint dev else []
    let stats := f.emb.take 256 ++ List.replicate (256 - f.emb.length) 0 ++ dev.stats cfg.width
    let short (q : Nat) (idx : Option Nat) (n : Nat) : Bool :=
      match s.bufLen q idx with | some len => decide (len < 64 + n) | none => false
    let flags := orFlag f.hdr.flags flag
    let flags := if short qs f.statBuf 1472 || (f.tapDue && short qt f.tapBuf tap.length) then orFlag flags 64 else flags
    let h : FrameHdr := { f.hdr with flags := flags, lines := rows.length, tFe := tFe, embLen := min 256 f.emb.length }
    let s := (s.updPipe p (fun x => { x with frame := none })).wr (INSP_FLAGS_LAST p) flags
    let s := if [0, 1, 2, 3, 4, 5, 9, 10].any (bitOf flags) then
        (s.report srcInspFrame p 0 initPipe p accNone 0).bump (INSP_CNT_FLAG_FLAG p)
      else s
    let s := s.putRecord p qs f.statBuf h (headerBytes p cfg.width h 2 0 2 1472 ++ stats)
    let s := if f.tapDue then
        s.putRecord p qt f.tapBuf h (headerBytes p cfg.width h 1 f.tapPoint (if f.tapPoint = 3 then 1 else 0) tap.length ++ tap)
      else s
    let s := match f.slot with
      | some k =>
        let pl : Plane := ⟨k, h, cfg.plane dev, if s.on (INSP_CFG_LINE_POS p) then f.pos.reverse else []⟩
        s.updPipe p (fun x => { x with planes := x.planes ++ [pl] })
      | none => s
    let met (l : LadderRec) : LadderRec := if l.pipe = p then s.meetFrame l h else l
    let s := { s with ladders := s.ladders.map met }
    let s := s.freeSlots p
    if (s.pipe p).disarmDue then s.disarmNow p
    else match (s.pipe p).commit with
      | some c => if c.waitEnd then s.launchList p else s
      | none => s

/-! ## The start of a frame (R385, R386, R400) -/

/-- The pending set of an acknowledged COMMIT at the Frame Start of frame `num`: the apply frame is fixed at the first one, and the set
goes into force at the apply frame. The Boolean says that it did so late. -/
def State.settleCommit (s : State) (p num : Nat) : State × Bool :=
  match (s.pipe p).commit with
  | none => (s, false)
  | some c =>
    if !c.acked then (s, false)
    else
      let c : InspCommit := match c.apply with
        | some _ => c
        | none => { c with apply := some ((num + max 1 (s.rd (INSP_CMT_PIPE_LAT p)) - 1) % 2 ^ 32), late := decide (num ≠ c.after) }
      let s := (s.updPipe p (fun x => { x with commit := some c })).wr (INSP_SET_STAT_APPLY_FRAME p) (c.apply.getD 0)
      if c.apply = some num then
        let m := s.rd (INSP_BIND_PORT p)
        let s := s.updPipe p (fun x => { x with commit := none })
        let s := ((s.forceSet p c.set).wr (INSP_SET_STAT_ID p) c.id).wr (INSP_SET_STAT_PEND p) 0
        ((s.finishSt (128 + 4 * p) c.idx stOk).mailboxTry m, c.late)
      else (s, false)

/-- Open a frame at an accepted Frame Start. -/
def State.openFrame (s : State) (p csi : Nat) : State :=
  let num := (s.pipe p).next
  let s := (s.updPipe p (fun x => { x with next := (num + 1) % 2 ^ 32 })).wr (INSP_FRAME_NOW p) num
  let (s, late) := s.settleCommit p num
  let t := s.stamp p
  let point := s.rd (INSP_TAP_POINT p)
  let tapDue := point != 0 && num % max 1 (s.rd (INSP_TAP_EVERY p)) == 0
  let statBuf := s.firstBuf (131 + 4 * p)
  let tapBuf := if tapDue then s.firstBuf (130 + 4 * p) else none
  let s := if statBuf.isNone then s.bump (INSP_CNT_BUF_NOBUF_STAT p) else s
  let s := if tapDue && tapBuf.isNone then s.bump (INSP_CNT_BUF_NOBUF_TAP p) else s
  let free := (s.pipe p).free
  let s := s.setFree p (free.drop 1)
  let h : FrameHdr :=
    { num := num, id := s.rd (INSP_SET_STAT_ID p), csi := csi, flags := (if free.isEmpty then 128 else 0) + (if late then 256 else 0),
      lines := 0, embLen := 0, tFs := t, tFe := 0, posFirst := 0, posLast := 0, resBuf := (s.firstBuf (129 + 4 * p)).isSome }
  let f : Frame :=
    { hdr := h, rows := [], pos := [], emb := [], dropping := false, slot := free.head?, lineT := none, statBuf := statBuf,
      tapBuf := tapBuf, tapPoint := point, tapDue := tapDue }
  (s.updPipe p (fun x => { x with frame := some f })).draw

/-! ## Lines (R386, R387) -/

/-- Flag the open frame; `drop`: the rest of it is dropped. -/
def State.flagFrame (s : State) (p flag : Nat) (drop : Bool) : State :=
  s.updPipe p (fun x => { x with frame := x.frame.map (fun f =>
    { f with hdr := { f.hdr with flags := orFlag f.hdr.flags flag }, dropping := f.dropping || drop }) })

/-- One line of the open frame: kept, padded to WIDTH, with the position of its stamp. A line wider than WIDTH, or beyond MAX_LINES, is dropped whole
(DESIGN CHOICE, notes/assumptions/93). -/
def State.addLine (s : State) (p : Nat) (f : Frame) (pixels : List Nat) (crcOk : Bool) : State :=
  let w := s.rd (INSP_GEOM_WIDTH p)
  if w < pixels.length ∨ s.rd (INSP_GEOM_MAX_LINES p) ≤ f.rows.length then s.flagFrame p 8 true
  else
    let at' := s.stampPos p (f.lineT.getD (s.stamp p))
    let x := at'.getD 0
    let flags := if crcOk then f.hdr.flags else orFlag f.hdr.flags 16
    let flags := if pixels.length < w then orFlag flags 1024 else flags
    let flags := if at'.isNone then orFlag flags 512 else flags
    let h : FrameHdr := { f.hdr with flags := flags, posFirst := if f.rows.isEmpty then x else f.hdr.posFirst, posLast := x }
    let g : Frame :=
      { f with hdr := h, rows := (pixels ++ List.replicate (w - pixels.length) 0) :: f.rows, pos := x :: f.pos, lineT := none }
    (s.updPipe p (fun y => { y with frame := some g })).draw

end Sys2Proof.Machine
end

