-- ==== Sys2Proof/Machine/Loop.lean ====
section
/-!
DEFINITION. The loop engine (spec/13): its tick, the sample of a slot, enable, disable and coefficient sets, faults and the safe
state, and the auxiliary inputs and outputs. Set-points and integrators are in 2⁻¹⁶ of a count.
-/
namespace Sys2Proof.Machine

open Sys2Proof

/-- One slot's hidden state. -/
def State.slot (s : State) (i : Nat) : Slot := Store.get Slot.reset s.slots i
/-- Change one slot's hidden state. -/
def State.updSlot (s : State) (i : Nat) (f : Slot → Slot) : State :=
  { s with slots := Store.put Slot.reset s.slots i (f (s.slot i)) }

/-- Slot states. -/
def lpOff : Nat := 0
def lpWait : Nat := 1
def lpRamping : Nat := 2
def lpRun : Nat := 3
def lpHold : Nat := 4
def lpFault : Nat := 5

/-- The state of a slot. -/
def State.lpState (s : State) (i : Nat) : Nat := s.rd (LOOP_STAT_STATE i)

/-! ## Outputs (R363, R374, R378) -/

/-- Whether a slot drives head heaters. -/
def State.lpHeater (s : State) (i : Nat) : Bool := s.rd (LOOP_BIND_OUT_SEL i) == 1

/-- The heater zones a slot drives: those of ZMASK below the head's HEATER_ZONES. -/
def State.lpZones (s : State) (i : Nat) : List Nat :=
  let zones := bitsOf (s.rd (LINK_HEAD_IDENT0 (s.rd (LOOP_BIND_OUT_IDX i)) 4)) 16 8
  (List.range 4).filter (fun z => bitOf (s.rd (LOOP_BIND_ZMASK i)) z && decide (z < zones))

/-- A HEATER command for each zone of a slot, with DUTY = 2 × max(u, 0) (R361, R363), on a lane that is UP (DEDUCED,
notes/assumptions/92). -/
def State.lpSend (s : State) (i : Nat) (u : Int) : State :=
  let n := s.rd (LOOP_BIND_OUT_IDX i)
  if !s.lpHeater i || s.linkState n != lsUp then s
  else (s.lpZones i).foldl (fun s z =>
    s.queueCmd n ⟨opHeater + z * 2 ^ 32 + (2 * u.toNat) * 2 ^ 48, false, .none⟩) s

/-- Drive an output. -/
def State.lpDrive (s : State) (i : Nat) (u : Int) : State := (s.wrS (LOOP_OUTS_OUT i) u).lpSend i u

/-- The integrator as the registers show it: whole output counts. -/
def State.lpSetI (s : State) (i : Nat) (v : Int) : State :=
  (s.updSlot i (fun l => { l with i := v })).wrS (LOOP_OUTS_I_HI i) (v / 65536)

/-! ## The control law (R361, R362, R367, R368, R370 to R372) -/

/-- The input of a slot: its value and whether it is fresh. -/
def State.lpInput (s : State) (i : Nat) : Int × Bool :=
  let idx := s.rd (LOOP_BIND_IN_IDX i)
  let us := if s.rd (LOOP_STALE_STALE_US i) = 0 then 0 else max 10 (s.rd (LOOP_STALE_STALE_US i))
  let since (t : Option Nat) : Bool := us == 0 || (match t with | some t => decide (s.timeNs ≤ t + 1000 * us) | none => false)
  match s.rd (LOOP_BIND_IN_SEL i) with
  | 0 => (sext 16 (s.rd (LINK_HEAD_TLM idx 0)), since (s.link idx).tlmAt)
  | 1 => (sext 16 (s.rd (LINK_HEAD_TLM idx 0) / 65536), since (s.link idx).tlmAt)
  | 2 => (if idx < 16 then (s.rd (AIN_VALUE idx) : Int) else sext 16 s.free, true)
  | _ => (s.rdS (LOOP_SP_PV_PV_SW i), since (s.slot i).swAt)

/-- Whether the slot's upper limit is clamped by the head's temperature warning (R371). -/
def State.lpWarn (s : State) (i : Nat) : Bool := s.lpHeater i && s.on (CELL_TEMP_STAT_WARN (s.rd (LOOP_BIND_OUT_IDX i)))

/-- The limits lo and hi in force (R368, R371). -/
def State.lpLimits (s : State) (i : Nat) : Int × Int :=
  let lo := sext 16 (s.rdF (LOOP_LIM_OUT_MIN i))
  let top := sext 16 (s.rdF (LOOP_LIM_OUT_MAX i))
  let hi := if s.lpWarn i then min top (s.rdS (LOOP_GCFG_WARN_MAX i)) else top
  (lo, max lo hi)

/-- The gain for an error, uQ8.8 (R368). -/
def State.lpGain (s : State) (i : Nat) (e : Int) : Int :=
  let neg := s.rdF (LOOP_GCFG_ASYM i) == 1 && decide (e < 0)
  let t (j : Nat) : Int := s.rdF (if neg then LOOP_GT_NEG i j else LOOP_GT_POS i j)
  let w := 2 ^ min 10 (s.rdF (LOOP_GCFG_GSHIFT i))
  let x := e.natAbs
  if 32 ≤ x / w then t 32 else t (x / w) + halfUp ((t (x / w + 1) - t (x / w)) * ((x % w : Nat) : Int)) w

/-- The fields of a coefficient set (R369). -/
def lpSet (i : Nat) : List Fld :=
  [LOOP_KI i, LOOP_LIM_OUT_MIN i, LOOP_LIM_OUT_MAX i, LOOP_GCFG_GSHIFT i, LOOP_GCFG_ASYM i] ++
  (List.range 33).map (LOOP_GT_POS i) ++ (List.range 33).map (LOOP_GT_NEG i)

/-- Limit the integrator to the limits in force; the Boolean says that it moved. -/
def State.lpLimitI (s : State) (i : Nat) : State × Bool :=
  let (lo, hi) := s.lpLimits i
  let v := (s.slot i).i
  let w := clampInt (lo * 65536) (hi * 65536) v
  (s.lpSetI i w, w != v)

/-- The swap of a committed set at the sample boundary (R370). -/
def State.lpSwap (s : State) (i : Nat) : State :=
  if !s.on (LOOP_STAT_COMMIT_PEND i) then s
  else
    let s := (s.enforceAll (lpSet i)).wr (LOOP_STAT_COMMIT_PEND i) 0
    let (s, moved) := s.lpLimitI i
    if moved || s.on (LOOP_STAT_SAT i) then
      (s.wr (LOOP_STAT_SAT_AT_SWAP i) 1).report srcLoopSwap i 0 initNone 0 accNone i
    else s

/-- SPR as registers and the law use it: rounded, halves upward. -/
def Slot.sprNow (l : Slot) : Int := halfUp l.spr 65536

/-- Set SPR. -/
def State.lpSetSpr (s : State) (i : Nat) (v : Int) : State :=
  let s := s.updSlot i (fun l => { l with spr := v })
  s.wrS (LOOP_VAL_SPR i) (s.slot i).sprNow

/-- The ramp at one sample (R367); the rounding of a step to 2⁻¹⁶ is open. -/
def State.lpRamp (s : State) (i : Nat) : State :=
  let sp := s.rdS (LOOP_SP_PV_SP i) * 65536
  let l := s.slot i
  let rate := s.rd (LOOP_RAMP_RATE i)
  let step := s.divOpenAt i (rate * s.rd (LOOP_RATE_DIV i) * 256 : Nat) 100000
  s.lpSetSpr i (if rate = 0 then sp else l.spr + clampInt (-step) step (sp - l.spr))

/-- RAMP while SPR differs from SP, RUN once it equals it (R367). -/
def State.lpMoving (s : State) (i : Nat) : State :=
  s.wr (LOOP_STAT_STATE i) (if (s.slot i).spr = s.rdS (LOOP_SP_PV_SP i) * 65536 then lpRun else lpRamping)

/-- The output of one fresh sample (R368). -/
def State.lpLaw (s : State) (i : Nat) (pv : Int) : State :=
  let l := s.slot i
  let (lo, hi) := s.lpLimits i
  let e := satInt 16 (l.sprNow - pv)
  let kp := s.lpGain i e
  let p := halfUp (kp * e) 256
  let di := halfUp ((s.rdF (LOOP_KI i) : Int) * e) 256
  let i2 := l.i + di
  let stuck := decide ((hi * 65536 < p * 65536 + i2 ∧ 0 < di) ∨ (p * 65536 + i2 < lo * 65536 ∧ di < 0))
  let iNew := clampInt (lo * 65536) (hi * 65536) (if stuck then l.i else i2)
  let sum := p * 65536 + iNew
  let u := clampInt lo hi (halfUp sum 65536)
  let s := (s.lpSetI i iNew).wrB (LOOP_STAT_SAT i) (decide (hi * 65536 < sum ∨ sum < lo * 65536))
  ((s.wrS (LOOP_DIAG_ERR i) e).wrS (LOOP_DIAG_KP_NOW i) kp).lpDrive i u

/-- The following-error watch (R372). -/
def State.lpFollow (s : State) (i : Nat) (pv : Int) : State :=
  let lim := s.rd (LOOP_FE_FE_LIMIT i)
  let far := decide (lim ≠ 0 ∧ lim < (pv - (s.slot i).sprNow).natAbs)
  let us := if far then (s.slot i).feUs + 10 * s.rd (LOOP_RATE_DIV i) else 0
  (s.updSlot i (fun l => { l with feUs := us })).wr (LOOP_CNT_FE_TMR i) (satNat 16 (us / 1000))

/-- The first fresh sample of a slot that waits (R366). -/
def State.lpBegin (s : State) (i : Nat) (pv : Int) : State :=
  let s := s.lpSetSpr i (pv * 65536)
  let s := s.lpSetI i (s.rdS (LOOP_INIT_I_INIT i) * 65536)
  let s := (s.lpLimitI i).1
  (s.updSlot i (fun l => { l with feUs := 0 })).wr (LOOP_CNT_FE_TMR i) 0

/-- A slot stops: output 0, DUTY 0 once to each zone, OFF (R374). -/
def State.lpStop (s : State) (i : Nat) : State :=
  ((s.lpDrive i 0).updSlot i (fun l => { l with stopping := false })).wr (LOOP_STAT_STATE i) lpOff

/-- One sample of a slot that regulates (R362, R366 to R372). A slot in WAIT stays there while its input is stale (DEDUCED,
notes/assumptions/92). -/
def State.lpRegulate (s : State) (i : Nat) (pv : Int) (fresh : Bool) : State :=
  let st := s.lpState i
  if st = lpFault then s.lpSwap i
  else
    let s := (s.bump (LOOP_SAMPLES i)).lpSwap i
    let s := s.wrB (LOOP_STAT_WARN_CLAMP i) (s.lpWarn i)
    let s := if st = lpWait then s else ((s.lpLimitI i).1).lpRamp i
    if !fresh then
      let s := s.bump (LOOP_CNT_STALE i)
      if st = lpWait then s.lpDrive i 0
      else (s.updSlot i (fun l => { l with staleRun := min 255 (l.staleRun + 1) })).wr (LOOP_STAT_STATE i) lpHold
    else
      let s := (s.updSlot i (fun l => { l with staleRun := 0 })).wrS (LOOP_VAL_PV i) pv
      let s := if st = lpWait then s.lpBegin i pv else s
      ((s.lpMoving i).lpLaw i pv).lpFollow i pv

/-- Whether the following-error timer has reached FE_TIME (R372). -/
def State.lpLate (s : State) (i : Nat) : Bool :=
  decide (s.rd (LOOP_FE_FE_LIMIT i) ≠ 0 ∧ max 1 (s.rd (LOOP_FE_FE_TIME i)) * 1000 ≤ (s.slot i).feUs)

/-- One sample of a slot. A stop under R374 is taken at it, unless its following error times out at this very sample: that fault comes
first, and the slot stops at the next one (DESIGN CHOICE, notes/assumptions/92). -/
def State.lpSample (s : State) (i : Nat) (pv : Int) (fresh : Bool) : State :=
  if (s.slot i).stopping then
    let t := s.lpRegulate i pv fresh
    if s.lpState i ≠ lpFault ∧ t.lpLate i ∧ ¬ s.lpLate i then t else (s.lpSwap i).lpStop i
  else s.lpRegulate i pv fresh

/-- Whether a slot is due at a tick (R361). -/
def State.lpDue (s : State) (i : Nat) : Bool :=
  let d := s.rd (LOOP_RATE_DIV i)
  s.lpState i != lpOff && d != 0 && s.loopTick % d == s.rd (LOOP_RATE_PHASE i) % d

/-- LOOP_TICK (R361): every input is taken at the tick's start, and the slots that are due are evaluated in ascending order. -/
def execLoopTick (s : State) : Host.Outcome State Fault Refusal :=
  let ins := ((List.range 80).filter s.lpDue).map (fun i => (i, s.lpInput i))
  let s := { s with loopTick := s.loopTick + 1, ainFirst := [] }
  .next ((ins.foldl (fun s e => s.lpSample e.1 e.2.1 e.2.2) s.draw).drawN 80)

/-! ## Enable, disable, commit (R364, R366, R369, R374) -/

/-- Whether two slots would drive one output (R364). -/
def State.lpClash (s : State) (i j : Nat) : Bool :=
  let o := s.rd (LOOP_BIND_OUT_SEL i)
  i != j && s.lpState j != lpOff && s.rd (LOOP_BIND_OUT_SEL j) == o && s.rd (LOOP_BIND_OUT_IDX j) == s.rd (LOOP_BIND_OUT_IDX i) &&
  (o == 2 || (o == 1 && (List.range 4).any (fun z => bitOf (s.rd (LOOP_BIND_ZMASK i)) z && bitOf (s.rd (LOOP_BIND_ZMASK j)) z)))

/-- Whether an enable is refused (R364). -/
def State.lpRefused (s : State) (i : Nat) : Bool :=
  let own := s.owner .loop i
  let lane (n : Nat) : Bool := own != 15 && own != s.owner .cell n
  (s.rd (LOOP_BIND_IN_SEL i) ≤ 1 && lane (s.rd (LOOP_BIND_IN_IDX i))) || (s.lpHeater i && lane (s.rd (LOOP_BIND_OUT_IDX i))) ||
  s.rd (LOOP_RATE_DIV i) == 0 || (List.range 80).any (s.lpClash i)

/-- CTL.EN goes from 0 to 1 (R364, R366). A slot whose stop under R374 is not yet taken stops first (DESIGN CHOICE, notes/assumptions/92). -/
def State.lpEnable (s : State) (who : Sender) (i : Nat) : State :=
  if s.on (LOOP_CTL_EN i) then s
  else if s.lpRefused i then s.hostXs who xsRule (LOOP_CTL_EN i).addr true
  else
    let s := if s.lpState i = lpOff then s else s.lpStop i
    let s := (s.clearAll [LOOP_CNT_STALE i, LOOP_SAMPLES i, LOOP_STAT_FAULT_CAUSE i, LOOP_STAT_SAT i, LOOP_CNT_FE_TMR i]).wr (LOOP_CTL_EN i) 1
    ((s.updSlot i (fun l => { l with staleRun := 0, feUs := 0, stopping := false })).wr (LOOP_STAT_STATE i) lpWait).wr (LOOP_OUTS_OUT i) 0

/-- CTL.EN goes from 1 to 0 (R374). -/
def State.lpDisable (s : State) (i : Nat) : State :=
  if !s.on (LOOP_CTL_EN i) then s
  else (s.wr (LOOP_CTL_EN i) 0).updSlot i (fun l => { l with stopping := s.lpState i != lpOff })

/-- CTL.COMMIT is written (R369). -/
def State.lpCommit (s : State) (who : Sender) (i : Nat) : State :=
  if s.rdS (LOOP_LIM_OUT_MAX i) < s.rdS (LOOP_LIM_OUT_MIN i) then s.hostXs who xsValue (LOOP_CTL_COMMIT i).addr true
  else if s.lpState i = lpOff then s.enforceAll (lpSet i)
  else s.wr (LOOP_STAT_COMMIT_PEND i) 1

/-- LOOP_ENABLE (R366). -/
def execLoopEnable (who : Sender) (i : SlotId) (s : State) : Host.Outcome State Fault Refusal :=
  .next (s.gatedWrite who (LOOP_CTL_EN i) 1 (fun s => s.lpEnable who i))

/-- LOOP_DISABLE (R374). -/
def execLoopDisable (who : Sender) (i : SlotId) (s : State) : Host.Outcome State Fault Refusal :=
  .next (s.gatedWrite who (LOOP_CTL_EN i) 0 (fun s => s.lpDisable i))

/-- LOOP_COMMIT (R369). -/
def execLoopCommit (who : Sender) (i : SlotId) (s : State) : Host.Outcome State Fault Refusal :=
  .next (s.gatedWrite who (LOOP_CTL_COMMIT i) 2 (fun s => s.lpCommit who i))

/-! ## Faults and the safe state (R373, R375) -/

/-- A slot faults (R373). -/
def State.lpFaultEnter (s : State) (i cause : Nat) (u : Int) : State :=
  ((s.wr (LOOP_STAT_STATE i) lpFault).wr (LOOP_STAT_FAULT_CAUSE i) cause).lpDrive i u

/-- Whether a slot runs: neither off nor in fault. -/
def State.lpActive (s : State) (i : Nat) : Bool := s.lpState i != lpOff && s.lpState i != lpFault

/-- LOOP_INPUT_FAULT (R362): STALE_N consecutive stale samples. -/
def execLoopInputFault (i : SlotId) (s : State) : Host.Outcome State Fault Refusal :=
  .next (if s.lpActive i && decide (max 1 (s.rd (LOOP_STALE_STALE_N i)) ≤ (s.slot i).staleRun) then
    (s.lpFaultEnter i 2 0).report srcLoopInput i 2 initNone 0 accNone i else s)

/-- LOOP_FE_FAULT (R372): the following-error timer has reached FE_TIME. -/
def execLoopFeFault (i : SlotId) (s : State) : Host.Outcome State Fault Refusal :=
  .next (if s.lpActive i && s.lpLate i then
    (s.lpFaultEnter i 1 0).report srcLoopFe i 2 initNone 0 accNone i else s)

/-- The safe-state action of one slot (R375). A heater slot in WAIT, which has driven nothing, goes to OFF with EN 0 (DESIGN CHOICE,
notes/assumptions/92). -/
def State.lpSafe (s : State) (i : Nat) : State :=
  if !s.lpActive i then s
  else if s.lpHeater i then
    if s.lpState i = lpWait then (s.lpStop i).wr (LOOP_CTL_EN i) 0 else s.lpFaultEnter i 3 0
  else match s.rd (LOOP_CTL_SAFE_ACT i) with
    | 1 => s
    | 2 => s.lpFaultEnter i 3 (s.rdS (LOOP_INIT_SAFE_OUT i))
    | _ => s.lpFaultEnter i 3 0

/-- Every slot acts on the entry to the safe state (R375). -/
def State.loopsSafe (s : State) : State := (List.range 80).foldl (fun s i => s.lpSafe i) s

/-! ## Auxiliary inputs and outputs (R378, R379) -/

/-- The slot that drives an AUX_PWM output. -/
def State.auxDriver (s : State) (k : Nat) : Option Nat :=
  (List.range 80).find? (fun i => s.lpState i != lpOff && s.rd (LOOP_BIND_OUT_SEL i) == 2 && s.rd (LOOP_BIND_OUT_IDX i) == k)

/-- AUX_PWM_PERIOD (R378): a period starts with the duty of the driving slot, or IDLE; the high time to the nearest 10 ns. -/
def execAuxPwmPeriod (k : Fin 16) (s : State) : Host.Outcome State Fault Refusal :=
  let duty : Nat :=
    if !s.on (AUXPWM_EN k) then 0
    else match s.auxDriver k with
      | some i => 2 * (s.rdS (LOOP_OUTS_OUT i)).toNat
      | none => s.rd (AUXPWM_IDLE k)
  let high := (s.nearest (duty * max 100 (s.rd (AUXPWM_PERIOD k)) : Nat) 65536).toNat
  .next { (s.wr (AUXPWM_DUTY_NOW k) duty).draw with auxHigh := Store.put 0 s.auxHigh k high }

/-- AIN_CONVERT (R379): the value is the sum of the two conversions of a tick × 4. -/
def execAinConvert (k : Fin 16) (code : BitVec 12) (s : State) : Host.Outcome State Fault Refusal :=
  match Store.get none s.ainFirst k with
  | none => .next { s with ainFirst := Store.put none s.ainFirst k (some code.toNat) }
  | some c => .next { s.wr (AIN_VALUE k) ((c + code.toNat) * 4) with ainFirst := Store.put none s.ainFirst k none }

end Sys2Proof.Machine
end

