-- ==== Sys2Proof/Machine/GooseOps.lean ====
section
/-!
DEFINITION. The operations of the Goose (spec/18): making a record of a report, capture, events, the reactions of the classes, the
safe state and its end, and PRESENT. The Yoke, the Coop and the start-up use them too.
-/
namespace Sys2Proof.Machine

open Sys2Proof

/-- Change the Goose's hidden state. -/
def State.updGoose (s : State) (f : Goose → Goose) : State := { s with goose := f s.goose }

/-! ## Sources (R498, R489) -/

/-- Whether an ID names a source of the source table (R498). -/
def isSource (i : Nat) : Bool :=
  [(0x01, 0x04), (0x08, 0x0C), (0x10, 0x13), (0x18, 0x1C), (0x20, 0x26), (0x28, 0x28), (0x30, 0x3B), (0x40, 0x44), (0x48, 0x49),
    (0x4C, 0x4E), (0x50, 0x53), (0x58, 0x5B), (0x60, 0x65), (0x68, 0x6D), (0x70, 0x70), (0x74, 0x76), (0x78, 0x81)].any
    (fun r => decide (r.1 ≤ i ∧ i ≤ r.2))

/-- Rails 0 to 6 are in range, and a VSAFE feed is (R515, R516). -/
def State.railsOk (s : State) : Bool :=
  let v := s.rd COOP_SUP_STAT_IN_RANGE
  bitsOf v 0 7 == 127 && bitsOf v 7 2 != 0

/-- The die sensors that are not excluded (R521). -/
def State.sensors (s : State) : List Nat := (List.range 16).filter (fun j => !bitOf (s.rd COOP_THERM2_EXCLUDED) j)

/-- The condition of a class 3 source (R489); with too few sensors left THERM_TRIP's condition holds too (R521). -/
def State.condition (s : State) (src : Nat) : Bool :=
  if src = srcCoopRef ∨ src = srcCoopPll then !s.on GLOBAL_READY_PLL
  else if src = srcCoopSupply then !s.railsOk
  else if src = srcThermTrip then
    s.sensors.any (fun j => decide (s.rdS COOP_THERM2_T_REL ≤ s.rdS (COOP_TEMP_TEMP j))) || decide (s.sensors.length ≤ 12)
  else if src = srcGooseSelf then s.on GOOSE_STATUS_SELF_FAIL
  else if src = srcGooseHb then s.goose.hbLost
  else src == srcVaultBoot

/-- PRESENT of a source falls when its condition has gone and no promotion holds it (R489). -/
def State.dropPresent (s : State) (src : Nat) : State :=
  if s.on (GOOSE_SRC_STAT_PRESENT src) && !s.condition src && !s.goose.promoted.contains src then s.wr (GOOSE_SRC_STAT_PRESENT src) 0
  else s

/-- The sources whose condition can end, brought to what holds. -/
def State.refreshPresent (s : State) : State :=
  [srcCoopRef, srcCoopPll, srcCoopSupply, srcThermTrip, srcGooseSelf, srcGooseHb].foldl State.dropPresent s

/-- Whether a source is PRESENT. -/
def State.anyPresent (s : State) : Bool := (List.range 256).any (fun i => s.on (GOOSE_SRC_STAT_PRESENT i))

/-! ## The safe state (R484, R485, R490) -/

/-- The actions on entry to the safe state (R485, R207, R524). -/
def State.safeActions (s : State) : State :=
  let s := (List.range 64).foldl (fun s n =>
    let s := ((s.safeCell n).dropUpdates n 3)
    if s.rd (LINK_PWR_STAT_DS n) == pwOn || s.rd (LINK_PWR_STAT_DS n) == pwDoze then s.haltLane n 2 else s) s
  let s := (s.wr COOP_HEAD_PWR_EN 0).wr COOP_HEAD_PWR_LEVEL 0
  let s := (List.range 8).foldl (fun s a => if s.axState a == axOff then s else s.axFaultEnter a 6) s
  let s := s.loopsSafe.refreshStop.refreshSlow
  { s with gov := { s.gov with safeDue := true } }

/-- The safe state is entered, or a class 4 record is taken in a safe state of class 3 (R484). -/
def State.safeEntry (s : State) (src cls : Nat) : State :=
  if !s.on GOOSE_STATUS_SAFE then
    (((s.wr GOOSE_STATUS_SAFE 1).wr GOOSE_STATUS_CAUSE_SRC src).wr GOOSE_STATUS_CAUSE_CLASS cls |>.wrB GOOSE_STATUS_LATCH4
      (s.on GOOSE_STATUS_LATCH4 || cls == 4)).safeActions
  else if cls == 4 && !s.on GOOSE_STATUS_LATCH4 then
    ((s.wr GOOSE_STATUS_CAUSE_SRC src).wr GOOSE_STATUS_CAUSE_CLASS 4).wr GOOSE_STATUS_LATCH4 1
  else s

/-- The device leaves the safe state by a release (R490); the levels of the governor follow from its next update (spec/07 R207). -/
def State.safeExit (s : State) : State :=
  let s := (s.wr GOOSE_STATUS_SAFE 0).clearAll [GOOSE_STATUS_REL_ARMED, GOOSE_STATUS_REL_ERR]
  let s := (List.range 64).foldl State.unhaltLane s
  { s with gov := { s.gov with fromSafe := true } }

/-! ## Records (R478, R480 to R483, R493) -/

/-- The words of a record in the layout of R478. -/
def recordWords (r : Report) (inj promoted : Bool) (seq : Nat) : List Nat :=
  [r.src % 256 + 2 ^ 8 * (r.cls % 8) + 2 ^ 11 * b2n inj + 2 ^ 12 * b2n promoted + 2 ^ 16 * (r.initType % 256) + 2 ^ 24 * (r.initNum % 256),
    r.access % 8, r.addr % 2 ^ 32, r.addr / 2 ^ 32 % 2 ^ 32, r.time % 2 ^ 32, r.time / 2 ^ 32 % 2 ^ 32, seq, 2 ^ 31]

/-- A qualifying record is captured, or counted in LATER of the one held (R493). -/
def State.capture (s : State) (fld : Nat → Fld) (ws : List Nat) : State :=
  if bitOf (s.rd (fld 7)) 31 then
    let later := min 65535 (bitsOf (s.rd (fld 1)) 16 16 + 1)
    s.wr (fld 1) (s.rd (fld 1) % 2 ^ 16 + 2 ^ 16 * later)
  else ws.zipIdx.foldl (fun s e => s.wr (fld e.2) e.1) s

/-- The context that owns the unit a record names (R481); 15 for none. -/
def State.recordOwner (s : State) (r : Report) : Nat :=
  if srcEncEvent ≤ r.src ∧ r.src ≤ srcEncCal then s.owner .enc (r.addr % 4)
  else if srcLoopFe ≤ r.src ∧ r.src ≤ srcLoopSwap then s.owner .loop (r.addr % 80)
  else if r.initType = initCell then s.owner .cell (r.initNum % 64)
  else if r.initType = initCtx then r.initNum
  else if r.initType = initPipe then s.owner .insp (r.initNum % 4)
  else if r.initType = initAxis then s.owner .axis (r.initNum % 8)
  else 15

/-- Post the fault event of a record (R481, R72); an injected record has one whatever REACT holds, since R491 makes the reaction alone hang on REACT
(DESIGN CHOICE, notes/assumptions/96). -/
def State.faultEvent (s : State) (r : Report) (inj promoted : Bool) : State :=
  let code := r.cls % 8 + 8 * b2n inj + 16 * b2n promoted
  let info := r.initType % 256 + 2 ^ 8 * (r.initNum % 256) + 2 ^ 16 * (r.access % 8)
  let ev (s : State) (k : Nat) : State :=
    s.postEvent k ⟨0x02, code, r.src, info, r.time, r.addr,
      if r.cls < 2 then s.rd (HOST_CTX_VEC_GEN k) else s.rd (HOST_CTX_VEC_FAULT k), decide (r.cls < 2)⟩
  if r.cls < 2 ∧ !s.on (GOOSE_SRC_CFG_EVT r.src) then s
  else if 3 ≤ r.cls then ((List.range 8).filter (fun k => s.on (HOST_CTX_EN k))).foldl ev s
  else
    let s1 := ev s s.admin
    let o := s.recordOwner r
    if o < 8 && o != s.admin then ev s1 o else s1

/-- The class of a record after promotion (R482). -/
def State.promotedClass (s : State) (src cls : Nat) : Nat :=
  let up := match s.rd (GOOSE_SRC_CFG_PROMOTE src) with
    | 1 => 2
    | 2 => 3
    | _ => 0
  if cls = 4 then 4 else max cls up

/-- The count of records of a class (R480). -/
def classCnt : Nat → Fld
  | 0 => GOOSE_CLASS_CNT0_CLASS0
  | 1 => GOOSE_CLASS_CNT0_CLASS1
  | 2 => GOOSE_CLASS_CNT1_CLASS2
  | 3 => GOOSE_CLASS_CNT1_CLASS3
  | _ => GOOSE_CLASS_CNT2_CLASS4

/-- The counts of a record: its source, its class, and for a real one the Ledger's count (R477, R480, spec/21 R546). -/
def State.countRecord (s : State) (r : Report) (inj : Bool) : State :=
  let s := s.bump (classCnt r.cls)
  if inj then (s.bump (GOOSE_SRC_STAT_INJ_COUNT r.src)).bump GOOSE_INJ_STAT_INJECTED
  else
    let s := ((s.bumpBy (GOOSE_SRC_STAT_COUNT r.src) (1 + r.merged)).bumpBy GOOSE_CLASS_CNT2_MERGED r.merged).wr
      (GOOSE_SRC_STAT_MAX_CLASS r.src) (max (s.rd (GOOSE_SRC_STAT_MAX_CLASS r.src)) r.cls)
    s.bump (LEDGER_GOOSE_CNT (8 * r.src + r.cls))

/-- The reaction of a record at a class (R483, R484). -/
def State.reactRecord (s : State) (r : Report) (cls : Nat) (promoted : Bool) : State :=
  let s := if 3 ≤ cls then (s.updGoose (fun g => { g with relBad := true })).safeEntry r.src cls else s
  if r.initType = initCell ∧ r.initNum < 64 then
    let n := r.initNum
    let s := if cls = 2 ∧ promoted then
        let m := if s.follower n then n - 1 else n
        match (s.cell m).inPrint with
        | some p => s.updPage m p.idx (fun p => p.flag cfDefective)
        | none => s
      else s
    if 2 ≤ cls ∧ s.on (GOOSE_SRC_CFG_FENCE r.src) ∧ s.cellState n ≠ csFenced then
      (s.fence n fcCommanded).updCell n (fun c => { c with fenceSrc := r.src })
    else s
  else s

/-- The Goose takes a report, or an injection, as a record (R478 to R484, R489, R491 to R493). -/
def State.takeRecord (s : State) (r : Report) (inj react : Bool) : State :=
  let cls := s.promotedClass r.src r.cls
  let promoted := cls != r.cls
  let r : Report := { r with cls := cls }
  let ws := recordWords r inj promoted (s.rd GOOSE_SEQ)
  let s := (s.bumpMod GOOSE_SEQ).countRecord r inj
  let s := if min 4 (s.rd GOOSE_FIRST_CTL_MIN_CLASS) ≤ cls then
      let s := s.capture GOOSE_FIRST_ANY ws
      if inj then s else s.capture GOOSE_FIRST_REAL ws
    else s
  let s := s.faultEvent r inj promoted
  let s := if !inj && cls == 3 then
      let s := if promoted then s.updGoose (fun g => { g with promoted := r.src :: g.promoted.filter (· != r.src) }) else s
      if promoted || s.condition r.src then s.wr (GOOSE_SRC_STAT_PRESENT r.src) 1 else s
    else s
  if !inj then s.reactRecord r cls promoted
  else if react then s.reactRecord r (min cls 3) promoted
  else s

/-- Which of two reports the Goose takes first (R479). -/
def Report.before (a b : Report) : Bool :=
  if a.time ≠ b.time then decide (a.time < b.time)
  else if a.cls ≠ b.cls then decide (b.cls < a.cls)
  else if a.src ≠ b.src then decide (a.src < b.src)
  else decide (a.initNum < b.initNum)

/-- The report taken next, and those that stay pending. -/
def firstReport : List Report → Option (Report × List Report)
  | [] => none
  | r :: rs =>
    match firstReport rs with
    | none => some (r, [])
    | some (q, qs) => if q.before r then some (q, r :: qs) else some (r, rs)

/-- A self-check failure: the checker drives the safe state at once (R494, R522). -/
def State.selfCheck (s : State) (src cls : Nat) : State :=
  (s.updGoose (fun g => { g with relBad := true })).safeEntry src cls

end Sys2Proof.Machine
end

