-- ==== Sys2Proof/Machine/Goose.lean ====
section
/-!
DEFINITION. The meanings of the commands of the Goose (spec/18): taking reports, injection, capture, the release of the safe state, its
self-checks, heartbeats, and the release of a fenced cell.
-/
namespace Sys2Proof.Machine

open Sys2Proof

/-- FAULT_REPORT: the Goose takes the first pending report (R477 to R484); none while its store has not passed a check (R494). -/
def execFaultReport (s : State) : Host.Outcome State Fault Refusal :=
  if s.goose.storeBad then .next s
  else match firstReport s.reports with
    | none => .next s
    | some (r, rs) =>
      let s : State := { s with reports := rs, safeLine := rs.any (fun p => decide (3 ≤ p.cls)) }
      .next (s.takeRecord r false true)

/-- An injection (R491). INIT_NUM is not checked, and REFUSED stands until it is written 1 (DESIGN CHOICE, notes/assumptions/96). -/
def State.inject (s : State) : State :=
  let src := s.rd GOOSE_INJ_CTL_SRC
  let cls := s.rd GOOSE_INJ_CTL_CLASS
  let type := s.rd GOOSE_INJ_INIT_TYPE
  if s.on GOOSE_CTL_INJ_LOCK || !isSource src || decide (4 < cls) || decide (7 < type) then s.wr GOOSE_INJ_STAT_REFUSED 1
  else
    s.takeRecord ⟨src, 0, cls, type, s.rd GOOSE_INJ_INIT_NUM, s.rd GOOSE_INJ_INIT_ACCESS,
      s.rd2 GOOSE_INJ_ADDR_LO GOOSE_INJ_ADDR_HI, s.faultTime, 0⟩ true (s.on GOOSE_INJ_CTL_REACT)

/-- FAULT_INJECT: a write of INJ_CTL.GO (R491). -/
def execFaultInject (who : Sender) (s : State) : Host.Outcome State Fault Refusal :=
  .next (s.gatedWrite who GOOSE_INJ_CTL_GO 1 State.inject)

/-! ## First-error capture (R493) -/

/-- A held record is copied to the Ledger (spec/21 R546) and then re-armed. -/
def State.rearm (s : State) (fld : Nat → Fld) : State :=
  let s := if bitOf (s.rd (fld 7)) 31 then
      let e := (s.rd LEDGER_COPY_IDX + 1) % 16
      ((List.range 8).foldl (fun s j => s.wr (LEDGER_COPY (8 * e + j)) (s.rd (fld j))) s).wr LEDGER_COPY_IDX e
    else s
  (s.wr (fld 7) (s.rd (fld 7) % 2 ^ 31)).wr (fld 1) (s.rd (fld 1) % 2 ^ 16)

/-- ARM_ANY: a write of FIRST_CTL.ARM_ANY. -/
def execArmAny (who : Sender) (s : State) : Host.Outcome State Fault Refusal :=
  .next (s.gatedWrite who GOOSE_FIRST_CTL_ARM_ANY 1 (fun s => s.rearm GOOSE_FIRST_ANY))

/-- ARM_REAL: a write of FIRST_CTL.ARM_REAL. -/
def execArmReal (who : Sender) (s : State) : Host.Outcome State Fault Refusal :=
  .next (s.gatedWrite who GOOSE_FIRST_CTL_ARM_REAL 1 (fun s => s.rearm GOOSE_FIRST_REAL))

/-- The counters of the Goose. -/
def gooseCounters : List Fld :=
  [GOOSE_CLASS_CNT0_CLASS0, GOOSE_CLASS_CNT0_CLASS1, GOOSE_CLASS_CNT1_CLASS2, GOOSE_CLASS_CNT1_CLASS3, GOOSE_CLASS_CNT2_CLASS4,
    GOOSE_CLASS_CNT2_MERGED, GOOSE_INJ_STAT_INJECTED] ++
  (List.range 256).flatMap (fun i => [GOOSE_SRC_STAT_COUNT i, GOOSE_SRC_STAT_INJ_COUNT i])

/-- CLR_CNT: a write of GOOSE.CTL.CLR_CNT. FENCES stands: only a restore after gating and a reset clear it (R496). -/
def execClrCnt (who : Sender) (s : State) : Host.Outcome State Fault Refusal :=
  .next (s.gatedWrite who GOOSE_CTL_CLR_CNT 1 (fun s => s.clearAll gooseCounters))

/-! ## The release of the safe state (R488 to R490) -/

/-- A release fails: the safe state stands (R488). -/
def State.relFail (s : State) (code : Nat) : State :=
  ((s.updGoose (fun g => { g with relTest := false })).wr GOOSE_STATUS_REL_ARMED 0).wr GOOSE_STATUS_REL_ERR code

/-- A write to SAFE_REL has an effect only while no release runs from its GO (R488). -/
def State.relWrite (s : State) (eff : State → State) : State := if s.goose.relTest then s else eff s

/-- The ARM (R488 step 1): promoted sources are PRESENT until it is written (R489). -/
def State.relArm (s : State) (alive : Bool) : State :=
  s.relWrite (fun s =>
    let s := (s.updGoose (fun g => { g with promoted := [], hbLost := g.hbLost && !alive }))
    let s := (List.range 256).foldl State.dropPresent s
    if !s.on GOOSE_STATUS_SAFE then s.relFail 6
    else if s.on GOOSE_STATUS_LATCH4 then s.relFail 2
    else if s.anyPresent || s.stopFireLatch then s.relFail 3
    else (s.updGoose (fun g => { g with relBad := false })).wr GOOSE_STATUS_REL_ARMED 1)

/-- SAFE_REL_ARM: a write of 0x0000_5AFE to SAFE_REL. -/
def execSafeRelArm (who : Sender) (alive : Bool) (s : State) : Host.Outcome State Fault Refusal :=
  .next (s.gatedWrite who GOOSE_SAFE_REL_KEY 0x5AFE (fun s => s.relArm alive))

/-- The GO: the self-test starts, or there was no valid arm. -/
def State.relGo (s : State) : State :=
  s.relWrite (fun s =>
    if s.on GOOSE_STATUS_REL_ARMED then s.updGoose (fun g => { g with relTest := true }) else s.relFail 1)

/-- SAFE_REL_GO: a write of 0x0000_C1EA to SAFE_REL. -/
def execSafeRelGo (who : Sender) (s : State) : Host.Outcome State Fault Refusal :=
  .next (s.gatedWrite who GOOSE_SAFE_REL_KEY 0xC1EA State.relGo)

/-- A write of any other value to SAFE_REL. -/
def State.relOther (s : State) : State := s.relWrite (fun s => s.relFail 1)

/-- SAFE_REL_ARM_TIMEOUT: 1 ms after an accepted arm with no GO. -/
def execSafeRelArmTimeout (s : State) : Host.Outcome State Fault Refusal :=
  .next (if s.on GOOSE_STATUS_REL_ARMED && !s.goose.relTest then s.relFail 1 else s)

/-- SAFE_REL_SELFTEST_DONE: the self-test of a release ends, and with it the release (R488 steps 3 and 4, R494). -/
def execSafeRelSelftestDone (pass : Bool) (s : State) : Host.Outcome State Fault Refusal :=
  if !s.goose.relTest then .next s
  else if !pass then .next (s.relFail 4)
  else
    let s := (s.wr GOOSE_STATUS_SELF_FAIL 0).dropPresent srcGooseSelf
    if s.goose.relBad then .next (s.relFail 5)
    else .next ((s.updGoose (fun g => { g with relTest := false })).safeExit)

/-! ## Self-checks (R494) -/

/-- A self-check of the Goose fails (R494): the Goose takes the record once its store passes a check. -/
def State.gooseFails (s : State) : State :=
  let s := (s.wr GOOSE_STATUS_SELF_FAIL 1).updGoose (fun g => { g with storeBad := true })
  (s.selfCheck srcGooseSelf 3).report srcGooseSelf 0 3 initCoop 0 accNone 0

/-- GOOSE_SCRUB: the scrub of all words ends, clean or with a parity error. -/
def execGooseScrub (ok : Bool) (s : State) : Host.Outcome State Fault Refusal :=
  .next (if ok then s.updGoose (fun g => { g with storeBad := false }) else s.gooseFails)

/-- GOOSE_SELF_FAIL: a self-check of the Goose fails. -/
def execGooseSelfFail (s : State) : Host.Outcome State Fault Refusal := .next s.gooseFails

/-! ## Heartbeats (R495, spec/19 R506) -/

/-- Whether a block is powered and enabled, so that its heartbeat is watched: none is while the core reset holds. -/
def State.watched (s : State) (u : HbUnit) : Bool :=
  !s.coop.coreReset && match u with
  | .cell n => !s.fused n && !s.gated n && s.cellState n != csOff
  | .lane n => !s.fused n && !s.gated n && s.on (LINK_PHY_CTL_EN n)
  | .pipe p => s.on (INSP_CTL_EN p)
  | .enc i => s.on (ENC_CTL_EN i)
  | .axis a => s.axState a != axOff
  | .loops => (List.range 80).any (fun i => s.lpState i != lpOff)
  | .net k => s.on (NET_CTL_EN k)
  | .nougat => s.on NOUGAT_CTL_EN
  | .gov => s.on GOV_CTL_EN
  | _ => true

/-- The number and initiator of a block in a record of GOOSE_HB. -/
def hbUnit : HbUnit → Nat × Nat × Nat
  | .cell n => (n, initCell, n)
  | .lane n => (64 + n, initCell, n)
  | .pipe p => (128 + p, initPipe, p)
  | .axis a => (132 + a, initAxis, a)
  | .enc i => (140 + i, initNone, 0)
  | .net k => (144 + k, initNone, 0)
  | .loops => (146, initNone, 0)
  | .nougat => (147, initNone, 0)
  | .gov => (148, initNone, 0)
  | .time => (149, initNone, 0)
  | .memc => (150, initNone, 0)
  | .host => (151, initNone, 0)
  | .vault => (152, initNone, 0)
  | .yoke => (153, initNone, 0)
  | .core c => (154, initYoke, if c == .a then 0 else 1)

/-- A cell is fenced because its heartbeat or its lane's is lost. -/
def State.fenceHb (s : State) (n : Nat) : State :=
  if s.cellState n == csFenced then s else (s.fence n fcCommanded).updCell n (fun c => { c with fenceSrc := srcGooseHb })

/-- The role of a Yoke core (spec/19 R500). -/
def State.role (s : State) : YokeCore → Nat
  | .a => s.rd YOKE_STAT_ROLE_A
  | .b => s.rd YOKE_STAT_ROLE_B

/-- A core that can receive the token (spec/19 R502). -/
def State.standbyReady (s : State) (c : YokeCore) : Bool := s.role c == 1 || s.role c == 2

/-- The other core. -/
def otherCore : YokeCore → YokeCore
  | .a => .b
  | .b => .a

/-- A core's number as an initiator. -/
def coreNum : YokeCore → Nat
  | .a => 0
  | .b => 1

/-- The active core is lost with no standby to take over: YOKE_BOTH (spec/19 R506). -/
def State.yokeBoth (s : State) (c : YokeCore) : State := s.report srcYokeBoth 0 4 initYoke (coreNum c) accNone 0

/-- HEARTBEAT_LOSS: a watched block misses 4 consecutive heartbeats (R495); losses are not recorded while COOP_REF, COOP_PLL or
COOP_SUPPLY is held. -/
def execHeartbeatLoss (unit : HbUnit) (s : State) : Host.Outcome State Fault Refusal :=
  if [srcCoopRef, srcCoopPll, srcCoopSupply].any (fun i => s.on (GOOSE_SRC_STAT_PRESENT i)) || !s.watched unit then .next s
  else
    let u := hbUnit unit
    let note (cls : Nat) : State := s.report srcGooseHb u.1 cls u.2.1 u.2.2 accNone 0
    match unit with
    | .cell n => .next ((note 2).fenceHb n)
    | .lane n => .next ((note 2).fenceHb n)
    | .pipe p => .next ((note 2).disarmNow p)
    | .core c =>
      if c == s.activeCore && !s.standbyReady (otherCore c) then .next (s.yokeBoth c) else .next s
    | _ => .next ((note 3).updGoose (fun g => { g with hbLost := true }))

/-! ## The release of a fenced cell (R496, R159) -/

/-- The condition of FENCE_CAUSE for a release of a cell (R496), but for GANG. -/
def State.relCond (s : State) (n : Nat) (alive : Bool) : Bool :=
  match s.rd (CELL_STATE_FENCE_CAUSE n) with
  | 3 => s.linkState n == lsUp
  | 4 => true
  | 5 =>
    let src := (s.cell n).fenceSrc
    !s.on (GOOSE_SRC_STAT_PRESENT src) && (src != srcGooseHb || alive)
  | _ => s.rd GOOSE_CTL_FENCE_MAX == 0 || decide (s.rd (GOOSE_FENCE_STAT_FENCES n) < s.rd GOOSE_CTL_FENCE_MAX)

/-- The gang partner of a cell. -/
def gangMate (n : Nat) : Nat := if n % 2 = 0 then n + 1 else n - 1

/-- A release is granted: the self-test starts, and a request of the other cell of the pair that still waits lapses (R496). -/
def State.grant (s : State) (n : Nat) : State :=
  (s.updCell n (fun c => { c with selfTest := true, relPending := false })).updCell (gangMate n) (fun c => { c with relPending := false })

/-- CTL.RELEASE of a cell: granted, kept pending for the gang partner, or refused (R496). REL_DENIED stands until it is written 1, over a later
release that is granted too (DESIGN CHOICE, notes/assumptions/96). -/
def State.cellRelease (s : State) (n : Nat) (alive : Bool) : State :=
  if s.cellState n != csFenced || (s.cell n).selfTest then s
  else
    let m := gangMate n
    let mate := s.ganged n && s.cellState m == csFenced && (s.cell m).relPending && s.relCond m alive
    let ok := !s.on GOOSE_STATUS_SAFE && s.relCond n alive && (s.rd (CELL_STATE_FENCE_CAUSE n) != fcGang || mate)
    if !ok then s.wr (GOOSE_FENCE_STAT_REL_DENIED n) 1
    else if !s.ganged n then s.grant n
    else if mate then (s.grant n).grant m
    else s.updCell n (fun c => { c with relPending := true })

/-- CELL_RELEASE: a write of CELL[n].CTL.RELEASE. -/
def execCellRelease (who : Sender) (n : CellId) (alive : Bool) (s : State) : Host.Outcome State Fault Refusal :=
  .next (s.gatedWrite who (CELL_CTL_RELEASE n.val) 1 (fun s => s.cellRelease n.val alive))

end Sys2Proof.Machine
end

