-- ==== Sys2Proof/Machine/YokeOps.lean ====
section
/-!
DEFINITION. The two Yoke cores (spec/19 R499 to R514): roles, the move of the active token, hot and cold mode, and the beats.
-/
namespace Sys2Proof.Machine

open Sys2Proof

/-- Change the Yoke's hidden state. -/
def State.updYoke (s : State) (f : Yoke → Yoke) : State := { s with yoke := f s.yoke }

/-- Set the role of a core (R500). -/
def State.setRole (s : State) (c : YokeCore) (r : Nat) : State :=
  match c with
  | .a => s.wr YOKE_STAT_ROLE_A r
  | .b => s.wr YOKE_STAT_ROLE_B r

/-- The core that does not hold the token. -/
def State.standby (s : State) : YokeCore := otherCore s.activeCore

/-- The cells that are neither fused nor power-gated (R509). -/
def State.enabledCells (s : State) : Nat := ((List.range 64).filter (fun n => !s.fused n && !s.gated n)).length

/-- HOT_READY follows the mode, COPY_AGE and the standby's role (R508). -/
def State.refreshHot (s : State) : State :=
  s.wrB YOKE_STAT_HOT_READY (s.on YOKE_STAT_HOT_MODE && decide (s.rd YOKE_STAT_COPY_AGE ≤ 2) && s.role s.standby == 1)

/-- YOKE_PATH as class 1. The spec does not say which core the record names: a free value. -/
def State.yokePath (s : State) : State :=
  let c := s.free % 2
  (s.report srcYokePath c 1 initYoke c accNone 0).draw

/-- YOKE_CORE as class 2 with a core as initiator. -/
def State.yokeCore (s : State) (c : YokeCore) : State := s.report srcYokeCore (coreNum c) 2 initYoke (coreNum c) accNone 0

/-- Repairs of a core since the last reset. -/
def State.repairs (s : State) (c : YokeCore) : Nat := Store.get 0 s.yoke.repairs (coreNum c)

/-- With AUTO_REPAIR an isolated core enters its self-test, or is left FAILED at the repair limit (R513). -/
def State.tryRepair (s : State) (c : YokeCore) : State :=
  if s.role c != 5 || !s.on YOKE_CTL_AUTO_REPAIR then s
  else s.setRole c (if s.repairs c < s.rd YOKE_CTL_REPAIR_MAX then 4 else 6)

/-- Isolate a core: YOKE_CORE names it, and its repair begins (R505, R507, R513). -/
def State.isolate (s : State) (c : YokeCore) : State :=
  let s := if c == s.standby then s.updYoke (fun y => { y with syncWait := false }) else s
  (((s.setRole c 5).yokeCore c).tryRepair c).refreshHot

/-- A flush that runs is abandoned at a takeover and starts again in the next slot (spec/21 coinciding events). -/
def Ledger.abandon (l : Ledger) : Ledger := { l with flush := l.flush.map (fun f => { f with slot := f.slot + 1 }) }

/-- Causes of a takeover (YOKE.LAST). -/
def tcHbMiss : Nat := 1
def tcMismatch : Nat := 2
def tcClaim : Nat := 3
def tcResign : Nat := 4
def tcGrant : Nat := 5
def tcSwitch : Nat := 6

/-- The token moves to the standby and a takeover begins (R507); with no standby, and before the takeover that runs completes, the loss of the active
core is YOKE_BOTH (R506). A Coop whose self-check has failed moves no token (R522). -/
def State.moveToken (s : State) (cause : Nat) : State :=
  if s.coop.failed then s
  else
    let old := s.activeCore
    let new := otherCore old
    if !s.standbyReady new || s.on YOKE_STAT_HOLDING then s.yokeBoth old
    else
      let cold := !s.on YOKE_STAT_HOT_READY
      let s := ((s.setRole new 0).wr YOKE_STAT_ACTIVE (coreNum new)).isolate old
      let s := ((s.wr YOKE_LAST_CAUSE cause).wrB YOKE_LAST_COLD cold).wr2 YOKE_LAST_TIME_LO YOKE_LAST_TIME_HI s.now
      let s := (((s.wr YOKE_STAT_HOLDING 1).bump YOKE_CNT0_FAILOVERS).wr YOKE_STAT_ARB_REQ 0).updYoke (fun y =>
        { y with mbMiss := 0, bothMiss := 0, differ := 0, mbOnly := 0, brdOnly := 0, stMiss := 0, coopMiss := [] })
      { s with ledger := s.ledger.abandon }

/-! ## Beats (R501) -/

/-- One step of the CRC-8 with polynomial 0x07, most significant bit first. -/
def crc8Step (c : Nat) (b : Bool) : Nat :=
  let fb := bitOf c 7 != b
  let c := 2 * c % 256
  if fb then c ^^^ 7 else c

/-- The CRC-8 of the upper 24 bits of a beat. -/
def crc8 (hi : Nat) : Nat := ((List.range 24).map (fun i => bitOf hi (23 - i))).foldl crc8Step 0

/-- A beat: the cycle count, the sender's role and health, and the CRC. -/
def beatWord (cycle role : Nat) (health : Bool) : Nat :=
  let hi := cycle % 65536 * 256 + role + 8 * b2n health
  hi * 256 + crc8 hi

/-- Whether a beat's CRC is right. -/
def beatOk (w : Nat) : Bool := w % 256 == crc8 (w / 256)

end Sys2Proof.Machine
end

