-- ==== Sys2Proof/Machine/CoopOps.lean ====
section
/-!
DEFINITION. The operations of the Coop (spec/19 R515 to R524, spec/01 R28): rails, the loss of a clock or of VDD_CORE, PMBus, the sequencer,
die sensors, cell gating and head power.
-/
namespace Sys2Proof.Machine

open Sys2Proof

/-- Change the Coop's hidden state. -/
def State.updCoop (s : State) (f : Coop → Coop) : State := { s with coop := f s.coop }

/-- Take back every register field with an address in a range to its reset value. -/
def State.clearRange (s : State) (lo n : Nat) : State :=
  let out (e : Nat × Nat) : Bool := decide (e.1 < 32 * lo ∨ 32 * (lo + n) ≤ e.1)
  { s with regs := s.regs.filter out, force := s.force.filter out }

/-! ## Rails (R515, R516) -/

/-- Lowest and highest voltage of the recommended range of a rail, in 0.1 mV, and its absolute maximum. -/
def railLimits : Nat → Nat × Nat × Nat
  | 0 => (7275, 7725, 9000)
  | 1 => (8730, 9270, 10500)
  | 2 => (11640, 12360, 14000)
  | 3 => (10185, 10815, 12500)
  | 4 => (4850, 5150, 6500)
  | 5 => (17460, 18540, 21000)
  | 6 => (17460, 18540, 21000)
  | _ => (31350, 34650, 38000)

/-- Whether a voltage in mV lies in the recommended range of a rail. -/
def railIn (r mv : Nat) : Bool := decide ((railLimits r).1 ≤ 10 * mv ∧ 10 * mv ≤ (railLimits r).2.1)

/-- Record the voltage of a rail: NOW, the extremes, and whether it lies in its range. -/
def State.setRail (s : State) (r mv : Nat) : State :=
  (((s.wr (COOP_SUP_NOW r) mv).wr (COOP_SUP_MIN r) (min mv (s.rd (COOP_SUP_MIN r)))).wr (COOP_SUP_MAX r) (max mv (s.rd (COOP_SUP_MAX r)))).wrBit
    COOP_SUP_STAT_IN_RANGE r (railIn r mv)

/-- A rail is watched from the step that checks it, or from the end of the sequence; the VSAFE feeds always are. -/
def State.railWatched (s : State) (r : Nat) : Bool := decide (7 ≤ r) || bitOf s.coop.watched r

/-- COOP_SUPPLY at a class, with the rail as its address. -/
def State.supplyFault (s : State) (cls addr : Nat) : State := s.report srcCoopSupply 0 cls initCoop 0 accNone addr

/-- The MOT and SENSE clocks or VDD_CORE fail: bridges are released, the brakes follow SAFE_ACT and every AUX_PWM ball
is low (R356, R375), and the blocks that lose their clock or supply drop their reports: all but the Coop and the Goose (spec/01 R21;
DEDUCED, notes/assumptions/82). -/
def State.coreLost (s : State) : State :=
  let s := (List.range 8).foldl (fun s a =>
    if s.axState a = axOff then s else ((s.setBrake a (s.rd (AXIS_CTL_SAFE_ACT a) != 0)).releaseBridges a)) s
  { s.dropReports (fun r => decide (r.src < srcCoopRef)) with auxHigh := [] }

/-! ## PMBus (R517 to R520) -/

/-- The segment of an entry of PMB_LIST: sets A and B, then the others on each segment. -/
def entrySeg (e : Nat) : Nat := e / 8 % 2

/-- Entry `e` of PMB_LIST: address and valid bit. -/
def State.pmbEntry (s : State) (e : Nat) : Nat := bitsOf (s.rd (COOP_PMB_LIST (e / 4))) (8 * (e % 4)) 8

/-- Whether an entry is valid and its segment polled. -/
def State.pmbPolled (s : State) (e : Nat) : Bool :=
  bitOf (s.pmbEntry e) 7 && (if entrySeg e = 0 then s.on COOP_PMB_CTL_EN0 else s.on COOP_PMB_CTL_EN1)

/-- The combined READ_IOUT of a VDD_CORE set, in mA: entries 0 to 7 are set A, 8 to 15 set B. -/
def State.setIout (s : State) (set : Nat) : Nat :=
  ((List.range 8).map (fun j => if bitOf (s.pmbEntry (8 * set + j)) 7 then Store.get 0 s.coop.iout (8 * set + j) else 0)).sum

/-- The set of a regulator delivers less than 10 % of more than 5 A (R518). -/
def State.setWeak (s : State) (e : Nat) : Bool :=
  decide (e < 16) &&
    (let sum := s.setIout 0 + s.setIout 1
     decide (5000 < sum ∧ 10 * s.setIout (e / 8) < sum))

/-- A regulator has failed: COOP_VCORE as class 1 when it is found (R518). -/
def State.regFails (s : State) (e : Nat) : State :=
  if bitOf (s.rd COOP_PMB_STAT_FAILED) e then s
  else (s.wrBit COOP_PMB_STAT_FAILED e true).report srcCoopVcore 0 1 initCoop 0 accNone (256 * entrySeg e + s.pmbEntry e % 128)

/-- The reads of one poll of a regulator leave on the bus. -/
def State.pollReads (s : State) (e : Nat) : State :=
  [0x79, 0x8B, 0x8C].foldl (fun s c => s.emit (.pmbus (entrySeg e) (s.pmbEntry e % 128) c [] true)) s

/-- One regulator is polled: its answer is kept, or the poll has gone unanswered (R518). -/
def State.pollOne (s : State) (e : Nat) (r : Option RegReply) : State :=
  let s := s.pollReads e
  match r with
  | some r => s.updCoop (fun c => { c with misses := Store.put 0 c.misses e 0, iout := Store.put 0 c.iout e r.iout.toNat })
  | none => s.updCoop (fun c => { c with misses := Store.put 0 c.misses e (min 3 (Store.get 0 c.misses e + 1)) })

/-- Judge a regulator after its poll. -/
def State.judgeReg (s : State) (e : Nat) (r : Option RegReply) : State :=
  if (match r with | some r => r.fault | none => false) || Store.get 0 s.coop.misses e == 3 || s.setWeak e then s.regFails e else s

/-- The commands the Coop uses on PMBus. -/
def pmbusCmds : List Nat := [0x01, 0x03, 0x21, 0x79, 0x8B, 0x8C, 0x8D]

/-- The action of a step leaves on the bus. -/
def State.seqAction (s : State) (p : SeqStep) (off : Bool) : State :=
  if off then s.emit (.pmbus p.seg p.addr 0x01 [0x00] false)
  else match p.action with
    | 1 => s.emit (.pmbus p.seg p.addr 0x01 [0x80] false)
    | 2 => s.emit (.pmbus p.seg p.addr 0x01 [0x00] false)
    | 3 => s.emit (.pmbus p.seg p.addr 0x21 (leBytes 2 p.value) false)
    | 4 => s.emit (.pmbus p.seg p.addr 0x03 [] false)
    | _ => s

/-- The steps whose regulator is on after step `i`: turned on and not turned off since. -/
def turnedOn (steps : List SeqStep) (done : List Nat) (i : Nat) : List Nat :=
  match steps[i]? with
  | some p =>
    if p.action = 1 then i :: done
    else if p.action = 2 then done.filter (fun j => match steps[j]? with | some q => !(q.seg == p.seg && q.addr == p.addr) | none => false)
    else done
  | none => done

/-- Run the action of step `i` (R520); the rail it checks is watched from then on (R516). -/
def State.seqRun (s : State) (i : Nat) : State :=
  match s.coop.steps[i]? with
  | none => s
  | some p =>
    let s := (s.seqAction p false).wr COOP_SEQ_STAT_STEP i
    s.updCoop (fun c => { c with done := turnedOn c.steps c.done i,
                                 watched := if p.rail < 7 then c.watched ||| 2 ^ p.rail else c.watched })

/-- Turn off, in descending order, the next regulator that was turned on, or end (R520). -/
def State.seqBack (s : State) : State :=
  match s.coop.done with
  | [] => (s.updCoop (fun c => { c with down := false })).wr COOP_SEQ_STAT_STATE 2
  | i :: rest =>
    match s.coop.steps[i]? with
    | some p => ((s.seqAction p true).wr COOP_SEQ_STAT_STEP i).updCoop (fun c => { c with done := rest })
    | none => s.updCoop (fun c => { c with done := rest })

/-- The sequence is done: every rail is watched, and with rails 0 to 6 in range the root PLL is enabled (R516, R527, R528). -/
def State.seqEnd (s : State) : State :=
  let s := ((s.wr COOP_SEQ_STAT_STATE 2).wr COOP_SUP_STAT_SEQ_DONE 1).wr GLOBAL_READY_SEQ 1
  let ok := bitsOf (s.rd COOP_SUP_STAT_IN_RANGE) 0 7 == 127
  s.updCoop (fun c => { c with watched := 127, pllOn := c.pllOn || ok })

/-! ## Head power and gating (R523, R524) -/

/-- The output level of HEAD_PWR_ENg; a boundary-scan drive instruction holds it low (spec/20 R543). -/
def State.headPwr (s : State) (g : Nat) : Bool :=
  bitOf (s.rd COOP_HEAD_PWR_EN) g && !s.on GOOSE_STATUS_SAFE && !s.bscan &&
  (List.range 8).any (fun i => !s.fused (8 * g + i) && !s.gated (8 * g + i))

/-- Bring HEAD_PWR.LEVEL to the levels that R524 gives. -/
def State.refreshHeadPwr (s : State) : State :=
  s.wr COOP_HEAD_PWR_LEVEL (((List.range 8).map (fun g => b2n (s.headPwr g) * 2 ^ g)).sum)

/-- Every register, table and counter of a cell and its lane takes its reset value; FENCES is 0, and a release of its gang partner that waits
for it lapses (R523, R496). -/
def State.resetCell (s : State) (n : Nat) : State :=
  let s := (s.clearRange (0x1000000 + 0x10000 * n) 0x10000).clearRange (0x2000000 + 0x10000 * n) 0x10000
  let s := ((s.setCell n Cell.reset).setLink n Link.reset).wr (GOOSE_FENCE_STAT_FENCES n) 0
  s.updCell (gangMate n) (fun c => { c with relPending := false })

/-- Gate or ungate one cell. -/
def State.gateCell (s : State) (n : Nat) (on : Bool) : State :=
  if s.fused n || s.gated n == on then s
  else (((s.dropReports (fun r => r.ofCell n)).resetCell n).wrMaskBit COOP_GATE_LO COOP_GATE_HI n on).updCoop (fun c => { c with discGated := c.discGated.filter (· != n) })

/-- A write of GATE_LO or GATE_HI: discarded when a cell to be gated, or its lane, is enabled (R523). -/
def State.writeGate (s : State) (who : Sender) (hi : Bool) (v : Nat) : State :=
  let cells := (List.range 32).map (fun j => (j + (if hi then 32 else 0), bitOf v j))
  if cells.any (fun e => e.2 && !s.fused e.1 && !s.gated e.1 && (s.on (CELL_CTL_EN e.1) || s.on (LINK_PHY_CTL_EN e.1))) then
    s.cfgLive who (if hi then COOP_GATE_HI else COOP_GATE_LO).addr
  else (cells.foldl (fun s e => s.gateCell e.1 e.2) s).refreshHeadPwr

/-- A write of HEAD_PWR.EN: a 1 is discarded while the safe state holds (R524). -/
def State.writeHeadPwr (s : State) (v : Nat) : State :=
  (s.wr COOP_HEAD_PWR_EN (if s.on GOOSE_STATUS_SAFE then 0 else v)).refreshHeadPwr

/-! ## Die sensors (R521) -/

/-- Insert a value into a rising list. -/
def insertInt (v : Int) : List Int → List Int
  | [] => [v]
  | x :: xs => if v ≤ x then v :: x :: xs else x :: insertInt v xs

/-- The middle one of an odd number of values. -/
def medianInt (xs : List Int) : Int := (xs.foldr insertInt []).getD (xs.length / 2) 0

/-- Whether a reading of a sensor is outside −60 °C to +150 °C, or more than 20 °C from the medianInt of the others. -/
def sensorOut (ts : List Int) (i : Nat) : Bool :=
  let t := ts.getD i 0
  decide (t < -3840 ∨ 9600 < t) || decide (1280 < (t - medianInt (ts.eraseIdx i)).natAbs)

/-- One reading of sensor `i`: its value, its highest, and its exclusion after 10 in a row outside. -/
def State.readSensor (s : State) (ts : List Int) (i : Nat) : State :=
  let t := ts.getD i 0
  let s := (s.wrS (COOP_TEMP_TEMP i) t).wrS (COOP_TEMP_TMAX i) (max t (s.rdS (COOP_TEMP_TMAX i)))
  let run := if sensorOut ts i then min 10 (Store.get 0 s.coop.outlier i + 1) else 0
  let s := s.updCoop (fun c => { c with outlier := Store.put 0 c.outlier i run })
  if run == 10 && !bitOf (s.rd COOP_THERM2_EXCLUDED) i then
    let was := s.sensors.length
    let s := (s.wrBit COOP_THERM2_EXCLUDED i true).report srcThermWarn 0 1 initCoop 0 accNone (0x100 + i)
    if was == 13 then s.report srcThermTrip 0 3 initCoop 0 accNone 0 else s
  else s

/-- The warning and the trip on the sensors that are not excluded (R521). -/
def State.thermReact (s : State) : State :=
  let ts := s.sensors.map (fun j => s.rdS (COOP_TEMP_TEMP j))
  let warn := s.rdS COOP_THERM_T_WARN
  let hot := ts.any (fun t => decide (warn ≤ t))
  let s := if hot && !s.coop.warned then (s.report srcThermWarn 0 1 initCoop 0 accNone 0).updCoop (fun c => { c with warned := true })
    else if ts.all (fun t => decide (t < warn - 128)) then s.updCoop (fun c => { c with warned := false })
    else s
  let trip := ts.any (fun t => decide (s.rdS COOP_THERM_T_TRIP ≤ t))
  let s := if trip && !s.coop.tripped then s.report srcThermTrip 0 3 initCoop 0 accNone 0 else s
  (s.updCoop (fun c => { c with tripped := trip })).refreshPresent

end Sys2Proof.Machine
end

