-- ==== Sys2Proof/Machine/Coop.lean ====
section
/-!
DEFINITION. The meanings of the commands of the Coop (spec/19 R515 to R524, spec/01 R28, spec/23 R577).
-/
namespace Sys2Proof.Machine

open Sys2Proof

/-- SUPPLY_EXCURSION: a rail has been outside its range, or above its absolute maximum, for the qualifying time (R516). -/
def execSupplyExcursion (rail : Fin 9) (mv : BitVec 16) (s : State) : Host.Outcome State Fault Refusal :=
  let r := rail.val
  let v := mv.toNat
  let s := s.setRail r v
  let s := if r = 0 ∧ 10 * v < (railLimits 0).1 then s.coreLost else s
  if railIn r v || !s.railWatched r then .next s
  else if (railLimits r).2.2 < 10 * v then .next (s.supplyFault 4 r)
  else if r < 7 then .next (s.supplyFault 3 r)
  else
    let o := 15 - r
    if bitOf (s.rd COOP_SUP_STAT_IN_RANGE) o then .next (s.report srcCoopVsafe 0 1 initCoop 0 accNone r)
    else if 1000 < v ∨ 1000 < s.rd (COOP_SUP_NOW o) then .next (s.supplyFault 3 r)
    else .next s

/-- SUPPLY_IN_RANGE: a rail is back in its recommended range (R489, R516). With the sequence done and rails 0 to 6 in range the root PLL is enabled
(spec/20 R528). -/
def execSupplyInRange (rail : Fin 9) (mv : BitVec 16) (s : State) : Host.Outcome State Fault Refusal :=
  .next (if railIn rail.val mv.toNat then
      let s := (s.setRail rail.val mv.toNat).refreshPresent
      let ok := s.on COOP_SUP_STAT_SEQ_DONE && bitsOf (s.rd COOP_SUP_STAT_IN_RANGE) 0 7 == 127
      s.updCoop (fun c => { c with pllOn := c.pllOn || ok })
    else s)

/-- PMBUS_POLL: every listed regulator is polled, then judged (R517, R518). -/
def execPmbusPoll (replies : List RegReply) (s : State) : Host.Outcome State Fault Refusal :=
  let es := (List.range 32).filter s.pmbPolled
  let ans (e : Nat) : Option RegReply := replies.find? (fun r => r.entry.val == e)
  .next (es.foldl (fun s e => s.judgeReg e (ans e)) (es.foldl (fun s e => s.pollOne e (ans e)) s))

/-- PMBUS_ALERT: the Alert Response Address is read, and the regulator that answers is polled at once (R517). -/
def execPmbusAlert (seg : Bool) (reply : Option RegReply) (s : State) : Host.Outcome State Fault Refusal :=
  let s := s.emit (.pmbus (b2n seg) 0x0C 0 [] true)
  match reply with
  | none => .next s
  | some r =>
    let e := r.entry.val
    .next (if bitOf (s.pmbEntry e) 7 && entrySeg e == b2n seg then (s.pollOne e (some r)).judgeReg e (some r) else s)

/-- A write of PMB_MB0.GO: one transaction; discarded while one runs, or for a command that the Coop does not use. -/
def State.pmbMailbox (s : State) : State :=
  let cmd := s.rd COOP_PMB_MB0_CMD
  if s.on COOP_PMB_MB2_BUSY || !pmbusCmds.contains cmd then s
  else
    let read := s.on COOP_PMB_MB0_READ
    let data := if read then [] else leBytes (min 4 (s.rd COOP_PMB_MB0_LEN)) (s.rd COOP_PMB_MB1_DATA)
    ((s.emit (.pmbus (s.rd COOP_PMB_MB0_SEG) (s.rd COOP_PMB_MB0_ADDR) cmd data read)).wr COOP_PMB_MB2_BUSY 1).clearAll
      [COOP_PMB_MB2_NACK, COOP_PMB_MB2_PEC_ERR]

/-- PMBUS_MAILBOX: a write of PMB_MB0.GO (R517). -/
def execPmbusMailbox (who : Sender) (s : State) : Host.Outcome State Fault Refusal :=
  .next (s.gatedWrite who COOP_PMB_MB0_GO 1 State.pmbMailbox)

/-- PMBUS_MAILBOX_DONE: the transaction ends. -/
def execPmbusMailboxDone (nack pecErr : Bool) (data : Word) (s : State) : Host.Outcome State Fault Refusal :=
  if !s.on COOP_PMB_MB2_BUSY then .next s
  else
    let pecErr := pecErr && s.on COOP_PMB_CTL_PEC
    let s := (((s.wr COOP_PMB_MB2_BUSY 0).wr COOP_PMB_MB2_DONE 1).wrB COOP_PMB_MB2_NACK nack).wrB COOP_PMB_MB2_PEC_ERR pecErr
    .next (if s.on COOP_PMB_MB0_READ && !nack && !pecErr then
        s.wr COOP_PMB_MB1_DATA (data.toNat % 2 ^ (8 * min 4 (s.rd COOP_PMB_MB0_LEN)))
      else s)

/-- SEQUENCER_STEP: the rail of the step in progress is in range, or its wait has ended, and the next step runs (R520). A RAIL above 8 names none, like
0xFF (DESIGN CHOICE, notes/assumptions/97). -/
def execSequencerStep (mv : BitVec 16) (s : State) : Host.Outcome State Fault Refusal :=
  if s.coop.failed || s.rd COOP_SEQ_STAT_STATE != 1 then .next s
  else if s.coop.down then .next s.seqBack
  else
    let i := s.rd COOP_SEQ_STAT_STEP
    match s.coop.steps[i]? with
    | none => .next s
    | some p =>
      if p.rail < 9 && !railIn p.rail mv.toNat then .next s
      else
        let s := if p.rail < 9 then s.setRail p.rail mv.toNat else s
        .next (if i + 1 < s.coop.steps.length then s.seqRun (i + 1) else s.seqEnd).refreshPresent

/-- SEQUENCER_WAIT_EXPIRY: the rail of a step is still outside its range after WAIT (R520). -/
def execSequencerWaitExpiry (s : State) : Host.Outcome State Fault Refusal :=
  if s.rd COOP_SEQ_STAT_STATE != 1 || s.coop.down then .next s
  else
    let i := s.rd COOP_SEQ_STAT_STEP
    match s.coop.steps[i]? with
    | none => .next s
    | some p =>
      if 9 ≤ p.rail ∨ bitOf (s.rd COOP_SUP_STAT_IN_RANGE) p.rail then .next s
      else .next (((s.wr COOP_SEQ_STAT_STATE 3).wr COOP_SEQ_STAT_ERR (i + 1)).supplyFault 3 p.rail)

/-- A write of SEQ_CTL.DOWN: accepted while no cell is ARMED or PRINTING (R520). -/
def State.seqDown (s : State) (who : Sender) : State :=
  if (List.range 64).any (fun n => s.cellState n == csArmed || s.cellState n == csPrinting) then s.cfgLive who COOP_SEQ_CTL_DOWN.addr
  else if s.coop.failed then s
  else ((s.updCoop (fun c => { c with down := true })).wr COOP_SEQ_STAT_STATE 1).seqBack

/-- SEQUENCE_DOWN: a write of SEQ_CTL.DOWN. -/
def execSequenceDown (who : Sender) (s : State) : Host.Outcome State Fault Refusal :=
  .next (s.gatedWrite who COOP_SEQ_CTL_DOWN 1 (fun s => s.seqDown who))

/-- THERM_READ: the sixteen sensors are read (R521). -/
def execThermRead (temps : Vector (BitVec 16) 16) (s : State) : Host.Outcome State Fault Refusal :=
  let ts := temps.toList.map BitVec.toInt
  .next ((List.range 16).foldl (fun s i => s.readSensor ts i) s).thermReact

/-- COOP_SELF_FAIL: a self-check of the Coop fails and the safe state latches (R522). -/
def execCoopSelfFail (cause : Fin 3) (s : State) : Host.Outcome State Fault Refusal :=
  .next (((s.updCoop (fun c => { c with failed := true })).selfCheck srcCoopSelf 4).report srcCoopSelf 0 4 initCoop 0 accNone (cause.val + 1))

/-- ARB_ALIVE_TOGGLE: ARB_ALIVE changes level while the Coop runs (spec/23 R577). -/
def execArbAliveToggle (s : State) : Host.Outcome State Fault Refusal :=
  .next (if s.coop.running && !s.coop.failed then s.updCoop (fun c => { c with alive := !c.alive }) else s)

/-- GATE: a write of COOP.GATE_LO or GATE_HI (R523). -/
def execGate (who : Sender) (hi : Bool) (value : Word) (s : State) : Host.Outcome State Fault Refusal :=
  .next (s.gatedWrite who (if hi then COOP_GATE_HI else COOP_GATE_LO) value.toNat (fun s => s.writeGate who hi value.toNat))

/-- HEAD_PWR: a write of COOP.HEAD_PWR.EN (R524). -/
def execHeadPwr (who : Sender) (value : BitVec 8) (s : State) : Host.Outcome State Fault Refusal :=
  .next (s.gatedWrite who COOP_HEAD_PWR_EN value.toNat (fun s => s.writeHeadPwr value.toNat))

/-- REFERENCE_LOSS: the reference or the root PLL fails: SAFE and AON run on the RC, device time stops, and COOP_REF or COOP_PLL is raised as
class 3 (spec/01 R28, R29, spec/16 R428). -/
def execReferenceLoss (present : Bool) (s : State) : Host.Outcome State Fault Refusal :=
  if !s.on GLOBAL_READY_PLL then .next s
  else
    let s := (((s.wr GLOBAL_READY_PLL 0).updCoop (fun c => { c with onRc := true })).setTimeStat false false).coreLost
    .next (s.report (if present then srcCoopPll else srcCoopRef) 0 3 initCoop 0 accNone 0)

end Sys2Proof.Machine
end

