-- ==== Sys2Proof/Machine/EncOps.lean ====
section
/-!
DEFINITION. Encoder inputs, what their commands share (spec/10 R289 to R316, spec/11 R320 to R327): calibration runs as they begin and
end, the loss of an input with the switch of its pair, fault causes, disturbances, index events and the cross-check of a pair.
-/
namespace Sys2Proof.Machine

open Sys2Proof

/-- A fault report of an input; the record carries the input number in its address field (R317, R330). -/
def State.encReport (s : State) (i src cls : Nat) : State := s.report src i cls initNone 0 accNone i

/-! ## Calibration runs (spec/11 R320 to R327) -/

/-- The other input of the pair of input `i`. -/
def pairMate (i : Nat) : Nat := if i % 2 = 0 then i + 1 else i - 1

/-- Whether an input's converters are disconnected for a trim (R322). -/
def State.trimming (s : State) (i : Nat) : Bool :=
  match (s.enc i).cal with
  | some c => c.phase == 1 && !c.waits
  | none => false

/-- A trim that waits begins once the other input of its pair does not trim, or the pair is no pair any more (R323). -/
def State.trimGo (s : State) (i : Nat) : State :=
  if s.pairOn (i / 2) && s.trimming (pairMate i) then s
  else s.updEnc i (fun e => { e with cal := e.cal.map (fun c => { c with waits := false }) })

/-- A pair that is enabled while both its inputs trim: the odd input's trim waits, and is made anew after the other (DESIGN CHOICE,
notes/assumptions/88). -/
def State.trimApart (s : State) (p : Nat) : State :=
  if s.trimming (2 * p) && s.trimming (2 * p + 1) then
    s.updEnc (2 * p + 1) (fun e => { e with cal := e.cal.map (fun c => { c with waits := true }) })
  else s

/-- Whether a run may start on an input (R320). -/
def State.calReady (s : State) (i : Nat) : Bool :=
  !s.on (ENC_CTL_MODE i) && !s.on (ENC_CAL_CTL_HOLD i) && s.on (ENC_STAT_VALID i) && (s.enc i).cal.isNone

/-- A run starts (R320, R321): it latches its settings; its trim waits while the other input of its pair trims (R323). -/
def State.calStart (s : State) (i cause : Nat) : State :=
  let trim := s.on (ENC_CAL_CTL_ADC_TRIM i)
  let phase := if trim then 1 else 2
  let run : CalRun :=
    { phase := phase, periods := clampNat 256 4096 (s.rd (ENC_CAL_PERIODS i)), binMin := max 16 (s.rd (ENC_CAL_BIN_MIN i)),
      wraps := 0, bins := [], waits := trim && s.pairOn (i / 2) && s.trimming (pairMate i), dead := false }
  ((((s.updEnc i (fun e => { e with cal := some run })).wr (ENC_CAL_STAT_PHASE i) phase).wr (ENC_CAL_STAT_CAUSE i) cause).wr
    (ENC_CAL_TEMP_TREF i) (s.rd (ENC_CAL_TEMP_TEMP i))).bump (ENC_CAL_CNT_RUNS i)

/-- A START that waits runs as soon as it may (R320, R329). -/
def State.calPending (s : State) (i : Nat) : State :=
  if s.on (ENC_CAL_STAT_PEND i) && s.calReady i then (s.wr (ENC_CAL_STAT_PEND i) 0).calStart i 2 else s

/-- A run ends with a result (R321). -/
def State.calEnd (s : State) (i result : Nat) : State :=
  ((((s.updEnc i (fun e => { e with cal := none })).wr (ENC_CAL_STAT_PHASE i) 0).wr (ENC_CAL_STAT_RESULT i) result).wr
    (ENC_CAL_STAT_DONE i) 1).calPending i

/-- A run is aborted (R327): at once, or at the end of a trim in progress. -/
def State.calAbort (s : State) (i : Nat) : State :=
  if (s.enc i).cal.isNone then s
  else if s.trimming i then s.updEnc i (fun e => { e with cal := e.cal.map (fun c => { c with dead := true }) })
  else s.calEnd i 7

/-- A failed or timed-out run, or a refused LOAD, raises ENC_CAL and is counted (R327, R330). -/
def State.calFailed (s : State) (i : Nat) : State :=
  ((s.encReport i srcEncCal 1).bump (ENC_CAL_CNT_FAILS i)).bump (LEDGER_ENC_FAULTS (8 * i + 7))

/-! ## Pairs (R312 to R315) -/

/-- The cells that use pair `p`: those whose page prints from it, and those set to it. -/
def State.pairUsers (s : State) (p : Nat) : List Nat :=
  (List.range 64).filter (fun n => s.rd (CELL_FE_CTL_SRC n) == 4 + p ||
    (match (s.cell n).cur with | some q => q.started && q.par.src == 4 + p | none => false) ||
    (s.cell n).tails.any (fun q => q.par.src == 4 + p))

/-- The position an input predicts for this sample. -/
def Enc.predicted (e : Enc) : Int := wrapPos ((predict e.x e.v e.a).1 / 4294967296)

/-- The pair is to switch at the next sample (R313), at the position that its active input predicts for that sample. -/
def State.pairSwitch (s : State) (p : Nat) : State :=
  let x := wrapPos ((s.enc (s.pairActive p)).predicted + (s.pair p).offK)
  s.updPair p (fun q => { q with due := q.due <|> some x })

/-- A switch that is due is made at this sample of the standby `i` (R313): K brings the pair to the position it was to issue, and
every cell on the pair shows it. -/
def State.pairSettle (s : State) (i : Nat) : State :=
  let p := i / 2
  match (s.pair p).due with
  | none => s
  | some x =>
    if !s.pairOn p || s.pairOther p ≠ i then s
    else
      let k := wrapPos (x - (s.enc i).x)
      let s := s.updPair p (fun q => { q with due := none, offK := k, joined := 0, run := 0 })
      let s := ((s.wr (ENC_DUAL_ACTIVE (2 * p)) (i % 2)).wr (ENC_DUAL_STANDBY_OK (2 * p)) 0).bump (ENC_DUAL_SWITCHES (2 * p))
      (s.pairUsers p).foldl (fun s n => s.wr (CELL_FE_STAT_SWITCHED n) 1) s

/-- What the invalidity of an input means to its pair (R313): an active input hands over to a valid standby that is not excluded. A
standby that becomes invalid takes no switch any more. -/
def State.pairLost (s : State) (i : Nat) : State :=
  let p := i / 2
  if !s.pairOn p then s
  else if s.pairActive p = i then
    if s.on (ENC_STAT_VALID (s.pairOther p)) ∧ ¬ s.on (ENC_DUAL_EXCLUDED (2 * p)) then s.pairSwitch p
    else s.wr (ENC_DUAL_STANDBY_OK (2 * p)) 0
  else (s.updPair p (fun q => { q with due := none })).wr (ENC_DUAL_STANDBY_OK (2 * p)) 0

/-- Report the tracked offset of a pair in whole wu (R314). -/
def State.showOff (s : State) (p : Nat) : State :=
  let wu := toBits 48 (roundWu ((s.pair p).off / 4294967296))
  (s.wr (ENC_DUAL_OFF_LO (2 * p)) wu).wr (ENC_DUAL_OFF_HI (2 * p)) (wu / 2 ^ 32)

/-- The cross-check of a pair at one sample (R314): the standby joins with OFF captured; OFF is then tracked, and from 1,024 samples on
|D| beyond TOL counts while OFF stands still. -/
def State.pairCheck (s : State) (p : Nat) : State :=
  let a := s.pairActive p
  let b := s.pairOther p
  if !s.pairOn p || !s.on (ENC_STAT_VALID b) || s.on (ENC_DUAL_EXCLUDED (2 * p)) then s
  else if !s.on (ENC_STAT_VALID a) || s.on (ENC_STAT_COAST a) || s.on (ENC_STAT_COAST b) then s
  else
    let diff := posDiff (s.enc b).x (s.enc a).x
    if !s.on (ENC_DUAL_STANDBY_OK (2 * p)) then
      (((s.updPair p (fun q => { q with off := diff * 4294967296, joined := 0, run := 0 })).wr
        (ENC_DUAL_STANDBY_OK (2 * p)) 1).wr (ENC_DUAL_DISAGREE (2 * p)) 0).showOff p
    else
      let q := s.pair p
      let d48 := diff * 4294967296 - q.off
      let d := d48 / 4294967296
      let far := decide (1024 ≤ q.joined) && decide (s.rd (ENC_DUAL_TOL (2 * p)) * 65536 < d.natAbs)
      let tc := clampNat 1 10000 (s.rd (ENC_DUAL_TC (2 * p)))
      let off := if far then q.off else q.off + s.divOpenAt 7 (d48 * 20) (tc * 1000000)
      let s := s.setPair p { q with off := off, joined := min 1024 (q.joined + 1), run := if far then q.run + 1 else 0 }
      (s.wrSat (ENC_DUAL_DISAGREE (2 * p)) (roundWu d)).showOff p

/-! ## Validity and faults (R296 to R299, R310) -/

/-- An input becomes invalid: its run is aborted, its pair acts, and pages in print from it are lost (R297, R327, R313, R193). -/
def State.encInvalid (s : State) (i : Nat) : State :=
  (((((s.wr (ENC_STAT_VALID i) 0).wr (ENC_STAT_ACQ i) 0).updEnc i (fun e => { e with acquired := false })).calAbort i).pairLost
    i).loseSources

/-- An input takes a fault cause (R298): the first is held, makes the input invalid and raises ENC_FAULT. -/
def State.encFault (s : State) (i cause : Nat) : State :=
  if s.rd (ENC_STAT_CAUSE i) ≠ 0 then s
  else
    ((((s.wr (ENC_STAT_CAUSE i) cause).bump (ENC_CNT2_FAULTS i)).encReport i srcEncFault 2).bump
      (LEDGER_ENC_FAULTS (8 * i + cause))).encInvalid i

/-- Acquisition is to begin at the next accepted sample (R310): no phase is held, and what the checks have gathered is forgotten. -/
def State.encFresh (s : State) (i : Nat) : State :=
  (s.encInvalid i).updEnc i (fun e =>
    { e with phi := none, rawPhi := none, wrapUp := none, wrapDown := none, ovs := false, noTime := false, disSin := 0, disCos := 0,
             disIdx := 0, outl := 0, dist := [], coast := 0, idxRun := 0, idxDone := false, innov := [], oldCoef := none,
             reform := false })

/-- A disturbance of an input (R296). -/
def State.disturb (s : State) (i : Nat) : State :=
  (s.encReport i srcEncEvent 0).updEnc i (fun e => { e with dist := (e.k :: e.dist).take 4 })

/-! ## Counts and index events (R300 to R306) -/

/-- The count that a position of the observer stands for, near the present one (R322). -/
def State.countOf (s : State) (i : Nat) (x : Int) : Int :=
  let c := (s.enc i).count
  let unit := s.rd (ENC_SCALE i) * 2 ^ s.rd (ENC_SCALE_SHIFT i)
  if unit = 0 then c else c + divNearest (posDiff x (s.measured i c) * 256) unit

/-- The deviation of a latched count from the nearest expected one (R303); which of two equally near is open. -/
def State.idxDev (s : State) (c base : Int) (period : Nat) : Int :=
  let r := (c - base) % (period : Int)
  if 2 * r > period then r - period
  else if 2 * r = period ∧ s.free % 2 = 1 then r - period
  else r

/-- ENC_INDEX (R304): class 2 under INDEX_STRICT, where every page in print from the input is flagged DEFECTIVE. -/
def State.indexFault (s : State) (i : Nat) : State :=
  if s.on (ENC_IDX_CFG_INDEX_STRICT i) then
    (s.encReport i srcEncIndex 2).cells.foldl (fun s e =>
      if s.follower e.1 then s
      else ((e.2.tails ++ e.2.cur.toList).filter (fun p => p.started && usesEnc p.par.src i)).foldl
        (fun s p => s.updPage e.1 p.idx (fun p => p.flag cfDefective)) s) (s.encReport i srcEncIndex 2)
  else s.encReport i srcEncIndex 0

/-- An index event's deviation is recorded (R303). -/
def State.recordDev (s : State) (i : Nat) (c : Int) : State :=
  let period := s.rd (ENC_IDX_PERIOD i)
  match (s.enc i).idxBase with
  | none => s.updEnc i (fun e => { e with idxBase := some c })
  | some base =>
    if period = 0 then s
    else
      let dev := s.idxDev c base period
      let b := (clampInt 0 15 (dev / (2 ^ s.rd (ENC_IDX_CFG_HIST_SHIFT i) : Nat) + 8)).toNat
      let s := (s.draw.wrSat (ENC_IDX_DEV i) dev).bump (ENC_IDX_HIST i b)
      if s.rd (ENC_IDX_CFG_INDEX_TOL i) < dev.natAbs then (s.bump (ENC_CNT3_OUTSIDE i)).indexFault i else s

/-- A re-reference at a latched count (R305, R306): the observer and the history move with POS_OFF, and so does a pair's OFF. -/
def State.reref (s : State) (i : Nat) (c : Int) : State :=
  let goal : Int := ((s.rd2 (ENC_REF_POS_LO i) (ENC_REF_POS_HI i) : Nat) : Int) * 65536
  let d := posDiff goal (s.measured i c)
  let s := s.updEnc i (fun e =>
    { e with posOff := wrapPos (e.posOff + d), x := wrapPos (e.x + d), hist := e.hist.map (fun h => (h.1, wrapPos (h.2 + d))),
             idxBase := some c })
  let p := i / 2
  let s := if s.pairOn p then
      (s.updPair p (fun q => { q with off := if s.pairActive p = i then q.off - d * 4294967296 else q.off + d * 4294967296 })).showOff p
    else s
  let s := s.wr (ENC_STAT_REF_PEND i) 0
  if s.rd (ENC_CTL_REREF i) = 1 then s.wr (ENC_CTL_REREF i) 0 else s

/-- An index event latches the count, records its deviation and may re-reference (R302 to R306). -/
def State.indexEvent (s : State) (i : Nat) (c : Int) : State :=
  let bits := toBits 64 c
  let s := ((s.wr2 (ENC_IDX_LAST_LO i) (ENC_IDX_LAST_HI i) bits).wr (ENC_STAT_IDX_SEEN i) 1).recordDev i c
  let s := s.updEnc i (fun e => { e with idxRef := some c })
  let want := s.rd (ENC_CTL_REREF i)
  if want = 1 ∨ want = 2 then
    if s.encInUse i then (if want = 1 then s.wr (ENC_STAT_REF_PEND i) 1 else s) else s.reref i c
  else s

end Sys2Proof.Machine
end

