-- ==== Sys2Proof/Machine/Enc.lean ====
section
/-!
DEFINITION. Encoder inputs (spec/10): the sample of one input at a SENSE edge, its fault causes, enable and restart, the dual pairs
and the virtual encoder.
-/
namespace Sys2Proof.Machine

open Sys2Proof

/-! ## One sample: what the checks of R290 to R295 make of it -/

/-- What a sample gave: discarded, or accepted with a change of count; the phase where there is one; the index as its path sees it. -/
structure Reading where
  ok    : Bool
  step  : Int
  phi   : Option Nat
  gate  : Bool
  index : Bool
  deriving DecidableEq, Repr

/-- Which pairs of an input are in disagreement at a sample (R290). -/
structure Disagree where
  sin : Bool
  cos : Bool
  idx : Bool
  deriving DecidableEq, Repr

/-- Whether any pair is. -/
def Disagree.any (d : Disagree) : Bool := d.sin || d.cos || d.idx

/-- A pair with both wires on the same side of their threshold, the pair's mean common mode (R290, spec/23; DEDUCED: a wire on the
threshold lies below it, notes/assumptions/86). -/
def wireSameSide (w : WirePair) : Bool := decide (w.mean < w.p) == decide (w.mean < w.n)

/-- An analogue signal pair in disagreement (R290): the wires' excursions from the mean common mode, which cancel on a sound pair
(DEDUCED, notes/assumptions/86), sum to more than `tol` µV, or a wire lies outside 1.0 V to 4.0 V. -/
def wireBad (w : WirePair) (tol : Nat) : Bool :=
  let inside (v : Int) : Bool := decide (1000000 ≤ v ∧ v ≤ 4000000)
  decide (tol < ((w.p - w.mean) + (w.n - w.mean)).natAbs) || !inside w.p || !inside w.n

/-- The pairs in disagreement at a sample (R290); SIN and COS are not watched during a trim (R322). -/
def State.disagree (s : State) (i : Nat) (b : EncBalls) : Disagree :=
  let bad (w : WirePair) : Bool :=
    if s.on (ENC_CTL_MODE i) then wireSameSide w else wireBad w (10000 * s.rd (ENC_CFG_WIRE_TOL i))
  let watched := !s.trimming i
  ⟨watched && bad b.sinW, watched && bad b.cosW, wireSameSide b.idxW⟩

/-- The wires at a sample (R290): the pairs in disagreement now, each with its run. -/
def State.wires (s : State) (i : Nat) (d : Disagree) : State :=
  (s.wr (ENC_STAT_WIRE i) (b2n d.sin + 2 * b2n d.cos + 4 * b2n d.idx)).updEnc i (fun e =>
    { e with disSin := if d.sin then min 1024 (e.disSin + 1) else 0, disCos := if d.cos then min 1024 (e.disCos + 1) else 0,
             disIdx := if d.idx then min 1024 (e.disIdx + 1) else 0 })

/-- The phase wraps at this sample: whether upward and whether downward. -/
def wrapsOf (prev now : Nat) : Bool × Bool :=
  let d := phaseStep now prev
  (decide (4096 ≤ (prev : Int) + d), decide ((prev : Int) + d < 0))

/-- Time a wrap (R293): the Boolean says that it ended an overspeed period. -/
def Enc.timeWrap (e : Enc) (up : Bool) (ovsNs : Nat) : Enc × Bool :=
  let last := if up then e.wrapUp else e.wrapDown
  let e' := if up then { e with wrapUp := some e.k } else { e with wrapDown := some e.k }
  if e.noTime then ({ e' with noTime := false }, false)
  else match last with
    | none => (e', false)
    | some k0 =>
      if (e.k - k0) * 20 < ovsNs then ({ e' with ovs := true }, true) else ({ e' with ovs := false }, false)

/-- Follow the phase of the samples measured, and time its wraps (R293). -/
def State.followPhase (s : State) (i phi : Nat) : State :=
  let e := s.enc i
  match e.rawPhi with
  | none => s.setEnc i { e with rawPhi := some phi }
  | some prev =>
    if 1024 < (phaseStep phi prev).natAbs then s
    else
      let (up, down) := wrapsOf prev phi
      let e := { e with rawPhi := some phi }
      if up || down then
        let (e, short) := e.timeWrap up (max 400 (s.rd (ENC_OVS_PERIOD i)))
        let s := s.setEnc i e
        if short then (s.bump (ENC_CNT1_OVSPER i)).disturb i else s
      else s.setEnc i e

/-- A sample that passed is added to a run that accumulates (R324). -/
def State.accumulate (s : State) (i phi : Nat) (wrapped : Bool) (rs rc : Int) : State :=
  s.updEnc i (fun e => { e with cal := e.cal.map (fun c =>
    if c.phase = 2 then
      let b := phi / 64
      let none : Nat × Int × Int := (0, 0, 0)
      let was := Store.get none c.bins b
      { c with wraps := c.wraps + b2n wrapped,
               bins := Store.put none c.bins b (was.1 + 1, was.2.1 + rs, was.2.2 + rc) }
    else c) })

/-- The analogue path at one sample (R291 to R293, R318, R322, R326). -/
def State.analogue (s : State) (i : Nat) (b : EncBalls) (wire : Bool) : State × Reading :=
  let rs := sext 14 b.sin.toNat
  let rc := sext 14 b.cos.toNat
  let p := s.correct (s.coef i) rs rc
  let inv := s.on (ENC_CTL_INV i)
  let phi := phaseOf inv p
  let r2 := p.1 * p.1 + p.2 * p.2
  let lo : Int := 4 * s.rd (ENC_RAD_RAD_MIN i)
  let hi : Int := 4 * s.rd (ENC_RAD_RAD_MAX i)
  let edge (x : Int) : Bool := decide (x = -8192 ∨ x = 8191)
  let bad := decide (r2 < lo * lo ∨ hi * hi < r2) || edge rs || edge rc
  let s := s.updEnc i (fun e => { e with outl := if bad then min 16 (e.outl + 1) else 0 })
  let drop (s : State) : State × Reading := (s, ⟨false, 0, some phi, decide (phi < 1024), b.z⟩)
  if wire || bad then drop s
  else
    let s := s.followPhase i phi
    let e := s.enc i
    if e.ovs then drop s
    else
      match e.phi with
      | none => (s.updEnc i (fun e => { e with phi := some phi, oldCoef := none, reform := false }),
          ⟨true, 0, some phi, decide (phi < 1024), b.z⟩)
      | some prev =>
        let d := phaseStep phi prev
        let take (s : State) (wrapped : Bool) (d : Int) : State × Reading :=
          ((s.accumulate i phi wrapped rs rc).updEnc i (fun e => { e with phi := some phi, oldCoef := none, reform := false }),
            ⟨true, d, some phi, decide (phi < 1024), b.z⟩)
        let wrapped := (wrapsOf prev phi).1 || (wrapsOf prev phi).2
        -- the step that an application makes at this sample (R326)
        let s := match e.oldCoef with
          | some old => s.wrSat (ENC_CAL_MEAS_LAST_STEP i) (phaseStep phi (phaseOf inv (s.correct old rs rc)))
          | none => s
        if e.reform then
          -- the integer of periods from the prediction, the phase from the sample; a wrap before it is none of the run's (R324)
          let cp := s.countOf i e.predicted
          let c0 := e.count + d
          let c := c0 + 4096 * divNearest (cp - c0) 4096
          let (s, r) := take s false (c - e.count)
          (if 1024 < (c - cp).natAbs then s.encFault i 4 else s, r)
        else if 1024 < d.natAbs ∧ e.oldCoef.isNone then drop ((s.bump (ENC_CNT1_PHASEJ i)).disturb i)
        else take s wrapped d

/-- A line behind its edge filter at one sample (R294): the line, whether an edge has qualified, whether a short edge has ended. -/
def LineFilter.sample (l : LineFilter) (min : Nat) (now : Bool) : LineFilter × Bool × Bool :=
  if now = l.level then (⟨l.level, 0⟩, false, decide (0 < l.run))
  else if min ≤ l.run + 1 then (⟨now, 0⟩, true, false)
  else (⟨l.level, l.run + 1⟩, false, false)

/-- The digital path at one sample (R294, R295). -/
def State.digital (s : State) (i : Nat) (b : EncBalls) (wire : Bool) : State × Reading :=
  let e := s.enc i
  if wire then (s, ⟨false, 0, e.phi, e.lineA.level && e.lineB.level, e.lineZ.level⟩)
  else if e.phi.isNone then
    (s.setEnc i { e with phi := some 0, lineA := ⟨b.a, 0⟩, lineB := ⟨b.b, 0⟩, lineZ := ⟨b.z, 0⟩ }, ⟨true, 0, some 0, b.a && b.b, b.z⟩)
  else
    let m := max 1 (s.rd (ENC_CFG_EDGE_MIN i))
    let (la, ea, sa) := e.lineA.sample m b.a
    let (lb, eb, sb) := e.lineB.sample m b.b
    let (lz, _, sz) := e.lineZ.sample m b.z
    let s := s.setEnc i { e with lineA := la, lineB := lb, lineZ := lz }
    let s := [sa, sb, sz].foldl (fun s x => if x then (s.bump (ENC_CNT0_EDGE i)).disturb i else s) s
    let r (ok : Bool) (step : Int) : Reading := ⟨ok, step, some 0, la.level && lb.level, lz.level⟩
    let inv : Int := if s.on (ENC_CTL_INV i) then -1 else 1
    if ea && eb then ((s.bump (ENC_CNT0_ILLEGAL i)).disturb i, r false 0)
    else if ea then (s, r true (inv * (if la.level != lb.level then 1 else -1)))
    else if eb then (s, r true (inv * (if lb.level == la.level then 1 else -1)))
    else (s, r true 0)

/-- The observer's step after a reading (R301, R307, R310): acquisition begins at the first accepted sample. -/
def State.observeStep (s : State) (i : Nat) (was : Enc) (r : Reading) : State :=
  let e := s.enc i
  if r.ok then
    let c := sext 64 (toBits 64 (e.count + r.step))
    let m := s.measured i c
    let s := s.wr (ENC_STAT_COAST i) 0
    if was.phi.isNone then
      let s := s.setEnc i { e with count := c, x := m, v := 0, a := 0, coast := 0 }
      if s.rd (ENC_STAT_CAUSE i) = 0 ∧ ¬ e.acquired then s.wr (ENC_STAT_ACQ i) 1 else s
    else
      let (x, v, a, inn) := s.observe i m e.x e.v e.a
      s.setEnc i { e with count := c, x := x, v := v, a := a, coast := 0, innov := (inn :: e.innov).take 1024 }
  else
    let (x, v, a) := s.coastStep e.x e.v e.a
    let s := (s.setEnc i { e with x := x, v := v, a := a, coast := e.coast + 1 }).wr (ENC_STAT_COAST i) 1
    if e.coast = 0 then s.bump (ENC_CNT2_COASTS i) else s

/-- The index at one sample (R302): an event at the first sample that has been high for two and lies in the gate. -/
def State.indexStep (s : State) (i : Nat) (r : Reading) (c : Int) : State :=
  if !s.on (ENC_CTL_IDX_EN i) then s
  else
    let e := s.enc i
    let run := if r.index then min 2 (e.idxRun + 1) else 0
    let fire := decide (run = 2) && !e.idxDone && (!s.on (ENC_CTL_IDX_GATE i) || r.gate)
    let s := s.setEnc i { e with idxRun := run, idxDone := r.index && (e.idxDone || fire) }
    if fire then s.indexEvent i c else s

/-- The sample that an input and its pair issue is kept for the latches (R308, R175); a switch of the pair that is due comes first. -/
def State.issue (s : State) (i : Nat) : State :=
  let s := (s.updEnc i (fun e => { e with hist := pushHist e.hist e.t e.x })).pairSettle i
  let p := i / 2
  if s.pairOn p && s.pairActive p == i && (s.pair p).due.isNone then
    s.updPair p (fun q => { q with hist := pushHist q.hist (s.enc i).t (wrapPos ((s.enc i).x + q.offK)) })
  else s

/-- OBSERVER_SAMPLE (R288 to R308, R312, R314, R318, R322, R324): one sample of one input at a SENSE edge. An input that is disabled or
unsettled takes none. -/
def execObserverSample (i : EncId) (b : EncBalls) (s : State) : Host.Outcome State Fault Refusal :=
  let n := i.val
  if !s.on (ENC_CTL_EN n) || !s.on (ENC_CTL_PWR n) || !(s.enc n).settled then .next s
  else
    let s := (s.enforce (ENC_OBS_BW n)).updEnc n (fun e => { e with t := s.timeNs, k := e.k + 1 })
    let was := s.enc n
    let dis := s.disagree n b
    let s := s.wires n dis
    let (s, r) :=
      if s.trimming n then
        let c := s.countOf n was.predicted
        let gate := decide (((was.phi.getD 0 : Int) + (c - was.count)) % 4096 < 1024)
        (s, (⟨false, 0, was.phi, gate, b.z⟩ : Reading))
      else if s.on (ENC_CTL_MODE n) then s.digital n b dis.any
      else s.analogue n b dis.any
    let trim := s.trimming n
    let s := s.observeStep n was r
    let c := if trim then s.countOf n was.predicted else (s.enc n).count
    let s := if dis.any then s.updEnc n (fun e => { e with idxRun := 0 }) else s.indexStep n r c
    let s := s.issue n
    let s := if n % 2 = 1 then s.pairCheck (n / 2) else s
    .next (s.drawN 8)

/-! ## Fault causes -/

/-- DISTURB_FAULT (R296): four disturbances within 1,024 consecutive samples. -/
def execDisturbFault (i : EncId) (s : State) : Host.Outcome State Fault Refusal :=
  match (s.enc i).dist with
  | [a, _, _, d] => .next (if a - d < 1024 then s.encFault i 1 else s)
  | _ => .next s

/-- WIRE_FAULT (R290): one pair has been in disagreement for WIRE_T consecutive samples. -/
def execWireFault (i : EncId) (s : State) : Host.Outcome State Fault Refusal :=
  let e := s.enc i
  .next (if max 1 (s.rd (ENC_CFG_WIRE_T i)) ≤ max e.disSin (max e.disCos e.disIdx) then s.encFault i 2 else s)

/-- AMPL_FAULT (R291): 16 consecutive samples are outliers. -/
def execAmplFault (i : EncId) (s : State) : Host.Outcome State Fault Refusal :=
  .next (if 16 ≤ (s.enc i).outl then s.encFault i 3 else s)

/-- COAST_FAULT (R301): the input coasts for more than COAST_MAX µs without a break. -/
def execCoastFault (i : EncId) (s : State) : Host.Outcome State Fault Refusal :=
  .next (if max 40 (s.rd (ENC_OBS_COAST_MAX i)) * 50 < (s.enc i).coast then s.encFault i 4 else s)

/-- PWR_FAULT (R289): ENCi_PWR_FLT_N has been low for 10 µs while PWR is 1. -/
def execPwrFault (i : EncId) (s : State) : Host.Outcome State Fault Refusal :=
  .next (if s.on (ENC_CTL_PWR i) then (s.wr (ENC_STAT_PWR_OK i) 0).encFault i 5 else s)

/-! ## Enable, restart, settle, acquisition -/

/-- The counters of an input, which clear when EN is written 1. -/
def encCounters (i : Nat) : List Fld :=
  [ENC_CNT0_ILLEGAL i, ENC_CNT0_EDGE i, ENC_CNT1_OVSPER i, ENC_CNT1_PHASEJ i, ENC_CNT2_COASTS i, ENC_CNT2_FAULTS i,
   ENC_CNT3_MISSING i, ENC_CNT3_OUTSIDE i, ENC_CAL_CNT_RUNS i, ENC_CAL_CNT_FAILS i] ++
  (List.range 16).map (ENC_IDX_HIST i) ++ (if i % 2 = 0 then [ENC_DUAL_SWITCHES i] else [])

/-- An input starts afresh (R298, R299, R310); the next index event gives IDX_BASE again (R303). -/
def State.encRestart (s : State) (i : Nat) : State :=
  (((s.wr (ENC_STAT_CAUSE i) 0).encFresh i).updEnc i (fun e => { e with idxBase := none, idxRef := none })).wrB (ENC_STAT_PWR_OK i) (s.on (ENC_CTL_PWR i) && (s.enc i).settled)

/-- CTL.EN goes from 0 to 1 (R299). -/
def State.encEnable (s : State) (i : Nat) : State :=
  if s.on (ENC_CTL_EN i) then s else ((s.wr (ENC_CTL_EN i) 1).clearAll (encCounters i)).encRestart i

/-- CTL.EN, or with `pwr` CTL.PWR, goes from 1 to 0 (R299): cause DISABLED while the input is in use. -/
def State.encDisable (s : State) (i : Nat) (pwr : Bool) : State :=
  let f := if pwr then ENC_CTL_PWR i else ENC_CTL_EN i
  if !s.on f then s
  else
    let used := s.encInUse i
    let s := s.wr f 0
    let s := if used then s.encFault i 6 else s
    let s := s.encFresh i
    if pwr then (s.wr (ENC_STAT_PWR_OK i) 0).updEnc i (fun e => { e with settled := false }) else s

/-- ENC_ENABLE (R299). -/
def execEncEnable (who : Sender) (i : EncId) (s : State) : Host.Outcome State Fault Refusal :=
  .next (s.gatedWrite who (ENC_CTL_EN i) 1 (fun s => s.encEnable i))

/-- ENC_DISABLE (R299). -/
def execEncDisable (who : Sender) (i : EncId) (pwr : Bool) (s : State) : Host.Outcome State Fault Refusal :=
  .next (s.gatedWrite who (if pwr then ENC_CTL_PWR i else ENC_CTL_EN i) 0 (fun s => s.encDisable i pwr))

/-- The effect of CTL.RESTART: the held cause is cleared and an enabled input acquires again (R298). -/
def State.encRestartReq (s : State) (i : Nat) : State := if s.on (ENC_CTL_EN i) then s.encRestart i else s.wr (ENC_STAT_CAUSE i) 0

/-- ENC_RESTART (R298). -/
def execEncRestart (who : Sender) (i : EncId) (s : State) : Host.Outcome State Fault Refusal :=
  .next (s.gatedWrite who (ENC_CTL_RESTART i) 1 (fun s => s.encRestartReq i))

/-- PWR_SETTLE_EXPIRY (R289, R310): the supply has settled and an enabled input may acquire. -/
def execPwrSettleExpiry (i : EncId) (s : State) : Host.Outcome State Fault Refusal :=
  .next (if s.on (ENC_CTL_PWR i) && !(s.enc i).settled then
    (s.wrB (ENC_STAT_PWR_OK i) (s.rd (ENC_STAT_CAUSE i) != 5)).updEnc i (fun e => { e with settled := true }) else s)

/-- ACQUISITION_END (R310, R320): after 1 ms the input becomes valid; a run may start, and armed pages that waited for the source may
take their trigger. -/
def execAcquisitionEnd (i : EncId) (s : State) : Host.Outcome State Fault Refusal :=
  if !s.on (ENC_STAT_ACQ i) then .next s
  else
    let s := ((s.wr (ENC_STAT_ACQ i) 0).wr (ENC_STAT_VALID i) 1).updEnc i (fun e => { e with acquired := true })
    let s := if s.on (ENC_CAL_CTL_AUTO i) && s.calReady i then s.calStart i 3 else s.calPending i
    .next (s.cells.foldl (fun s e => if s.follower e.1 then s else s.condTrigger e.1) s)

/-- MISSING_INDEX (R303): the count is more than 1.5 periods from the last index. -/
def execMissingIndex (i : EncId) (s : State) : Host.Outcome State Fault Refusal :=
  match (s.enc i).idxRef with
  | none => .next s
  | some c0 =>
    let period := s.rd (ENC_IDX_PERIOD i)
    let c := (s.enc i).count
    if period = 0 ∨ ¬ 3 * period < 2 * (c - c0).natAbs then .next s
    else .next (((s.bump (ENC_CNT3_MISSING i)).indexFault i).updEnc i (fun e => { e with idxRef := some c }))

/-! ## Dual pairs -/

/-- DUAL_CTL.EN is written (R312). -/
def State.dualEnable (s : State) (p : Nat) (on : Bool) : State :=
  if s.pairOn p = on then s
  else if on then
    ((((((s.wr (ENC_DUAL_EN (2 * p)) 1).wr (ENC_DUAL_ACTIVE (2 * p)) (s.rd (ENC_DUAL_PRIMARY (2 * p)))).wr
      (ENC_DUAL_STANDBY_OK (2 * p)) 0).wr (ENC_DUAL_EXCLUDED (2 * p)) 0).wr (ENC_DUAL_DISAGREE (2 * p)) 0).setPair p Pair.reset).trimApart p
  else ((((s.wr (ENC_DUAL_EN (2 * p)) 0).wr (ENC_DUAL_STANDBY_OK (2 * p)) 0).trimGo (2 * p)).trimGo (2 * p + 1)).loseSources

/-- DUAL_ENABLE (R312). -/
def execDualEnable (who : Sender) (p : PairId) (on : Bool) (s : State) : Host.Outcome State Fault Refusal :=
  .next (s.gatedWrite who (ENC_DUAL_EN (2 * p.val)) (b2n on) (fun s => s.dualEnable p on))

/-- DUAL_REARM (R315): exclusion ends; a valid input rejoins as standby. -/
def execDualRearm (who : Sender) (p : PairId) (s : State) : Host.Outcome State Fault Refusal :=
  .next (s.gatedWrite who (ENC_DUAL_REARM (2 * p.val)) 1 (fun s => s.wr (ENC_DUAL_EXCLUDED (2 * p.val)) 0))

/-- DUAL_MISMATCH (R314): the input with the lower innovation level stays or becomes active, and the other is excluded. -/
def execDualMismatch (p : PairId) (s : State) : Host.Outcome State Fault Refusal :=
  let j := 2 * p.val
  if !s.pairOn p || (s.pair p).run < max 1 (s.rd (ENC_DUAL_SAMPLES j)) then .next s
  else
    let a := (s.enc (s.pairActive p)).innov
    let b := (s.enc (s.pairOther p)).innov
    let s := (s.report srcEncDual p 2 initNone 0 accNone j).updPair p (fun q => { q with run := 0 })
    let s := if a.sum * b.length ≤ b.sum * a.length then s else s.pairSwitch p
    .next ((s.wr (ENC_DUAL_EXCLUDED j) 1).wr (ENC_DUAL_STANDBY_OK j) 0)

/-! ## The virtual encoder (R316) -/

/-- VIRT_POS in 2⁻¹⁶ wu. -/
def State.virtPos (s : State) : Int := wrapPos ((s.rd2 VIRT_VIRT_POS_LO VIRT_VIRT_POS_HI : Nat) * 65536)

/-- VIRTUAL_STEP (R316): one step while valid; none otherwise, with v and a 0. -/
def execVirtualStep (s : State) : Host.Outcome State Fault Refusal :=
  let u := s.virt
  if !s.virtOk then .next { s with virt := { u with v := 0, dv := 0, t := s.timeNs } }
  else
    let goal := s.rdS VIRT_VIRT_VEL * 50000000
    let acc : Int := s.rd VIRT_VIRT_ACC
    let v := if acc = 0 then goal else u.v + clampInt (-acc) acc (goal - u.v)
    let dv := if acc = 0 then 0 else v - u.v
    let x := if u.load then s.virtPos else wrapPos (u.x + s.divOpen (v * 67108864) 10000000000000000)
    .next { s.draw with virt := { t := s.timeNs, x := x, v := v, dv := dv, load := false, hist := pushHist u.hist s.timeNs x } }

/-- VIRT_CTL.LOAD is written (R316). -/
def State.virtLoad (s : State) : State :=
  if s.virtOk then { s with virt := { s.virt with load := true } } else { s with virt := { s.virt with x := s.virtPos } }

/-- VIRTUAL_LOAD (R316). -/
def execVirtualLoad (who : Sender) (s : State) : Host.Outcome State Fault Refusal :=
  .next (s.gatedWrite who VIRT_LOAD 1 State.virtLoad)

end Sys2Proof.Machine
end

