-- ==== Sys2Proof/Machine/EncCal.lean ====
section
/-!
DEFINITION. The self-calibration of an encoder input (spec/11): temperature checks, requests, the end of a trim, the estimates and
limits of a run, time-outs and loaded coefficients.
-/
namespace Sys2Proof.Machine

open Sys2Proof

/-- One in the fixed point of the estimates, 2⁻³². -/
def one32 : Int := 4294967296

/-- The estimates of a run in 2⁻³² (R324): offsets, amplitudes, sin ψ. -/
structure Estimate where
  offS : Int
  offC : Int
  ampS : Int
  ampC : Int
  sinPsi : Int
  deriving DecidableEq, Repr

/-- The bin means of a run, in 2⁻³² code. -/
def CalRun.means (c : CalRun) : List (Int × Int) :=
  c.bins.map (fun b => (b.2.2.1 * one32 / (max 1 b.2.1 : Nat), b.2.2.2 * one32 / (max 1 b.2.1 : Nat)))

/-- The mean over the 64 bins, each with equal weight. -/
def meanOf (xs : List Int) : Int := xs.foldl (· + ·) 0 / 64

/-- The estimates from the bin means (R324). -/
def estimate (ms : List (Int × Int)) : Estimate :=
  let os := meanOf (ms.map (·.1))
  let oc := meanOf (ms.map (·.2))
  let sq (x : Int) : Int := x * x
  let as : Int := isqrt (2 * meanOf (ms.map (fun m => sq (m.1 - os)))).toNat
  let ac : Int := isqrt (2 * meanOf (ms.map (fun m => sq (m.2 - oc)))).toNat
  let cross := meanOf (ms.map (fun m => (m.1 - os) * (m.2 - oc)))
  ⟨os, oc, as, ac, if as * ac = 0 then 0 else -2 * cross * one32 / (as * ac)⟩

/-- GAIN_C of the estimates, in 2⁻³². -/
def Estimate.gain (m : Estimate) : Int := if m.ampC = 0 then 0 else m.ampS * one32 / m.ampC

/-- PH_SEC of the estimates, in 2⁻³². -/
def Estimate.sec (m : Estimate) : Int :=
  let r : Int := isqrt (one32 * one32 - m.sinPsi * m.sinPsi).toNat
  if r = 0 then 0 else one32 * one32 / r

/-- The radius of a bin mean after correction (R324). -/
def Estimate.radius (m : Estimate) (b : Int × Int) : Int :=
  let s1 := b.1 - m.offS
  let c1 := (b.2 - m.offC) * m.gain / one32
  let c2 := (c1 + s1 * m.sinPsi / one32) * m.sec / one32
  isqrt (s1 * s1 + c2 * c2).toNat

/-- The largest and the smallest radius. -/
def Estimate.spread (m : Estimate) (ms : List (Int × Int)) : Int × Int :=
  let rs := ms.map m.radius
  (rs.foldl max 0, rs.foldl min (rs.headD 0))

/-- The first limit failed, in table order, or 1 (R325). sin 5° is 374,331,065 in 2⁻³². -/
def Estimate.result (m : Estimate) (hi lo : Int) : Nat :=
  if m.ampS = 0 ∨ m.ampC * 5 < m.ampS * 4 ∨ m.ampS * 5 < m.ampC * 4 then 2
  else if 819 * one32 ≤ m.offS.natAbs ∨ 819 * one32 ≤ m.offC.natAbs then 3
  else if 374331065 ≤ m.sinPsi.natAbs then 4
  else if 2 * (hi + lo) ≤ 100 * (hi - lo) then 5
  else 1

/-- New coefficients come into force, with the step rule of R326: the old ones are kept for the next sample. -/
def State.applyCoef (s : State) (i : Nat) (c : Coef) : State :=
  let old := s.coef i
  (s.putCoef i c).updEnc i (fun e => { e with oldCoef := match e.oldCoef with | some o => some o | none => some old })

/-- CAL_TEMP_CHECK (R320): the temperature is measured, and a run starts when it has moved from TREF by more than CAL_DT. -/
def execCalTempCheck (i : EncId) (temp : BitVec 16) (s : State) : Host.Outcome State Fault Refusal :=
  let s := s.wr (ENC_CAL_TEMP_TEMP i) temp.toNat
  let far := decide (s.rdS (ENC_CAL_DT i) < ((sext 16 temp.toNat - s.rdS (ENC_CAL_TEMP_TREF i)).natAbs : Int))
  .next (if far && s.on (ENC_CAL_CTL_AUTO i) && s.calReady i then s.calStart i 1 else s)

/-- CAL_CTL.START is written 1 (R320, R329). -/
def State.calRequest (s : State) (i : Nat) : State :=
  if s.on (ENC_CTL_MODE i) then (s.wr (ENC_CAL_STAT_RESULT i) 8).wr (ENC_CAL_STAT_DONE i) 1
  else (s.wr (ENC_CAL_STAT_PEND i) 1).calPending i

/-- CAL_START (R320, R329). -/
def execCalStart (who : Sender) (i : EncId) (s : State) : Host.Outcome State Fault Refusal :=
  .next (s.gatedWrite who (ENC_CAL_CTL_START i) 1 (fun s => s.calRequest i))

/-- Coefficients whose offsets move by what a trim has changed the raw codes by (R322). -/
def Coef.trimmed (k : Coef) (ds dc : Int) : Coef := { k with offS := satInt 16 (k.offS + ds), offC := satInt 16 (k.offC + dc) }

/-- CAL_TRIM_END (R322, R323): the offsets in force move by what the trim has changed the raw codes by, the count is re-formed at the
next sample, and a trim of the other input of the pair that waited begins. The wraps of φ are timed afresh from that sample. -/
def execCalTrimEnd (i : EncId) (zs zc : BitVec 16) (ds dc : Fin 65536) (s : State) : Host.Outcome State Fault Refusal :=
  match (s.enc i).cal with
  | none => .next s
  | some c =>
    if c.phase ≠ 1 ∨ c.waits then .next s
    else
      let k := s.coef i
      let s := (s.wr (ENC_ADC_TRIM_ZS i) zs.toNat).wr (ENC_ADC_TRIM_ZC i) zc.toNat
      let s := s.putCoef i (k.trimmed (sext 16 ds) (sext 16 dc))
      let s := s.updEnc i (fun e => { e with reform := true, noTime := true, rawPhi := none, cal := some { c with phase := 2 },
                                             oldCoef := e.oldCoef.map (fun o => o.trimmed (sext 16 ds) (sext 16 dc)) })
      let s := s.trimGo (pairMate i)
      .next (if c.dead then s.calEnd i 7 else s.wr (ENC_CAL_STAT_PHASE i) 2)

/-- CAL_ACCUMULATE_END (R324): enough wraps and enough samples in every bin. -/
def execCalAccumulateEnd (i : EncId) (s : State) : Host.Outcome State Fault Refusal :=
  match (s.enc i).cal with
  | none => .next s
  | some c =>
    let full := (List.range 64).all (fun b => decide (c.binMin ≤ (Store.get (0, 0, 0) c.bins b).1))
    if c.phase ≠ 2 ∨ c.wraps < c.periods ∨ ¬ full then .next s
    else .next ((s.updEnc i (fun e => { e with cal := some { c with phase := 3 } })).wr (ENC_CAL_STAT_PHASE i) 3)

/-- A quotient rounded to the nearest code and saturated to 16 bits. -/
def code16 (x : Int) (d : Int) : Nat := if d = 0 then 65535 else satNat 16 (divNearest x d.toNat).toNat

/-- CAL_APPLY (R324 to R326): the estimates are reported and checked; a run that passes puts them into force. -/
def execCalApply (i : EncId) (s : State) : Host.Outcome State Fault Refusal :=
  match (s.enc i).cal with
  | none => .next s
  | some c =>
    if c.phase ≠ 3 then .next s
    else
      let ms := c.means
      let m := estimate ms
      let (hi, lo) := m.spread ms
      let q (x : Int) (unit : Nat) : Int := divNearest x (4294967296 / unit)
      let s := s.wr (ENC_CAL_MEAS_RATIO i) (code16 (m.ampC * 32768) m.ampS)
      let s := s.wrSat (ENC_CAL_MEAS_SIN_PSI i) (q m.sinPsi 32768)
      let s := (s.wrSat (ENC_CAL_MEAS_MOFF_S i) (q m.offS 4)).wrSat (ENC_CAL_MEAS_MOFF_C i) (q m.offC 4)
      let s := s.wr (ENC_CAL_MEAS_RIPPLE i) (code16 ((hi - lo) * 65536) (hi + lo))
      let r := m.result hi lo
      if r ≠ 1 then .next ((s.calFailed i).calEnd i r)
      else
        let k : Coef := ⟨q m.offS 4, q m.offC 4, code16 (m.ampS * 32768) m.ampC, q m.sinPsi 32768, q m.sec 32768⟩
        .next ((s.applyCoef i k).calEnd i 1)

/-- CAL_TIMEOUT (R327): accumulation has not ended within TMAX. -/
def execCalTimeout (i : EncId) (s : State) : Host.Outcome State Fault Refusal :=
  match (s.enc i).cal with
  | none => .next s
  | some c => .next (if c.phase = 2 then (s.calFailed i).calEnd i 6 else s)

/-- The checks of loaded coefficients (R328); PH_SEC is compared through squares. -/
def Coef.plausible (c : Coef) : Bool :=
  let d : Int := 2 ^ 30 - c.phSin * c.phSin
  decide (32768 * 4 ≤ 5 * c.gainC ∧ 4 * c.gainC ≤ 5 * 32768) && decide (c.offS.natAbs < 3276 ∧ c.offC.natAbs < 3276) &&
  decide (c.phSin.natAbs < 2856) &&
  decide ((c.phSec - 2) * (c.phSec - 2) * d ≤ 2 ^ 60 ∧ 2 ^ 60 ≤ (c.phSec + 2) * (c.phSec + 2) * d)

/-- CAL_CTL.LOAD is written (R328): a run in progress is aborted; CAL_SET comes into force when it passes the checks. RESULT is then 1, or
stays the 7 of the run that it has aborted (R327; DESIGN CHOICE, notes/assumptions/87). -/
def State.calLoad (s : State) (i : Nat) : State :=
  let ran := (s.enc i).cal.isSome
  let s := s.calAbort i
  let c : Coef := ⟨s.rdS (ENC_CAL_SET_OFF_S i), s.rdS (ENC_CAL_SET_OFF_C i), s.rd (ENC_CAL_SET_GAIN_C i), s.rdS (ENC_CAL_SET_PH_SIN i),
    s.rd (ENC_CAL_SET_PH_SEC i)⟩
  if c.plausible then ((s.applyCoef i c).wr (ENC_CAL_STAT_RESULT i) (if ran then s.rd (ENC_CAL_STAT_RESULT i) else 1)).wr (ENC_CAL_STAT_DONE i) 1
  else ((s.calFailed i).wr (ENC_CAL_STAT_RESULT i) 9).wr (ENC_CAL_STAT_DONE i) 1

/-- CAL_LOAD (R328). -/
def execCalLoad (who : Sender) (i : EncId) (s : State) : Host.Outcome State Fault Refusal :=
  .next (s.gatedWrite who (ENC_CAL_CTL_LOAD i) 1 (fun s => s.calLoad i))

end Sys2Proof.Machine
end

