-- ==== Sys2Proof/Machine/Fetch.lean ====
section
/-!
DEFINITION. The fetch engine of a cell (spec/03 R90 to R97, R109 to R114, spec/05 R138, R139): block-table entries, block rows, block
reads and their faults.
-/
namespace Sys2Proof.Machine

open Sys2Proof

/-! ## Where the engine stands -/

/-- Block rows of a page. -/
def PageRun.blockRows (p : PageRun) : Nat := if p.ladder.isSome then 0 else ceilDiv p.lines p.lb

/-- The strips that a page's window covers, ascending (R95). -/
def PageRun.winStrips (p : PageRun) : List Nat :=
  (List.range (endStrip p.winBase (64 * p.winWidth) p.strips)).filter (fun s => decide (firstStrip p.winBase ≤ s))

/-- The page that a cell fetches: the first with a block row not yet ready. -/
def Cell.fetchPage (c : Cell) : Option PageRun :=
  (c.cur.toList ++ c.nxt.toList).find? (fun p => p.row.isSome || decide (p.nextRow < p.blockRows))

/-- The last block row whose entries may be read: the one after the row in decode (R138). -/
def PageRun.entryLimit (p : PageRun) : Nat :=
  match p.row with
  | none => p.nextRow
  | some r => if r.faulted || !r.blocks.isEmpty then r.b + 1 else r.b

/-- Go to the first entry of the next block row. -/
def PageRun.nextEntryRow (p : PageRun) (b : Nat) : PageRun :=
  { p with entB := b + 1, entS := firstStrip p.winBase, entWait := false, entRetry := false, entAgain := false }

/-- Go to the next entry: the next strip of the row, or the next row. -/
def PageRun.nextEntry (p : PageRun) : PageRun :=
  if p.entS + 1 < endStrip p.winBase (64 * p.winWidth) p.strips then
    { p with entS := p.entS + 1, entWait := false, entRetry := false, entAgain := false }
  else p.nextEntryRow p.entB

/-- The address of an entry (R90). -/
def PageRun.entryAddr (p : PageRun) (b strip : Nat) : Nat := p.table + 16 * (strip * p.blockRows + b)

/-! ## Faults (R110 to R113, spec/17 R465) -/

/-- The Goose source of a block fault. -/
def BlkFault.src : BlkFault → Nat
  | .dma => srcBlkDma | .format => srcBlkFormat | .auth => srcBlkAuth | .decode => srcBlkDecode | .crc => srcBlkCrc

/-- A block of row `b` faults: recorded, its row muted, and the page's status kept; the entries of the row are done with. -/
def State.blockFault (s : State) (n : Nat) (p : PageRun) (b : Nat) (f : BlkFault) (addr : Nat) : State :=
  let s := s.report f.src n 2 initCell n accDmaRead addr
  let s := if f == .auth then s.bump (VAULT_SLOT_STAT_AUTH_FAIL p.keySlot) else s
  let s := if f == .dma then s.updPage (s.leader n) p.idx (fun q => { q with dmaErr := true })
    else if f == .auth then s.updPage (s.leader n) p.idx (fun q => { q with authFail := true }) else s
  s.updPage n p.idx (fun q =>
    let q : PageRun := match q.row with
      | some r => if r.b = b then { q with row := some { r with faulted := true } } else q
      | none => q
    let q : PageRun := { q with entries := q.entries.filter (fun e => e.b ≠ b) ++ [⟨b, firstStrip q.winBase, 0, 0, false, true⟩] }
    if q.entB = b then q.nextEntryRow b else q)

/-! ## Entries (R90 to R93) -/

/-- Judge an entry read with VALID = 1 (R111): its address, size and ZERO, or a format fault. -/
def judgeEntry (bs : List Byte) : Option (Nat × Nat × Bool) :=
  let fl := byteAt bs 11
  let addr := leAt bs 0 8
  let size := leAt bs 8 3
  if 4 ≤ fl ∨ leAt bs 12 4 ≠ 0 then none
  else if bitOf fl 1 then some (addr, size, true)
  else if addr % 32 ≠ 0 ∨ !addrOk addr ∨ size < 36 ∨ 65584 < size then none
  else some (addr, size, false)

/-- ENTRY_READ: the read of the next block-table entry completes. An entry that is malformed and names an address outside the permitted windows is
judged at this read, so it is a FORMAT fault; the window is judged at the block's read (DESIGN CHOICE, notes/assumptions/80). An entry found invalid is
read again until the page is aborted (R93). -/
def execEntryRead (n : CellId) (result : ReadResult) (s : State) : Host.Outcome State Fault Refusal :=
  let n := n.val
  match (s.cell n).fetchPage with
  | none => .next s
  | some p =>
    if p.entWait || (p.aborted && p.entAgain) || decide (p.blockRows ≤ p.entB) || decide (p.entryLimit < p.entB) || s.cellState n == csFenced then .next s
    else
      let addr := p.entryAddr p.entB p.entS
      if !s.readEnds (s.owner .cell n) addr result then .next s else
      match s.dmaRead initCell n addr 16 result with
      | (s, none) =>
        if p.entRetry then .next (s.blockFault n p p.entB .dma addr)
        else .next (s.updPage n p.idx (fun p => { p with entRetry := true }))
      | (s, some bs) =>
        if !bitOf (byteAt bs 11) 0 then .next (s.updPage n p.idx (fun p => { p with entWait := true, entRetry := false, entAgain := true }))
        else
          match judgeEntry bs with
          | none => .next (s.blockFault n p p.entB .format (leAt bs 0 8))
          | some (a, size, zero) =>
            let e : Entry := ⟨p.entB, p.entS, a, size, zero, false⟩
            .next (s.updPage n p.idx (fun p => PageRun.nextEntry { p with entries := p.entries ++ [e] }))

/-- ENTRY_REPOLL: the re-read interval of an invalid entry expires (R93). -/
def execEntryRepoll (n : CellId) (s : State) : Host.Outcome State Fault Refusal :=
  match (s.cell n.val).fetchPage with
  | some p => .next (s.updPage n.val p.idx (fun p => { p with entWait := false }))
  | none => .next s

/-! ## Block rows (R138, R139) -/

/-- ROW_FETCH_START: enough slots are free, and the cell allocates them to its next block row. -/
def execRowFetchStart (n : CellId) (s : State) : Host.Outcome State Fault Refusal :=
  let n := n.val
  match (s.cell n).fetchPage with
  | none => .next s
  | some p =>
    let used := (s.cell n).pages.foldl (fun u q => u + q.slots) 0
    if p.row.isSome || decide (lbCapacity (64 * p.winWidth) p.depth < used + p.lb) || s.cellState n == csFenced then .next s
    else
      .next (s.updPage n p.idx (fun p =>
        { p with row := some ⟨p.nextRow, [], p.entries.any (fun e => e.b == p.nextRow && e.bad), false⟩, nextRow := p.nextRow + 1 }))

/-- Add the blocks that need no read because their entries carry ZERO (R91). -/
def PageRun.fillZeros (p : PageRun) (r : RowFetch) : RowFetch :=
  { r with blocks := r.blocks ++
      ((p.entries.filter (fun e => e.b == r.b && e.zero && !r.blocks.any (fun k => k.1 == e.strip))).map (fun e => (e.strip, LbBlock.zeros))) }

/-- The next entry of a row whose block is to be read, in ascending strip order (R95). -/
def PageRun.nextBlock (p : PageRun) (r : RowFetch) : Option Entry :=
  match p.winStrips.find? (fun s => !r.blocks.any (fun k => k.1 == s)) with
  | none => none
  | some s => p.entries.find? (fun e => e.b == r.b && e.strip == s && !e.zero && !e.bad)

/-- The key of a slot, empty when the slot holds none (R109). -/
def State.slotKey (s : State) (slot : Nat) : List Byte := if s.on (VAULT_SLOT_STAT_VALID slot) then Store.get [] s.keys slot else []

/-- BLOCK_READ: the read of the next block of the row in fetch completes; the block is checked, decrypted and decoded (R109 to
R111). -/
def execBlockRead (n : CellId) (result : ReadResult) (s : State) : Host.Outcome State Fault Refusal :=
  let n := n.val
  match (s.cell n).fetchPage with
  | none => .next s
  | some p =>
    match p.row with
    | none => .next s
    | some r0 =>
      let r := p.fillZeros r0
      if r.faulted || s.cellState n == csFenced then .next s
      else
        match p.nextBlock r with
        | none => .next (s.updPage n p.idx (fun p => { p with row := some r }))
        | some e =>
          let k := s.ringOwner (2 * s.leader n)
          if !s.mayReadMem k e.addr e.size then .next ((s.memXs k e.addr false).blockFault n p r.b .dma e.addr)
          else if !s.readEnds k e.addr result then .next s
          else
            match s.dmaRead initCell n e.addr e.size result with
            | (s, none) =>
              if r.retried then .next (s.blockFault n p r.b .dma e.addr)
              else .next (s.updPage n p.idx (fun p => { p with row := some { r with retried := true } }))
            | (s, some bs) =>
              match openBlock bs p.depth e.strip r.b (r.b * p.lb) (p.rowLines r.b) e.size p.nokey (s.slotKey p.keySlot) p.nonce with
              | .error f => .next (s.blockFault n p r.b f e.addr)
              | .ok raw => .next (s.updPage n p.idx (fun p =>
                  { p with row := some { r with blocks := r.blocks ++ [(e.strip, .raw raw)], retried := false } }))

/-- BLOCK_ROW_READY: every block of the row has passed its checks, or one has faulted, and its lines become ready together (R112,
R139). -/
def execBlockRowReady (n : CellId) (s : State) : Host.Outcome State Fault Refusal :=
  let n := n.val
  match (s.cell n).fetchPage with
  | none => .next s
  | some p =>
    match p.row with
    | none => .next s
    | some r0 =>
      let r := p.fillZeros r0
      if !r.faulted && !p.winStrips.all (fun s => r.blocks.any (fun k => k.1 == s)) || s.cellState n == csFenced then .next s
      else
        let s := s.updPage n p.idx (fun p =>
          let p : PageRun := { p with ready := p.ready ++ [⟨r.b, r.faulted, if r.faulted then [] else r.blocks⟩], row := none,
                                      entries := p.entries.filter (fun e => e.b ≠ r.b) }
          let p := if p.entB = r.b then p.nextEntryRow r.b else p
          p.freeRows)
        .next (s.updReady n)

end Sys2Proof.Machine
end

