-- ==== Sys2Proof/Machine/HostCtx.lean ====
section
/-!
DEFINITION. The meanings of the commands of the host side (spec/02): ports, contexts, doorbells, descriptor fetch, ring control, SYNC
and events, with host loss (R74 to R76) and ownership (R43 to R45, R77).
-/
namespace Sys2Proof.Machine

open Sys2Proof

/-! ## Host loss (R75, R76, R591) -/

/-- The first and last context of a port. -/
def portCtxs (p : Nat) : List Nat := [4 * p, 4 * p + 1, 4 * p + 2, 4 * p + 3]

/-- The enabled rings of a context, in ascending number. -/
def State.ownRings (s : State) (k : Nat) : List Nat :=
  (List.range 160).filter (fun q => s.on (HOST_RING_EN q) && s.ringOwner q == k)

/-- The descriptors of a ring under a loss policy (R75): under DRAIN all that have been fetched go on; otherwise those that R79
would end end, and under STOP the pages in progress are muted. The reserved LOSS_POLICY 0b11 acts as FINISH (DESIGN CHOICE,
notes/assumptions/66). -/
def State.loseRing (s : State) (policy q : Nat) : State :=
  let s := (s.wr (HOST_RING_ERR q) 1).wr (HOST_RING_ERR_CODE q) 3
  match ringKind q with
  | .page => if policy == 1 then (s.wr (HOST_RING_EN q) 0).drain q ((s.ring q).held.length + 1) else s.disableRing q
  | .buffers | .launch =>
    let s := s.wr (HOST_RING_EN q) 0
    let s := (s.ring q).held.foldl (fun s d => s.abortDesc q d) s
    s.drain q ((s.ring q).held.length + 1)
  | .event => (s.wr (HOST_RING_EN q) 0).wr (HOST_RING_RUN q) 0
  | _ => s.disableRing q

/-- Mute every page in progress of the cells of a context (STOP, R75). -/
def State.stopPages (s : State) (k : Nat) : State :=
  { s with cells := s.cells.map (fun e =>
      if s.owner .cell e.1 = k then
        let f (p : PageRun) : PageRun := if p.started then p.abort else p
        (e.1, { e.2 with cur := e.2.cur.map f, tails := e.2.tails.map f })
      else e) }

/-- A context enters host loss (R75, R76, R591): HOST_LOSS, its fetches stop, its outstanding DMA is discarded, its rings are disabled under its LOSS_POLICY, and the
events it holds are discarded. Its event ring is disabled with the others, so that an event of what the loss ends finds none and is counted as lost (R71). Axes keep their move but lose a chained one (R358); loop slots and ownership go on as they are. -/
def State.hostLoss (s : State) (k cause : Nat) : State :=
  if !s.on (HOST_CTX_EN k) || (s.ctx k).inLoss then s
  else
    let policy := s.rd (HOST_CTX_LOSS_POLICY k)
    let s := (s.dropL1 k).report srcHostLoss k 2 initCtx k accNone 0
    let s := ((s.wr (HOST_CTX_LOST k) 1).wr (HOST_CTX_LOSS_CAUSE k) cause).wr (HOST_CTX_KICK_PEND k) 0
    let n := (s.ctx k).held.length
    let s := (s.updCtx k (fun c =>
      { c with inLoss := true, fetching := false, held := [], evtKnown := false, lostSince := c.lostSince + n })).bumpBy (HOST_CTX_EVT_LOST k) n
    let s := (List.range 8).foldl (fun s a => if s.owner .axis a = k then s.dropChain a else s) s
    let own := s.ownRings k
    let s := (own.filter (fun q => decide (152 ≤ q)) ++ own.filter (fun q => decide (q < 152))).foldl (fun s q => s.loseRing policy q) s
    if policy == 2 then (s.stopPages k).latchStop true else s

/-- A doorbell or descriptor read of a context failed (R74), which its port counts. -/
def State.readFailed (s : State) (k : Nat) : State := ((s.countReadError k).wr (HOST_CTX_FETCH_ERR k) 1).hostLoss k 5

/-! ## Ports (R39 to R42) -/

/-- PERST_ASSERT: the port's PCI Express logic resets and its enabled contexts enter host loss (R39, R74); ignored from a tamper until the
power cycle, like every PERST_N and training of a port (spec/17 R475). -/
def execPerstAssert (p : PortId) (s : State) : Host.Outcome State Fault Refusal :=
  if s.on VAULT_STAT_TAMPER then .next s
  else
  let p := p.val
  let s := (s.clearAll [HOST_PORT_UP p, HOST_PORT_WIDTH p, HOST_PORT_RATE p, HOST_PORT_L1 p, HOST_PORT_SRIS p])
  let s := (s.wr (HOST_PORT_PERST p) 1).wr (HOST_PORT_CRS p) 1
  let s := (portCtxs p).foldl (fun s k => (s.updCtx k (fun c => { c with busMaster := false, flrBusy := false, fn := PciFn.reset })).dropL1 k) s
  .next ((portCtxs p).foldl (fun s k => s.hostLoss k 2) s)

/-- The counters of a port, which clear when PERST_N deasserts (spec/22, HOST.PORT). -/
def portCounts (p : Nat) : List Fld :=
  [HOST_PORT_CORR p, HOST_PORT_UNCORR p, HOST_PORT_CPL_TO p, HOST_PORT_UR p, HOST_PORT_L1_EXITS p, HOST_PORT_DOWN p]

/-- PERST_DEASSERT: the port answers with retry status until the host interface is ready (R40), and its counters clear. -/
def execPerstDeassert (p : PortId) (s : State) : Host.Outcome State Fault Refusal :=
  if s.on VAULT_STAT_TAMPER then .next s
  else .next (((s.clearAll (portCounts p.val)).wr (HOST_PORT_PERST p.val) 0).wrB (HOST_PORT_CRS p.val) (!s.on GLOBAL_READY_HOST))

/-- CRS_TIMEOUT: 900 ms after deassertion the retry status ends, ready or not (R40, R41). -/
def execCrsTimeout (p : PortId) (s : State) : Host.Outcome State Fault Refusal :=
  .next (if s.on (HOST_PORT_PERST p.val) then s else s.wr (HOST_PORT_CRS p.val) 0)

/-- PORT_LINK_UP: the link of a port trains (R76 names it among what makes a function usable). -/
def execPortLinkUp (p : PortId) (width : Fin 9) (rate : Fin 6) (sris : Bool) (s : State) : Host.Outcome State Fault Refusal :=
  let p := p.val
  if s.on (HOST_PORT_PERST p) || s.on VAULT_STAT_TAMPER then .next s
  else .next ((((((s.wr (HOST_PORT_UP p) 1).wr (HOST_PORT_WIDTH p) width).wr (HOST_PORT_RATE p) rate).wrB (HOST_PORT_SRIS p) sris).wr
    (HOST_PORT_L1 p) 0).releaseL1 p)

/-- PORT_LINK_DOWN: the link of a port goes down; what waited for it to leave L1 is lost with it (DEDUCED,
notes/assumptions/67). -/
def execPortLinkDown (p : PortId) (s : State) : Host.Outcome State Fault Refusal :=
  let p := p.val
  if !s.on (HOST_PORT_UP p) then .next s
  else
    let s := (s.clearAll [HOST_PORT_UP p, HOST_PORT_WIDTH p, HOST_PORT_RATE p, HOST_PORT_L1 p]).bump (HOST_PORT_DOWN p)
    .next ((portCtxs p).foldl State.dropL1 s)

/-- PORT_LINK_DOWN_TIMEOUT: the link has been down for more than 1 ms (R74). -/
def execPortLinkDownTimeout (p : PortId) (s : State) : Host.Outcome State Fault Refusal :=
  if s.on (HOST_PORT_UP p.val) then .next s
  else .next ((portCtxs p.val).foldl (fun s k => s.hostLoss k 3) s)

/-- ASPM_L1_ENTRY: the link enters L1, and DMA to host memory waits (R42). -/
def execAspmL1Entry (p : PortId) (s : State) : Host.Outcome State Fault Refusal :=
  .next (if s.on (HOST_PORT_UP p.val) then s.wr (HOST_PORT_L1 p.val) 1 else s)

/-- L1_EXIT: the link returns to L0, and what has waited for it leaves (R42). -/
def execL1Exit (p : PortId) (s : State) : Host.Outcome State Fault Refusal :=
  let p := p.val
  .next (if s.on (HOST_PORT_L1 p) then ((s.wr (HOST_PORT_L1 p) 0).bump (HOST_PORT_L1_EXITS p)).releaseL1 p else s)

/-- FUNCTION_LEVEL_RESET of the function of context `k` (R74): its configuration space resets with it. -/
def execFunctionLevelReset (k : CtxId) (s : State) : Host.Outcome State Fault Refusal :=
  .next (((s.updCtx k.val (fun c => { c with flrBusy := true, busMaster := false, fn := PciFn.reset })).dropL1 k.val).hostLoss k.val 1)

/-- Bus Master Enable is cleared: a loss when a ring of the context is enabled (R74). -/
def State.busMasterOff (s : State) (k : Nat) : State :=
  let s := s.updCtx k (fun c => { c with busMaster := false })
  if (s.ownRings k).isEmpty then s else s.hostLoss k 4

/-- BUS_MASTER_CLEAR: Bus Master Enable of a function is cleared (R74). -/
def execBusMasterClear (k : CtxId) (s : State) : Host.Outcome State Fault Refusal := .next (s.busMasterOff k.val)

/-- WATCHDOG_EXPIRY of a context whose watchdog is on (R74). -/
def execWatchdogExpiry (k : CtxId) (s : State) : Host.Outcome State Fault Refusal :=
  .next (if s.rd (HOST_CTX_MS k.val) == 0 then s else s.hostLoss k.val 6)

/-! ## Contexts (R76 to R78) -/

/-- Enable a context: its event SEQ and its loss counts start again (R70, R71, R78). A disable that has not come to its end ends first: what it
holds is discarded and counted, and its event ring disabled (R78 step 4). Entries written and not signalled stay so (R73). -/
def State.enableCtx (s : State) (k : Nat) : State :=
  let s := if (s.ctx k).closing then s.closeEvents k else s
  (s.wr (HOST_CTX_EN k) 1).updCtx k (fun c => { c with inLoss := false, fetching := false, seq := 0, lostSince := 0, held := [] })

/-- A context leaves host loss (R76). It has been enabled throughout, so its SEQ goes on and LOST counts what was lost (R70, R71;
DEDUCED, notes/assumptions/13). -/
def State.leaveLoss (s : State) (k : Nat) : State := s.updCtx k (fun c => { c with inLoss := false, fetching := false })

/-- The effect of a write of CTL.EN = 1 (R76, R78): it enables the context, or ends a host loss while the function is usable. -/
def State.ctxOn (s : State) (who : Sender) (k : Nat) (bm flrDone : Bool) : State :=
  let s := s.updCtx k (fun c => { c with busMaster := bm, flrBusy := !flrDone })
  if (s.ctx k).inLoss then
    if !s.on (HOST_PORT_PERST (k / 4)) && s.on (HOST_PORT_UP (k / 4)) && flrDone && bm then s.leaveLoss k
    else s.hostXs who xsRule (HOST_CTX_EN k).addr true
  else if s.on (HOST_CTX_EN k) then s
  else s.enableCtx k

/-- The effect of a write of CTL.EN = 0 (R78). A write in host loss ends the loss as well, and a later EN = 1 enables the context whether or not its
function is usable (DESIGN CHOICE, notes/assumptions/68). Held events are written as far as the event ring has space by the host's index as last read,
without reading it again first (DESIGN CHOICE, notes/assumptions/69). -/
def State.ctxOff (s : State) (k : Nat) : State :=
  if !s.on (HOST_CTX_EN k) then s
  else
    let s := (s.wr (HOST_CTX_EN k) 0).wr (HOST_CTX_KICK_PEND k) 0
    let s := s.updCtx k (fun c => { c with fetching := false, closing := true, inLoss := false })
    let s := ((s.ownRings k).filter (fun q => decide (q < 152))).foldl (fun s q => s.disableRing q) s
    let s := s.flushEvents k 64
    s.settleClose k

/-- CTX_ENABLE: a write of HOST.CTX[k].CTL.EN = 1. -/
def execCtxEnable (who : Sender) (k : CtxId) (busMaster flrDone : Bool) (s : State) : Host.Outcome State Fault Refusal :=
  .next (s.gatedWrite who (HOST_CTX_EN k.val) 1 (fun s => s.ctxOn who k.val busMaster flrDone))

/-- CTX_DISABLE: a write of HOST.CTX[k].CTL.EN = 0. -/
def execCtxDisable (who : Sender) (k : CtxId) (s : State) : Host.Outcome State Fault Refusal :=
  .next (s.gatedWrite who (HOST_CTX_EN k.val) 0 (fun s => s.ctxOff k.val))

/-- The effect of a context's write of `value` to HOST.ADMIN.CTX (R44, R77, R589). While the administrator is in host loss only a takeover is
accepted: TAKEOVER is 1 and the context names itself, locked or not. Otherwise the administrator may write it until LOCK; that its write after LOCK is
recorded is the model's reading (DESIGN CHOICE, notes/assumptions/64). -/
def State.takeAdmin (s : State) (who value : Nat) : State :=
  if (if (s.ctx s.admin).inLoss then s.adminOpen && value == who else s.admin == who && !s.on HOST_ADMIN_LOCK) then s.wr HOST_ADMIN_CTX value
  else s.hostXs (.ctx (Fin.ofNat 8 who)) xsRule HOST_ADMIN_CTX.addr true

/-- ADMIN_TAKEOVER: context `who` writes `value` to HOST.ADMIN.CTX (R77). -/
def execAdminTakeover (who value : CtxId) (s : State) : Host.Outcome State Fault Refusal :=
  .next (if !s.on GLOBAL_READY_HOST || s.portReset who.val then s else s.takeAdmin who.val value.val)

/-! ## Ownership (R43 to R45) -/

/-- Whether a resource is busy, so that its owner cannot change (R45). -/
def State.ownBusy (s : State) (kind : OwnKind) (i : Nat) : Bool :=
  match kind with
  | .cell => s.on (CELL_CTL_EN i) || s.on (HOST_RING_EN (2 * i))
  | .axis => s.on (AXIS_CTL_EN i)
  | .loop => s.on (LOOP_CTL_EN i)
  | .insp => s.on (INSP_CTL_EN i)
  | .lq => s.on (HOST_RING_EN (144 + i))
  | .enc => s.on (ENC_CTL_EN i)

/-- The effect of a write of one ownership word (R43, R45, R590): a value 8 to 14 in any field discards the write with HOST_XS; a field
whose resource is busy keeps its owner, with CFG_LIVE, and the other fields take their values. The field of a fused cell stays none
(R2). -/
def State.writeOwners (s : State) (who : Sender) (kind : OwnKind) (word v : Nat) : State :=
  let units := (List.range 8).filter (fun j => decide (8 * word + j < ownCount kind) && !(kind == .cell && s.fused (8 * word + j)))
  let addr := (ownFld kind (8 * word)).addr
  if units.any (fun j => decide (8 ≤ bitsOf v (4 * j) 4 ∧ bitsOf v (4 * j) 4 ≤ 14)) then s.hostXs who xsValue addr true
  else
    let stays (j : Nat) : Bool := bitsOf v (4 * j) 4 != s.rd (ownFld kind (8 * word + j)) && s.ownBusy kind (8 * word + j)
    let t := (units.filter (fun j => !stays j)).foldl (fun s j => s.wr (ownFld kind (8 * word + j)) (bitsOf v (4 * j) 4)) s
    if units.any stays then t.cfgLive who addr else t

/-- OWNERSHIP_WRITE: a write of word `word` of the ownership registers of a kind (R43 to R45); a word that does not exist is a
reserved address and discards it. -/
def execOwnershipWrite (who : Sender) (kind : OwnKind) (word : Fin 10) (value : Word) (s : State) : Host.Outcome State Fault Refusal :=
  if ownCount kind ≤ 8 * word.val then .next s
  else .next (s.gatedWrite who (ownFld kind (8 * word.val)) value.toNat (fun s => s.writeOwners who kind word.val value.toNat))

/-! ## Doorbells (R57 to R59, R83) -/

/-- A trigger of a doorbell fetch, a KICK or a poll expiry (R57, R58): one of each at the same device time cause one fetch. -/
def State.trigFetch (s : State) (k : Nat) (kick : Bool) : State :=
  if !s.on (HOST_CTX_EN k) || (s.ctx k).inLoss || (s.ctx k).trigAt == some (s.now, !kick) then s
  else
    let s := s.updCtx k (fun c => { c with trigAt := some (s.now, kick) })
    if (s.ctx k).fetching then s.wr (HOST_CTX_KICK_PEND k) 1
    else s.updCtx k (fun c => { c with fetching := true })

/-- KICK: a write of HOST.CTX[k].KICK (R57, R58). -/
def execKick (who : Sender) (k : CtxId) (s : State) : Host.Outcome State Fault Refusal :=
  .next (s.gatedWrite who (HOST_CTX_KICK k.val) 1 (fun s => s.trigFetch k.val true))

/-- POLL_EXPIRY: the poll interval of a context that polls (R57, R58). -/
def execPollExpiry (k : CtxId) (s : State) : Host.Outcome State Fault Refusal :=
  .next (if s.rd (HOST_CTX_POLL_US k.val) == 0 then s else s.trigFetch k.val false)

/-- A ring stops on an error (R59). -/
def State.ringErr (s : State) (q code : Nat) : State :=
  let s := (s.wr (HOST_RING_ERR q) 1).wr (HOST_RING_ERR_CODE q) code
  let s := s.report srcRingErr 0 1 initCtx (s.ringOwner q) accFetch q
  if (s.ring q).held.isEmpty then s.wr (HOST_RING_RUN q) 0 else s

/-- Take the consumer index of the host of an event ring (R70, R83), which is the ring's CI (R65). -/
def State.takeEvtIndex (s : State) (k pi : Nat) : State :=
  let s := s.updCtx k (fun c =>
    { c with evtHost := pi, evtStart := if c.evtKnown then c.evtStart else pi, evtProd := if c.evtKnown then c.evtProd else pi,
             evtKnown := true })
  ((s.wr (HOST_RING_CI (152 + k)) pi).flushEvents k 64).settleSyncs 160

/-- What one doorbell entry gives its ring (R59, R83). -/
def State.takePi (s : State) (q pi : Nat) : State :=
  if 152 ≤ q then s.takeEvtIndex (q - 152) pi
  else if s.on (HOST_RING_ERR q) then s
  else if !(s.ring q).known then
    ((s.setRing q { s.ring q with known := true, start := pi, fetch := pi, pi := pi }).wr (HOST_RING_CI q) pi).settleSyncs 160
  else if pi == (s.ring q).pi then s
  else if s.ringSize q < (pi + 65536 - s.rd (HOST_RING_CI q)) % 65536 then s.ringErr q 1
  else s.setRing q { s.ring q with pi := pi }

/-- DOORBELL_FETCH: the fetch in progress of a context ends with the entries of its enabled rings (R57 to R59). -/
def execDoorbellFetch (k : CtxId) (result : Option (List (RingId × BitVec 16))) (s : State) : Host.Outcome State Fault Refusal :=
  let k := k.val
  if !(s.ctx k).fetching || !s.readEnds k (s.doorbellAddr k 0) (if result.isNone then .failed 0 else .ok []) then .next s
  else
    match result with
    | none => .next ((s.updCtx k (fun c => { c with fetching := false })).readFailed k)
    | some pis =>
      let s := (s.ownRings k).foldl (fun s q =>
        match pis.find? (fun e => e.1.val == q) with
        | some e => s.takePi q e.2.toNat
        | none => s) s
      let again := s.on (HOST_CTX_KICK_PEND k)
      .next ((s.updCtx k (fun c => { c with fetching := again })).wr (HOST_CTX_KICK_PEND k) 0)

/-! ## Descriptor fetch (R60 to R63) -/

/-- The cell of a page or control ring. -/
def cellOfRing (q : Nat) : Option Nat := if q < 128 then some (q / 2) else none

/-- Whether a ring may hold one more descriptor of a type (R60): 4 PAGEs ahead of the one printed on a page ring, 8 descriptors
ahead on any other; a buffer is ahead until a frame fills it. -/
def State.roomFor (s : State) (q ty : Nat) : Bool :=
  let held := (s.ring q).held
  if ringKind q == .page then
    ty != tyPage || decide ((held.filter (fun d => d.type == tyPage && (d.phase == .queued || d.phase == .started))).length < 4)
  else decide ((held.filter (fun d => d.phase == .queued || (d.type == tyBuf && d.phase == .started && !s.bufFilling q d.idx))).length < 8)

/-- A descriptor just fetched joins its ring: it completes with FENCED while the cell is fenced (R81), under the guard of a SYNC
already dropped or timed out with that status, or with BAD_DESC and HOST_XS when it fails a check (R62, R558); else it waits to start. -/
def State.acceptDesc (s : State) (q : Nat) (d : Desc) : State :=
  let r := s.ring q
  let s := (s.putHeld q (r.held ++ [d])).updCtx (s.ringOwner q) (fun c => { c with fetchNo := c.fetchNo + 1 })
  let s := s.setRing q { s.ring q with fetch := d.after, guard := r.guard - 1 }
  let fenced := match cellOfRing q with | some n => s.cellState n == csFenced | none => false
  if fenced then s.finishSt q d.idx stFenced
  else if 0 < r.guard then s.finishSt q d.idx r.guardStatus
  else match checkDesc (ringKind q) d with
    | some st => (s.descXs (s.ringOwner q) q d.idx).finishSt q d.idx st
    | none => s

/-- Take the descriptors that the bytes read hold, one by one: at most `left` of them, while slots are posted. A STRIP needs both of its
slots (R63). On a ring that does not accept STRIP one is taken as one slot, and the CONT after it is judged alone (DESIGN CHOICE,
notes/assumptions/70). -/
def State.takeSlots (s : State) (q : Nat) : Nat → List Byte → State
  | 0, _ => s
  | left + 1, bs =>
    let r := s.ring q
    let avail := (r.pi + 65536 - r.fetch) % 65536
    let ty := byteAt bs 0
    if avail = 0 ∨ bs.length < 32 ∨ !s.roomFor q ty then s
    else if ty == tyStrip && ringKind q == .page then
      if avail < 2 ∨ bs.length < 64 then s
      else
        let d : Desc := ⟨r.fetch, bs.take 64, .queued, (s.ctx (s.ringOwner q)).fetchNo⟩
        (s.acceptDesc q d).takeSlots q left (bs.drop 64)
    else
      let d : Desc := ⟨r.fetch, bs.take 32, .queued, (s.ctx (s.ringOwner q)).fetchNo⟩
      (s.acceptDesc q d).takeSlots q left (bs.drop 32)

/-- Slots of the next read of a ring: at most 8, up to PI, and not past the end of the ring (R60). A PI that has moved back behind the fetch index
is taken as one ahead of it, round the 65,536 count (DESIGN CHOICE, notes/assumptions/71). -/
def State.readSlots (s : State) (q : Nat) : Nat :=
  let r := s.ring q
  min 8 ((r.pi + 65536 - r.fetch) % 65536)

/-- The bytes of `n` slots from an index in a ring in the page store, slot by slot. -/
def State.readLocalSlots (s : State) (k q : Nat) (result : ReadResult) : Nat → Nat → State × Option (List Byte)
  | _, 0 => (s, some [])
  | idx, n + 1 =>
    match s.memReadEcc initCtx k (localOff (s.slotAddr q idx)) 32 result with
    | (s, none) => (s, none)
    | (s, some bs) =>
      match s.readLocalSlots k q (.ok []) (idx + 1) n with
      | (s, none) => (s, none)
      | (s, some rest) => (s, some (bs ++ rest))

/-- A descriptor read of a ring in the page store fails (R59's DMA_ERR): the ring stops, and its context shows FETCH_ERR (R82). -/
def State.localFetchErr (s : State) (q : Nat) : State := (s.wr (HOST_CTX_FETCH_ERR (s.ringOwner q)) 1).ringErr q 2

/-- DESCRIPTOR_FETCH: descriptors from the fetch index up to PI are read and taken (R60 to R63). In the safe state no page ring
fetches (R486). -/
def execDescriptorFetch (q : RingId) (result : ReadResult) (s : State) : Host.Outcome State Fault Refusal :=
  let q := q.val
  let k := s.ringOwner q
  let n := s.readSlots q
  if !s.on (HOST_RING_EN q) || s.on (HOST_RING_ERR q) || !(s.ring q).known || 8 ≤ k || !s.on (HOST_CTX_EN k) || (s.ctx k).inLoss ||
      n == 0 || 152 ≤ q || (ringKind q == .page && s.safe) || !s.readEnds k (s.ringBase q) result then .next s
  else if isLocal (s.ringBase q) then
    if !s.mayReadMem k (s.ringBase q) (32 * s.ringSize q) then .next ((s.memXs k (s.ringBase q) false).localFetchErr q)
    else
      match s.readLocalSlots k q result (s.ring q).fetch n with
      | (s, none) => .next (s.localFetchErr q)
      | (s, some bs) => .next (s.takeSlots q n (bs.take (32 * n)))
  else
    match result with
    | .failed _ => .next (s.readFailed k)
    | .ok bs => .next (s.takeSlots q n (bs.take (32 * n)))
    | .corrected bs => .next (s.takeSlots q n (bs.take (32 * n)))

/-! ## Ring control (R79, R80, R83) -/

/-- The effect of a write of CFG.EN = 1 (R83): a ring that exists starts from the doorbell entry of its next fetch; no ring can be enabled before the
host interface is ready (R41). That the enable clears STATE.ERR and ERR_CODE of an earlier stop is the model's choice (DESIGN CHOICE,
notes/assumptions/72). -/
def State.ringOn (s : State) (q : Nat) : State :=
  if s.on (HOST_RING_EN q) || !s.ringExists q || !s.on GLOBAL_READY_HOST then s
  else
    let s := (s.setRing q { s.ring q with known := false, guard := 0 }).clearAll [HOST_RING_ERR q, HOST_RING_ERR_CODE q]
    let s := (s.wr (HOST_RING_EN q) 1).wr (HOST_RING_RUN q) 1
    if 152 ≤ q then s.updCtx (q - 152) (fun c => { c with evtKnown := false }) else s

/-- The effect of a write of CFG.EN = 0 (R79); an event ring discards what it holds (R71). -/
def State.ringOff (s : State) (q : Nat) : State :=
  if !s.on (HOST_RING_EN q) then s
  else if 152 ≤ q then
    let k := q - 152
    let n := (s.ctx k).held.length
    let s := (s.wr (HOST_RING_EN q) 0).wr (HOST_RING_RUN q) 0
    (s.updCtx k (fun c => { c with held := [], evtKnown := false, lostSince := c.lostSince + n })).bumpBy (HOST_CTX_EVT_LOST k) n
  else s.disableRing q

/-- RING_ENABLE: a write of HOST.RING[q].CFG.EN = 1. -/
def execRingEnable (who : Sender) (q : RingId) (s : State) : Host.Outcome State Fault Refusal :=
  .next (s.gatedWrite who (HOST_RING_EN q.val) 1 (fun s => s.ringOn q.val))

/-- RING_DISABLE: a write of HOST.RING[q].CFG.EN = 0. -/
def execRingDisable (who : Sender) (q : RingId) (s : State) : Host.Outcome State Fault Refusal :=
  .next (s.gatedWrite who (HOST_RING_EN q.val) 0 (fun s => s.ringOff q.val))

/-- RING_ABORT: a write of 1 to HOST.RING[q].CFG.ABORT. -/
def execRingAbort (who : Sender) (q : RingId) (s : State) : Host.Outcome State Fault Refusal :=
  .next (s.gatedWrite who (HOST_RING_ABORT q.val) 1 (fun s => s.abortRing q.val))

/-! ## NOP and SYNC -/

/-- NOP: a NOP descriptor completes with OK. -/
def execNop (q : RingId) (s : State) : Host.Outcome State Fault Refusal :=
  match s.takeable q.val tyNop with
  | none => .next s
  | some d => .next (s.finishSt q.val d.idx stOk)

/-- Whether the unit a SYNC names belongs to the ring's context (R65). -/
def State.syncOwned (s : State) (q : Nat) (d : Desc) : Bool :=
  let k := s.ringOwner q
  let c := bitsOf (d.u8 4) 0 4
  let u := d.u8 5
  if c == 1 || c == 2 || c == 4 then s.owner .cell u == k
  else if c == 5 then s.ringOwner u == k
  else if c == 6 then s.owner .axis u == k
  else true

/-- SYNC: a SYNC reaches the head of its ring (R65, R66): refused, met at once, late, or waiting. -/
def execSync (q : RingId) (s : State) : Host.Outcome State Fault Refusal :=
  let q := q.val
  match s.takeable q tySync with
  | none => .next s
  | some d =>
    if !s.syncOwned q d then .next ((s.descXs (s.ringOwner q) q d.idx).finishSt q d.idx stRefused)
    else
      let s := s.setPhase q d.idx .started
      let c := bitsOf (d.u8 4) 0 4
      if c == 0 then .next (if s.on TIME_STAT_VALID then s.decideTime q d else s)
      else if c == 5 && s.ciReached d then .next (s.finish q d.idx (s.mkDone stOk 1 s.now 0))
      else .next s

/-- SYNC_TIME_REACHED: device time reaches VALUE of a waiting TIME condition (R67). -/
def execSyncTimeReached (q : RingId) (s : State) : Host.Outcome State Fault Refusal :=
  let q := q.val
  if !s.on TIME_STAT_VALID then .next s
  else
    match (s.ring q).held.find? (fun d => waitingSync 0 d && decide (d.u64 8 ≤ s.now)) with
    | none => .next s
    | some d => .next (s.finish q d.idx (s.mkDone stOk 1 s.now 0))

/-- SYNC_TIMEOUT: TIMEOUT of a waiting SYNC expires (R68). -/
def execSyncTimeout (q : RingId) (s : State) : Host.Outcome State Fault Refusal :=
  let q := q.val
  match (s.ring q).held.find? (fun d => d.type == tySync && d.phase == .started && d.u32 16 != 0) with
  | none => .next s
  | some d => .next ((s.applyGuard q d.idx (d.u8 6) stTimeout).finishSt q d.idx stTimeout)

/-! ## Events (R70, R71, R73) -/

/-- EVENT_RING_SPACE: the device reads the doorbell entry of a context's event ring again, and writes what it holds (R70, R71). -/
def execEventRingSpace (k : CtxId) (pi : Option (BitVec 16)) (s : State) : Host.Outcome State Fault Refusal :=
  let k := k.val
  if !(s.on (HOST_CTX_EN k) || (s.ctx k).closing) || (s.ctx k).inLoss || !s.on (HOST_RING_EN (152 + k)) ||
      !s.readEnds k (s.doorbellAddr k 0) (if pi.isNone then .failed 0 else .ok []) then .next s
  else
    match pi with
    | none => .next (s.readFailed k)
    | some pi => .next (s.takeEvtIndex k pi.toNat)

/-- MODERATION_HOLDOFF: the holdoff of a vector with unsignalled entries ends (R73). -/
def execModerationHoldoff (k : CtxId) (vec : Fin 64) (s : State) : Host.Outcome State Fault Refusal :=
  .next (if Store.get 0 (s.ctx k.val).unsig vec.val = 0 then s else s.raiseVec k.val vec.val)

end Sys2Proof.Machine
end

