-- ==== Sys2Proof/Machine/Insp.lean ====
section
/-!
DEFINITION. The meanings of the camera commands (spec/14): buffers, the INSP operations, CSI-2 packets, the CCI masters and memory
errors.
-/
namespace Sys2Proof.Machine

open Sys2Proof

/-- BUF: an empty buffer is posted on a results, tap or statistics ring (R396); an address outside the owner's windows is refused
(spec/02 R50). -/
def execBuf (q : RingId) (s : State) : Host.Outcome State Fault Refusal :=
  let q := q.val
  match s.takeable q tyBuf with
  | none => .next s
  | some d =>
    let k := s.ringOwner q
    if s.mayWriteMem k (d.u64 4) (d.u32 12) then .next (s.setPhase q d.idx .started)
    else .next ((s.memXs k (d.u64 4) true).finishSt q d.idx stRefused)

/-! ## INSP operations (R385, R398, R399) -/

/-- The descriptor of an operation that a pipeline may start now. -/
def State.inspDesc (s : State) (p op : Nat) : Option Desc :=
  (s.takeable (128 + 4 * p) tyInsp).filter (fun d => bitsOf (d.u8 4) 0 4 == op)

/-- An operation that loads an image into the shadow: its LENGTH, the read, and its content are checked in turn (R398). -/
def State.inspLoad (s : State) (p op : Nat) (result : ReadResult) (lenOk : Nat → Bool)
    (load : List Byte → Option (Pipe → Pipe)) : State :=
  let q := 128 + 4 * p
  match s.inspDesc p op with
  | none => s
  | some d =>
    let k := s.ringOwner q
    let addr := d.u64 8
    let len := d.u32 16
    if !lenOk len then s.finishSt q d.idx stBadDesc
    else if len != 0 && !s.mayReadMem k addr len then (s.memXs k addr false).finishSt q d.idx stRefused
    else if len != 0 && !s.readEnds k addr result then s
    else
      match (if len = 0 then (s, some []) else s.dmaRead initPipe p addr len result) with
      | (s, none) => s.finishSt q d.idx stDmaErr
      | (s, some bs) =>
        match load bs with
        | none => s.finishSt q d.idx stBadDesc
        | some f => (s.updPipe p f).finishSt q d.idx stOk

/-- A little-endian list of 32-bit words. -/
def words32 (bs : List Byte) : List Nat := (List.range (bs.length / 4)).map (fun i => leAt bs (4 * i) 4)

/-- Whether map entries are sorted by Y, then by X (R398). -/
def mapSorted : List Nat → Bool
  | a :: b :: ws => decide (bitsOf a 16 14 * 16384 + bitsOf a 0 14 ≤ bitsOf b 16 14 * 16384 + bitsOf b 0 14) && mapSorted (b :: ws)
  | _ => true

/-- LOAD_DPC_MAP: the static defect map of the shadow (R398). -/
def execLoadDpcMap (p : PipeId) (result : ReadResult) (s : State) : Host.Outcome State Fault Refusal :=
  .next (s.inspLoad p.val 0 result (fun n => decide (n ≤ 16384) && n % 4 == 0) (fun bs =>
    if mapSorted (words32 bs) then some (fun x => { x with dpc := words32 bs }) else none))

/-- LOAD_SHADING: the shading gains of the shadow. -/
def execLoadShading (p : PipeId) (result : ReadResult) (s : State) : Host.Outcome State Fault Refusal :=
  .next (s.inspLoad p.val 1 result (· == 6600) (fun bs =>
    some (fun x => { x with shade := (List.range 3300).map (fun i => leAt bs (2 * i) 2) })))

/-- LOAD_MATRIX: the colour matrix of the shadow. -/
def execLoadMatrix (p : PipeId) (result : ReadResult) (s : State) : Host.Outcome State Fault Refusal :=
  .next (s.inspLoad p.val 2 result (· == 24) (fun bs =>
    some (fun x => { x with mat := (List.range 12).map (fun i => leAt bs (2 * i) 2) })))

/-- An entry of a CCI write list. -/
def cciEntry (bs : List Byte) (i : Nat) : CciWrite :=
  ⟨bitsOf (byteAt bs (8 * i)) 0 7, bitsOf (byteAt bs (8 * i + 1)) 0 2, bitsOf (byteAt bs (8 * i + 1)) 2 3, leAt bs (8 * i + 2) 2,
   leAt bs (8 * i + 4) 4⟩

/-- SET_EXPOSURE: the CCI write list of the shadow (R398). -/
def execSetExposure (p : PipeId) (result : ReadResult) (s : State) : Host.Outcome State Fault Refusal :=
  .next (s.inspLoad p.val 3 result (fun n => decide (n ≤ 512) && n % 8 == 0) (fun bs =>
    let ws := (List.range (bs.length / 8)).map (cciEntry bs)
    if ws.all (fun w => w.alen != 3 && decide (1 ≤ w.dlen ∧ w.dlen ≤ 4)) then some (fun x => { x with cci := ws }) else none))

/-- COMMIT: once every earlier one has completed, the shadow is copied into pending and its list joins the master's; it is launched at
once, or at the Frame End of the open frame (R399). -/
def execInspCommit (p : PipeId) (s : State) : Host.Outcome State Fault Refusal :=
  let p := p.val
  let q := 128 + 4 * p
  match s.inspDesc p 4 with
  | none => .next s
  | some d =>
    if d.u32 16 ≠ 0 then .next (s.finishSt q d.idx stBadDesc)
    else if (s.pipe p).commit.isSome then .next s
    else
      let x := s.pipe p
      let c : InspCommit :=
        { idx := d.idx, id := d.u16 20, set := s.shadowSet p, waitEnd := x.frame.isSome, after := x.next, acked := false, apply := none,
          late := false }
      let m := s.rd (INSP_BIND_PORT p)
      let s := ((s.setPhase q d.idx .started).updPipe p (fun x => { x with commit := some c })).wr (INSP_SET_STAT_PEND p) 1
      let s := s.setCci m (s.cci m ++ [⟨p, x.cci, false, true⟩])
      .next (if x.frame.isSome then s else s.launchList p)

/-- ARM: frames are accepted from the next Frame Start on (R385). CTL.ARMED reads 1 from here on, and packets of lines before that Frame Start count as
orphans (DESIGN CHOICE, notes/assumptions/93). -/
def execInspArm (p : PipeId) (s : State) : Host.Outcome State Fault Refusal :=
  let p := p.val
  let q := 128 + 4 * p
  match s.inspDesc p 5 with
  | none => .next s
  | some d =>
    if d.u32 16 ≠ 0 then .next (s.finishSt q d.idx stBadDesc)
    else .next (((s.wr (INSP_CTL_ARMED p) 1).updPipe p (fun x => { x with disarmDue := false })).finishSt q d.idx stOk)

/-- DISARM: the pipeline disarms after the present frame (R385). -/
def execInspDisarm (p : PipeId) (s : State) : Host.Outcome State Fault Refusal :=
  let p := p.val
  let q := 128 + 4 * p
  match s.inspDesc p 6 with
  | none => .next s
  | some d =>
    if d.u32 16 ≠ 0 then .next (s.finishSt q d.idx stBadDesc)
    else
      let s := if (s.pipe p).frame.isSome then s.updPipe p (fun x => { x with disarmDue := true }) else s.disarmNow p
      .next (s.finishSt q d.idx stOk)

/-! ## CSI-2 packets (R382 to R386) -/

/-- The data type a pipeline is bound to; 5 to 7 act as 1. -/
def State.boundType (s : State) (p : Nat) : Nat :=
  let t := s.rd (INSP_BIND_DT p)
  if 5 ≤ t then 1 else t

/-- A packet that an enabled pipeline receives (R384 to R386). -/
def State.deliverCsi (s : State) (p : Nat) (pkt : CsiPacket) (held : CsiHeld) : State :=
  if !s.on (INSP_CTL_ARMED p) then s.bump (INSP_CNT_DROP_DISARMED p)
  else
    let frame := (s.pipe p).frame
    match pkt with
    | .frameStart num =>
      let s := if frame.isSome then (s.closeFrame p 1 s.free).draw else s
      if s.on (INSP_CTL_ARMED p) then s.openFrame p num.toNat else s.bump (INSP_CNT_DROP_DISARMED p)
    | .frameEnd => if frame.isSome then (s.closeFrame p 0 (s.stamp p)).draw else s.bump (INSP_CNT_DROP_ORPHAN p)
    | .lineStart =>
      let t := s.stamp p
      (s.updPipe p (fun x => { x with frame := x.frame.map (fun f => if f.dropping then f else { f with lineT := some t }) })).draw
    | .raw ty px crcOk =>
      if ty.val ≠ s.boundType p then s.bump (INSP_CNT_DROP_DT p)
      else match frame with
        | none => s.bump (INSP_CNT_DROP_ORPHAN p)
        | some f =>
          if f.dropping then s
          else match held with
            | .none => s.addLine p f (px.map (·.toNat)) crcOk
            | .overflow => s.flagFrame p 2 true
            | .mem => s.flagFrame p 4 true
    | .embedded bytes crcOk =>
      if !s.on (INSP_BIND_EMB_EN p) then s.bump (INSP_CNT_DROP_DT p)
      else match frame with
        | none => s.bump (INSP_CNT_DROP_ORPHAN p)
        | some f =>
          if f.dropping then s
          else
            let s := s.updPipe p (fun x => { x with frame := some { f with emb := (f.emb ++ bytes).take 256, lineT := none } })
            if crcOk then s else s.flagFrame p 16 false
    | .lineEnd | .other | .badHeader => s

/-- The enabled pipeline bound to a port and virtual channel (R382, R383). -/
def State.pipeFor (s : State) (m vc : Nat) : Option Nat :=
  (List.range 4).find? (fun p => s.on (INSP_CTL_EN p) && s.rd (INSP_BIND_PORT p) == m && s.rd (INSP_BIND_VC p) == vc)

/-- Whether a packet's payload fails its CRC. -/
def crcBad : CsiPacket → Bool
  | .raw _ _ ok => !ok
  | .embedded _ ok => !ok
  | _ => false

/-- CSI_PACKET: a port receives a packet and delivers it to its pipeline, or drops and counts it (R382). A header beyond correction names no virtual
channel, so it flags the open frame of every pipeline of the port (DESIGN CHOICE, notes/assumptions/93). -/
def execCsiPacket (port : PipeId) (vc : Fin 16) (pkt : CsiPacket) (corrected sot : Bool) (held : CsiHeld) (s : State) :
    Host.Outcome State Fault Refusal :=
  let m := port.val
  if !s.on (INSP_PORT_CTL_EN m) then .next s
  else
    let s := if sot then (s.bump (INSP_PORT_CNT2_SOT m)).report srcInspPhy m 1 initNone 0 accNone m else s
    let s := if corrected then s.bump (INSP_PORT_CNT1_ECC_CORR m) else s
    let s := if crcBad pkt then s.bump (INSP_PORT_CNT2_CRC m) else s
    match pkt with
    | .badHeader =>
      let s := s.bump (INSP_PORT_CNT1_ECC_UNCORR m)
      .next ((List.range 4).foldl (fun s p => if s.rd (INSP_BIND_PORT p) = m then s.flagFrame p 32 false else s) s)
    | .other => .next (s.bump (INSP_PORT_CNT0_BAD_DT m))
    | _ =>
      match s.pipeFor m vc.val with
      | none => .next (s.bump (INSP_PORT_CNT0_NO_PIPE m))
      | some p => .next (s.deliverCsi p pkt held)

/-! ## Enabling a pipeline (R383, R385) -/

/-- The counters that an enable clears. -/
def pipeCounters (p : Nat) : List Fld :=
  [INSP_CNT_DROP_DT p, INSP_CNT_DROP_DISARMED p, INSP_CNT_DROP_ORPHAN p, INSP_CNT_FLAG_FLAG p, INSP_CNT_BUF_NOBUF_TAP p,
   INSP_CNT_BUF_NOBUF_STAT p, INSP_CNT_BUF_NOBUF_RES p, INSP_CNT_ECC_ECC p, INSP_NH_STAT_ANALYSED p, INSP_NH_CNT_NOVERDICT p,
   INSP_NH_CNT_OVERLOAD p]

/-- Whether an enable of a pipeline is refused (R383). -/
def State.pipeClash (s : State) (p : Nat) : Bool :=
  decide (s.slotCount p < 2) || (List.range 4).any (fun r => r != p && s.on (INSP_CTL_EN r) &&
    s.rd (INSP_BIND_PORT r) == s.rd (INSP_BIND_PORT p) && s.rd (INSP_BIND_VC r) == s.rd (INSP_BIND_VC p))

/-- The effect of a write of CTL.EN (R383). A write of 0 drops the open frame (DESIGN CHOICE, notes/assumptions/93). -/
def State.pipeEnable (s : State) (who : Sender) (p : Nat) (on : Bool) : State :=
  if on then
    if s.on (INSP_CTL_EN p) then s.clearAll (pipeCounters p)
    else if s.pipeClash p then s.hostXs who xsRule (INSP_CTL_EN p).addr true
    else
      let n := s.slotCount p
      let s := ((s.clearAll (pipeCounters p)).wr (INSP_CTL_EN p) 1).wr (INSP_STAT_SLOTS p) n
      (s.updPipe p (fun x => { x with next := 0, frame := none, planes := [] })).setFree p (List.range n)
  else if s.on (INSP_CTL_EN p) then
    let n := s.rd (INSP_STAT_SLOTS p)
    (((s.updPipe p (fun x => { x with frame := none })).wr (INSP_CTL_EN p) 0).disarmNow p).setFree p (List.range n)
  else s

/-- INSP_ENABLE: a write of CTL.EN (R383). -/
def execInspEnable (who : Sender) (p : PipeId) (on : Bool) (s : State) : Host.Outcome State Fault Refusal :=
  .next (s.gatedWrite who (INSP_CTL_EN p.val) (b2n on) (fun s =>
    s.memGate who (INSP_CTL_EN p.val) (fun s => s.pipeEnable who p.val on)))

/-! ## CCI (R399 to R402) -/

/-- CCI_ACK: the transaction that runs from a write list is acknowledged, and the next one starts. -/
def execCciAck (m : PipeId) (s : State) : Host.Outcome State Fault Refusal :=
  let m := m.val
  if s.on (INSP_CCI_STAT_BUSY m) then .next s
  else match s.cci m with
    | j :: js =>
      match j.left with
      | w :: ws =>
        if j.launched then
          .next ((((s.emit (.cci m w false)).setCci m ({ j with left := ws } :: js)).cciSettle m (js.length + 1)).mailboxTry m)
        else .next s
      | [] => .next s
    | [] => .next s

/-- Whether SCL has been held low for more than STRETCH_MAX µs (R401). -/
def State.stretched (s : State) (m : Nat) (lowUs : Fin 65536) : Bool := decide (s.rd (INSP_CCI_CTL_STRETCH_MAX m) < lowUs.val)

/-- CCI_FAIL: a transaction of a write list is not acknowledged, or stretches too long: the list is abandoned (R401). -/
def execCciFail (e : CciFailure) (s : State) : Host.Outcome State Fault Refusal :=
  let m := e.port.val
  if s.on (INSP_CCI_STAT_BUSY m) || !(e.nack || s.stretched m e.lowUs) then .next s
  else match s.cci m with
    | j :: js =>
      match j.left with
      | w :: _ =>
        if j.launched then
          let s := (s.emit (.cci m w false)).report srcInspCci j.pipe 1 initPipe j.pipe accNone 0
          let s := s.setCci m js
          let s := if j.live then s.abortCommit j.pipe else s
          .next ((s.cciSettle m js.length).mailboxTry m)
        else .next s
      | [] => .next s
    | [] => .next s

/-- The effect of CCI_MB0.GO: a transaction starts, or waits while a COMMIT of the port's pipelines is pending (R402). One made
while a transaction of the mailbox runs or waits is ignored (DESIGN CHOICE, notes/assumptions/93). -/
def State.cciGo (s : State) (m : Nat) : State :=
  if s.on (INSP_CCI_STAT_BUSY m) || s.on (INSP_CCI_STAT_WAIT m) then s
  else if s.cciHeld m then s.wr (INSP_CCI_STAT_WAIT m) 1
  else s.mailboxRun m

/-- CCI_MAILBOX: a write of CCI_MB0.GO. -/
def execCciMailbox (who : Sender) (m : PipeId) (s : State) : Host.Outcome State Fault Refusal :=
  .next (s.gatedWrite who (INSP_CCI_MB0_GO m.val) 1 (fun s => s.cciGo m.val))

/-- CCI_MAILBOX_DONE: the mailbox transaction ends (R402). -/
def execCciMailboxDone (m : PipeId) (nack : Bool) (lowUs : Fin 65536) (data : Word) (s : State) : Host.Outcome State Fault Refusal :=
  let m := m.val
  let stretch := s.stretched m lowUs
  if !s.on (INSP_CCI_STAT_BUSY m) then .next s
  else
    let s := ((s.wr (INSP_CCI_STAT_BUSY m) 0).wr (INSP_CCI_STAT_DONE m) 1).wrB (INSP_CCI_STAT_NACK m) nack
    let s := s.wrB (INSP_CCI_STAT_TIMEOUT m) stretch
    .next (if s.on (INSP_CCI_MB0_READ m) && !nack && !stretch then s.wr (INSP_CCI_MB2_DATA m) data.toNat else s)

/-! ## Memory errors (R403) -/

/-- INSP_ECC_ERROR: an error in a pipeline's line buffers or tables. -/
def execInspEccError (p : PipeId) (uncorr : Bool) (s : State) : Host.Outcome State Fault Refusal :=
  let p := p.val
  if uncorr then
    let s := (s.report srcInspEcc p 2 initPipe p accNone 0).abortCommit p
    .next (((s.closeFrame p 4 s.free).draw).disarmNow p)
  else .next ((s.bump (INSP_CNT_ECC_ECC p)).report srcInspEcc p 1 initPipe p accNone 0)

end Sys2Proof.Machine
end

