-- ==== Sys2Proof/Machine/VaultOps.lean ====
section
/-!
DEFINITION. Key slots of the Vault (spec/17 R458 to R465), which other units name, and what a reset of the Vault leaves.
-/
namespace Sys2Proof.Machine

open Sys2Proof

/-- Change the Vault's hidden state. -/
def State.updVault (s : State) (f : Vault → Vault) : State := { s with vault := f s.vault }

/-- Whether a descriptor names a key slot and is in use of it (R462): a PAGE with a key that has been fetched, or a STRIP that encrypts
and has started. -/
def Desc.usesSlot (d : Desc) (slot : Nat) : Bool :=
  (match d.phase with | .finished _ => false | _ => true) &&
  ((d.type == tyPage && !d.bit 1 3 && bitsOf (d.u8 24) 0 6 == slot) ||
   (d.type == tyStrip && d.phase != .queued && d.bit 1 2 && bitsOf (d.u8 28) 0 6 == slot))

/-- How many descriptors use a slot (R462). -/
def State.slotUses (s : State) (slot : Nat) : Nat := (s.rings.map (fun e => (e.2.held.filter (fun d => d.usesSlot slot)).length)).sum

/-- Empty a key slot (R463). -/
def State.emptySlot (s : State) (slot : Nat) : State :=
  (({ s with keys := Store.del s.keys slot, vault := { s.vault with expiry := Store.del s.vault.expiry slot } } : State).clearAll
    [VAULT_SLOT_STAT_VALID slot, VAULT_SLOT_STAT_USAGE slot]).wr (VAULT_SLOT_STAT_OWNER slot) 15

/-- Empty every key slot. -/
def State.emptySlots (s : State) : State := (List.range 64).foldl State.emptySlot s

/-- A new debug challenge: 12 words of unknown content (R470). -/
def State.newChallenge (s : State) : State :=
  (List.range 12).foldl (fun s j => (s.wr (VAULT_DBG_CHAL j) s.free).draw) s

/-- The registers that show the OTP array (R454, R455, R475). -/
def State.showOtp (s : State) : State :=
  let o := s.otp
  let s := ((s.wr VAULT_STAT_RB_COUNT o.rbCount).wr VAULT_REVOKE_MASK o.revoked).wr VAULT_OTP_TAMPER_COUNT o.tampers
  let s := s.wr VAULT_OTP_TAMPER_LAST_CAUSE o.lastCause
  if 32 ≤ o.tampers then s.wr VAULT_STAT_UNWRAP_BLOCK 1 else s

end Sys2Proof.Machine
end

