-- ==== Sys2Proof/Machine/LedgerOps.lean ====
section
/-!
DEFINITION. The records of the Ledger (spec/21 R549 to R553): the words of its windows, the record of a kind, its slots, and a flush.
-/
namespace Sys2Proof.Machine

open Sys2Proof

/-- Change the Ledger's hidden state. -/
def State.updLedger (s : State) (f : Ledger → Ledger) : State := { s with ledger := f s.ledger }

/-! ## Words of the windows (R550) -/

/-- The fields of every word of the summary body, in ascending offset and without the gaps. -/
def ledgerWords : List (List Fld) :=
  (List.range 4096).map (fun j => [LEDGER_HEAD_TEMP_HIST j]) ++ (List.range 1024).map (fun j => [LEDGER_DIE_TEMP_HIST j]) ++
  (List.range 1024).map (fun j => [LEDGER_EYE_HIST (2 * j), LEDGER_EYE_HIST (2 * j + 1)]) ++
  (List.range 1024).map (fun j => [LEDGER_GOOSE_CNT (2 * j), LEDGER_GOOSE_CNT (2 * j + 1)]) ++
  (List.range 16).map (fun j => [LEDGER_ENC_FAULTS (2 * j), LEDGER_ENC_FAULTS (2 * j + 1)]) ++ [[LEDGER_COPY_IDX]] ++
  (List.range 9).map (fun r => [LEDGER_SUP_LOW r, LEDGER_SUP_HIGH r]) ++
  (List.range 64).flatMap (fun n =>
    [[LEDGER_HEAD_VENDOR n, LEDGER_HEAD_MODEL n], [LEDGER_HEAD_SERIAL n], [LEDGER_HEAD_TOTAL_LO n], [LEDGER_HEAD_TOTAL_HI n]]) ++
  (List.range 128).map (fun j => [LEDGER_COPY j])

/-- The value of a word by its fields. -/
def State.rdWord (s : State) (fs : List Fld) : Nat := (fs.map (fun f => s.rd f * 2 ^ f.lo)).sum

/-- Set the fields of a word from a value. -/
def State.wrWord (s : State) (fs : List Fld) (v : Nat) : State := fs.foldl (fun s f => s.wr f (v / 2 ^ f.lo)) s

/-- The body of a summary. -/
def State.summaryBody (s : State) : List Byte := ledgerWords.flatMap (fun fs => leBytes 4 (s.rdWord fs))

/-- The head table of a drop-count record. -/
def State.headTable (s : State) : List Byte :=
  (List.range 64).flatMap (fun n =>
    leBytes 4 (s.rdWord [LEDGER_HEAD_VENDOR n, LEDGER_HEAD_MODEL n]) ++ leBytes 4 (s.rd (LEDGER_HEAD_SERIAL n)) ++
    leBytes 4 (s.rd (LEDGER_HEAD_TOTAL_LO n)) ++ leBytes 4 (s.rd (LEDGER_HEAD_TOTAL_HI n)))

/-- The body of a drop-count record: the head table, then 6 bytes for each nozzle. -/
def State.dropBody (s : State) : List Byte :=
  s.headTable ++ (List.range 131072).flatMap (fun j => leBytes 6 (Store.get 0 s.drops j))

/-! ## Records (R550) -/

/-- The 64-byte header of a record. -/
def State.ledgerHeader (s : State) (kind len gen sumGen : Nat) : List Byte :=
  leBytes 2 0x4C47 ++ leBytes 1 1 ++ leBytes 1 kind ++ leBytes 4 len ++ leBytes 8 gen ++ leBytes 8 s.faultTime ++
  leBytes 4 (s.rd LEDGER_ON_SECONDS) ++ leBytes 4 (s.rd LEDGER_POWER_CYCLES) ++ leBytes 8 (s.rd2 VAULT_SERIAL_LO VAULT_SERIAL_HI) ++
  leBytes 8 sumGen ++ leBytes 16 0

/-- A signed record of a kind, with the draw of the signature. -/
def State.ledgerRecord (s : State) (kind gen sumGen : Nat) : List Byte :=
  let body := if kind = 2 then s.dropBody else s.summaryBody
  let msg := s.ledgerHeader kind body.length gen sumGen ++ body
  msg ++ identitySign (sha384 msg) s.free

/-- Whether bytes read from a slot are a record of a kind (R551). -/
def State.recordOk (s : State) (kind : Nat) (bs : List Byte) : Bool :=
  let n := 64 + leAt bs 4 4
  leAt bs 0 2 == 0x4C47 && byteAt bs 2 == 1 && byteAt bs 3 == kind && leAt bs 32 8 == s.rd2 VAULT_SERIAL_LO VAULT_SERIAL_HI &&
  ecdsaOk identityPub (sha384 (bs.take n)) ((bs.drop n).take 96)

/-- GEN of a record. -/
def recordGen (bs : List Byte) : Nat := leAt bs 8 8

/-- The newest record of a kind among the slots read (R551). -/
def State.newest (s : State) (kind : Nat) (rs : List (Nat × List Byte)) : Option (Nat × List Byte) :=
  (rs.filter (fun r => s.recordOk kind r.2)).foldl (fun m r =>
    match m with
    | some b => if recordGen b.2 < recordGen r.2 then some r else m
    | none => some r) none

/-! ## Slots and a flush (R549, R552) -/

/-- How many slots a kind has, at least 1. -/
def State.ledgerSlots (s : State) (kind : Nat) : Nat := if kind = 2 then max 1 (s.rd LEDGER_DROP_SLOTS) else 30

/-- The flash offset of a slot. -/
def slotOff (kind slot : Nat) : Nat := if kind = 2 then 0x800000 + 13 * 65536 * slot else 0x620000 + 65536 * slot

/-- The slot after the newest record of a kind. -/
def State.nextSlot (s : State) (kind : Nat) : Nat :=
  match (if kind = 2 then s.ledger.newDrop else s.ledger.newSum) with
  | some (k, _) => (k + 1) % s.ledgerSlots kind
  | none => 0

/-- GEN of the next record of a kind. -/
def State.nextGen (s : State) (kind : Nat) : Nat := ((if kind = 2 then s.ledger.newDrop else s.ledger.newSum).map (·.2)).getD 0 + 1

/-- The record that a flush writes now. -/
def FlushRun.bytes (f : FlushRun) : List Byte := if f.kind = 2 then f.dropRec.getD [] else f.sumRec

/-- The slot of a flush is erased and written. -/
def State.writeSlot (s : State) : State :=
  match s.ledger.flush with
  | some f => s.emit (.flashWrite (slotOff f.kind (f.slot % s.ledgerSlots f.kind)) f.bytes)
  | none => s

/-- The identity key is blocked by a tamper cause (spec/17 R475). -/
def State.signBlocked (s : State) : Bool := s.on VAULT_STAT_TAMPER

/-- A flush starts, or is taken after the one that runs; none while the identity key is blocked (R552). -/
def State.startFlush (s : State) (drops : Bool) : State :=
  if s.signBlocked then s.wr LEDGER_STAT_SIGN_BLOCKED 1
  else if s.on LEDGER_STAT_BUSY then s.updLedger (fun l => { l with again := some (drops || l.again.getD false) })
  else
    let both := drops && s.on LEDGER_STAT_DROP_FLASH
    let sumRec := s.ledgerRecord 1 (s.nextGen 1) 0
    let dropRec := if both then some (s.draw.ledgerRecord 2 (s.nextGen 2) (s.nextGen 1)) else none
    let f : FlushRun := ⟨1, s.nextSlot 1, 0, sumRec, dropRec⟩
    (((s.draw.draw).updLedger (fun l => { l with flush := some f })).wr LEDGER_STAT_BUSY 1).writeSlot

/-- An export begins: its record is formed from the present counters with GEN 0 (R553). -/
def State.startExport (s : State) (kind : Nat) : State :=
  let bs := s.ledgerRecord kind 0 (if kind = 2 then (s.ledger.newSum.map (·.2)).getD 0 else 0)
  ((s.draw).updLedger (fun l => { l with exp := some (kind, some bs) })).wr LEDGER_STAT_BUSY 1

/-- A flush or an export has ended: what waits begins, an export first. -/
def State.ledgerNext (s : State) : State :=
  let s := (s.wr LEDGER_STAT_BUSY 0).wr LEDGER_STAT_DONE 1
  match s.ledger.exp with
  | some (kind, _) => s.startExport kind
  | none =>
    match s.ledger.again with
    | some d => (s.updLedger (fun l => { l with again := none })).startFlush d
    | none => s

/-- After a takeover an abandoned flush writes its record into the next slot. -/
def State.resumeFlush (s : State) : State := s.writeSlot

end Sys2Proof.Machine
end

