-- ==== Sys2Proof/Machine/Ledger.lean ====
section
/-!
DEFINITION. The meanings of the commands of the Ledger (spec/21).
-/
namespace Sys2Proof.Machine

open Sys2Proof

/-! ## Counting (R546) -/

/-- The bin of a temperature in sQ10.6 °C: 2 °C wide from −8 °C or −16 °C, limited to 0 to 63. -/
def tempBin (t : Int) (below : Int) : Nat := (clampInt 0 63 ((t + 64 * below) / 128)).toNat

/-- The lifetime extremes of a rail follow SUP[r]; an entry of zeros has recorded nothing. -/
def State.supplyExtremes (s : State) (r : Nat) : State :=
  let lo := s.rd (COOP_SUP_MIN r)
  let hi := s.rd (COOP_SUP_MAX r)
  if hi < lo then s
  else if s.rd (LEDGER_SUP_LOW r) = 0 ∧ s.rd (LEDGER_SUP_HIGH r) = 0 then (s.wr (LEDGER_SUP_LOW r) lo).wr (LEDGER_SUP_HIGH r) hi
  else (s.wr (LEDGER_SUP_LOW r) (min lo (s.rd (LEDGER_SUP_LOW r)))).wr (LEDGER_SUP_HIGH r) (max hi (s.rd (LEDGER_SUP_HIGH r)))

/-- The flushes that time starts: each hour of ON_SECONDS, and 60 s after READY.HOST following a power cycle (R552). -/
def State.flushByTime (s : State) (counted : Bool) : State :=
  let s := if counted && s.rd LEDGER_ON_SECONDS % 3600 == 0 then s.startFlush true else s
  match s.ledger.after with
  | none => s
  | some t =>
    if 59 ≤ t then (s.updLedger (fun l => { l with after := none })).startFlush false
    else s.updLedger (fun l => { l with after := some (t + 1) })

/-- LEDGER_SECOND: an AON second (R546, R552). -/
def execLedgerSecond (s : State) : Host.Outcome State Fault Refusal :=
  let counted := bitOf (s.rd COOP_SUP_STAT_IN_RANGE) 0
  let s := if counted then s.bump LEDGER_ON_SECONDS else s
  let s := (List.range 64).foldl (fun s n =>
    if s.linkState n == lsUp then s.bump (LEDGER_HEAD_TEMP_HIST (64 * n + tempBin (s.rdS (CELL_TEMP_STAT_TEMP n)) 8)) else s) s
  let s := s.sensors.foldl (fun s i => s.bump (LEDGER_DIE_TEMP_HIST (64 * i + tempBin (s.rdS (COOP_TEMP_TEMP i)) 16))) s
  let s := (List.range 9).foldl State.supplyExtremes s
  .next (s.flushByTime counted)

/-! ## Restore (R551) -/

/-- Load a summary into the retained counters. -/
def State.loadSummary (s : State) (bs : List Byte) : State :=
  let s := ledgerWords.zipIdx.foldl (fun s e => s.wrWord e.1 (leAt bs (64 + 4 * e.2) 4)) s
  (s.wr LEDGER_ON_SECONDS (leAt bs 24 4)).wr LEDGER_POWER_CYCLES (satNat 32 (leAt bs 28 4 + 1))

/-- The retained counters start from 0. -/
def State.freshLedger (s : State) : State :=
  let s := ledgerWords.foldl (fun s fs => s.wrWord fs 0) s
  ((s.wr LEDGER_ON_SECONDS 0).wr LEDGER_POWER_CYCLES 1).wr LEDGER_STAT_FRESH 1

/-- LEDGER_RESTORE: stage 4 of the start-up, once, and skipped when the memory has not trained (spec/20 R531). After a power cycle the newest summary is loaded; after a device reset the retained counters
stand (R551, R549). -/
def execLedgerRestore (flashKiB : BitVec 20) (slots : List (Fin 30 × List Byte)) (readErr : Bool) (s : State) :
    Host.Outcome State Fault Refusal :=
  if !s.on GLOBAL_READY_MEM_TRAIN || !s.on GLOBAL_READY_CELL_TEST || s.on GLOBAL_READY_HOST || s.on LEDGER_STAT_FRESH || s.ledger.newSum.isSome then .next s
  else
    let s := if readErr then s.wr LEDGER_STAT_ERR 2 else s
    let n := s.newest 1 (slots.map (fun e => (e.1.val, e.2)))
    let drops := min 255 ((flashKiB.toNat - 8192) / 832)
    let s := ((s.wr LEDGER_DROP_SLOTS drops).wrB LEDGER_STAT_DROP_FLASH (drops != 0)).updLedger (fun l =>
      { l with newSum := n.map (fun e => (e.1, recordGen e.2)), loading := drops != 0 })
    let s := s.wr2 LEDGER_GEN_LO LEDGER_GEN_HI ((n.map (fun e => recordGen e.2)).getD 0)
    if s.rd GLOBAL_RST_CAUSE_CAUSE != 1 then .next s
    else match n with
      | some e => .next (s.loadSummary e.2)
      | none => .next s.freshLedger

/-- Load the drop counts of a record for the cells whose head it names still is the one recorded: counts made meanwhile are added. -/
def State.loadDrops (s : State) (bs : List Byte) : State :=
  let body := bs.drop 64
  let same (n : Nat) : Bool :=
    leAt body (16 * n) 4 == s.rdWord [LEDGER_HEAD_VENDOR n, LEDGER_HEAD_MODEL n] && leAt body (16 * n + 4) 4 == s.rd (LEDGER_HEAD_SERIAL n)
  { s with drops := (List.range 131072).foldl (fun m j =>
      if same (j / 2048) then Store.put 0 m j (satNat 48 (Store.get 0 m j + leAt body (1024 + 6 * j) 6)) else m) s.drops }

/-- DROP_RESTORE_DONE: the newest drop-count record has been loaded, after READY.HOST (R551). -/
def execDropRestoreDone (slots : List (BitVec 8 × List Byte)) (readErr : Bool) (s : State) : Host.Outcome State Fault Refusal :=
  if !s.ledger.loading || !s.on GLOBAL_READY_HOST then .next s
  else
    let s := if readErr then s.wr LEDGER_STAT_ERR 2 else s
    let s := s.updLedger (fun l => { l with loading := false })
    match s.newest 2 (slots.map (fun e => (e.1.toNat, e.2))) with
    | none => .next s
    | some e =>
      .next (((s.loadDrops e.2).updLedger (fun l => { l with newDrop := some (e.1, recordGen e.2) })).wr LEDGER_STAT_RESTORED 1)

/-! ## Flush and export (R552, R553) -/

/-- FLUSH: a write of CTL.FLUSH. -/
def execFlush (who : Sender) (s : State) : Host.Outcome State Fault Refusal :=
  .next (s.gatedWrite who LEDGER_CTL_FLUSH 1 (fun s => s.startFlush true))

/-- A slot has been written: the drop counts follow, or the flush ends. -/
def State.slotDone (s : State) (f : FlushRun) : State :=
  let k := f.slot % s.ledgerSlots f.kind
  let gen := s.nextGen f.kind
  if f.kind = 2 then
    ((((s.updLedger (fun l => { l with flush := none, newDrop := some (k, gen) })).bump LEDGER_CNT_FLUSHES).wr2
      LEDGER_LAST_FLUSH_LO LEDGER_LAST_FLUSH_HI s.now)).ledgerNext
  else
    let s := (s.updLedger (fun l => { l with newSum := some (k, gen) })).wr2 LEDGER_GEN_LO LEDGER_GEN_HI gen
    if f.dropRec.isSome then
      (s.updLedger (fun l => { l with flush := some { f with kind := 2, slot := s.nextSlot 2, fails := 0 } })).writeSlot
    else
      ((((s.updLedger (fun l => { l with flush := none })).bump LEDGER_CNT_FLUSHES).wr2
        LEDGER_LAST_FLUSH_LO LEDGER_LAST_FLUSH_HI s.now)).ledgerNext

/-- A slot could not be written: the next slot is tried, at most 3 (R552). -/
def State.slotFailed (s : State) (f : FlushRun) : State :=
  let s := (s.wr LEDGER_STAT_ERR 1).bump LEDGER_CNT_WR_ERR
  if f.fails < 2 then
    (s.updLedger (fun l => { l with flush := some { f with slot := f.slot + 1, fails := f.fails + 1 } })).writeSlot
  else (s.updLedger (fun l => { l with flush := none })).ledgerNext

/-- FLUSH_DONE: the writing of a slot ends. During a takeover the flush is abandoned. -/
def execFlushDone (ok : Bool) (s : State) : Host.Outcome State Fault Refusal :=
  match s.ledger.flush with
  | none => .next s
  | some f => if s.on YOKE_STAT_HOLDING then .next s else .next (if ok then s.slotDone f else s.slotFailed f)

/-- A write of CTL.EXPORT: it begins, or waits for the flush that runs; without the identity key it cannot be signed. -/
def State.exportGo (s : State) : State :=
  let kind := if s.rd LEDGER_CTL_KIND = 2 then 2 else 1
  if s.signBlocked then s.wr LEDGER_STAT_SIGN_BLOCKED 1
  else if s.ledger.exp.isSome then s
  else if s.ledger.flush.isSome then s.updLedger (fun l => { l with exp := some (kind, none) })
  else s.startExport kind

/-- EXPORT: a write of LEDGER.CTL.EXPORT (R553). -/
def execLedgerExport (who : Sender) (s : State) : Host.Outcome State Fault Refusal :=
  .next (s.gatedWrite who LEDGER_CTL_EXPORT 1 State.exportGo)

/-- EXPORT_DONE: the record is written to the buffer on behalf of the administrator (R553). -/
def execExportDone (s : State) : Host.Outcome State Fault Refusal :=
  match s.ledger.exp with
  | some (_, some bs) =>
    let addr := s.rd2 LEDGER_EXP_ADDR_LO LEDGER_EXP_ADDR_HI / 64 * 64
    let k := s.admin
    let s := s.updLedger (fun l => { l with exp := none })
    if !addrOk addr || !s.mayWriteMem k addr bs.length then .next (((s.memXs k addr true).wr LEDGER_STAT_ERR 3).ledgerNext)
    else
      let r := s.dmaWrite k initCtx k addr bs
      .next ((if r.2 then r.1.wr LEDGER_EXP_LEN bs.length else r.1.wr LEDGER_STAT_ERR 3).ledgerNext)
  | _ => .next s

end Sys2Proof.Machine
end

