-- ==== Sys2Proof/Machine/LinkTrain.lean ====
section
/-!
DEFINITION. Training a lane, bringing it UP and taking it down (spec/09 R271 to R279, R286; spec/08 R227 to R236; spec/17 R468;
spec/21 R548).
-/
namespace Sys2Proof.Machine

open Sys2Proof

/-! ## Transmit codes (spec/08 R227, R228) -/

/-- Whether a pair of codes satisfies the sum rule. -/
def eqFits (pre post : Nat) : Bool := decide (31 * pre + 27 * post ≤ 837)

/-- POST lowered to the largest code that satisfies the sum rule. -/
def clipPost (pre post : Nat) : Nat := min post ((837 - 31 * pre) / 27)

/-- The coarse candidates in the order of R228. -/
def coarseCodes : List (Nat × Nat) :=
  ([0, 4, 8].flatMap (fun p => [0, 4, 8, 12, 16, 20, 24, 28].map (fun q => (p, q)))).filter (fun c => eqFits c.1 c.2)

/-- The fine candidates around the best coarse one. -/
def fineCodes (c : Nat × Nat) : List (Nat × Nat) :=
  ((if 2 ≤ c.2 then [c.2 - 2] else []) ++ (if 1 ≤ c.2 then [c.2 - 1] else []) ++ [c.2 + 1, c.2 + 2]).filterMap
    (fun q => if q ≤ 31 ∧ eqFits c.1 q then some (c.1, q) else none)

/-- Whether a scored candidate beats the best: a higher score, else the lower POST, then the lower PRE. -/
def eqBetter (score : Nat) (c : Nat × Nat) (best : Option (Nat × Nat × Nat)) : Bool :=
  match best with
  | none => true
  | some (b, pre, post) => decide (b < score) || (score == b && (decide (c.2 < post) || (c.2 == post && decide (c.1 < pre))))

/-- Put transmit codes into force. -/
def State.setTxEq (s : State) (n pre post : Nat) (clip trained : Bool) : State :=
  ((((s.wr (LINK_TX_EQ_STAT_PRE n) pre).wr (LINK_TX_EQ_STAT_POST n) post).wr (LINK_TX_EQ_STAT_SWING n)
    (min 60 (s.rd (LINK_TX_EQ_SWING n)))).wrB (LINK_TX_EQ_STAT_CLIP n) clip).wrB (LINK_TX_EQ_STAT_TRAINED n) trained

/-- The codes of TX_EQ in force, clipped (R227). -/
def State.useTxEq (s : State) (n : Nat) : State :=
  let pre := s.rd (LINK_TX_EQ_PRE n)
  let post := s.rd (LINK_TX_EQ_POST n)
  s.setTxEq n pre (clipPost pre post) (!eqFits pre post) false

/-! ## States -/

/-- Set the state of a lane. -/
def State.setLink' (s : State) (n st : Nat) : State := s.wr (LINK_LL_STAT_STATE n) st

/-- Drop what a lane had queued; the next sequenced frame is number 0 (R250), and a mailbox command goes on waiting for its timeout (R280). -/
def Link.cleared (l : Link) : Link :=
  let boxed := (l.cmds.filter (fun c => c.for_ == .mailbox)).map (fun c => (⟨l.cid, c.payload % 256, .mailbox⟩ : CmdWait))
  { l with heldTx := [], replay := none, rpCount := 0, seq := 0, nak := false, nakAt := none, unacked := 0, ackDue := false,
           fireNew := [], fireFix := [], owed := [], cmds := [], authTx := [], sync := [], syncDue := false, rtts := [],
           discards := 0, okRun := 0, missRun := 0, auth := none, idleTx := 0, usNotice := false, wakeReq := false,
           waits := l.waits.filter (fun w => w.for_ == .mailbox) ++ boxed, cid := (l.cid + boxed.length) % 65536 }

/-- Descriptors whose commands a lane still holds or awaits. -/
def Link.descs (l : Link) : List (Nat × Nat) :=
  (l.cmds.filterMap (fun c => match c.for_ with | .desc q i => some (q, i) | _ => none)) ++
  (l.waits.filterMap (fun w => match w.for_ with | .desc q i => some (q, i) | _ => none))

/-- A scan in progress ends without signal (R236). -/
def State.endScan (s : State) (n : Nat) : State :=
  match (s.link n).scan with
  | none => s
  | some _ =>
    (((s.updLink n (fun l => { l with scan := none, autoDue := false })).wr (LINK_EYE_STAT_BUSY n) 0).wr
      (LINK_EYE_STAT_DONE n) 1).wr (LINK_EYE_STAT_NO_SIGNAL n) 1

/-- Count idle frames for the freeze of the canceller and the frequency integrator (R233). -/
def State.freezeCount (s : State) (n : Nat) (idle : Bool) : State :=
  if idle then
    let k := (s.link n).idleRx + 1
    let s := s.updLink n (fun l => { l with idleRx := min k 64 })
    if k = 64 then (s.wr (LINK_RX_STAT_FROZEN n) 1).bump (LINK_PHY_CNT_FREEZE n) else s
  else (s.updLink n (fun l => { l with idleRx := 0 })).wr (LINK_RX_STAT_FROZEN n) 0

/-- The receiver leaves LOCKED: LINK_ALIGN, counted, unless the head has sent its sleep notice (R223, R239). -/
def State.leaveLocked (s : State) (n : Nat) : State :=
  let quiet := (s.link n).usNotice
  let s := ((s.wr (LINK_RX_STAT_ALIGN n) 0).freezeCount n false).endScan n
  if quiet then s else (s.bump (LINK_PHY_CNT_ALIGN n)).report srcLinkAlign n 1 initCell n accNone 0

/-- The receiver breaks off: HUNT, whatever LOCKED it leaves with it (R223), no freeze, and a scan in progress ends. -/
def State.breakRx (s : State) (n : Nat) : State :=
  let s := if s.rd (LINK_RX_STAT_ALIGN n) = 2 then s.leaveLocked n else s
  (((s.updLink n (fun l => { l with rx := l.rx.broken, idleRx := 0 })).wr (LINK_RX_STAT_ALIGN n) 0).wr
    (LINK_RX_STAT_FROZEN n) 0).endScan n

/-- The frame of a lane in training, up to START. -/
def State.sendTraining (s : State) (n : Nat) : State :=
  let t := (s.link n).train
  let st := s.linkState n
  let ts1 := subTs1 + s.offered n * 2 ^ 16 + 2 ^ 32 + 2 ^ 40 + n * 2 ^ 48
  if st == lsDetect then (s.sendPlain n ftTrain ts1).trainSent n
  else if st == lsRate then
    match t.count with
    | some (k + 1) => (s.sendPlain n ftTrain (subTs2 + (k + 1) * 2 ^ 8 + t.rate * 2 ^ 16)).updTrain n (fun t => { t with count := some k })
    | some 0 =>
      -- the frame with COUNT 0, then electrical idle in both directions (R274)
      let s := (s.sendPlain n ftTrain (subTs2 + t.rate * 2 ^ 16)).updTrain n
        (fun t => { t with count := none, changed := true, rxN := 0, txN := 0 })
      let s := (s.breakRx n).updLink n (fun l => { l with wakeReq := true })
      ((s.wr (LINK_PWR_STAT_DS n) pwSleep).wr (LINK_PWR_STAT_US n) pwSleep).wr (LINK_RX_STAT_SIGNAL n) 0
    | none => (s.sendPlain n ftTrain ts1).trainSent n
  else if st == lsEqUs then
    if t.fast && 0 < t.txN then s.sendLcw n ftIdle false 0
    else (s.sendPlain n ftTrain (subPreset + t.preset * 2 ^ 16)).trainSent n
  else if st == lsEqDs then
    -- without the search one TXEQ leaves, and the device waits for a report (R276)
    if !s.on (LINK_PHY_CTL_TX_EQ_AUTO n) && 0 < t.txN then s.sendLcw n ftIdle false 0
    else (s.sendPlain n ftTrain (subTxeq + (match t.eqDs with | some e => e.cand % 256 | none => 0) * 2 ^ 16)).trainSent n
  else if st == lsStart then (s.sendPlain n ftTrain subStart).trainSent n
  else s.sendLcw n ftIdle false 0

/-- Begin an attempt in DETECT (R273, R278). -/
def State.startDetect (s : State) (n : Nat) : State :=
  let t := (s.link n).train
  let fast := s.on (LINK_LL_CTL_FAST n) && t.everUp
  let s := (s.breakRx n).updLink n (fun l => { l.cleared with
    train := { t with fast := fast, limit := 3, failed := false, rxN := 0, txN := 0, count := none, changed := false, preset := 0,
                      ctle := 0, sweeping := false, final := false, bestUs := none, eqDs := none, pages := 0, restart := none,
                      hold := false } })
  ((((s.setLink' n lsDetect).wr (LINK_PWR_STAT_DS n) pwOn).wr (LINK_PWR_STAT_US n) pwOn).wr (LINK_LL_STAT_TLOCK n) 0).wr
    (LINK_LL_STAT_AUTHED n) 0

/-- An attempt fails (R278): RESTART frames for 1 µs, the state recorded, WAIT; at the limit, LINK_TRAIN. -/
def State.failAttempt (s : State) (n code : Nat) : State :=
  let fails := (s.link n).train.fails + 1
  let s := s.updLink n (fun l => { l.cleared with train := { l.train with fails := fails, restart := some (s.now + 1000) } })
  let s := ((s.endScan n).wr (LINK_LL_STAT_TRAIN_FAIL n) code).setLink' n lsWait
  let s := (s.wr (LINK_LL_STAT_TLOCK n) 0).wr (LINK_LL_STAT_AUTHED n) 0
  if fails = max 1 (s.rd (LINK_LL_CTL_RETRAIN_MAX n)) then s.report srcLinkTrain n 2 initCell n accNone 0 else s

/-- The highest rate of a set of rate bits. -/
def topRate (bits : Nat) : Option Nat :=
  if bitOf bits 2 then some 2 else if bitOf bits 1 then some 1 else if bitOf bits 0 then some 0 else none

/-- Enter EQ_US: request the first preset, or in a FAST retraining the last one (R275, R278). -/
def State.enterEqUs (s : State) (n : Nat) : State :=
  (s.updTrain n (fun t => { t with rxN := 0, txN := 0, preset := if t.fast then s.rd (LINK_LL_STAT_PRESET n) else 0,
                                   ctle := 0, sweeping := false, final := t.fast, bestUs := none })).setLink' n lsEqUs

/-- Enter START (R277). -/
def State.enterStart (s : State) (n : Nat) : State :=
  (s.updTrain n (fun t => { t with rxN := 0, txN := 0, eqDs := none })).setLink' n lsStart

/-- Enter EQ_DS with the first candidate (R228, R276). -/
def State.enterEqDs (s : State) (n : Nat) : State :=
  let s := (s.updTrain n (fun t => { t with rxN := 0, txN := 0 })).setLink' n lsEqDs
  if s.on (LINK_PHY_CTL_TX_EQ_AUTO n) then
    match coarseCodes with
    | c :: cs =>
      (s.updTrain n (fun t => { t with eqDs := some ⟨cs, c, 1, none, false, none⟩ })).setTxEq n c.1 c.2 false true
    | [] => s
  else
    let s := s.useTxEq n
    s.updTrain n (fun t => { t with eqDs := some ⟨[], (s.rd (LINK_TX_EQ_STAT_PRE n), s.rd (LINK_TX_EQ_STAT_POST n)), 1, none, true, none⟩ })

/-- The identity command of a page. -/
def identCmd (page : Nat) : CmdTx := ⟨opIdent + page * 2 ^ 32, true, .ident page⟩

/-- Enter TIME_ACQ: sequence numbers restart, time lock begins, and IDENT pages 0 and 1 are asked for, before the commands
that wait already (R271, R277). -/
def State.enterTimeAcq (s : State) (n : Nat) : State :=
  (s.updLink n (fun l => { l with
    heldTx := [], replay := none, rpCount := 0, seq := 0, expect := 0, ackValid := false, unacked := 0, ackDue := false,
    nak := false, nakAt := none, acquire := 2, need := 8, okRun := 0, missRun := 0, sync := [], rtts := [], discards := 0,
    syncDue := true, cmds := [identCmd 0, identCmd 1] ++ l.cmds, train := { l.train with pages := 0 } })).setLink' n lsTimeAcq

/-- The steps of DETECT, RATE and START that counted frames complete (R273, R274, R277). -/
def State.trainStep (s : State) (n : Nat) : State :=
  let t := (s.link n).train
  let st := s.linkState n
  if !(8 ≤ t.rxN && 8 ≤ t.txN) then s
  else if st == lsDetect then
    let t := if t.fast && !bitOf t.offer t.lastRate then { t with fast := false } else t
    let s := s.updTrain n (fun _ => t)
    match topRate (t.offer &&& s.offered n) with
    | none => s.failAttempt n (if t.failed then lsRate else lsDetect)
    | some 0 => ((s.updTrain n (fun t => { t with rate := 0 })).wr (LINK_LL_STAT_RATE n) 0).enterEqUs n
    | some r => (s.updTrain n (fun t => { t with rate := r, count := some 15, changed := false, rxN := 0, txN := 0 })).setLink' n lsRate
  else if st == lsRate && t.changed then s.enterEqUs n
  else if st == lsStart then s.enterTimeAcq n
  else s

/-! ## The eye scanner in EQ_US (R275) -/

/-- Start a sweep of training at an equaliser setting. -/
def State.trainSweep (s : State) (n ctle : Nat) : State :=
  ((s.updLink n (fun l => { l with scan := some .train, train := { l.train with ctle := ctle, sweeping := true } })).wr
    (LINK_EYE_STAT_BUSY n) 1).wr (LINK_RX_STAT_CTLE n) ctle

/-- The head reports a preset (R275). -/
def State.rxPreset (s : State) (n p : Nat) : State :=
  let t := (s.link n).train
  if s.linkState n != lsEqUs || p != t.preset then s
  else if t.final then
    let s := s.wr (LINK_LL_STAT_PRESET n) p
    if t.fast then s.enterStart n
    else (s.wr (LINK_RX_STAT_CTLE n) (match t.bestUs with | some (_, _, c) => c | none => t.ctle)).enterEqDs n
  else if t.sweeping || (s.link n).scan.isSome then s
  else s.trainSweep n (if s.on (LINK_PHY_CTL_CTLE_AUTO n) then 0 else s.rd (LINK_RX_EQ_CTLE n))

/-- A sweep of training ends: the next setting, the next preset, or the choice. -/
def State.trainScanned (s : State) (n w h : Nat) : State :=
  let t := (s.link n).train
  if s.linkState n != lsEqUs || !t.sweeping then s
  else
    let best := match t.bestUs with
      | some (b, p, c) => if b < w * h then some (w * h, t.preset, t.ctle) else some (b, p, c)
      | none => some (w * h, t.preset, t.ctle)
    let s := s.updTrain n (fun t => { t with bestUs := best, sweeping := false })
    if s.on (LINK_PHY_CTL_CTLE_AUTO n) && t.ctle < 7 then s.trainSweep n (t.ctle + 1)
    else if t.preset + 1 < max 1 (min 8 t.presets) then s.updTrain n (fun t => { t with preset := t.preset + 1 })
    else s.updTrain n (fun t => { t with preset := (match best with | some (_, p, _) => p | none => 0), final := true })

/-- The codes of the search's best candidate come into force and training goes on to START (R228). -/
def State.endEqDs (s : State) (n : Nat) : State :=
  match ((s.link n).train.eqDs).bind (·.best) with
  | some (_, pre, post) => (s.setTxEq n pre post false true).enterStart n
  | none => s.enterStart n

/-- An EYE report for the candidate on trial (R228, R276). -/
def State.rxEye (s : State) (n cand seq w h : Nat) : State :=
  let s := ((s.wr (LINK_HEAD_EYE_EYE_W n) w).wr (LINK_HEAD_EYE_EYE_H n) h).bumpMod (LINK_HEAD_EYE_REPORTS n)
  match (s.link n).train.eqDs with
  | none => s
  | some e =>
    if s.linkState n != lsEqDs || cand != e.cand % 256 then s
    else if !s.on (LINK_PHY_CTL_TX_EQ_AUTO n) then s.enterStart n
    else match e.first with
      | none => s.updTrain n (fun t => { t with eqDs := some { e with first := some seq } })
      | some f =>
        if f = seq then s
        else
          let best := if eqBetter (w * h) e.now e.best then some (w * h, e.now) else e.best
          let left := if e.left.isEmpty && !e.fine then fineCodes (match best with | some (_, c) => c | none => e.now) else e.left
          match left with
          | c :: cs =>
            (s.updTrain n (fun t => { t with eqDs := some ⟨cs, c, e.cand + 1, none, e.fine || e.left.isEmpty, best⟩ })).setTxEq n
              c.1 c.2 false true
          | [] => (s.updTrain n (fun t => { t with eqDs := some { e with best := best } })).endEqDs n

/-! ## Authentication (R286, spec/17 R468) -/

/-- The parts of a message: 28 bytes each (R286). -/
def authParts (msg parts : Nat) : Nat → List Byte → List Nat
  | 0, _ => []
  | k + 1, bs =>
    (msg + (parts - (k + 1)) * 2 ^ 8 + parts * 2 ^ 16 + leNat (bs.take 28) * 2 ^ 32) :: authParts msg parts k (bs.drop 28)

/-- Begin the exchange: a nonce drawn new, the lane and the station ID. -/
def State.startAuth (s : State) (n : Nat) : State :=
  let msg := leBytes 48 s.free ++ leBytes 1 n ++ leBytes 2 (s.rd TIME_STATION_ID)
  (s.updLink n (fun l => { l with auth := some ⟨msg, [], [], false⟩, authTx := authParts 1 2 2 msg })).draw

/-- Parts in hand, joined in order. -/
def joinParts (ps : List (Nat × List Byte)) (n : Nat) : List Byte :=
  (List.range n).flatMap (fun k => Store.get [] ps k)

/-- A word of an identity page as held in HEAD_IDENT. -/
def State.ident0 (s : State) (n w : Nat) : Nat := s.rd (LINK_HEAD_IDENT0 n w)

/-- The 96 bytes of a head-trust slot's key. -/
def State.headCaKey (s : State) (j : Nat) : List Byte := (List.range 24).flatMap (fun w => leBytes 4 (s.rd (VAULT_HEAD_CA_KEY j w)))

/-- The checks of R468 on a head certificate and its signature over message 1. -/
def State.headPasses (s : State) (n : Nat) (a : AuthRun) : Bool :=
  let cert := (joinParts a.cert 10).take 256
  let sig := (joinParts a.sig 4).take 96
  let key := (cert.drop 48).take 96
  leAt cert 0 2 == 0x4356 && leAt cert 2 1 == 1 && leAt cert 3 1 == 2 &&
  (List.range 8).any (fun j => s.on (VAULT_HEAD_CA_EN j) &&
    (sha384 (s.headCaKey j)).take 8 == (cert.drop 32).take 8 &&
    ecdsaOk (s.headCaKey j) (sha384 (cert.take 160)) (cert.drop 160)) &&
  leAt cert 4 2 == s.ident0 n 1 % 65536 && leAt cert 6 2 == s.ident0 n 1 / 65536 && leAt cert 8 4 == s.ident0 n 2 &&
  (!(s.on TIME_STAT_VALID && s.on TIME_STAT_SET) ||
    (decide (leAt cert 16 8 * 1000000000 ≤ s.timeNs) &&
      (leAt cert 24 8 == 0 || decide (s.timeNs ≤ leAt cert 24 8 * 1000000000)))) &&
  ecdsaOk key (sha384 a.msg1) sig

/-- Authentication fails: LINK_AUTH, and the lane stays in TIME_ACQ until its attempt ends (R286). -/
def State.failAuth (s : State) (n : Nat) : State :=
  (s.updLink n (fun l => { l with auth := some ⟨[], [], [], false⟩ })).report srcLinkAuth n 2 initCell n accNone 0

/-! ## UP and down -/

/-- The head recorded for a cell changes at UP: its per-nozzle counts restart (spec/21 R548). -/
def State.headChange (s : State) (n : Nat) : State :=
  let v := s.ident0 n 1 % 65536
  let m := s.ident0 n 1 / 65536
  let k := s.ident0 n 2
  if s.rd (LEDGER_HEAD_VENDOR n) == v && s.rd (LEDGER_HEAD_MODEL n) == m && s.rd (LEDGER_HEAD_SERIAL n) == k then s
  else
    let s := ((s.wr (LEDGER_HEAD_VENDOR n) v).wr (LEDGER_HEAD_MODEL n) m).wr (LEDGER_HEAD_SERIAL n) k
    { s with drops := s.drops.filter (fun e => decide (e.1 / 2048 ≠ n)) }

/-- The lane enters UP (R277). -/
def State.laneUp (s : State) (n : Nat) : State :=
  let s := (s.updLink n (fun l => { l with
    missRun := 0, tlmSeen := false, train := { l.train with fails := 0, everUp := true, lastRate := l.train.rate } })).setLink' n lsUp
  let s := if s.discovering n then s.wrMaskBit GLOBAL_HEADS_LO GLOBAL_HEADS_HI n true else s
  let s := s.headChange n
  if s.on (LINK_LL_STAT_HALTED n) then s else s.sendResume n

/-- TIME_ACQ ends when time lock is confirmed, both pages are read and authentication, if asked for, has passed (R277). -/
def State.tryUp (s : State) (n : Nat) : State :=
  if s.linkState n == lsTimeAcq && s.on (LINK_LL_STAT_TLOCK n) && (s.link n).train.pages == 3 then
    if !s.on (LINK_LL_CTL_AUTH_REQ n) || s.on (LINK_LL_STAT_AUTHED n) then s.laneUp n
    else if (s.link n).auth.isNone then s.startAuth n
    else s
  else s

/-- Causes of leaving UP (LL_STAT.DOWN_CAUSE). -/
def dcAlign : Nat := 1
def dcLos : Nat := 2
def dcReplay : Nat := 3
def dcTlock : Nat := 4
def dcRetrain : Nat := 5
def dcHead : Nat := 6
def dcDisabled : Nat := 7

/-- The lane leaves UP (R279): the cause, the count, LINK_DOWN, the fence of a busy cell, and the end of transfers. -/
def State.leaveUp (s : State) (n cause : Nat) : State :=
  if s.linkState n != lsUp then s
  else
    let busy := s.cellBusy n
    let s := ((s.wr (LINK_LL_STAT_DOWN_CAUSE n) cause).bump (LINK_LL_CNT_DOWN n)).setLink' n lsWait
    let s := if cause != dcDisabled || busy then s.report srcLinkDown n 2 initCell n accNone 0 else s
    let s := if busy then s.fence n fcLane else s
    let s := (s.link n).descs.foldl (fun s d => s.finishSt d.1 d.2 stAborted) s
    ((s.updLink n Link.cleared).wr (LINK_LL_STAT_TLOCK n) 0).wr (LINK_LL_STAT_AUTHED n) 0

/-- The lane leaves UP and goes on as R279 says: training again, or RESTART frames and WAIT until RETRAIN. -/
def State.laneDown (s : State) (n cause : Nat) : State :=
  if s.linkState n != lsUp then s
  else
    let s := s.leaveUp n cause
    if cause == dcRetrain || s.on (LINK_LL_CTL_AUTO_RETRAIN n) then s.startDetect n
    else s.updTrain n (fun t => { t with restart := some (s.now + 1000), hold := true })

end Sys2Proof.Machine
end

