-- ==== Sys2Proof/Machine/Link.lean ====
section
/-!
DEFINITION. The Mirold Link family: frames sent and received, power states, training, time lock, head commands and the mailbox
(spec/08, spec/09).
-/
namespace Sys2Proof.Machine

open Sys2Proof

/-! ## Acknowledgement and replay (R252 to R255) -/

/-- Ask for a replay from E: a NAK is sent, but no second one for the same E within 2 µs (R252). -/
def State.requestReplay (s : State) (n : Nat) : State :=
  let l := s.link n
  if l.nakAt.any (fun a => a.1 == l.expect && decide (s.now < a.2 + 2000)) then s
  else s.updLink n (fun l => { l with nak := true, nakAt := some (l.expect, s.now) })

/-- Whether a replay from a held frame must wait: an UPWR starts none until 20 µs after the upstream is LOCKED (R283). -/
def State.replayWaits (s : State) (n : Nat) (f : HeldFrame) : Bool :=
  f.isUpwr && (s.rd (LINK_RX_STAT_ALIGN n) != 2 || decide (s.now < (s.link n).lockAt + 20000))

/-- Start a replay, or take the lane down when the limit from one ACK_SEQ is reached (R255). -/
def State.startReplay (s : State) (n : Nat) : State :=
  let l := s.link n
  match l.heldTx with
  | [] => s
  | f :: _ =>
    if s.replayWaits n f then s else
    let count := if l.rpBase = f.seq then l.rpCount else 0
    if max 1 (s.rd (LINK_LL_REPLAY_MAX n)) ≤ count then s.laneDown n dcReplay
    else ((s.updLink n (fun l => { l with replay := some 0, rpBase := f.seq, rpCount := count + 1 })).bump
      (LINK_LL_CNT_REPLAY n)).report srcLinkRetry n 1 initCell n accNone 0

/-- An ACK_SEQ arrives: the frames it covers leave the replay buffer (R254). -/
def State.rxAck (s : State) (n ack : Nat) (valid : Bool) : State :=
  if !valid then s
  else
    let l := s.link n
    let covered (f : HeldFrame) : Bool := decide (1 ≤ (ack + 256 - f.seq) % 256 ∧ (ack + 256 - f.seq) % 256 ≤ 32)
    let rest := l.heldTx.filter (fun f => !covered f)
    let gone := l.heldTx.length - rest.length
    if gone = 0 then s
    else s.updLink n (fun l => { l with
      heldTx := rest, rpCount := 0,
      replay := if rest.isEmpty then none else l.replay.map (fun i => i - gone) })

/-- A link-control word arrives (R253 to R255). -/
def State.rxLcw (s : State) (n p : Nat) (lctl : Bool) : State :=
  let s := s.rxAck n (payByte p 0) (bitOf p 8)
  if lctl && bitOf p 9 then
    match (s.link n).replay with
    | some 0 => s
    | _ => s.startReplay n
  else s

/-! ## Responses (R280, R281, R284) -/

/-- A command ends without an OK response: LINK_CMD. -/
def State.cmdFailed (s : State) (n : Nat) : State := s.report srcLinkCmd n 1 initCell n accNone 0

/-- Write eight payload words into a window. -/
def State.putWords (s : State) (f : Nat → Fld) (p : Nat) : State :=
  (List.range 8).foldl (fun s j => s.wr (f j) (pay32 p (4 * j))) s

/-- A response arrives (RSP_RECEIVE). -/
def State.rxRsp (s : State) (n p : Nat) : State :=
  let status := payByte p 1 / 2
  match (s.link n).waits.find? (fun w => w.cid == pay16 p 2) with
  | none => s
  | some w =>
    let s := s.updLink n (fun l => { l with waits := l.waits.filter (fun v => decide (v.cid ≠ w.cid)) })
    let s := if status = 0 then s else s.cmdFailed n
    match w.for_ with
    | .none => s
    | .device => s
    | .mailbox =>
      ((((s.putWords (LINK_CMD_RX n) p).wr (LINK_CMD_CTL_DONE n) 1).wr (LINK_CMD_CTL_BUSY n) 0).wr (LINK_CMD_CTL_STATUS n) status)
    | .desc q idx => s.finishSt q idx (if status = 0 then stOk else stAborted)
    | .ident page =>
      if status != 0 then s
      else
        let s := s.putWords (if page = 0 then LINK_HEAD_IDENT0 n else LINK_HEAD_IDENT1 n) p
        (s.updTrain n (fun t => { t with pages := if page = 0 then t.pages / 2 * 2 + 1 else t.pages % 2 + 2 })).tryUp n

/-! ## Telemetry (R285, spec/05 R156) -/

/-- The head temperature of a TLM frame against the cell's limits (R156, R157). -/
def State.rxTemp (s : State) (n temp : Nat) : State :=
  let t := sext 16 temp
  let s := s.wr (CELL_TEMP_STAT_TEMP n) temp
  let s :=
    if decide (s.rdS (CELL_TEMP_LIM_TEMP_WARN n) ≤ t) && !s.on (CELL_TEMP_STAT_WARN n) then
      let s := (s.wr (CELL_TEMP_STAT_WARN n) 1).report srcHeadTemp n 0 initCell n accNone 0
      let k := s.owner .cell n
      -- CODE, INFO and DETAIL of a thermal event are not stated: free values
      if k < 8 then (s.postGeneral k 0x03 (s.free % 256) n (s.draw.free % 2 ^ 32) (s.draw.draw.free % 2 ^ 64)).draw.draw.draw else s
    else if decide (t < s.rdS (CELL_TEMP_CLR_TEMP_CLEAR n)) then s.wr (CELL_TEMP_STAT_WARN n) 0
    else s
  if decide (s.rdS (CELL_TEMP_LIM_TEMP_TRIP n) ≤ t) && !s.on (CELL_TEMP_STAT_TRIP n) then
    let pause := s.on (CELL_TEMP_CLR_PAUSE_BAR n)
    let s := ((s.wr (CELL_TEMP_STAT_TRIP n) 1).report srcHeadTemp n 2 initCell n accNone 0).updCell n (fun c => { c with pause := pause })
    if pause then s.refreshStop else s
  else s

/-- A TLM frame arrives (TLM_RECEIVE). -/
def State.rxTlm (s : State) (n p : Nat) : State :=
  let l := s.link n
  let s := s.putWords (LINK_HEAD_TLM n) p
  let s := if payByte p 20 = l.eyeSeq then s
    else ((s.wr (LINK_HEAD_EYE_EYE_W n) (payByte p 18)).wr (LINK_HEAD_EYE_EYE_H n) (payByte p 19)).bumpMod (LINK_HEAD_EYE_REPORTS n)
  let fault := bitOf p (64 + 6)
  let s := if fault && !l.tlmFault then s.report srcLinkHead n 1 initCell n accNone 0 else s
  (s.updLink n (fun l => { l with eyeSeq := payByte p 20, tlmFault := fault, tlmSeen := true, tlmAt := some s.timeNs })).rxTemp n (pay16 p 0)

/-! ## Time lock (R267 to R271) -/

/-- One exchange was lost or out of tolerance: at the limit the lane leaves UP (R271). -/
def State.lockMiss (s : State) (n : Nat) : State :=
  let miss := (s.link n).missRun + 1
  let s := s.updLink n (fun l => { l with missRun := miss, okRun := 0 })
  if s.linkState n == lsUp && decide (s.rd (LINK_TL_CTL_MISS n) ≤ miss) then s.laneDown n dcTlock else s

/-- A REPLY is within tolerance: the lock is confirmed after as many in a row as are needed (R271). -/
def State.lockHit (s : State) (n : Nat) : State :=
  let ok := (s.link n).okRun + 1
  let s := s.updLink n (fun l => { l with okRun := ok, missRun := 0 })
  if decide ((s.link n).need ≤ ok) then (s.wr (LINK_LL_STAT_TLOCK n) 1).tryUp n else s

/-- D_ds from the mean of the RTTs kept, with D_lane (R270). -/
def State.useRtts (s : State) (n : Nat) (rtts : List Int) : State :=
  let sum := rtts.foldl (· + ·) 0
  let d := s.divOpen sum (2 * rtts.length) + s.rdS (LINK_TL_ASYM n)
  let s := (s.wr (LINK_TL_DS n) (toBits 32 d)).draw
  s.wr (LINK_TL_DLANE n) (dLane (s.rd (LINK_TL_DS n)) (s.rd (LINK_LL_STAT_RATE n)))

/-- A REPLY arrives with the device's time stamp T4, in 2⁻¹⁶ ns (R270). -/
def State.rxReply (s : State) (n p t4 : Nat) : State :=
  let l := s.link n
  match l.sync.find? (fun e => e.1 == payByte p 1) with
  | none => s
  | some (xid, t1) =>
      let rtt : Int := (t4 : Int) - t1 - pay32 p 2
      let err := sext 32 (pay32 p 6)
      let s := (s.updLink n (fun l => { l with sync := l.sync.filter (fun e => e.1 != xid) })).wr (LINK_TL_ERR n) (pay32 p 6)
      let kept := List.map (fun (v : Nat) => Int.ofNat v) l.rtts
      let sum := kept.foldl (· + ·) 0
      let far := !l.rtts.isEmpty && decide (131072 * (l.rtts.length : Int) < (rtt * l.rtts.length - sum).natAbs)
      let tol := decide (err.natAbs ≤ s.rd (LINK_TL_CTL_TOL n) * 4096)
      if far then
        let s := s.bump (LINK_LL_CNT_TLOST n)
        let s := if l.discards = 7 then s.updLink n (fun l => { l with discards := 0, rtts := [] })
          else s.updLink n (fun l => { l with discards := l.discards + 1 })
        if tol && s.linkState n == lsTimeAcq then s.lockHit n else s.lockMiss n
      else
        let keep := (l.rtts ++ [rtt.toNat]).drop (l.rtts.length + 1 - 8)
        let s := (s.updLink n (fun l => { l with discards := 0, rtts := keep })).wr (LINK_TL_RTT n) (toBits 32 rtt)
        let s := s.useRtts n (List.map (fun (v : Nat) => Int.ofNat v) keep)
        if tol then s.lockHit n else s.lockMiss n

/-! ## TRAIN and AUTH frames -/

/-- Count a good frame of the present exchange of training. -/
def State.trainGot (s : State) (n : Nat) : State :=
  (s.updTrain n (fun t => { t with rxN := t.rxN + 1 })).trainStep n

/-- A TRAIN frame arrives (R272 to R279, spec/08 R239). -/
def State.rxTrain (s : State) (n p : Nat) : State :=
  let sub := payByte p 0
  let st := s.linkState n
  if sub = subTs1 then
    if st == lsUp then s.laneDown n dcHead
    else if st == lsDetect || (st == lsRate && (s.link n).train.changed) then
      (s.updTrain n (fun t => { t with offer := payByte p 2, presets := payByte p 3, caps := payByte p 4 })).trainGot n
    else s
  else if sub = subPreset then s.rxPreset n (payByte p 2)
  else if sub = subEye then s.rxEye n (payByte p 2) (payByte p 3) (payByte p 4) (payByte p 5)
  else if sub = subSleep then
    if st == lsUp then (s.updLink n (fun l => { l with usNotice := true })).wr (LINK_PWR_STAT_US n) pwEntering else s
  else if sub = subStart then (if st == lsStart then s.trainGot n else s)
  else if sub = subRestart then
    if st == lsUp then s.laneDown n dcHead
    else if 1 ≤ st && st ≤ lsTimeAcq then s.startDetect n else s
  else s

/-- An AUTH frame arrives (R286). -/
def State.rxAuth (s : State) (n p : Nat) : State :=
  match (s.link n).auth with
  | none => s
  | some a =>
    if a.msg1.isEmpty || a.check then s
    else
      let msg := payByte p 0
      let part := payByte p 1
      let bs := leBytes 28 (p / 2 ^ 32)
      if msg = 5 then s.failAuth n
      else
        let a := if msg = 2 && part < 10 then { a with cert := Store.put [] a.cert part bs }
          else if msg = 3 && part < 4 then { a with sig := Store.put [] a.sig part bs } else a
        s.updLink n (fun l => { l with auth := some { a with check := a.cert.length == 10 && a.sig.length == 4 } })

/-! ## Receiving (R222, R233, R251, R252) -/

/-- Deliver a frame by its type. -/
def State.deliver (s : State) (n type p stamp : Nat) : State :=
  if type == ftIdle then s.rxLcw n p false
  else if type == ftLctl then s.rxLcw n p true
  else if type == ftRsp then s.rxRsp n p
  else if type == ftTlm then s.rxTlm n p
  else if type == ftTime then (if payByte p 0 = 2 then s.rxReply n p stamp else s)
  else if type == ftTrain then s.rxTrain n p
  else if type == ftAuth then s.rxAuth n p
  else s

/-- The frequency integrator while the loop is LOCKED and not held (R231, R233, R239): what the received clock makes of it is free. -/
def State.trackFreq (s : State) (n : Nat) : State :=
  if s.on (LINK_RX_STAT_FROZEN n) || s.on (LINK_RX_EQ_FI_HOLD n) || (s.link n).usNotice then s
  else (s.wr (LINK_RX_STAT_FREQ n) (s.free % 65536)).draw

/-- A frame passed by frame alignment (R251, R252). -/
def State.rxFrame (s : State) (n f : Nat) (ok : Bool) (stamp : Nat) : State :=
  let type := frameType f
  let seq := frameSeq f
  let p := framePayload f
  let s := (s.trackFreq n).freezeCount n (ok && type == ftIdle)
  let traffic := lsTimeAcq ≤ s.linkState n && s.linkState n ≤ lsUp
  if !ok then
    let s := s.bump (LINK_LL_CNT_CRC n)
    if traffic then s.requestReplay n else s
  else
    let ahead := (seq + 256 - (s.link n).expect) % 256
    if !upstreamType type then
      let s := (s.bump (LINK_LL_CNT_PROTO n)).report srcLinkProto n 1 initCell n accNone 0
      if traffic && 1 ≤ ahead && ahead ≤ 127 then s.requestReplay n else s
    else if !traffic then (if type == ftTrain then s.rxTrain n p else s)
    else if sequenced type then
      if ahead = 0 then
        let s := s.updLink n (fun l => { l with
          expect := (l.expect + 1) % 256, ackValid := true, unacked := l.unacked + 1, ackDue := l.ackDue || decide (15 ≤ l.unacked) })
        s.deliver n type p stamp
      else if ahead ≤ 127 then s.requestReplay n
      else s
    else
      let s := if 1 ≤ ahead && ahead ≤ 127 then s.requestReplay n else s
      s.deliver n type p stamp

/-- The receiver reaches LOCKED: an upstream that was waking is ON, and adaptation goes on from its held values (R233, R241). -/
def State.reachLocked (s : State) (n : Nat) : State :=
  let s := s.updLink n (fun l => { l with los := false, lockAt := s.now })
  if s.rd (LINK_PWR_STAT_US n) == pwWaking then s.wr (LINK_PWR_STAT_US n) pwOn else s

/-- One wire bit at the device's receiver (R218 to R223). -/
def State.rxBit (s : State) (n stamp : Nat) (w : Bool) : State :=
  let r0 := (s.link n).rx
  let (r, kept) := r0.take w
  if !kept then
    let s := s.updLink n (fun l => { l with rx := r })
    if w == r0.last then (s.bump (LINK_PHY_CNT_STUFF n)).report srcLinkStuff n 0 initCell n accNone 0 else s
  else
    let align := s.rd (LINK_RX_STAT_ALIGN n)
    let (r, align', flip, ev) := r.align align (s.on (LINK_PHY_CTL_RX_INV_AUTO n))
    let s := (s.updLink n (fun l => { l with rx := r })).wr (LINK_RX_STAT_ALIGN n) align'
    let s := if flip then s.wrB (LINK_RX_STAT_INV n) (!s.on (LINK_RX_STAT_INV n)) else s
    let s := if align' = 2 ∧ align ≠ 2 then s.reachLocked n else s
    match ev with
    | .none => s
    | .frame f ok => s.rxFrame n f ok stamp
    | .unsynced => s.freezeCount n false
    | .lost => s.leaveLocked n

/-- FRAME_RECEIVE: bits arrive on the upstream of a lane that is not OFF and not asleep. -/
def execFrameReceive (n : CellId) (wire : List Bool) (stamp : Nat) (s : State) : Host.Outcome State Fault Refusal :=
  let n := n.val
  if s.rd (LINK_PWR_STAT_US n) == pwOff || s.rd (LINK_PWR_STAT_US n) == pwSleep then .next s
  else .next (wire.foldl (fun s w => s.rxBit n stamp (w != s.on (LINK_RX_STAT_INV n))) (s.wr (LINK_RX_STAT_SIGNAL n) 1))

/-! ## Sending -/

/-- DS_FRAME_SEND: one frame leaves at a downstream frame boundary (R238 to R240, R258). -/
def execDsFrameSend (n : CellId) (s : State) : Host.Outcome State Fault Refusal :=
  let n := n.val
  let ds := s.rd (LINK_PWR_STAT_DS n)
  let st := s.linkState n
  let l := s.link n
  if ds == pwOff || ds == pwSleep then .next s
  else if ds == pwWaking then
    let s := (s.sendLcw n ftIdle false 0).updLink n (fun l => { l with wakeIdle := l.wakeIdle + 1 })
    if 16 ≤ (s.link n).wakeIdle then
      let s := (s.wr (LINK_PWR_STAT_DS n) pwOn).updLink n (fun l => { l with wakeReq := false })
      let s := if s.on GOOSE_STATUS_SAFE then s.haltLane n 2 else s
      if st == lsUp then
        .next ((s.wr (LINK_LL_STAT_TLOCK n) 0).updLink n (fun l => { l with
          acquire := 1, need := 2, okRun := 0, missRun := 0, syncDue := true }))
      else .next s
    else .next s
  else if ds == pwEntering then
    .next ((s.sendLcw n ftIdle false 0).updLink n (fun l => { l with wakeIdle := l.wakeIdle + 1 }))
  else if l.train.restart.any (fun t => decide (s.now < t)) then .next (s.sendPlain n ftTrain subRestart)
  else if 1 ≤ st && st ≤ lsStart then .next ((s.sendTraining n).trainStep n)
  else if st == lsUp || st == lsTimeAcq then
    if ds == pwOn && s.maySleep n then
      .next (((s.sendPlain n ftTrain subSleep).updLink n (fun l => { l with wakeIdle := 0 })).wr (LINK_PWR_STAT_DS n) pwEntering)
    else if s.wantsWake n || s.on (LINK_LL_STAT_HALTED n) then
      .next (((s.wr (LINK_PWR_STAT_DS n) pwOn).updLink n (fun l => { l with idleTx := 0 })).sendTraffic n)
    else .next (s.sendTraffic n)
  else .next (s.sendLcw n ftIdle false 0)

/-- REPLAY_TIMEOUT: no ACK_SEQ has advanced for REPLAY_TO since the oldest held frame was sent (R255). -/
def execReplayTimeout (n : CellId) (s : State) : Host.Outcome State Fault Refusal := .next (s.startReplay n.val)

/-- ACK_TIMER: an LCTL acknowledgement is owed for the frames delivered (R253). -/
def execAckTimer (n : CellId) (s : State) : Host.Outcome State Fault Refusal :=
  if 0 < (s.link n.val).unacked then .next (s.updLink n.val (fun l => { l with ackDue := true })) else .next s

/-! ## The receiver's adaptation and eye scans (spec/08 R232 to R236) -/

/-- Whether the offset canceller holds its value: frozen, held by OC_HOLD, from the head's sleep notice on, and until a waking upstream is LOCKED
(R233, R237, R239). -/
def State.ocHeld (s : State) (n : Nat) : Bool :=
  s.on (LINK_RX_STAT_FROZEN n) || s.on (LINK_RX_EQ_OC_HOLD n) || (s.link n).usNotice || s.usAsleep n || s.rd (LINK_PWR_STAT_US n) == pwWaking

/-- OC_ADJUST: for the oldest window of 4,096 received bits that is over, the canceller moves one step toward balance when its ones and zeros differ
by more than 64, unless it is held (R232, R233). -/
def execOcAdjust (n : CellId) (s : State) : Host.Outcome State Fault Refusal :=
  let n := n.val
  match (s.link n).rx.wins with
  | [] => .next s
  | ones :: rest =>
    let s := s.updLink n (fun l => { l with rx := { l.rx with wins := rest } })
    if s.ocHeld n then .next s
    else if 4096 + 64 < 2 * ones then .next (s.wrSat (LINK_RX_STAT_OC n) (s.rdS (LINK_RX_STAT_OC n) + 1))
    else if 2 * ones + 64 < 4096 then .next (s.wrSat (LINK_RX_STAT_OC n) (s.rdS (LINK_RX_STAT_OC n) - 1))
    else .next s

/-- Whether the upstream of a lane is ON or DOZE. -/
def State.usLive (s : State) (n : Nat) : Bool := s.rd (LINK_PWR_STAT_US n) == pwOn || s.rd (LINK_PWR_STAT_US n) == pwDoze

/-- Start a scan as the fields of EYE_CTL say: at once over without signal, or running (R234 to R236). -/
def State.startEye (s : State) (n : Nat) : State :=
  let mode := s.rd (LINK_EYE_CTL_MODE n)
  if (s.link n).scan.isSome || mode = 0 || mode = 3 then s
  else if !s.usLive n then (s.wr (LINK_EYE_STAT_DONE n) 1).wr (LINK_EYE_STAT_NO_SIGNAL n) 1
  else (s.updLink n (fun l => { l with scan := some (.host mode) })).wr (LINK_EYE_STAT_BUSY n) 1

/-- EYE_SCAN_START: a write of EYE_CTL.START = 1. -/
def execEyeScanStart (who : Sender) (n : CellId) (s : State) : Host.Outcome State Fault Refusal :=
  .next (s.gatedWrite who (LINK_EYE_CTL_START n.val) 1 (fun s => s.startEye n.val))

/-- Contiguous passing points from the front of a list, at most `m`. -/
def passing (errMax m : Nat) (es : List Nat) : Nat := ((es.take m).takeWhile (fun e => decide (e ≤ errMax))).length

/-- EYE_W and EYE_H of a sweep (R235). -/
def sweepEye (errMax : Nat) (p : EyePoints) : Nat × Nat :=
  if errMax < p.centre then (0, 0)
  else (1 + passing errMax 32 p.left + passing errMax 31 p.right, 1 + passing errMax 64 p.down + passing errMax 63 p.up)

/-- Start an automatic sweep (R236). -/
def State.startAuto (s : State) (n : Nat) : State :=
  (s.updLink n (fun l => { l with scan := some .auto, autoDue := false })).wr (LINK_EYE_STAT_BUSY n) 1

/-- Add one to a saturating bin of the Ledger's eye histogram (spec/21 R546). -/
def State.eyeBins (s : State) (n w h : Nat) : State :=
  (s.bump (LEDGER_EYE_HIST (32 * n + min 15 (w / 4)))).bump (LEDGER_EYE_HIST (32 * n + 16 + min 15 (h / 8)))

/-- The points of a scan with no count above the bits that a point takes, 2^(16 + 2 × DWELL) (R234). -/
def eyeWithin (p : EyePoints) (dwell : Nat) : EyePoints :=
  let top (e : Nat) : Nat := min e (2 ^ (16 + 2 * dwell))
  ⟨top p.centre, p.left.map top, p.right.map top, p.down.map top, p.up.map top⟩

/-- The count at PHASE and VOFF of a point measurement (R234): on an axis the point of that axis, else the one the scan brings for it. -/
def eyeAt (p : EyePoints) (phase voff : Int) : Nat :=
  if voff = 0 ∧ phase < 0 then p.left.getD ((-phase).toNat - 1) p.centre
  else if voff = 0 ∧ 0 < phase then p.right.getD (phase.toNat - 1) p.centre
  else if phase = 0 ∧ voff < 0 then p.down.getD ((-voff).toNat - 1) p.centre
  else if phase = 0 ∧ 0 < voff then p.up.getD (voff.toNat - 1) p.centre
  else p.centre

/-- EYE_SCAN_DONE: a scan ends and its result is reported (R234, R235, R275). -/
def execEyeScanDone (n : CellId) (pts : EyePoints) (s : State) : Host.Outcome State Fault Refusal :=
  let n := n.val
  match (s.link n).scan with
  | none => .next s
  | some scan =>
    let errMax := match scan with | .host _ => s.rd (LINK_EYE_CTL_ERR_MAX n) | .auto => 1 | .train => 0
    let dwell := match scan with | .host _ => s.rd (LINK_EYE_CTL_DWELL n) | .auto => 2 | .train => 0
    let pts := eyeWithin pts dwell
    let last := ((pts.left ++ pts.right ++ pts.down ++ pts.up).getLast?).getD pts.centre
    let s := s.updLink n (fun l => { l with scan := none })
    let s := ((s.wr (LINK_EYE_STAT_BUSY n) 0).wr (LINK_EYE_STAT_DONE n) 1).wr (LINK_EYE_STAT_NO_SIGNAL n) 0
    let point := match scan with | .host m => m == 1 | _ => false
    let (w, h) := sweepEye errMax pts
    let s := s.wr (LINK_EYE_RES_ERRORS n) (satNat 32 (if point then eyeAt pts (s.rdS (LINK_EYE_CTL_PHASE n)) (s.rdS (LINK_EYE_CTL_VOFF n)) else last))
    let s := if point then s else (s.wr (LINK_EYE_STAT_EYE_W n) w).wr (LINK_EYE_STAT_EYE_H n) h
    let s := match scan with | .auto => s.eyeBins n w h | .train => s.trainScanned n w h | .host _ => s
    .next (if (s.link n).autoDue && (s.link n).scan.isNone then s.startAuto n else s)

/-- EYE_AUTO_SWEEP: an automatic sweep falls due; it waits for a host-started scan, and is skipped without signal (R236). -/
def execEyeAutoSweep (n : CellId) (s : State) : Host.Outcome State Fault Refusal :=
  let n := n.val
  if s.rd (LINK_EYE_AUTO_PERIOD_S n) = 0 || !s.usLive n then .next s
  else match (s.link n).scan with
    | none => .next (s.startAuto n)
    | some _ => .next (s.updLink n (fun l => { l with autoDue := true }))

/-! ## Power states (spec/08 R237 to R244) -/

/-- DOZE_ENTRY: DOZE_AFTER IDLE frames with nothing queued, DOZE being the idle state (R238, R244). -/
def execDozeEntry (n : CellId) (s : State) : Host.Outcome State Fault Refusal :=
  let n := n.val
  let idle := s.rd (LINK_PWR_CTL_DS_IDLE n)
  if s.rd (LINK_PWR_STAT_DS n) == pwOn && (idle == 1 || idle == 3) && s.dsMayIdle n &&
      decide (max 1 (s.rd (LINK_PWR_CTL_DOZE_AFTER n)) ≤ (s.link n).idleTx) then
    .next (s.wr (LINK_PWR_STAT_DS n) pwDoze)
  else .next s

/-- SLEEP_ENTRY: a direction enters electrical idle after its notice and, downstream, at least 8 IDLE frames (R239). -/
def execSleepEntry (n : CellId) (up : Bool) (s : State) : Host.Outcome State Fault Refusal :=
  let n := n.val
  if up then
    if s.rd (LINK_PWR_STAT_US n) == pwEntering then
      let s := (s.wr (LINK_PWR_STAT_US n) pwSleep).wr (LINK_RX_STAT_SIGNAL n) 0
      .next (s.breakRx n)
    else .next s
  else if s.rd (LINK_PWR_STAT_DS n) == pwEntering && decide (8 ≤ (s.link n).wakeIdle) then
    .next (s.wr (LINK_PWR_STAT_DS n) pwSleep)
  else .next s

/-- WAKE: the transmitter leaves electrical idle and sends the wake preamble; after a rate change it wakes at the new rate (R240,
R274): its length between 4.0 and 4.5 µs is free. No wake starts in the safe state (R245). -/
def execWake (n : CellId) (s : State) : Host.Outcome State Fault Refusal :=
  let n := n.val
  let training := s.linkState n == lsRate && (s.link n).train.changed
  if s.rd (LINK_PWR_STAT_DS n) == pwSleep && !s.on GOOSE_STATUS_SAFE && (training || s.wantsWake n) then
    let s := if training then s.wr (LINK_LL_STAT_RATE n) (s.link n).train.rate else s
    let s := (s.wr (LINK_PWR_STAT_DS n) pwWaking).bump (LINK_PWR_STAT_WAKES n)
    let (least, more) := preamblePairs (s.rd (LINK_LL_STAT_RATE n))
    let wire := preambleBits (least + s.free % (more + 1)) (s.on (LINK_PHY_CTL_TX_INV n))
    .next (((s.updLink n (fun l => { l with wakeIdle := 0, tx := l.tx.afterPreamble })).draw).emit (.preamble n wire))
  else .next s

/-- SQUELCH_ASSERT: a sleeping receiver leaves SLEEP and hunts (R241). -/
def execSquelchAssert (n : CellId) (s : State) : Host.Outcome State Fault Refusal :=
  let n := n.val
  if s.rd (LINK_PWR_STAT_US n) == pwSleep then
    .next (((s.updLink n (fun l => { l with rx := l.rx.broken, usNotice := false })).wr (LINK_PWR_STAT_US n) pwWaking).wr
      (LINK_RX_STAT_SIGNAL n) 1)
  else .next s

/-- FALSE_WAKE_TIMEOUT: no LOCKED within 20 µs of a squelch assertion: back to SLEEP, with LINK_ALIGN (R241). -/
def execFalseWakeTimeout (n : CellId) (s : State) : Host.Outcome State Fault Refusal :=
  let n := n.val
  if s.rd (LINK_PWR_STAT_US n) == pwWaking then
    let s := ((s.breakRx n).wr (LINK_PWR_STAT_US n) pwSleep).wr (LINK_RX_STAT_SIGNAL n) 0
    .next (s.report srcLinkAlign n 1 initCell n accNone 0)
  else .next s

/-- LOSS_OF_SIGNAL: 1 µs without signal and without a sleep notice: HUNT, LINK_LOS, counted (R242). -/
def execLossOfSignal (n : CellId) (s : State) : Host.Outcome State Fault Refusal :=
  let n := n.val
  if s.usLive n && !(s.link n).usNotice then
    let s := (s.wr (LINK_RX_STAT_SIGNAL n) 0).bump (LINK_PHY_CNT_LOS n)
    let s := s.report srcLinkLos n 1 initCell n accNone 0
    .next ((s.breakRx n).updLink n (fun l => { l with los := true }))
  else .next s

/-- The effect of PHY_CTL.EN = 1 on a lane in OFF: counters clear, the codes of TX_EQ and RX_EQ come into force, and training
begins; a mailbox command that waits goes on to its timeout, and a fused lane stays in OFF (R2, R243, R246). -/
def State.enableLane (s : State) (n : Nat) : State :=
  if s.fused n || s.on (LINK_PHY_CTL_EN n) then s
  else
    let l := (s.link n).cleared
    let s := (s.setLink n { Link.reset with marked := l.marked, waits := l.waits, cid := l.cid }).wr (LINK_PHY_CTL_EN n) 1
    let s := s.clearAll [LINK_PHY_CNT_STUFF n, LINK_PHY_CNT_ALIGN n, LINK_PHY_CNT_LOS n, LINK_PHY_CNT_FREEZE n, LINK_LL_CNT_CRC n,
      LINK_LL_CNT_VOID n, LINK_LL_CNT_TLOST n, LINK_LL_CNT_REPLAY n, LINK_LL_CNT_PROTO n, LINK_LL_CNT_DOWN n, LINK_RX_STAT_INV n,
      LINK_PWR_STAT_WAKES n]
    let s := (s.useTxEq n).wr (LINK_RX_STAT_CTLE n) (s.rd (LINK_RX_EQ_CTLE n))
    s.startDetect n

/-- LANE_ENABLE: a write of PHY_CTL.EN = 1. -/
def execLaneEnable (who : Sender) (n : CellId) (s : State) : Host.Outcome State Fault Refusal :=
  .next (s.gatedWrite who (LINK_PHY_CTL_EN n.val) 1 (fun s => s.enableLane n.val))

/-- The effect of PHY_CTL.EN = 0: both directions OFF at once; a lane that was UP leaves it with DISABLED (R243, R279). -/
def State.disableLane (s : State) (n : Nat) : State :=
  let s := (s.leaveUp n dcDisabled).wr (LINK_PHY_CTL_EN n) 0
  let s := (s.breakRx n).updLink n (fun l => { l.cleared with train := { l.train with restart := none, hold := false } })
  let s := (((s.setLink' n lsOff).wr (LINK_PWR_STAT_DS n) pwOff).wr (LINK_PWR_STAT_US n) pwOff).wr (LINK_RX_STAT_SIGNAL n) 0
  (s.wr (LINK_LL_STAT_TLOCK n) 0).wr (LINK_LL_STAT_AUTHED n) 0

/-- LANE_DISABLE: a write of PHY_CTL.EN = 0. -/
def execLaneDisable (who : Sender) (n : CellId) (s : State) : Host.Outcome State Fault Refusal :=
  .next (s.gatedWrite who (LINK_PHY_CTL_EN n.val) 0 (fun s => s.disableLane n.val))

/-! ## Time lock and training events -/

/-- TIME_SYNC_SEND: the time-lock period expires; a SYNC leaves at its exchange slot (R258, R271). -/
def execTimeSyncSend (n : CellId) (s : State) : Host.Outcome State Fault Refusal :=
  let n := n.val
  if (s.linkState n == lsUp || s.linkState n == lsTimeAcq) &&
      (s.rd (LINK_PWR_STAT_DS n) == pwOn || s.rd (LINK_PWR_STAT_DS n) == pwDoze) then
    .next (s.updLink n (fun l => { l with syncDue := true }))
  else .next s

/-- TIME_REPLY_TIMEOUT: the oldest SYNC without a REPLY within 20 µs counts as lost (R269, R271). -/
def execTimeReplyTimeout (n : CellId) (s : State) : Host.Outcome State Fault Refusal :=
  let n := n.val
  match (s.link n).sync with
  | [] => .next s
  | _ :: rest => .next (((s.updLink n (fun l => { l with sync := rest })).bump (LINK_LL_CNT_TLOST n)).lockMiss n)

/-- LOCK_LOSS_TIMEOUT: the receiver has been out of LOCKED for 20 µs; the lane leaves UP with ALIGN, or with LOS after a loss of
signal (R279). -/
def execLockLossTimeout (n : CellId) (s : State) : Host.Outcome State Fault Refusal :=
  let n := n.val
  if s.rd (LINK_RX_STAT_ALIGN n) != 2 && s.usLive n then .next (s.laneDown n (if (s.link n).los then dcLos else dcAlign))
  else .next s

/-- The effect of LL_CTL.RETRAIN on an enabled lane (R278, R279). -/
def State.retrain (s : State) (n : Nat) : State :=
  if s.linkState n == lsOff then s
  else if s.linkState n == lsUp then s.laneDown n dcRetrain
  else (s.updTrain n (fun t => { t with fails := 0 })).startDetect n

/-- RETRAIN: a write of LL_CTL.RETRAIN. -/
def execRetrain (who : Sender) (n : CellId) (s : State) : Host.Outcome State Fault Refusal :=
  .next (s.gatedWrite who (LINK_LL_CTL_RETRAIN n.val) 1 (fun s => s.retrain n.val))

/-- RATE_CHANGE_TIMEOUT: both ends return to DETECT, and only rates below the failed one are offered (R274). -/
def execRateChangeTimeout (n : CellId) (s : State) : Host.Outcome State Fault Refusal :=
  let n := n.val
  let t := (s.link n).train
  if s.linkState n == lsRate && t.changed then
    let s := ((s.breakRx n).wr (LINK_PWR_STAT_DS n) pwOn).wr (LINK_PWR_STAT_US n) pwOn
    .next ((s.updTrain n (fun t => { t with fast := false, limit := t.rate, failed := true, changed := false, rxN := 0, txN := 0 })).setLink'
      n lsDetect)
  else .next s

/-- TRAIN_TIMEOUT: an attempt does not reach UP within TRAIN_TO (R278). -/
def execTrainTimeout (n : CellId) (s : State) : Host.Outcome State Fault Refusal :=
  let st := s.linkState n.val
  if 1 ≤ st && st ≤ lsTimeAcq then .next (s.failAttempt n.val st) else .next s

/-- RETRAIN_DELAY_EXPIRY: training starts again, unless the limit was reached or the lane waits for RETRAIN (R278, R279). -/
def execRetrainDelayExpiry (n : CellId) (s : State) : Host.Outcome State Fault Refusal :=
  let n := n.val
  let t := (s.link n).train
  if s.linkState n == lsWait && !t.hold && decide (t.fails < max 1 (s.rd (LINK_LL_CTL_RETRAIN_MAX n))) then .next (s.startDetect n)
  else .next s

/-- AUTH_VERIFY_DONE: the Vault's checks end; on a pass the lane enters UP, on a fail LINK_AUTH is raised (R286, R468). -/
def execAuthVerifyDone (n : CellId) (s : State) : Host.Outcome State Fault Refusal :=
  let n := n.val
  match (s.link n).auth with
  | none => .next s
  | some a =>
    if !a.check then .next s
    else
      let pass := s.headPasses n a
      let s := s.updLink n (fun l => { l with authTx := l.authTx ++ [4 + 2 ^ 16 + b2n (!pass) * 2 ^ 32] })
      if pass then .next (((s.updLink n (fun l => { l with auth := none })).wr (LINK_LL_STAT_AUTHED n) 1).tryUp n)
      else .next (s.failAuth n)

/-- AUTH_TIMEOUT: the exchange has not completed within 100 ms (R286). -/
def execAuthTimeout (n : CellId) (s : State) : Host.Outcome State Fault Refusal :=
  match (s.link n.val).auth with
  | none => .next s
  | some a => if a.msg1.isEmpty then .next s else .next (s.failAuth n.val)

/-! ## The mailbox (R284) -/

/-- Whether a zone of a lane's head has a bound loop: an enabled slot that drives it. -/
def State.zoneBound (s : State) (n zone : Nat) : Bool :=
  (List.range 80).any (fun i => s.on (LOOP_CTL_EN i) && s.rd (LOOP_BIND_OUT_SEL i) == 1 && s.rd (LOOP_BIND_OUT_IDX i) == n &&
    bitOf (s.rd (LOOP_BIND_ZMASK i)) zone)

/-- Whether the mailbox accepts a command. -/
def State.boxAccepts (s : State) (n op arg : Nat) : Bool :=
  op == opIdent || op == opPing || op == opTrimSelect || op == opLevelMap || op == opSense || decide (0xC0 ≤ op) ||
  (op == opHeater && !s.zoneBound n (arg % 256))

/-- The effect of CMD_CTL.GO with the command that stands in CMD_TX (R284). -/
def State.boxGo (s : State) (n : Nat) : State :=
  let p := (List.range 8).foldl (fun a j => a + s.rd (LINK_CMD_TX n j) * 2 ^ (32 * j)) 0
  let op := p % 256
  if s.on (LINK_CMD_CTL_BUSY n) || !s.boxAccepts n op (p / 2 ^ 32) then s.wr (LINK_CMD_CTL_REFUSED n) 1
  else
    let resp := op != opHeater
    let s := (((s.wr (LINK_CMD_CTL_REFUSED n) 0).wr (LINK_CMD_CTL_TIMEOUT n) 0).wr (LINK_CMD_CTL_DONE n) 0).wrB (LINK_CMD_CTL_BUSY n) resp
    s.queueCmd n ⟨p - bitsOf p 8 24 * 256, resp, if resp then .mailbox else .none⟩

/-- Write CMD_TX and GO. -/
def State.mailbox (s : State) (who : Sender) (n op arg : Nat) : State :=
  s.gatedWrite who (LINK_CMD_CTL_GO n) 1 (fun s => (s.putWords (LINK_CMD_TX n) (op + arg * 2 ^ 32)).boxGo n)

/-- IDENT: a mailbox IDENT command. -/
def execIdent (who : Sender) (n : CellId) (arg : BitVec 224) (s : State) : Host.Outcome State Fault Refusal :=
  .next (s.mailbox who n.val opIdent arg.toNat)

/-- PING: a mailbox PING command. -/
def execPing (who : Sender) (n : CellId) (arg : BitVec 224) (s : State) : Host.Outcome State Fault Refusal :=
  .next (s.mailbox who n.val opPing arg.toNat)

/-- TRIM_SELECT: a mailbox TRIM_SELECT command. -/
def execTrimSelect (who : Sender) (n : CellId) (arg : BitVec 224) (s : State) : Host.Outcome State Fault Refusal :=
  .next (s.mailbox who n.val opTrimSelect arg.toNat)

/-- LEVEL_MAP: a mailbox LEVEL_MAP command. -/
def execLevelMap (who : Sender) (n : CellId) (arg : BitVec 224) (s : State) : Host.Outcome State Fault Refusal :=
  .next (s.mailbox who n.val opLevelMap arg.toNat)

/-- SENSE: a mailbox SENSE command. -/
def execSense (who : Sender) (n : CellId) (arg : BitVec 224) (s : State) : Host.Outcome State Fault Refusal :=
  .next (s.mailbox who n.val opSense arg.toNat)

/-- HEATER: a mailbox HEATER command, for a zone without a bound loop. -/
def execHeater (who : Sender) (n : CellId) (arg : BitVec 224) (s : State) : Host.Outcome State Fault Refusal :=
  .next (s.mailbox who n.val opHeater arg.toNat)

/-- HEAD_DEFINED_CMD: a mailbox command with OP 0xC0 to 0xFF. -/
def execHeadDefinedCmd (who : Sender) (n : CellId) (op : Fin 64) (arg : BitVec 224) (s : State) : Host.Outcome State Fault Refusal :=
  .next (s.mailbox who n.val (0xC0 + op.val) arg.toNat)

/-- MAILBOX_REFUSED: a GO whose OP is not accepted, or with a command outstanding, sets REFUSED and sends nothing. -/
def execMailboxRefused (who : Sender) (n : CellId) (op : BitVec 8) (arg : BitVec 224) (s : State) : Host.Outcome State Fault Refusal :=
  .next (s.mailbox who n.val op.toNat arg.toNat)

/-- CMD_TIMEOUT: a command has no response in time (R280). -/
def execCmdTimeout (n : CellId) (cid : BitVec 16) (s : State) : Host.Outcome State Fault Refusal :=
  let n := n.val
  match (s.link n).waits.find? (fun w => w.cid == cid.toNat) with
  | none => .next s
  | some w =>
    let s := (s.updLink n (fun l => { l with waits := l.waits.filter (fun v => decide (v.cid ≠ w.cid)) })).cmdFailed n
    match w.for_ with
    | .mailbox => .next ((s.wr (LINK_CMD_CTL_BUSY n) 0).wr (LINK_CMD_CTL_TIMEOUT n) 1)
    | .desc q idx => .next (s.finishSt q idx stAborted)
    | _ => .next s

/-- UPWR: the idle state of the upstream is sent to the head, or a wake of a sleeping upstream once the downstream is ON (R244,
R283). -/
def execUpwr (n : CellId) (wake : Bool) (s : State) : Host.Outcome State Fault Refusal :=
  let n := n.val
  if s.linkState n != lsUp then .next s
  else if wake then
    if s.rd (LINK_PWR_STAT_US n) == pwSleep && s.rd (LINK_PWR_STAT_DS n) == pwOn then .next (s.queueCmd n (deviceCmd opUpwr 0)) else .next s
  else .next (s.queueCmd n (deviceCmd opUpwr (rateCode (s.rd (LINK_PWR_CTL_US_IDLE n)))))

/-- TLM_GAP: more than 50 µs between TLM frames while the upstream is awake and the lane UP (R285). -/
def execTlmGap (n : CellId) (s : State) : Host.Outcome State Fault Refusal :=
  let n := n.val
  if s.linkState n == lsUp && s.usLive n && (s.link n).tlmSeen then
    .next ((s.updLink n (fun l => { l with tlmSeen := false })).report srcLinkTlm n 1 initCell n accNone 0)
  else .next s

/-! ## WAVE and TRIM (R281) -/

/-- The DATA commands of a transfer: 24 bytes each, the last padded with zeros; `step` is what OFFSET or INDEX advances by. -/
def dataCmds (op step : Nat) : Nat → Nat → List Byte → List CmdTx
  | 0, _, _ => []
  | k + 1, off, bs => ⟨op + off * 2 ^ 32 + leNat (bs.take 24) * 2 ^ 64, false, .none⟩ :: dataCmds op step k (off + step) (bs.drop 24)

/-- Read the blob of a descriptor and queue its commands, or complete it. -/
def State.transfer (s : State) (n : Nat) (d : Desc) (len : Nat) (r : ReadResult) (begin_ opData step opEnd : Nat) : State :=
  let q := 2 * n + 1
  let k := s.ringOwner q
  let addr := d.u64 4
  if !s.mayReadMem k addr len then (s.memXs k addr false).finishSt q d.idx stRefused
  else if !s.readEnds k addr r then s
  else
    match s.dmaRead initCtx k addr len r with
    | (s, none) => s.finishSt q d.idx stDmaErr
    | (s, some bs) =>
      let cmds := [⟨begin_, false, .none⟩] ++ dataCmds opData step (ceilDiv len 24) 0 bs ++
        [⟨opEnd + crc32 (bs.take len) * 2 ^ 32, true, .desc q d.idx⟩]
      (s.setPhase q d.idx .started).updLink n (fun l => { l with cmds := l.cmds ++ cmds })

/-- WAVE: a WAVE descriptor at the head of a control ring is read and forwarded on a lane that is UP. -/
def execWave (n : CellId) (result : ReadResult) (s : State) : Host.Outcome State Fault Refusal :=
  let n := n.val
  match s.takeable (2 * n + 1) tyWave with
  | none => .next s
  | some d =>
    if s.linkState n != lsUp then .next s
    else
      let len := d.u32 12
      .next (s.transfer n d len result
        (opWaveBegin + bitsOf (d.u8 16) 0 4 * 2 ^ 32 + d.u8 17 * 2 ^ 40 + len * 2 ^ 64) opWaveData 24 opWaveEnd)

/-- TRIM: a TRIM descriptor at the head of a control ring is read and forwarded on a lane that is UP. -/
def execTrim (n : CellId) (result : ReadResult) (s : State) : Host.Outcome State Fault Refusal :=
  let n := n.val
  match s.takeable (2 * n + 1) tyTrim with
  | none => .next s
  | some d =>
    if s.linkState n != lsUp then .next s
    else .next (s.transfer n d (2 * d.u16 14) result
      (opTrimBegin + bitsOf (d.u8 16) 0 4 * 2 ^ 32 + d.u8 17 * 2 ^ 40 + d.u16 12 * 2 ^ 48 + d.u16 14 * 2 ^ 64) opTrimData 12 opTrimEnd)

end Sys2Proof.Machine
end

