-- ==== Sys2Proof/Machine/Nougat.lean ====
section
/-!
DEFINITION. The Nougat compressor (spec/04 R115 to R127): acceptance of a STRIP, dispatch, coding and commits.
-/
namespace Sys2Proof.Machine

open Sys2Proof

/-! ## Acceptance (R115) -/

/-- What a STRIP completes with when a check fails. -/
def State.stripBad (s : State) (k : Nat) (d : Desc) : Option Nat :=
  let code := bitsOf (d.u8 27) 0 2
  let bsize := bitsOf (d.u8 27) 2 3
  let lb := linesPerBlock (min 4 bsize) (depthBits code)
  let m := ceilDiv (d.u16 24) lb
  let enc := d.bit 1 2
  if code == 3 || decide (4 < bsize) || d.u32 20 % lb != 0 || d.u16 24 == 0 || !isLocal (d.u64 12) || d.u64 12 % 16 != 0 ||
      (enc && decide (2 ^ 26 < d.u32 20 / lb + m)) then some stBadDesc
  else if !inWindow (s.rd (HOST_CTX_LMEM_BASE k)) (s.rd (HOST_CTX_LMEM_SIZE k)) (localOff (d.u64 12)) (16 * m) then some stRefused
  else if !s.mayReadMem k (d.u64 4) (d.u16 24 * lineBytes (depthBits code)) then some stRefused
  else if enc && !s.keyFits k (bitsOf (d.u8 28) 0 6) 1 then some stRefused
  else if !s.on (NOUGAT_ARENA_EN k) then some stRefused
  else none

/-- Record why a STRIP is refused: an address outside the windows, or what it names (spec/22 R558). -/
def State.stripXs (s : State) (k q : Nat) (d : Desc) : State :=
  let depth := depthBits (bitsOf (d.u8 27) 0 2)
  let m := ceilDiv (d.u16 24) (linesPerBlock (bitsOf (d.u8 27) 2 3) depth)
  if !inWindow (s.rd (HOST_CTX_LMEM_BASE k)) (s.rd (HOST_CTX_LMEM_SIZE k)) (localOff (d.u64 12)) (16 * m) then s.memXs k (d.u64 12) true
  else if !s.mayReadMem k (d.u64 4) (d.u16 24 * lineBytes depth) then s.memXs k (d.u64 4) false
  else s.descXs k q d.idx

/-- Whether a STRIP fetched earlier for the same context, on any page ring, waits to be taken and no SYNC guards it: Nougat takes STRIPs of a context in
the order in which it fetches them (R117). One that a SYNC of its own ring guards does not hold up the others (DEDUCED, notes/assumptions/74). -/
def State.earlierStrip (s : State) (k ord : Nat) : Bool :=
  s.rings.any (fun e => ringKind e.1 == .page && s.ringOwner e.1 == k &&
    e.2.held.any (fun d => d.type == tyStrip && decide (d.ord < ord) && mayStart .page e.2.held d))

/-- STRIP: Nougat takes the next STRIP of a page ring, or completes it with the status of the check it fails. -/
def execStrip (n : CellId) (s : State) : Host.Outcome State Fault Refusal :=
  let q := 2 * n.val
  match s.takeable q tyStrip with
  | none => .next s
  | some d =>
    let k := s.ringOwner q
    if s.cellState n.val == csFenced || s.earlierStrip k d.ord then .next s
    else
      match s.stripBad k d with
      | some st => .next ((if st = stRefused then s.stripXs k q d else s).finishSt q d.idx st)
      | none =>
        let j : StripJob :=
          { ctx := k, ring := q, idx := d.idx, encrypt := d.bit 1 2, src := d.u64 4, entry := d.u64 12, firstLine := d.u32 20,
            lines := d.u16 24, strip := bitsOf (d.u8 26) 0 6, depth := depthBits (bitsOf (d.u8 27) 0 2), bsize := bitsOf (d.u8 27) 2 3,
            keySlot := bitsOf (d.u8 28) 0 6, nonce := d.u64 36, next := 0, committed := 0, coded := 0, crumbs := 0, dead := none, ord := d.ord }
        .next ((s.setPhase q d.idx .started).updNougat (fun g => { g with jobs := g.jobs ++ [j] }))

/-! ## Dispatch (R117, R126) -/

/-- The first job of a context with a block to dispatch. -/
def State.nextJob (s : State) (k : Nat) : Option StripJob :=
  s.nougat.jobs.find? (fun j => j.ctx == k && j.dead.isNone && decide (j.next < j.blocks))

/-- Lanes that a context holds. -/
def State.lanesOf (s : State) (k : Nat) : Nat := (s.nougat.lanes.filter (fun e => e.2.ctx == k)).length

/-- Whether a context may have another lane. -/
def State.mayDispatch (s : State) (k : Nat) : Bool :=
  (s.nextJob k).isSome && decide (s.lanesOf k < max 1 (min 16 (s.rd (NOUGAT_SCHED_MAX_LANES k))))

/-- One cycle of turns of the contexts that may dispatch: each has as many turns as its weight (R126). -/
def State.turns (s : State) : List Nat :=
  ((List.range 8).filter s.mayDispatch).flatMap (fun k => List.replicate (max 1 (s.rd (NOUGAT_SCHED_WEIGHT k))) k)

/-- Whether a lane is in service and free. -/
def State.laneFree (s : State) (lane : Nat) : Bool :=
  (s.laneBlock lane).isNone && !bitOf (s.rd NOUGAT_LANE_CTL_DISABLE) lane && !bitOf (s.rd NOUGAT_LANE_STAT_FENCED) lane

/-- NOUGAT_DISPATCH: a free lane takes the next block of the context whose turn it is. -/
def execNougatDispatch (lane : Fin 16) (s : State) : Host.Outcome State Fault Refusal :=
  let turns := s.turns
  if !s.on NOUGAT_CTL_EN || !s.laneFree lane.val then .next s
  else
    match turns[s.nougat.rrTurn % max 1 turns.length]? with
    | none => .next s
    | some k =>
      match s.nextJob k with
      | none => .next s
      | some j =>
        let l : LaneBlock := ⟨k, j.ring, j.idx, j.next, s.nougat.sent, false, none⟩
        .next ((s.updJob l (fun j => { j with next := j.next + 1 })).updNougat (fun g =>
          { g with lanes := Store.ins g.lanes lane.val l, sent := g.sent + 1, rrTurn := g.rrTurn + 1 }))

/-! ## Coding (R118 to R122) -/

/-- Count a Crumb of a lane, and take the lane out of service at CRUMB_FENCE consecutive ones (R121). -/
def State.noteCrumb (s : State) (lane : Nat) (crumb : Bool) : State :=
  if !crumb then s.updNougat (fun g => { g with crumbRun := Store.put 0 g.crumbRun lane 0 })
  else
    let run := Store.get 0 s.nougat.crumbRun lane + 1
    let s := (s.report srcNougatCrumb lane 1 initLane lane accNone 0).bump NOUGAT_STAT_CRUMB
    let s := s.updNougat (fun g => { g with crumbRun := Store.put 0 g.crumbRun lane run })
    let lim := s.rd NOUGAT_CTL_CRUMB_FENCE
    if lim ≠ 0 ∧ lim ≤ run ∧ !bitOf (s.rd NOUGAT_LANE_STAT_FENCED) lane then
      (s.wrBit NOUGAT_LANE_STAT_FENCED lane true).report srcNougatLane lane 2 initLane lane accNone 0
    else s

/-- The block in memory of raw data: coded, or stored when the coder failed or did not help; sealed under a key (R98, R119, R120). -/
def StripJob.block (j : StripJob) (i : Nat) (raw coded key : List Byte) (crumb : Bool) : List Byte :=
  let stored := crumb || decide (raw.length < coded.length)
  let payload := if stored then raw else coded
  let first := j.firstLine + i * j.lb
  let h := kbcHeader stored j.encrypt raw.length payload.length j.strip (j.blockLines i) first (crc32 raw)
  h ++ (if j.encrypt then gcmSeal key (blkIv j.nonce j.strip (first / j.lb)) h payload else payload)

/-- A lane's block is coded and sealed: it waits to be committed. -/
def State.laneCoded (s : State) (lane : Nat) (l : LaneBlock) (j : StripJob) (raw : List Byte) (mismatch : Bool) : State :=
  let coded := lzwEncode raw
  let s := s.noteCrumb lane mismatch
  let s := if !mismatch && decide (raw.length < coded.length) then s.bump NOUGAT_STAT_STORED else s
  let s := if mismatch then s.updJob l (fun j => { j with crumbs := j.crumbs + 1 }) else s
  let key := if s.on (VAULT_SLOT_STAT_VALID j.keySlot) then Store.get [] s.keys j.keySlot else []
  if j.encrypt && key.isEmpty then (s.dropBlock lane l stAborted).checkFull l.ctx
  else
    let bs := j.block l.i raw coded key mismatch
    (s.updNougat (fun g => { g with lanes := Store.ins g.lanes lane { l with coded := some bs } })).checkFull l.ctx

/-- NOUGAT_BLOCK_CODED: a lane reads, codes, verifies and seals its block. An uncorrectable error of a staging buffer is met while it does so, or
while the coded block waits in its lane (R122). -/
def execNougatBlockCoded (lane : Fin 16) (result : ReadResult) (mismatch eccErr : Bool) (s : State) : Host.Outcome State Fault Refusal :=
  let lane := lane.val
  match s.laneBlock lane with
  | none => .next s
  | some l =>
    match s.jobOf l with
    | none => .next s
    | some j =>
      let addr := j.src + l.i * j.lb * lineBytes j.depth
      if eccErr then .next (((s.report srcNougatEcc lane 2 initLane lane accNone 0).dropBlock lane l stDmaErr).checkFull l.ctx)
      else if l.coded.isSome || !s.readEnds j.ctx addr result then .next s
      else
        match s.dmaRead initLane lane addr (j.blockLines l.i * lineBytes j.depth) result with
        | (s, none) =>
          if l.retried then .next (((s.report srcNougatDma lane 2 initLane lane accDmaRead addr).dropBlock lane l stDmaErr).checkFull l.ctx)
          else .next (s.updNougat (fun g => { g with lanes := Store.ins g.lanes lane { l with retried := true } }))
        | (s, some raw) => .next (s.laneCoded lane l j raw mismatch)

/-! ## Commit (R123, R124) -/

/-- NOUGAT_COMMIT: the next block of a context in dispatch order is written, and its entry made valid; while it does not fit it waits. -/
def execNougatCommit (k : CtxId) (s : State) : Host.Outcome State Fault Refusal := .next (s.commitNext k.val)

/-! ## Registers with a row of their own -/

/-- Whether a new TAIL releases units that are in use only: it does not pass HEAD (R125). -/
def State.tailOk (s : State) (k v : Nat) : Bool :=
  let head := s.rd (NOUGAT_ARENA_HEAD k)
  let tail := s.rd (NOUGAT_ARENA_TAIL k)
  if tail ≤ head then decide (tail ≤ v ∧ v ≤ head) else decide ((tail ≤ v ∧ v ≤ s.arenaUnits k) ∨ v ≤ head)

/-- The effect of a write of ARENA[k].TAIL (R125). -/
def State.writeTail (s : State) (who : Sender) (k v : Nat) : State :=
  let f := NOUGAT_ARENA_TAIL k
  if s.tailOk k v then (s.wr f v).checkFull k else s.hostXs who xsValue f.addr true

/-- ARENA_TAIL: a write of ARENA[k].TAIL (R125). -/
def execArenaTail (who : Sender) (k : CtxId) (value : BitVec 28) (s : State) : Host.Outcome State Fault Refusal :=
  .next (s.gatedWrite who (NOUGAT_ARENA_TAIL k.val) value.toNat (fun s => s.writeTail who k.val value.toNat))

/-- The lanes that a mask names return to service (R121). The count of consecutive Crumbs of a lane named, fenced or not, starts again (DESIGN CHOICE,
notes/assumptions/75). -/
def State.restoreLanes (s : State) (mask : Nat) : State :=
  (List.range 16).foldl (fun s i =>
    if bitOf mask i then
      (s.wrBit NOUGAT_LANE_STAT_FENCED i false).updNougat (fun g => { g with crumbRun := Store.put 0 g.crumbRun i 0 })
    else s) s

/-- NOUGAT_LANE_RESTORE: a write of LANE_CTL.RESTORE. -/
def execNougatLaneRestore (who : Sender) (mask : BitVec 16) (s : State) : Host.Outcome State Fault Refusal :=
  .next (s.gatedWrite who NOUGAT_LANE_CTL_RESTORE mask.toNat (fun s => s.restoreLanes mask.toNat))

end Sys2Proof.Machine
end

