-- ==== Sys2Proof/Machine/NozzleHealth.lean ====
section
/-!
DEFINITION. The analyser and the compensation policy (spec/15): measuring a ladder, verdicts, scores and states, the results record,
and the commands of the policy.
-/
namespace Sys2Proof.Machine

open Sys2Proof

/-! ## What the frame store shows of a ladder (R409) -/

/-- A frame line: its place along the ladder in wu, the mean line pitch of its frame, and its plane values. -/
structure SeenLine where
  at'   : Rat
  pitch : Rat
  px    : List Nat

/-- Sum of rational numbers. -/
def sumRat (xs : List Rat) : Rat := xs.foldl (fun a b => a + b) 0
/-- Distance of two rational numbers. -/
def distRat (a b : Rat) : Rat := if a ≤ b then b - a else a - b
/-- The loss of a value below a level, not less than 0. -/
def lossRat (w v : Rat) : Rat := if v ≤ w then w - v else 0

/-- The frame lines in store of the frames that a ladder touches. A line's position is the one stored, or is interpolated between those
of the first and last lines. -/
def State.ladderLines (s : State) (l : LadderRec) : List SeenLine :=
  ((s.pipe l.pipe).planes.filter (fun pl => l.frames.contains pl.hdr.num)).flatMap (fun pl =>
    let a : Rat := s.ladderPos l pl.hdr.posFirst
    let b : Rat := s.ladderPos l pl.hdr.posLast
    let n : Rat := ((max 1 (pl.rows.length - 1) : Nat) : Rat)
    pl.rows.zipIdx.map (fun r =>
      ⟨match pl.pos[r.2]? with | some x => ((s.ladderPos l x : Int) : Rat) | none => a + (r.2 : Rat) * (b - a) / n,
       distRat a b / n, r.1⟩))

/-- The lines of a band of ladder lines `a` to `b`, less EDGE lines at each end. -/
def State.bandLines (s : State) (l : LadderRec) (xs : List SeenLine) (a b : Nat) : List SeenLine :=
  let half : Rat := ((l.pitch : Int) : Rat) / 8589934592
  let lo := (2 * (a : Rat) - 1) * half
  let hi := (2 * (b : Rat) + 1) * half
  let e := s.rd (INSP_NH_CFG_EDGE l.pipe)
  let band := xs.filter (fun x => decide (lo ≤ x.at' ∧ x.at' ≤ hi))
  (band.drop e).take (band.length - 2 * e)

/-- Lines of a rung (R405). -/
def LadderRec.rungLines (l : LadderRec) : Nat := (l.lines - l.blank) / max 1 l.run.step

/-- The nozzles of a ladder in its cell. -/
def State.ladderNozzles (s : State) (l : LadderRec) : List Nat :=
  (List.range (s.rd (CELL_GEOM_NOZZLES l.cell))).filter (fun k => decide (l.run.first ≤ k ∧ k < l.run.first + l.run.count))

/-- The slot through which a nozzle is seen (R408). -/
def State.seenSlot (s : State) (l : LadderRec) (k : Nat) : Option Nat :=
  [0, 1].find? (fun j => s.slotActive l.cell l.src j &&
    decide (s.rd (CELL_NH_SLOT_NZ_FIRST l.cell j) ≤ k ∧ k ≤ s.rd (CELL_NH_SLOT_NZ_LAST l.cell j)))

/-- The nozzles that the pipeline sees, with their slots. -/
def State.seenNozzles (s : State) (l : LadderRec) : List (Nat × Nat) :=
  (s.ladderNozzles l).filterMap (fun k =>
    (s.seenSlot l k).bind (fun j => if s.rd (CELL_NH_SLOT_PIPE l.cell j) = l.pipe then some (k, j) else none))

/-- Whether a nozzle fires in a ladder (R405). -/
def State.ladderFires (s : State) (l : LadderRec) (k : Nat) : Bool :=
  let n := l.cell
  let noz := if s.ganged n then 4096 else s.rd (CELL_GEOM_NOZZLES n)
  let row := nozzleRow noz (s.jetRows n) (s.on (CELL_GEOM_LAYOUT n)) ((if s.follower n then 2048 else 0) + k)
  decide (l.run.pattern ≤ 1) && bitOf l.run.rows row && bitOf l.rowsEn row

/-! ## Measures (R410, R411) -/

/-- Where a nozzle is expected, in 2⁻²⁴ pixel, before the shift. -/
def State.expectedAt (s : State) (l : LadderRec) (k j : Nat) : Int :=
  s.rdS (CELL_NH_SLOT_X0 l.cell j) * 256 + k * s.rdS (CELL_NH_SLOT_DXN l.cell j)

/-- Sum of each column over lines. -/
def columnSums (w : Nat) (xs : List SeenLine) : List Nat :=
  (List.range w).map (fun x => (xs.map (fun r => r.px.getD x 0)).sum)

/-- The shift of highest correlation, in 1/16 pixel, within the search (R410). -/
def State.ladderShift (s : State) (l : LadderRec) (blank : List SeenLine) (rungs : List (List SeenLine)) (seen : List (Nat × Nat)) :
    Int :=
  let w := s.rd (INSP_GEOM_WIDTH l.pipe)
  let n := max 1 (s.rd (INSP_NH_CFG_SEARCH l.pipe))
  let fires := seen.filter (fun e => s.ladderFires l e.1)
  clampInt (-(n : Int)) n (Config.bestShift ((blank :: rungs).map (columnSums w))
    ((List.range rungs.length).map (fun j =>
      (fires.filter (fun e => (e.1 - l.run.first) % max 1 l.run.step == j)).map (fun e => s.expectedAt l e.1 e.2))) n)

/-- What is measured of a nozzle: A, the darkness of each line of its rung, and where the centroid lies from where it is expected, in
nozzle pitches. None stands for a value that nothing gives. -/
structure Measure where
  nozzle : Nat
  dens   : Option Rat
  dark   : List Rat
  dev    : Option Rat

/-- Measure a nozzle that fires (R411). -/
def State.measure (s : State) (l : LadderRec) (blank rung : List SeenLine) (shift : Int) (k j : Nat) : Measure :=
  let dxn : Rat := ((s.rdS (CELL_NH_SLOT_DXN l.cell j)).natAbs : Rat) / 16777216
  let xn : Rat := ((s.expectedAt l k j : Int) : Rat) / 16777216 + (shift : Rat) / 16
  let cols : List Nat := (List.range (s.rd (INSP_GEOM_WIDTH l.pipe))).filter (fun (x : Nat) => decide (distRat (x : Rat) xn ≤ (l.run.step : Rat) * dxn / 2))
  if cols.isEmpty || blank.isEmpty || rung.isEmpty then ⟨k, none, [], none⟩
  else
    let px (r : SeenLine) (x : Nat) : Rat := (r.px.getD x 0 : Nat)
    let white := sumRat (blank.flatMap (fun r => cols.map (px r))) / ((cols.length * blank.length : Nat) : Rat)
    let dark := rung.map (fun r => sumRat (cols.map (fun x => lossRat white (px r x))))
    let mass := sumRat dark
    let moment := sumRat (rung.flatMap (fun r => cols.map (fun (x : Nat) => (x : Rat) * lossRat white (px r x))))
    ⟨k, some (mass / (rung.length : Rat)), dark,
     if mass = 0 ∨ dxn = 0 then none else some ((moment / mass - xn) / dxn)⟩

/-- Whether a line of a rung counts for continuity: in LADDER_HALF, only one that holds a ladder line that fires, an even one. -/
def LadderRec.counts (l : LadderRec) (x : SeenLine) : Bool :=
  let pitch : Rat := ((l.pitch : Int) : Rat) / 4294967296
  l.run.pattern != 1 || (List.range l.lines).any (fun k => k % 2 == 0 &&
    decide ((k : Rat) * pitch - x.pitch / 2 ≤ x.at' ∧ x.at' < (k : Rat) * pitch + x.pitch / 2))

/-- Insert into a sorted list. -/
def insertRat (v : Rat) : List Rat → List Rat
  | [] => [v]
  | x :: xs => if v ≤ x then v :: x :: xs else x :: insertRat v xs

/-- The median: the middle value, or the mean of the two middle ones. -/
def median (xs : List Rat) : Option Rat :=
  let ys := xs.foldr insertRat []
  if ys.isEmpty then none else some ((ys.getD ((ys.length - 1) / 2) 0 + ys.getD (ys.length / 2) 0) / 2)

/-- A quotient of two measures; none where the spec gives no value. -/
def relative (a b : Option Rat) : Option Rat :=
  match a, b with
  | some x, some y => if y = 0 then none else some (x / y)
  | _, _ => none

/-- A measure as a number of units, rounded one way or the other, or a free value. -/
def State.unitsOf (s : State) (scale : Nat) (x : Option Rat) : Int :=
  match x with
  | some r => openDiv (r.num * scale) r.den
  | none => (s.free % 65536 : Nat)

/-! ## Verdicts, scores, states (R412 to R414) -/

/-- The measures of a nozzle as the record and the verdict take them: a in 2⁻¹² and c in 2⁻⁸ with dev in 1/64 pitch beside them. -/
structure Judged where
  a    : Rat
  c    : Rat
  dev  : Rat

/-- The verdict of a scored nozzle (R413). -/
def State.verdict (s : State) (p : Nat) (m : Judged) : Nat :=
  if m.a < (s.rd (INSP_NH_THR_MISS_A p) : Rat) / 256 then 4
  else if m.a < (s.rd (INSP_NH_THR_WEAK_A p) : Rat) / 256 ∨ m.c < (s.rd (INSP_NH_THR_WEAK_C p) : Rat) / 256 then 3
  else if (s.rd (INSP_NH_THR_DEV_MAX p) : Rat) / 64 < distRat m.dev 0 then 2
  else 1

/-- The score after a verdict, limited to 0 to 15 (R413, R414). -/
def State.newScore (s : State) (p v score : Nat) : Nat :=
  if v = 4 then min 15 (score + s.rd (INSP_NH_SCORE_INC_MISS p))
  else if v = 3 then min 15 (score + s.rd (INSP_NH_SCORE_INC_WEAK p))
  else if v = 2 then min 15 (score + s.rd (INSP_NH_SCORE_INC_DEV p))
  else score - s.rd (INSP_NH_SCORE_DEC p)

/-- The state that follows from a score (R414). -/
def State.newState (s : State) (p state score : Nat) : Nat :=
  let outAt := max 1 (s.rd (INSP_NH_SCORE_OUT_AT p))
  if outAt ≤ score then nzOut
  else if state = nzOut then (if score ≤ min (s.rd (INSP_NH_SCORE_CLEAR_AT p)) (outAt - 1) then nzOk else nzOut)
  else if score < min (s.rd (INSP_NH_SCORE_SUSPECT_AT p)) outAt then nzOk
  else nzSuspect

/-- Give a nozzle its verdict; a change of state ends a veto (R414, R423). -/
def State.scoreNozzle (s : State) (p n k v : Nat) : State :=
  s.updCell n (fun c =>
    let z := c.nozzle k
    if v = 0 then c.setNozzle k { z with verdict := 0 }
    else
      let score := s.newScore p v z.score
      let st := s.newState p z.state score
      c.setNozzle k ⟨score, st, v, z.vetoed && st == z.state⟩)

/-! ## The analysis of one ladder (R410 to R417) -/

/-- What the analyser makes of a ladder: its flags, its shift, Ā, and the measures and verdict of each nozzle it sees. -/
structure Analysis where
  flags   : Nat
  shift   : Int
  mean    : Option Rat
  nozzles : List (Nat × Judged × Nat)

/-- Analyse a ladder against the frame store. -/
def State.analyse (s : State) (l : LadderRec) : Analysis :=
  let p := l.pipe
  let seen := s.seenNozzles l
  let step := l.run.step
  let r := l.rungLines
  let lines := s.ladderLines l
  let blank := s.bandLines l lines 0 (l.blank - 1)
  let rungs := (List.range step).map (fun j => s.bandLines l lines (l.blank + j * r) (l.blank + (j + 1) * r - 1))
  let small := seen.any (fun e => decide (step * (s.rdS (CELL_NH_SLOT_DXN l.cell e.2)).natAbs < 3 * 16777216))
  let short := blank.isEmpty || rungs.any List.isEmpty
  let fl (b : Bool) (f fs : Nat) : Nat := if b then orFlag fs f else fs
  let flags := fl (decide (2 ≤ l.run.pattern)) 256 (fl small 32 l.flags)
  let open' : Rat := (s.free % 65536 : Nat)
  let none' : List (Nat × Judged × Nat) := seen.map (fun e => (e.1, ⟨open' / 4096, open' / 256, open' / 64⟩, 0))
  let off := s.rd (CELL_NH_CTL_MODE l.cell) == 0
  if off || decide (2 ≤ l.run.pattern) || l.frames.isEmpty || bitOf l.flags 7 then ⟨flags, s.free, none, none'⟩
  else if short then ⟨orFlag flags 64, s.free, none, none'⟩
  else
    let shift := s.ladderShift l blank rungs seen
    let search := max 1 (s.rd (INSP_NH_CFG_SEARCH p))
    let rungOf (k : Nat) : List SeenLine := rungs.getD ((k - l.run.first) % max 1 step) []
    let ms := (seen.filter (fun e => s.ladderFires l e.1)).map (fun e => s.measure l blank (rungOf e.1) shift e.1 e.2)
    let mean := median (ms.filterMap (·.dens))
    let low := match mean with | some a => decide (a < (s.rd (INSP_NH_CFG_CONTRAST_MIN p) : Rat) / 16) | none => false
    let flags := fl (decide (shift.natAbs = search)) 4 (fl low 2 flags)
    let judge (m : Measure) : Judged :=
      let on := (m.dark.zip (rungOf m.nozzle)).filter (fun e => l.counts e.2)
      let high := on.filter (fun e => match mean with | some a => decide (a / 2 ≤ e.1) | none => false)
      { a := (relative m.dens mean).getD (open' / 4096)
        c := if on.isEmpty || mean.isNone then open' / 256 else (high.length : Rat) / (on.length : Rat)
        dev := m.dev.getD (open' / 64) }
    let entry (e : Nat × Nat) : Nat × Judged × Nat :=
      match ms.find? (fun m => m.nozzle == e.1) with
      | some m => (e.1, judge m, if flags = 0 then s.verdict p (judge m) else 0)
      | none => (e.1, ⟨open' / 4096, open' / 256, open' / 64⟩, 0)
    ⟨flags, shift, mean, seen.map entry⟩

/-- A header of free values, for a ladder that no frame touched. -/
def State.freeHdr (s : State) : FrameHdr :=
  let f := s.free
  ⟨f, f, f, f, f, f, f, f, f, f, true⟩

/-- An entry of the results body (R417). -/
def State.entryBytes (s : State) (n : Nat) (e : Nat × Judged × Nat) : List Byte :=
  let z := (s.cell n).nozzle e.1
  let u (scale : Nat) (x : Rat) : Int := s.unitsOf scale (some x)
  leBytes 2 (e.1 % 2048) ++ leBytes 1 e.2.2 ++ leBytes 1 (z.score + 16 * s.nzState n e.1) ++
  leBytes 2 (clampInt 0 65535 (u 4096 e.2.1.a)).toNat ++ leBytes 1 (toBits 8 (satInt 8 (u 64 e.2.1.dev))) ++
  leBytes 1 (clampInt 0 255 (u 256 e.2.1.c)).toNat

/-- The results record of a ladder (R396, R417), which needs a BUF when its frame starts and when it is written. -/
def State.putResults (s : State) (l : LadderRec) (a : Analysis) (seq : Nat) : State :=
  let p := l.pipe
  let q := 129 + 4 * p
  let h := l.hdr.getD s.freeHdr
  let buf := if h.resBuf then s.firstBuf q else none
  let contrast := match a.mean with
    | some x => (let v := s.unitsOf 16 (some x); if v < 65536 then v.toNat else s.free)
    | none => s.free
  let body := leBytes 1 l.cell ++ leBytes 1 l.run.pattern ++ leBytes 2 a.flags ++ leBytes 2 l.tagId ++ leBytes 1 l.run.step ++
    leBytes 1 l.run.rows ++ leBytes 2 l.run.first ++ leBytes 2 l.run.count ++ leBytes 2 a.nozzles.length ++ leBytes 2 seq ++
    leBytes 8 (toBits 64 l.q0) ++ leBytes 4 (toBits 32 a.shift) ++ leBytes 2 contrast ++ leBytes 2 0 ++
    a.nozzles.flatMap (s.entryBytes l.cell)
  match s.bufLen q buf with
  | none => s.bump (INSP_CNT_BUF_NOBUF_RES p)
  | some len =>
    let h : FrameHdr := if len < 64 + body.length then { h with flags := orFlag h.flags 64 } else h
    s.putRecord p q buf h (headerBytes p (s.rd (INSP_GEOM_WIDTH p)) h 3 0 3 body.length ++ body)

/-- A slot's X0 follows the shift (R410). -/
def State.trackSlot (s : State) (l : LadderRec) (shift : Int) (j : Nat) : State :=
  if s.on (CELL_NH_SLOT_TRACK l.cell j) then s.wrS (CELL_NH_SLOT_X0 l.cell j) (s.rdS (CELL_NH_SLOT_X0 l.cell j) + shift * 1024) else s

/-- A ladder that yields no verdicts is counted and reported (R412, R425, R426). -/
def State.noVerdicts (s : State) (l : LadderRec) (flags : Nat) : State :=
  if flags = 0 then s
  else
    let p := l.pipe
    let s := (s.bump (INSP_NH_CNT_NOVERDICT p)).report srcNhLadder p 0 initPipe p accNone l.tagId
    let s := if bitOf flags 2 then s.report srcNhReg p 1 initPipe p accNone l.cell else s
    s.nhEvent l.cell 5 l.tagId flags

/-- Analyse the oldest ladder that is ready: scores and states, the update they call for, the results record, tracking, and the slots
that it held (R414 to R418). -/
def State.analyseLadder (s : State) (l : LadderRec) : State :=
  let p := l.pipe
  let n := l.cell
  let a := s.analyse l
  let measured := a.mean.isSome && !bitOf a.flags 2
  let s1 := a.nozzles.foldl (fun s e => s.scoreNozzle p n e.1 e.2.2) s
  let moved := a.nozzles.any (fun e => (s.nzState n e.1 == nzOut) != (s1.nzState n e.1 == nzOut))
  let s2 := if moved then s1.nhUpdate n else s1
  let seq := if (s2.cell n).nhSeq = (s.cell n).nhSeq then 0 else (s2.cell n).nhSeq
  let s3 := (s2.putResults l a seq).noVerdicts l a.flags
  let s4 := if measured then
      ((s.seenNozzles l).map (·.2)).eraseDups.foldl (fun s j => s.trackSlot l a.shift j) s3
    else s3
  let s5 := { s4 with ladders := s4.ladders.erase l }
  let s6 := if l.counted then s5.wr (INSP_NH_STAT_PENDING p) (s5.rd (INSP_NH_STAT_PENDING p) - 1) else s5
  ((s6.bumpMod (INSP_NH_STAT_ANALYSED p)).freeSlots p).draw

/-- LADDER_ANALYSED: the oldest ladder of a pipeline that can be analysed is analysed (R416). -/
def execLadderAnalysed (p : PipeId) (s : State) : Host.Outcome State Fault Refusal :=
  match s.ladders.find? (fun l => l.pipe == p.val && l.ready) with
  | none => .next s
  | some l => .next (s.analyseLadder l)

/-! ## The policy's commands (R418, R420, R422, R423) -/

/-- NH_APPLY: a write of NH_CTL.APPLY (R418). -/
def execNhApply (who : Sender) (n : CellId) (s : State) : Host.Outcome State Fault Refusal :=
  .next (s.gatedWrite who (CELL_NH_CTL_APPLY n.val) 1 (fun s => s.nhUpdate n.val))

/-- The effect of NH_CTL.CLEAR: unpinned nozzles go to UNSEEN with score 0, no nozzle is VETOED, and the compensation in force is undone
by an update (R414, R420, R423). -/
def State.nhClear (s : State) (n : Nat) : State :=
  let wipe (e : Nat × Noz) : Option (Nat × Noz) :=
    if s.rd (CELL_NH_PIN n e.1) = 0 then none
    else
      let z : Noz := { e.2 with vetoed := false }
      if z = Noz.reset then none else some (e.1, z)
  (s.updCell n (fun c => { c with noz := c.noz.filterMap wipe, nhBlind := false })).nhUpdate n

/-- NH_CLEAR: a write of NH_CTL.CLEAR. -/
def execNhClear (who : Sender) (n : CellId) (s : State) : Host.Outcome State Fault Refusal :=
  .next (s.gatedWrite who (CELL_NH_CTL_CLEAR n.val) 1 (fun s => s.nhClear n.val))

/-- VETO_HOLD_EXPIRY: the hold of the first update that is held ends (R423). -/
def execVetoHoldExpiry (n : CellId) (s : State) : Host.Outcome State Fault Refusal :=
  let n := n.val
  match (s.cell n).nhQ.find? (·.held) with
  | none => .next s
  | some u =>
    .next ((s.updCell n (fun c => { c with nhQ := c.nhQ.map (fun v => if v.seq = u.seq then { v with held := false } else v) })).queuePolicy n)

/-- The effect of a write of NH_VETO: the named update is discarded while its hold runs (R423). -/
def State.nhVeto (s : State) (n value : Nat) : State :=
  match (s.cell n).nhQ.find? (fun u => u.held && u.seq == value) with
  | none => s
  | some u =>
    let veto (c : Cell) (k : Nat) : Cell := c.setNozzle k { c.nozzle k with vetoed := true }
    let s := s.updCell n (fun c => u.cover.foldl veto { c with nhQ := c.nhQ.filter (fun v => v.seq != u.seq) })
    ((s.wr (CELL_NH_STAT_SKIP_CAUSE n) 4).nhEvent n 3 u.seq 4).queuePolicy n

/-- NH_VETO: a write of NH_VETO. -/
def execNhVeto (who : Sender) (n : CellId) (value : BitVec 16) (s : State) : Host.Outcome State Fault Refusal :=
  .next (s.gatedWrite who (CELL_NH_VETO_VETO n.val) value.toNat (fun s => s.nhVeto n.val value.toNat))

/-- POLICY_WRITE: the policy is the first writer that waits, takes the lock of a READY background and writes its update's entries
(R422). `ecc`: a corrected or an uncorrectable error in the entries it keeps; after an uncorrectable one nothing is kept, every nozzle is
UNSEEN, and no update is formed until CLEAR (R426). -/
def execPolicyWrite (n : CellId) (ecc : Option Bool) (s : State) : Host.Outcome State Fault Refusal :=
  let n := n.val
  let c := s.cell n
  match c.bgWait, c.nhQ with
  | .policy :: rest, u :: _ =>
    if s.rd (CELL_BANK_STAT_BG_STATE n) == bgReady && !u.held then
      let s := match ecc with
        | some uncorr => s.report srcNhEcc n (if uncorr then 2 else 1) initCell n accNone n
        | none => s
      if ecc = some true then
        .next (s.updCell n (fun c => { c with bgWait := rest, nhQ := [], kept := [], noz := [], nhBlind := true }))
      else
        .next (((s.updCell n (fun c => { c with bgWait := rest })).wr (CELL_BANK_STAT_BG_STATE n) bgPolicy).writeUpdate n u)
    else .next s
  | _, _ => .next s

/-- POLICY_WRITE_DONE: the policy releases the lock and requests a swap (R422). -/
def execPolicyWriteDone (n : CellId) (s : State) : Host.Outcome State Fault Refusal :=
  let n := n.val
  match s.rd (CELL_BANK_STAT_BG_STATE n) == bgPolicy, (s.cell n).nhQ with
  | true, u :: us =>
    .next ((((s.updCell n (fun c => { c with nhQ := us, nhSwap := c.nhSwap ++ [u.seq] })).wr (CELL_BANK_STAT_BG_STATE n) bgReady).requestSwap
      n).queuePolicy n)
  | _, _ => .next s

end Sys2Proof.Machine
end

