-- ==== Sys2Proof/Machine/StartOps.lean ====
section
/-!
DEFINITION. Start-up and reset (spec/20): the sequencer's start, what a reset keeps, the device reset, the checks of an image (spec/17 R452),
and the levels of the output balls (R544).
-/
namespace Sys2Proof.Machine

open Sys2Proof

/-! ## The sequencer's start (spec/19 R519, R520) -/

/-- The steps of a table whose header and CRC are right. -/
def parseTable (bs : List Byte) : Option (List SeqStep) :=
  let n := byteAt bs 3
  let body := (bs.drop 16).take (8 * n)
  if leAt bs 0 2 == 0x5351 && byteAt bs 2 == 1 && decide (1 ≤ n ∧ n ≤ 16) && body.length == 8 * n && crc32 body == leAt bs 4 4 then
    some ((List.range n).map (fun i =>
      ⟨byteAt body (8 * i) % 2, byteAt body (8 * i + 1) % 128, byteAt body (8 * i + 2), byteAt body (8 * i + 3), leAt body (8 * i + 4) 2,
        leAt body (8 * i + 6) 2⟩))
  else none

/-- The sequence starts with the steps of a table, and its first step runs; an invalid table runs none (R520, R527). -/
def State.startSteps (s : State) (table : Option (List SeqStep)) : State :=
  if s.coop.failed then s
  else
    let s := s.clearAll [COOP_SUP_STAT_SEQ_DONE, GLOBAL_READY_SEQ, COOP_SEQ_STAT_STEP, COOP_SEQ_STAT_ERR]
    match table with
    | none =>
      (((s.updCoop (fun c => { c with steps := [], done := [], down := false })).wr COOP_SEQ_STAT_STATE 3).wr COOP_SEQ_STAT_ERR 0x1F).supplyFault
        3 0xFF
    | some ps => ((s.updCoop (fun c => { c with steps := ps, done := [], down := false })).wr COOP_SEQ_STAT_STATE 1).seqRun 0

/-- The table is read and checked, and the sequence starts. -/
def State.startSequence (s : State) (table : List Byte) : State := s.startSteps (parseTable table)

/-- The steps of the table as it was last read; none when it was invalid. -/
def State.lastTable (s : State) : Option (List SeqStep) := if s.coop.steps.isEmpty then none else some s.coop.steps

/-! ## What a reset keeps (R541, R545) -/

/-- Addresses of the registers that AON or a retention cell keeps over every reset but the power cycle: RST_CAUSE and the retained counters
of the Ledger. -/
def retained (a : Nat) : Bool :=
  a == 0x14 || decide (0x50020 ≤ a ∧ a < 0x50028) || decide (0x51000 ≤ a ∧ a < 0x58A00)

/-- Addresses of the Coop's registers that a device reset keeps: supplies, PMBus state, sequencer state and temperatures (R541, R545). -/
def coopKept (a : Nat) : Bool :=
  decide (0x30000 ≤ a ∧ a < 0x30090) || a == 0x30130 || a == 0x30184 || decide (0x30240 ≤ a ∧ a < 0x30280)

/-- Single fields kept: LATCH4 (R525), the tamper cause (spec/17 R475) with the block of the identity key (spec/21 R552), and the levels of the balls HPn_PERST_N, which the board drives
(spec/02 R39). -/
def keptFields : List Fld := [GOOSE_STATUS_LATCH4, VAULT_STAT_TAMPER, LEDGER_STAT_SIGN_BLOCKED, HOST_PORT_PERST 0, HOST_PORT_PERST 1]

/-- Single fields that a device reset keeps beside those: the start-up stages that stand, and the lock of the root PLL. -/
def stageFields : List Fld := [GLOBAL_READY_SEQ, GLOBAL_READY_PLL]

/-- Keep the registers that satisfy a test. -/
def keepRegs (p : Nat → Bool) (rs : List (Nat × Nat)) : List (Nat × Nat) := rs.filter (fun e => p e.1)

/-- A state after a reset that keeps some registers: OTP, the fused part, the pins' levels and what the model records beside the machine stay. -/
def State.fresh (s : State) (regs : List (Nat × Nat)) : State :=
  let s' : State := { State.reset with
    pending := s.pending, part := s.part, drawn := s.drawn, out := s.out, otp := s.otp, regs := regs,
    stopFireN := s.stopFireN, stopFireLatch := s.stopFireLatch }
  s'.showOtp.newChallenge

/-- The Coop stores a safe state's cause and LATCH4 (R541). -/
def State.storeCause (s : State) : State :=
  let latch := s.on GOOSE_STATUS_LATCH4
  let s := s.wrB GLOBAL_RST_CAUSE_LATCH4 latch
  if s.on GOOSE_STATUS_SAFE then
    (s.wr GLOBAL_RST_CAUSE_SAFE_SRC (s.rd GOOSE_STATUS_CAUSE_SRC)).wr GLOBAL_RST_CAUSE_SAFE_CLASS (s.rd GOOSE_STATUS_CAUSE_CLASS)
  else if latch then s
  else (s.wr GLOBAL_RST_CAUSE_SAFE_SRC 0).wr GLOBAL_RST_CAUSE_SAFE_CLASS 0

/-- A device reset (R539, R541, R545): the core reset is asserted and every block on VDD_CORE resets; the Coop, its supplies and the root PLL
go on, and the sequence runs again when rails 0 to 6 are not all in range; one that runs completes (spec/20 coinciding events). Device time restarts from 0. -/
def State.deviceReset (s : State) (cause : Nat) (table : Option (List SeqStep)) : State :=
  let s := (s.storeCause).wr GLOBAL_RST_CAUSE_CAUSE cause
  let keep (k : Nat) : Bool := retained (k / 32) || coopKept (k / 32) || (keptFields ++ stageFields).any (fun f => f.key == k)
  let c := s.coop
  let t := s.fresh (keepRegs keep s.regs)
  let c' : Coop := { c with coreReset := true, hold := true, warned := false, tripped := false, outlier := [], disc := [] }
  let t : State := { t with bscan := s.bscan, coop := c' }
  let t := c.discGated.foldl (fun t n => t.wrMaskBit COOP_GATE_LO COOP_GATE_HI n true) t
  let t := t.wrB TIME_STAT_RUNNING (t.on GLOBAL_READY_PLL)
  if bitsOf (t.rd COOP_SUP_STAT_IN_RANGE) 0 7 == 127 || (s.rd COOP_SEQ_STAT_STATE == 1 && !c.down) then t else t.startSteps table

/-- The Coop falls into its own reset (R525): the cores are held, LATCH4 and its cause stay, and the AON counters. -/
def State.coopReset (s : State) : State :=
  let s := s.storeCause
  let keep (k : Nat) : Bool := retained (k / 32) || keptFields.any (fun f => f.key == k)
  { s.fresh (keepRegs keep s.regs) with bscan := s.bscan }

/-- The power cycle: everything resets but OTP (R487, R525); the latch of STOP_FIRE_N is set again, as when power is first applied (DESIGN CHOICE,
notes/assumptions/10). -/
def State.powerCycle (s : State) : State := { s.fresh [] with stopFireLatch := true }

/-! ## Images (spec/17 R451, R452) -/

/-- Whether bytes of a header are all 0. -/
def zeros (bs : List Byte) (off n : Nat) : Bool := ((bs.drop off).take n).all (· == 0)

/-- The checks of an image slot in table order: 0 when it is accepted, else the code of BOOT_ERR. -/
def State.imageCheck (s : State) (img : Option Image) : Nat :=
  match img with
  | none => 1
  | some i =>
    let h := i.header
    let len := leAt h 8 4
    let key := byteAt h 3
    let pub := (h.drop 160).take 96
    if leAt h 0 2 ≠ 0x4D49 ∨ byteAt h 2 ≠ 1 ∨ !(zeros h 5 3 && zeros h 24 40 && zeros h 112 48) then 1
    else if len % 4096 ≠ 0 ∨ len < 4096 ∨ 3141632 < len ∨ Config.yokeMemBytes < leAt h 12 4 + len then 2
    else if 3 < key ∨ sha384 pub ≠ Config.signKeyHash key ∨ bitOf s.otp.revoked key then 3
    else if !ecdsaOk pub (sha384 (h.take 256)) ((h.drop 256).take 96) then 4
    else if byteAt h 4 < s.otp.rbCount then 5
    else if sha384 (i.body.take len) ≠ (h.drop 64).take 48 then 6
    else 0

/-- The accepted image runs (R452, R456): what the Vault shows of it. -/
def State.runImage (s : State) (slot : Nat) (h : List Byte) : State :=
  let s := ((s.wr VAULT_STAT_BOOT_SLOT slot).wr VAULT_STAT_KEY_IDX (byteAt h 3)).wr VAULT_STAT_SVN (byteAt h 4)
  (List.range 12).foldl (fun s j => s.wr (VAULT_FW_HASH j) (leAt h (64 + 4 * j) 4)) s

/-! ## Output balls (R526, R531, R544, spec/23 R576) -/

/-- SAFE_N: low in the start-up hold, in core reset and in the safe state. -/
def State.safeN (s : State) : Bool := !s.coop.hold && !s.coop.coreReset && !s.safe
/-- SLOW_REQ: high in the start-up hold and in core reset, then from the governor: the level of its PWM at the time now (spec/07 R205). -/
def State.slowReq (s : State) : Bool :=
  s.coop.hold || s.coop.coreReset || s.safe || s.gov.fromSafe || (s.on GOV_CTL_SLOW_EN && s.slowPwm s.now)
/-- STOP_REQ: high in the start-up hold and in core reset, then from the governor. -/
def State.stopReq (s : State) : Bool := s.coop.hold || s.coop.coreReset || s.safe || s.on GOV_STAT_STOP
/-- RESET_OUT_N: low while the core reset is asserted. -/
def State.resetOutN (s : State) : Bool := !s.coop.coreReset

end Sys2Proof.Machine
end

