-- ==== Sys2Proof/Machine/Startup.lean ====
section
/-!
DEFINITION. The meanings of the commands of start-up and reset (spec/20, spec/17 R452, R453).
-/
namespace Sys2Proof.Machine

open Sys2Proof

/-! ## The Coop and the root clock (R525 to R529) -/

/-- VSAFE_RISE: a feed rises above 2.9 V; the Coop leaves its reset 1 ms later. -/
def execVsafeRise (s : State) : Host.Outcome State Fault Refusal :=
  .next (if s.coop.running then s else s.updCoop (fun c => { c with rising := true }))

/-- COOP_RESET_RELEASE: the Coop leaves its reset, the start-up hold begins, and the sequence starts (R525 to R527). -/
def execCoopResetRelease (table : List Byte) (s : State) : Host.Outcome State Fault Refusal :=
  .next (if s.coop.running || !s.coop.rising then s
    else (s.updCoop (fun c => { c with running := true, rising := false, hold := true })).startSequence table)

/-- VSAFE_LOSS: both feeds fall below 2.5 V. -/
def execVsafeLoss (s : State) : Host.Outcome State Fault Refusal := .next s.coopReset

/-- POWER_CYCLE: both feeds have been below 1.0 V for 10 ms. -/
def execPowerCycle (s : State) : Host.Outcome State Fault Refusal := .next s.powerCycle

/-- PLL_LOCK: the enabled root PLL locks; device time counts, from 0 at the first lock (R528, spec/16 R428). -/
def execPllLock (s : State) : Host.Outcome State Fault Refusal :=
  if !s.coop.pllOn || s.on GLOBAL_READY_PLL then .next s
  else .next (((s.wr GLOBAL_READY_PLL 1).updCoop (fun c => { c with onRc := false })).setTimeStat true (s.on TIME_STAT_SET)).refreshPresent

/-- PLL_LOCK_TIMEOUT: 10 ms after the enable the PLL has not locked (R528). -/
def execPllLockTimeout (present : Bool) (s : State) : Host.Outcome State Fault Refusal :=
  .next (if s.coop.pllOn && !s.on GLOBAL_READY_PLL then
      s.report (if present then srcCoopPll else srcCoopRef) 0 3 initCoop 0 accNone 0
    else s)

/-- CORE_RESET_RELEASE: the conditions of R529 hold: MODE is sampled and the boot ROM starts. With LATCH4 the safe state is entered again
with the retained cause (R541). -/
def execCoreResetRelease (mode : BitVec 2) (s : State) : Host.Outcome State Fault Refusal :=
  if !s.coop.running || !s.coop.coreReset || !s.on GLOBAL_READY_SEQ || !s.on GLOBAL_READY_PLL then .next s
  else
    let s := ((s.updCoop (fun c => { c with coreReset := false })).wr GLOBAL_READY_MODE mode.toNat).wrB GLOBAL_READY_BOOT_FAIL (mode == 2)
    .next (if s.on GOOSE_STATUS_LATCH4 then s.safeEntry (s.rd GLOBAL_RST_CAUSE_SAFE_SRC) 4 else s)

/-! ## Boot (R530, R531, spec/17 R452, R453) -/

/-- Whether the boot ROM runs: the cores are released, not held by FLASH_RELEASE, and no firmware has started or failed to. -/
def State.booting (s : State) : Bool :=
  !s.coop.coreReset && s.rd GLOBAL_READY_MODE != 2 && !s.on GLOBAL_READY_BOOT && !s.on GLOBAL_READY_BOOT_FAIL

/-- BOOT_COMPLETE: the firmware of the first slot accepted starts, and the start-up hold ends. A YOKE_B whose copy does not match stays
held. -/
def execBootComplete (slotA slotB : Option Image) (matchB : Bool) (s : State) : Host.Outcome State Fault Refusal :=
  if !s.booting then .next s
  else
    let ca := s.imageCheck slotA
    let cb := s.imageCheck slotB
    let run (s : State) (slot : Nat) (img : Option Image) : State :=
      let s := s.runImage slot ((img.map (·.header)).getD [])
      let s := (s.wr GLOBAL_READY_BOOT 1).updCoop (fun c => { c with hold := false })
      let s := (s.setRole .a 0).setRole .b (if matchB then 2 else 5)
      s.refreshStop.refreshSlow
    if ca = 0 then .next (run s 1 slotA)
    else if cb = 0 then .next (run (s.wr VAULT_BOOT_ERR_ERR_A ca) 2 slotB)
    else .next s

/-- BOOT_FAIL: neither slot is accepted; both cores stay held and VAULT_BOOT carries both codes. -/
def execBootFail (slotA slotB : Option Image) (s : State) : Host.Outcome State Fault Refusal :=
  let ca := s.imageCheck slotA
  let cb := s.imageCheck slotB
  if !s.booting || ca == 0 || cb == 0 then .next s
  else
    .next ((((s.wr VAULT_BOOT_ERR_ERR_A ca).wr VAULT_BOOT_ERR_ERR_B cb).wr GLOBAL_READY_BOOT_FAIL 1).report srcVaultBoot 0 3 initNone 0 accNone
      (ca + 256 * cb))

/-! ## The firmware stages (R531 to R538) -/

/-- MEM_TRAIN_DONE: LPDDR5 training ends, or its limit passes with a channel untrained (R531, R533). A size that R533 does not list counts as a failed
training (DESIGN CHOICE, notes/assumptions/98). -/
def execMemTrainDone (channels : BitVec 4) (gib : BitVec 5) (s : State) : Host.Outcome State Fault Refusal :=
  if !s.on GLOBAL_READY_BOOT || s.on GLOBAL_READY_MEM_TRAIN || s.on GLOBAL_READY_MEM_FAIL then .next s
  else
    let s := s.wr MEMC_STAT_CH_OK channels.toNat
    if channels == 15 && [4, 8, 16].contains gib.toNat then
      .next ((((s.wr MEMC_STAT_TRAINED 1).wr GLOBAL_READY_MEM_TRAIN 1).wr GLOBAL_MEM_SIZE gib.toNat).wr GLOBAL_MEM_SYS_BASE
        (1024 * gib.toNat - 1536))
    else .next (s.wr GLOBAL_READY_MEM_FAIL 1)

/-- SYS_INIT_DONE: the system region holds zeros, or the limit passes. Where in it the checkpoint buffers lie is a free value (R533, R534). -/
def execSysInitDone (ok : Bool) (s : State) : Host.Outcome State Fault Refusal :=
  if !s.on GLOBAL_READY_MEM_TRAIN || s.on GLOBAL_READY_SYS_INIT || s.on GLOBAL_READY_MEM_FAIL then .next s
  else if ok then
    .next (((s.wr GLOBAL_READY_SYS_INIT 1).wr YOKE_CKPT_BASE (s.rd GLOBAL_MEM_SYS_BASE + s.free % 1536)).draw)
  else .next (s.wr GLOBAL_READY_MEM_FAIL 1)

/-- MEM_INIT_DONE: the sweep of the page store ends (R533). -/
def execMemInitDone (s : State) : Host.Outcome State Fault Refusal :=
  .next (if s.on GLOBAL_READY_SYS_INIT then s.wr GLOBAL_READY_MEM_INIT 1 else s)

/-- A cell fails the start-up self-test (R535). -/
def State.cellFails (s : State) (n cause : Nat) : State := (s.wrMaskBit GLOBAL_CELL_FAIL_LO GLOBAL_CELL_FAIL_HI n true).fence n cause

/-- Whether the memory stages 1 and 2 have ended, well or not (R531). -/
def State.memStaged (s : State) : Bool := s.on GLOBAL_READY_SYS_INIT || s.on GLOBAL_READY_MEM_FAIL

/-- CELL_TEST_DONE: the self-test of the cells that are neither fused nor gated ends (R535), after the memory stages (R531). -/
def execCellTestDone (engine memory : BitVec 64) (s : State) : Host.Outcome State Fault Refusal :=
  if !s.on GLOBAL_READY_BOOT || !s.memStaged || s.on GLOBAL_READY_CELL_TEST then .next s
  else
    let cells := (List.range 64).filter (fun n => !s.fused n && !s.gated n)
    let s := cells.foldl (fun s n =>
      if engine.getLsbD n then s.cellFails n fcLockstep else if memory.getLsbD n then s.cellFails n fcMapEcc else s) s
    .next (s.wr GLOBAL_READY_CELL_TEST 1)

/-- HOST_READY: the stages before it have ended and the host interface is ready; in NORMAL mode the firmware enables the discovery set (R531, R536,
R537). -/
def execHostReady (ms : BitVec 16) (s : State) : Host.Outcome State Fault Refusal :=
  if !s.on GLOBAL_READY_BOOT || !s.memStaged || !s.on GLOBAL_READY_CELL_TEST || s.on GLOBAL_READY_HOST then .next s
  else
    let s := (s.wr GLOBAL_READY_HOST 1).wr GLOBAL_BOOT_TIME_MS ms.toNat
    let s := (List.range 8).foldl (fun s k => s.wr (HOST_CTX_READY k) 1) s
    let s := (List.range 2).foldl (fun s p => if s.on (HOST_PORT_PERST p) then s else s.wr (HOST_PORT_CRS p) 0) s
    let s := if s.rd GLOBAL_RST_CAUSE_CAUSE == 1 then s.updLedger (fun l => { l with after := some 0 }) else s
    let mode := s.rd GLOBAL_READY_MODE
    if mode == 0 || mode == 3 then
      let set := (List.range 64).filter (fun n => !s.fused n && !s.gated n && s.cellState n != csFenced)
      .next (set.foldl State.enableLane (s.updCoop (fun c => { c with disc := set })))
    else .next s

/-- DISCOVERY_NO_SIGNAL: a lane in discovery has seen no signal: it is disabled and its cell gated (R537). -/
def execDiscoveryNoSignal (n : CellId) (s : State) : Host.Outcome State Fault Refusal :=
  let n := n.val
  if !s.discovering n || !s.on (LINK_PHY_CTL_EN n) || s.on (LINK_RX_STAT_SIGNAL n) then .next s
  else .next ((((s.disableLane n).gateCell n true).updCoop (fun c => { c with discGated := n :: c.discGated })).refreshHeadPwr)

/-- A lane of the discovery set is settled: UP, disabled, or waiting after a failed attempt. -/
def State.laneSettled (s : State) (n : Nat) : Bool :=
  s.linkState n == lsUp || !s.on (LINK_PHY_CTL_EN n) || s.linkState n == lsWait

/-- DISCOVERY_DONE: every lane of the discovery set is settled (R537). -/
def execDiscoveryDone (s : State) : Host.Outcome State Fault Refusal :=
  let mode := s.rd GLOBAL_READY_MODE
  .next (if s.on GLOBAL_READY_HOST && (mode == 0 || mode == 3) && s.coop.disc.all s.laneSettled then s.wr GLOBAL_READY_DISC 1 else s)

/-! ## Resets (R539 to R543) -/

/-- RESET_N: RESET_N has been low for 1 µs (R539); a Coop that is held in its own reset takes no reset of the device. -/
def execResetN (table : List Byte) (s : State) : Host.Outcome State Fault Refusal :=
  .next (if s.coop.running then s.deviceReset 2 (parseTable table) else s)

/-- A request for a device reset: accepted with FORCE, or while no cell is ARMED or PRINTING (R540). -/
def State.requestReset (s : State) (who : Sender) (table : Option (List SeqStep)) : State :=
  let force := s.on GLOBAL_RST_FORCE
  if !force && (List.range 64).any (fun n => s.cellState n == csArmed || s.cellState n == csPrinting) then
    s.cfgLive who GLOBAL_RST_KEY.addr
  else s.deviceReset (if force then 4 else 3) table

/-- RST_KEY: a write of 0x0000_B007 to GLOBAL.RST_KEY. -/
def execRstKey (who : Sender) (table : List Byte) (s : State) : Host.Outcome State Fault Refusal :=
  .next (s.gatedWrite who GLOBAL_RST_KEY 0xB007 (fun s => s.requestReset who (parseTable table)))

/-- Reset NOUGAT, an encoder input or a pipeline (R542). -/
def State.resetNougat (s : State) : State := { s.clearRange 0xC0000 0x10000 with nougat := Nougat.reset }
/-- Reset an encoder input with its calibration; the pair's registers lie in the even input's window. A trim that waited for one of
this input begins. -/
def State.resetEnc (s : State) (i : Nat) : State :=
  let s := s.clearRange (0x80000 + 0x1000 * i) 0x1000
  let s : State := { s with encs := Store.put Enc.reset s.encs i Enc.reset,
                            pairs := if i % 2 = 0 then Store.put Pair.reset s.pairs (i / 2) Pair.reset else s.pairs }
  s.trimGo (pairMate i)
/-- Reset a pipeline with its port and CCI master. -/
def State.resetPipe (s : State) (p : Nat) : State := ((s.clearRange (0x100000 + 0x10000 * p) 0x10000).setPipe p Pipe.reset).setCci p []

/-- A write of BLK_RST: each named block that is idle resets; the others raise CFG_LIVE (R542). -/
def State.blockReset (s : State) (who : Sender) (v : Nat) : State :=
  let refuse (s : State) : State := s.cfgLive who GLOBAL_BLK_RST_NOUGAT.addr
  let s := if !bitOf v 0 then s
    else if s.on NOUGAT_CTL_EN || (List.range 8).any (fun k => s.on (NOUGAT_ARENA_EN k)) then refuse s else s.resetNougat
  let s := (List.range 4).foldl (fun s i =>
    if !bitOf v (4 + i) then s
    else if s.on (ENC_CTL_EN i) || s.on (ENC_DUAL_EN (i / 2 * 2)) then refuse s else s.resetEnc i) s
  (List.range 4).foldl (fun s p =>
    if !bitOf v (8 + p) then s
    else if s.on (INSP_CTL_EN p) || s.on (INSP_PORT_CTL_EN p) then refuse s else s.resetPipe p) s

/-- BLK_RST: a write of GLOBAL.BLK_RST. -/
def execBlkRst (who : Sender) (value : Word) (s : State) : Host.Outcome State Fault Refusal :=
  .next (s.gatedWrite who GLOBAL_BLK_RST_NOUGAT value.toNat (fun s => s.blockReset who value.toNat))

/-- BOUNDARY_SCAN: an instruction that drives the balls takes effect, or is left (R543). -/
def execBoundaryScan (drive : Bool) (s : State) : Host.Outcome State Fault Refusal :=
  let was := s.bscan
  let s := ({ s with bscan := drive } : State).refreshHeadPwr
  .next (if drive && !was then s.report srcStopFire 0 2 initCoop 0 accNone 0 else s)

/-- TAP_RESET: the test access port resets, which leaves any boundary-scan instruction. -/
def execTapReset (s : State) : Host.Outcome State Fault Refusal := .next ({ s with bscan := false } : State).refreshHeadPwr

end Sys2Proof.Machine
end

