-- ==== Sys2Proof/Machine/TimeNet.lean ====
section
/-!
DEFINITION. The meanings of the commands of time and the network (spec/16) and of the MARK inputs (spec/06 R174 to R176): steps and
slews, the servo, PPS, Ethernet frames, launches and domain triggers.
-/
namespace Sys2Proof.Machine

open Sys2Proof

/-! ## Steps, slews (R429, R430, R432) -/

/-- Who steers device time: FREE, PTP or PPS; 3 acts as 0 (R432). -/
def State.timeSrc (s : State) : Nat := s.rd TIME_CTL_SRC % 3

/-- Whether a sender is a host context. -/
def isHost : Sender → Bool
  | .ctx _ => true
  | _ => false

/-- A write of a steering register; while SRC is not FREE, a host's is discarded and recorded (R432). -/
def State.steered (s : State) (who : Sender) (f : Fld) (eff : State → State) : State :=
  if isHost who && s.timeSrc != 0 then s.hostXs who xsRule f.addr true else eff s

/-- A write of a steering register through the filter. -/
def State.steer (s : State) (who : Sender) (f : Fld) (eff : State → State) : State :=
  s.gatedWrite who f 1 (fun s => s.steered who f eff)

/-- The next tick sets the count to the value that TIME.SET holds now (R429). -/
def State.setGo (s : State) : State := { s with time := { s.time with step := some (s.rd2 TIME_SET_LO TIME_SET_HI) } }

/-- ADJ becomes what remains to slew (R430). -/
def State.adjGo (s : State) : State := s.setAdj (s.rdS TIME_ADJ * 4294967296)

/-- SET_GO: a write of CTL.SET_GO (R429). -/
def execSetGo (who : Sender) (s : State) : Host.Outcome State Fault Refusal := .next (s.steer who TIME_CTL_SET_GO State.setGo)

/-- ADJ_GO: a write of CTL.ADJ_GO (R430). -/
def execAdjGo (who : Sender) (s : State) : Host.Outcome State Fault Refusal := .next (s.steer who TIME_CTL_ADJ_GO State.adjGo)

/-- ADJ_CANCEL: nothing remains to slew. -/
def execAdjCancel (who : Sender) (s : State) : Host.Outcome State Fault Refusal :=
  .next (s.steer who TIME_CTL_ADJ_CANCEL (fun s => s.setAdj 0))

/-- SLEW_END: the tick whose share is all that remains; the slew term stops with ADJ_REM at 0 (R430). -/
def execSlewEnd (s : State) : Host.Outcome State Fault Refusal :=
  .next (if s.time.adj ≠ 0 ∧ s.tickShare.1 = s.time.adj ∧ s.time.step = none then s.tick else s)

/-! ## The servo (R432 to R434) -/

/-- Servo states. -/
def svFree : Nat := 0
def svAcquiring : Nat := 1
def svLocked : Nat := 2
def svHoldover : Nat := 3

/-- LOCKED clears (R434). -/
def State.loseLock (s : State) (servo : Nat) : State :=
  if s.on TIME_STAT_LOCKED then
    (((s.wr TIME_STAT_LOCKED 0).wr TIME_STAT_SERVO servo).report srcTimeLock 0 1 initNone 0 accNone servo).ppsCheck
  else s

/-- The servo acts on an offset in 2⁻⁸ ns (R434): lock and loss of lock, then a step, or rate and slew. LOCKED stands over a change of SRC, and
the servo that starts then stays in ACQUIRING until LOCK_N good offsets (DESIGN CHOICE, notes/assumptions/94). -/
def State.servo (s : State) (off : Int) : State :=
  let tol := 256 * max 1 (s.rd TIME_PTP_CFG2_LOCK_TOL)
  let good := if off.natAbs ≤ tol then s.time.good + 1 else 0
  let bad := if 4 * tol < off.natAbs then s.time.bad + 1 else 0
  let s : State := { s with time := { s.time with good := good, bad := bad } }
  let s := s.wrS TIME_OFFSET (s.fit 32 off)
  let s := s.wr TIME_STAT_SERVO (if s.on TIME_STAT_LOCKED && s.rd TIME_STAT_SERVO != svAcquiring then svLocked else svAcquiring)
  let s := if max 1 (s.rd TIME_PTP_CFG2_LOCK_N) ≤ good then (s.wr TIME_STAT_LOCKED 1).wr TIME_STAT_SERVO svLocked else s
  let s := if 4 ≤ bad then s.loseLock svAcquiring else s
  if s.rd TIME_STAT_SERVO = svAcquiring ∧ 2560000 < off.natAbs ∧ s.stepBlocked = false then
    s.takeStep ((s.timeNs : Int) - roundOff s off).toNat
  else
    let inc := Config.servoRate off (s.rdS TIME_INCR_OFF) s.drawn
    let s := (s.wrS TIME_INCR_OFF inc).setAdj (sext 32 (toBits 32 (Config.servoSlew off s.drawn)) * 4294967296)
    ({ s with time := { s.time with incrs := (s.rdS TIME_INCR_OFF :: s.time.incrs).take 16 } } : State).draw
where
  /-- An offset in whole ns; which way it rounds is open. -/
  roundOff (s : State) (off : Int) : Int := s.divOpen off 256

/-- The servo goes into HOLDOVER: INCR_OFF keeps the mean of its last 16 values, and the slew stops (R434). With fewer values the mean is of
those there are, and INCR_OFF stands with none (DESIGN CHOICE, notes/assumptions/94). -/
def State.holdover (s : State) : State :=
  let vs := s.time.incrs
  let s := if vs.isEmpty then s else (s.wrS TIME_INCR_OFF (s.divOpen vs.sum vs.length)).draw
  (s.setAdj 0).wr TIME_STAT_SERVO svHoldover

/-- PTP_MASTER_LOST: under SRC PTP the master is lost (R434). -/
def execPtpMasterLost (s : State) : Host.Outcome State Fault Refusal :=
  .next (if s.timeSrc = 1 ∧ s.on TIME_PTP_CFG_EN ∧ s.rd TIME_STAT_SERVO ≠ svHoldover then s.holdover else s)

/-- HOLDOVER_EXPIRY: HOLDOVER has lasted HOLDOVER_S seconds (R434). -/
def execHoldoverExpiry (s : State) : Host.Outcome State Fault Refusal :=
  .next (if s.rd TIME_STAT_SERVO = svHoldover then s.loseLock svHoldover else s)

/-! ## PPS (R434, R443, R444) -/

/-- PPS_IN_MISSING: no edge for 1.1 s under SRC PPS: HOLDOVER, and TIME_PPS (R434). -/
def execPpsInMissing (s : State) : Host.Outcome State Fault Refusal :=
  .next (if s.timeSrc = 2 then
      (if s.rd TIME_STAT_SERVO = svHoldover then s else s.holdover).report srcTimePps 0 1 initNone 0 accNone 0
    else s)

/-- How far a time lies past the nearest whole second plus PPS_OFF. -/
def State.ppsOffset (s : State) (t : Nat) : Int :=
  let d := (t + 1000000000 - s.rd TIME_PPS_OFF % 1000000000) % 1000000000
  if d < 500000000 then (d : Int) else (d : Int) - 1000000000

/-- A level that begins `age` ns before it is looked at has held for FILT samples at 1 GHz, the first of them its first (R174). -/
def qualifies (filt age : Nat) : Bool := decide (filt ≤ age + 1)

/-- PPS_IN_EDGE: a rising edge whose level has held for IN_FILT samples is latched (R444), and under SRC PPS the servo acts on it (R432). -/
def execPpsInEdge (age : Fin 2001) (s : State) : Host.Outcome State Fault Refusal :=
  if !s.on TIME_PPS_CTL_IN_EN || !qualifies (s.rd TIME_PPS_CTL_IN_FILT) age.val then .next s
  else
    let t := s.now - age.val
    let s := (s.wr2 TIME_PPS_IN_TIME_LO TIME_PPS_IN_TIME_HI t).bumpMod TIME_PPS_IN_SEQ
    .next (if s.timeSrc = 2 && !s.on YOKE_STAT_HOLDING then s.servo (s.ppsOffset t * 256) else s)

/-- The last time that device time has reached at which PPS_OUT rises. -/
def State.ppsDue (s : State) : Option Nat :=
  let off := s.rd TIME_PPS_OFF
  if s.now < off then none else some ((s.now - off) / 1000000000 * 1000000000 + off)

/-- PPS_OUT_RISE: device time reaches k × 10⁹ + PPS_OFF, and PPS_OUT rises (R443). -/
def execPpsOutRise (s : State) : Host.Outcome State Fault Refusal :=
  match s.ppsDue with
  | some t =>
    .next (if s.ppsRuns && decide (s.now < t + 3) && s.time.ppsRise != some t then
        { s with time := { s.time with ppsOut := true, ppsRise := some t, ppsLen := 1000 * max 1 (s.rd TIME_PPS_W) } }
      else s)
  | none => .next s

/-- PPS_OUT_FALL: PPS_W after the rise PPS_OUT falls (R443). -/
def execPpsOutFall (s : State) : Host.Outcome State Fault Refusal :=
  .next (match s.time.ppsRise with
    | some t => if s.time.ppsOut && decide (t + s.time.ppsLen ≤ s.now) then { s with time := { s.time with ppsOut := false } } else s
    | none => s)

/-! ## MARK inputs (spec/06 R174 to R176) -/

/-- A MARK record of one polarity changes as a whole: its positions, sign-extended to 64 bits, its time, then its SEQ. -/
def State.latchMark (s : State) (m : Nat) (rising : Bool) (t : Nat) : State :=
  let s := (List.range 4).foldl (fun s e =>
    let x := toBits 64 (wrapWu (roundWu (s.posAt e t)))
    if rising then s.wr2 (MARK_RISE_POS_LO m e) (MARK_RISE_POS_HI m e) x
    else s.wr2 (MARK_FALL_POS_LO m e) (MARK_FALL_POS_HI m e) x) s
  if rising then (s.wr2 (MARK_RISE_TIME_LO m) (MARK_RISE_TIME_HI m) t).bumpMod (MARK_RISE_SEQ m)
  else (s.wr2 (MARK_FALL_TIME_LO m) (MARK_FALL_TIME_HI m) t).bumpMod (MARK_FALL_SEQ m)

/-- MARK_EDGE: a level that began `age` ns ago and has held for FILT samples changes the qualified level of the input; without that it is no
edge, nor is a level that stands already (R174). While the input is enabled the edge is latched (R175), meets the SYNCs that wait for it, and
is a trigger of every page armed for it (R168). -/
def execMarkEdge (m : Fin 4) (rising : Bool) (age : Fin 2001) (s : State) : Host.Outcome State Fault Refusal :=
  let m := m.val
  let changes := qualifies (s.rd (MARK_FILT m)) age.val && Store.get false s.time.marks m != rising
  if !changes then .next s
  else
    let s : State := { s with time := { s.time with marks := Store.put false s.time.marks m rising } }
    if !s.on (MARK_EN m) then .next s
    else
    let t := s.now - age.val
    let s := (s.latchMark m rising t).syncEvent 3 m (some (!rising))
    .next ((List.range 64).foldl (fun s n =>
      match (s.cell n).armed with
      | some p =>
        if p.ladder.isNone && p.trigKind == m + 1 && p.edge == !rising && !s.follower n then
          s.takeTrigger n p t (s.posAt (s.pageSrc n p) t)
        else s
      | none => s) s)

/-! ## Frames (R436, R437, R446) -/

/-- A big-endian field of a frame. -/
def beAt (bs : List Byte) (off n : Nat) : Nat := leNat ((bs.drop off).take n).reverse

/-- Overwrite bytes of a frame with a big-endian value. -/
def bePut (bs : List Byte) (off n v : Nat) : List Byte := bs.take off ++ (leBytes n v).reverse ++ bs.drop (off + n)

/-- Where the EtherType of a frame stands: after at most one VLAN tag. -/
def etherAt (bs : List Byte) : Nat := if beAt bs 12 2 = 0x8100 then 16 else 12

/-- The EtherType of a frame. -/
def etherType (bs : List Byte) : Nat := beAt bs (etherAt bs) 2

/-- Where the UDP header of a frame stands, if it carries one over IPv4 or IPv6. -/
def udpAt (bs : List Byte) : Option Nat :=
  let ip := etherAt bs + 2
  if etherType bs = 0x0800 then
    (if byteAt bs (ip + 9) = 17 then some (ip + 4 * (byteAt bs ip % 16)) else none)
  else if etherType bs = 0x86DD then (if byteAt bs (ip + 6) = 17 then some (ip + 40) else none)
  else none

/-- The UDP port a frame goes to. -/
def udpPort (bs : List Byte) : Option Nat := (udpAt bs).map (fun u => beAt bs (u + 2) 2)

/-- The payload after the EtherType or the UDP header of a domain-trigger frame, if the frame is one (R437, R446). -/
def State.dtPayload (s : State) (bs : List Byte) : Option (List Byte) :=
  if etherType bs = s.rd TIME_DT_ETYPE then some (bs.drop (etherAt bs + 2))
  else
    match udpAt bs with
    | some u => if s.rd TIME_DT_UDP ≠ 0 ∧ beAt bs (u + 2) 2 = s.rd TIME_DT_UDP then some (bs.drop (u + 8)) else none
    | none => none

/-- The multicast addresses a port accepts, in transmission order (R437). -/
def fixedMacs : List Nat :=
  [0x011B19000000, 0x0180C200000E, 0x01005E000181, 0x01005E00006B, 0x333300000181, 0x33330000006B]

/-- Whether a port accepts a frame's destination (R437); MAC registers hold byte i in bits [8i + 7:8i]. -/
def State.macOk (s : State) (k : Nat) (bs : List Byte) : Bool :=
  let le := leAt bs 0 6
  let dt := s.rd2 TIME_DT_MAC_LO TIME_DT_MAC_HI
  fixedMacs.contains (beAt bs 0 6) || le == s.rd2 (NET_MAC_LO k) (NET_MAC_HI k) || (dt != 0 && le == dt)

/-! ## Domain triggers (R447 to R449) -/

/-- Whether a payload is a well-formed trigger: MAGIC, VERSION and reserved fields (R446). -/
def dtFormOk (p : List Byte) : Bool :=
  decide (32 ≤ p.length) && leAt p 0 2 == 0x5444 && byteAt p 2 == 1 && byteAt p 3 < 16 && leAt p 4 2 < 16384 && byteAt p 7 == 0 &&
  leAt p 12 4 == 0 && leAt p 24 8 == 0

/-- What a trigger names: ORIGIN, NUMBER and SEQ. -/
def dtKey (p : List Byte) : Nat × Nat × Nat := (leAt p 4 2, byteAt p 3 % 16, leAt p 8 4)

/-- Whether the trigger was accepted within the last 10 ms. -/
def State.dtSeen (s : State) (p : List Byte) : Bool :=
  s.time.seen.any (fun e => (e.1, e.2.1, e.2.2.1) == dtKey p && decide (s.now ≤ e.2.2.2 + 10000000))

/-- The first of checks 5 to 7 that a trigger fails. -/
def State.dtBlocked (s : State) (p : List Byte) : Bool :=
  !s.on TIME_STAT_VALID || (s.on TIME_DT_CFG_REQ_LOCK && !s.on TIME_STAT_LOCKED) ||
  decide (s.now + max 1 (s.rd TIME_DT_CFG_HORIZON) * 1000000 < leAt p 16 8) || decide (16 ≤ s.time.pend.length)

/-- A trigger that passes all checks is accepted; one whose time has passed is presented at once as late (R447). -/
def State.dtAccept (s : State) (p : List Byte) : State :=
  let (origin, number, seq) := dtKey p
  let t := leAt p 16 8
  let s : State := { s with time := { s.time with
    seen := (origin, number, seq, s.now) :: s.time.seen.filter (fun e => decide (s.now ≤ e.2.2.2 + 10000000)) } }
  let s := (s.bump TIME_DT_CNT0_ACCEPT).wr2 (TIME_DT_LAST_LO number) (TIME_DT_LAST_HI number) t
  if t < s.now then (s.bump TIME_DT_CNT1_LATE).presentLate number
  else s.setPend (s.time.pend ++ [⟨number, t⟩])

/-- A trigger frame reaches the trigger unit from port `k` (R447). -/
def State.dtCheck (s : State) (k : Nat) (p : List Byte) : State :=
  if !s.on TIME_DT_CFG_EN then s.bump (NET_RX_DROP k)
  else if !dtFormOk p || byteAt p 6 != s.rd TIME_STATION_PRESS_DOM then s.bump TIME_DT_CNT1_DISC
  else if s.dtSeen p then s.bump TIME_DT_CNT0_DUP
  else if s.dtBlocked p then (s.bump TIME_DT_CNT1_DISC).report srcDtDiscard 0 1 initNone 0 accNone (leAt p 4 2)
  else s.dtAccept p

/-- A frame that this device launches is offered to its own trigger unit when LOOP is 1 and it would pass every check (R449). -/
def State.dtLoop (s : State) (bs : List Byte) : State :=
  match s.dtPayload bs with
  | some p =>
    if s.on TIME_DT_CFG_LOOP && s.on TIME_DT_CFG_EN && dtFormOk p && byteAt p 6 == s.rd TIME_STATION_PRESS_DOM && !s.dtSeen p &&
        !s.dtBlocked p then s.dtAccept p
    else s
  | none => s

/-- DOMAIN_TRIGGER_PRESENT: device time reaches the earliest pending TIME, and every trigger with that TIME is presented (R448). A trigger that is
pending stays so while device time is not valid, and over a write of DT_CFG.EN = 0 (DESIGN CHOICE, notes/assumptions/94). -/
def execDomainTriggerPresent (s : State) : Host.Outcome State Fault Refusal :=
  match s.time.pend with
  | [] => .next s
  | t :: ts =>
    let first := ts.foldl (fun m e => min m e.time) t.time
    if !s.on TIME_STAT_VALID || decide (s.now < first) then .next s
    else
      let due := s.time.pend.filter (fun e => e.time == first)
      .next (due.foldl State.present (s.setPend (s.time.pend.filter (fun e => e.time != first))))

/-! ## Launches (R439 to R442) -/

/-- The head of a launch queue: its oldest descriptor that has not completed. -/
def State.headDesc (s : State) (q : Nat) : Option Desc := (s.ring q).held.head?

/-- The port of a launch queue (R440). -/
def launchPort (q : Nat) : Nat := (q - 144) / 4

/-- The stamp that a frame started now would carry, in 2⁻¹⁶ ns: device time at the balls plus TX_LAT (R438). -/
def State.txStamp (s : State) (k : Nat) : Nat :=
  (((s.timeNs * 65536 + s.timeFrac / 65536 : Nat) : Int) + s.rdS (NET_TX_LAT k)).toNat

/-- The stamp of a frame received now, in 2⁻¹⁶ ns (R438). -/
def State.rxStamp (s : State) (k : Nat) : Nat :=
  (((s.timeNs * 65536 + s.timeFrac / 65536 : Nat) : Int) - s.rdS (NET_RX_LAT k)).toNat

/-- Whether a LAUNCH with PTP = 1 is ill formed (R439). -/
def ptpBad (bs : List Byte) (off : Nat) : Bool :=
  let len := beAt bs (off + 2) 2
  decide (bs.length < off + 44) || decide (bs.length < off + len) || (etherType bs == 0x86DD && decide (bs.length < off + len + 2))

/-- The one's-complement sum of a UDP datagram's bytes as 16-bit words. -/
def udpSum : List Byte → Nat
  | a :: b :: bs => a.toNat * 256 + b.toNat + udpSum bs
  | [a] => a.toNat * 256
  | [] => 0

/-- The checksums after an insertion (R439): over IPv4 the UDP checksum is 0; over IPv6 the two bytes after the message keep the
checksum correct. `tie` chooses between the two representations of zero. -/
def fixSums (old bs : List Byte) (off : Nat) (tie : Bool) : List Byte :=
  match udpAt bs with
  | none => bs
  | some u =>
    if etherType bs = 0x0800 then bePut bs (u + 6) 2 0
    else
      let pad := off + beAt bs (off + 2) 2
      let bs := bePut bs pad 2 0
      let want := (udpSum (old.drop u) + 65535 * (udpSum (bs.drop u) / 65535 + 1) - udpSum (bs.drop u)) % 65535
      let want := if want = 0 ∧ tie then 65535 else want
      bePut bs pad 2 (if (pad - u) % 2 = 0 then want else want % 256 * 256 + want / 256)

/-- One-step insertion of a stamp in 2⁻¹⁶ ns into the message at `off` (R439). -/
def insertStamp (bs : List Byte) (off stamp : Nat) (tie : Bool) : List Byte :=
  let corr := beAt bs (off + 8) 8
  let oneStep (b : List Byte) : List Byte := bePut b (off + 6) 1 (beAt b (off + 6) 1 - (if bitOf (beAt b (off + 6) 1) 1 then 2 else 0))
  let ns := stamp / 65536
  match byteAt bs off % 16 with
  | 0 =>
    let out := bePut (bePut bs (off + 34) 6 (ns / 1000000000)) (off + 40) 4 (ns % 1000000000)
    fixSums bs (oneStep (bePut out (off + 8) 8 (corr + stamp % 65536))) off tie
  | 3 => fixSums bs (oneStep (bePut bs (off + 8) 8 (corr + stamp % 2 ^ 64))) off tie
  | _ => bs

/-- LAUNCH: a LAUNCH at the head of its queue is fetched and checked, and waits for its time (R440, R442). -/
def execLaunch (q : RingId) (result : ReadResult) (s : State) : Host.Outcome State Fault Refusal :=
  let q := q.val
  match (s.takeable q tyLaunch).filter (fun d => (s.headDesc q).map (·.idx) == some d.idx) with
  | none => .next s
  | some d =>
    let k := s.ringOwner q
    let addr := d.u64 4
    let len := d.u16 12
    if !s.mayReadMem k addr len then .next ((s.memXs k addr false).finishSt q d.idx stRefused)
    else if !s.readEnds k addr result then .next s
    else
      match s.dmaRead initCtx k addr len result with
      | (s, none) => .next (s.finishSt q d.idx stDmaErr)
      | (s, some bs) =>
        if d.bit 1 3 && ptpBad bs (d.u16 14) then .next (s.finishSt q d.idx stBadDesc)
        else
          let late := s.on TIME_STAT_VALID && decide (d.u64 16 < s.now)
          .next ((s.setPhase q d.idx .started).updNet (launchPort q) (fun x =>
            { x with launches := x.launches.filter (fun l => l.q != q) ++ [⟨q, d.idx, bs, late⟩] }))

/-- The launch of a port that is due and whose queue has the lowest number (R441). -/
def State.dueLaunch (s : State) (k : Nat) : Option (Launch × Desc) :=
  ([0, 1, 2, 3].map (· + 144 + 4 * k)).findSome? (fun q =>
    ((s.net k).launches.find? (fun l => l.q == q)).bind (fun l =>
      ((s.descAt q l.idx).filter (fun d => d.phase == .started && decide (d.u64 16 * 65536 ≤ s.txStamp k))).map (fun d => (l, d))))

/-- A launch ends without its frame: DROPPED (R442). -/
def State.dropLaunch (s : State) (k : Nat) (l : Launch) : State :=
  let s := s.updNet k (fun x => { x with launches := x.launches.filter (fun e => e.q != l.q) })
  ((s.bump (NET_LQ_CNT_DROPPED k ((l.q - 144) % 4))).report srcNetLate k 0 initNone 0 accNone l.q).finishSt l.q l.idx stDropped

/-- A launch's frame goes out, on time or late (R438 to R442, R449). -/
def State.sendLaunch (s : State) (k : Nat) (l : Launch) (d : Desc) (late : Bool) : State :=
  let stamp := s.txStamp k
  let bytes := if d.bit 1 3 then insertStamp l.bytes (d.u16 14) stamp (s.free % 2 == 1) else l.bytes
  let s := (s.updNet k (fun x => { x with launches := x.launches.filter (fun e => e.q != l.q) })).sendFrame k bytes
  let s := if d.bit 1 3 then s.draw else s
  let s := if late then (s.bump (NET_LQ_CNT_LATE_SENT k ((l.q - 144) % 4))).report srcNetLate k 0 initNone 0 accNone l.q else s
  (s.finish l.q l.idx (s.mkDone stOk 0 (stamp / 65536) (if late then cfLate else 0))).dtLoop bytes

/-- Whether a speed-demand frame is due on a port; it goes first (R441). -/
def State.speedDue (s : State) (k : Nat) : Bool :=
  s.on GOV_NET_EN && s.rd GOV_NET_PORT == k && (s.gov.safeDue || (s.gov.eventDue &&
    (match s.gov.lastEvent with | some l => decide (l + 10000 ≤ s.now) | none => true)) ||
    (s.on TIME_STAT_VALID && s.periodicDue.isSome))

/-- Whether the wire of a port is free. -/
def State.wireFree (s : State) (k : Nat) : Bool := decide ((s.net k).busyTill ≤ 10 * s.now)

/-- The next launch time of a port's speed-demand frames. -/
def State.nextSpeed (s : State) : Nat :=
  let p := max 10 (s.rd GOV_NET_PERIOD) * 1000
  let off := s.rd GOV_NET_SLOT_OFF
  if s.now < off then off else ((s.now - off) / p + 1) * p + off

/-- An untimed frame that waits is sent when no launch is due and it will end before the earliest launch time at the head of the port's
queues and the next speed-demand launch (R441). -/
def State.flushUntimed (s : State) (k : Nat) : State :=
  match (s.net k).untimed with
  | [] => s
  | f :: fs =>
    let stop := 10 * s.now + (f.length + 24) * (if s.on (NET_CTL_MODE k) then 80 else 8)
    let heads := ([0, 1, 2, 3].map (· + 144 + 4 * k)).filterMap (fun q => (s.headDesc q).filter (fun d => d.type == tyLaunch))
    let clear := heads.all (fun d => decide (stop < 10 * d.u64 16)) &&
      !(s.on GOV_NET_EN && s.rd GOV_NET_PORT == k && s.on TIME_STAT_VALID && decide (10 * s.nextSpeed ≤ stop))
    let due := s.on TIME_STAT_VALID && (s.dueLaunch k).isSome
    if s.netUp k && s.wireFree k && clear && !due && !s.speedDue k then (s.updNet k (fun x => { x with untimed := fs })).sendFrame k f else s

/-- LAUNCH_DUE: a launch time of a port has come: its frame is sent in its slot, or is late (R440 to R442). -/
def execLaunchDue (k : NetId) (s : State) : Host.Outcome State Fault Refusal :=
  let k := k.val
  if !s.on TIME_STAT_VALID || s.speedDue k then .next s
  else
    match s.dueLaunch k with
    | none => .next (s.flushUntimed k)
    | some (l, d) =>
      let late := l.late || decide (d.u64 16 * 65536 + 419430 < s.txStamp k)
      if !s.netUp k then .next (s.dropLaunch k l)
      else if late && !d.bit 1 2 then .next (s.dropLaunch k l)
      else if !s.wireFree k then .next s
      else .next (s.sendLaunch k l d late)

/-! ## Receiving (R436, R437, R433) -/

/-- A PTP message reaches the engine (R433): it measures what IEEE 1588 gives it, may answer, and under SRC PTP the servo acts. Nothing is
sent or steered while the Yoke fails over (R435). -/
def State.ptpReceive (s : State) (k : Nat) (bs : List Byte) : State :=
  let stamp := s.rxStamp k
  let d := s.drawn
  let s := (s.wr TIME_MPD (Config.ptpDelay bs stamp d)).wr TIME_PORT_STATE (Config.ptpPortState bs d)
  let s := s.wr2 TIME_GM_ID_LO TIME_GM_ID_HI (Config.ptpGrandmaster bs d)
  let reply := Config.ptpReply bs stamp d
  let s := s.draw
  if s.on YOKE_STAT_HOLDING then s
  else
    let s := if reply.isEmpty then s else (s.updNet k (fun x => { x with untimed := x.untimed ++ [reply] })).flushUntimed k
    match Config.ptpOffset bs stamp d with
    | some off => if s.timeSrc = 1 then s.servo off else s
    | none => s

/-- Whether a frame is for the PTP engine (R437). -/
def State.isPtp (s : State) (k : Nat) (bs : List Byte) : Bool :=
  s.on TIME_PTP_CFG_EN && bitOf (s.rd TIME_PTP_CFG_PORTS) k &&
  (etherType bs == 0x88F7 || udpPort bs == some 319 || udpPort bs == some 320)

/-- NET_FRAME_RECEIVE: a frame is checked, filtered and classified (R436, R437). -/
def execNetFrameReceive (k : NetId) (bytes : List Byte) (fcsOk : Bool) (s : State) : Host.Outcome State Fault Refusal :=
  let k := k.val
  if !s.netUp k then .next s
  else if !fcsOk || decide (1518 < bytes.length) then .next (s.bump (NET_RX_FCS k))
  else if etherType bytes == 0x8808 && beAt bytes (etherAt bytes + 2) 2 == 1 then .next (s.bump (NET_PAUSE k))
  else if !s.macOk k bytes then .next s
  else if s.isPtp k bytes then .next ((s.bump (NET_RX_PTP k)).ptpReceive k bytes)
  else
    match s.dtPayload bytes with
    | some p => .next ((s.bump (NET_RX_DT k)).dtCheck k p)
    | none => .next (s.bump (NET_RX_DROP k))

/-- PTP_MESSAGE_DUE: a message interval expires, and the engine sends a Sync, Delay_Req or Pdelay_Req as an untimed frame (R433,
R441). -/
def execPtpMessageDue (k : NetId) (kind : Fin 3) (s : State) : Host.Outcome State Fault Refusal :=
  let k := k.val
  let off := match kind.val with
    | 0 => s.on TIME_PTP_CFG_SLAVE_ONLY
    | 1 => s.on TIME_PTP_CFG_P2P
    | _ => !s.on TIME_PTP_CFG_P2P
  if !s.on TIME_PTP_CFG_EN || !bitOf (s.rd TIME_PTP_CFG_PORTS) k || off || s.on YOKE_STAT_HOLDING then .next s
  else
    let f := Config.ptpMessage k kind.val s.drawn
    .next ((s.draw.updNet k (fun x => { x with untimed := x.untimed ++ [f] })).flushUntimed k)

/-- NET_LINK_LOSS: an enabled port loses link (R436). -/
def execNetLinkLoss (k : NetId) (s : State) : Host.Outcome State Fault Refusal :=
  let k := k.val
  .next (if s.netUp k then
      (((s.wr (NET_STAT_LINK k) 0).wr (NET_STAT_AN_DONE k) 0).bump (NET_DOWN k)).report srcNetLink k 1 initNone 0 accNone k
    else s)

/-- NET_LINK_UP: an enabled port gains link (R436). -/
def execNetLinkUp (k : NetId) (s : State) : Host.Outcome State Fault Refusal :=
  let k := k.val
  .next (if s.on (NET_CTL_EN k) then
      ((s.wr (NET_STAT_LINK k) 1).wrB (NET_STAT_AN_DONE k) (s.on (NET_CTL_MODE k) && s.on (NET_CTL_AN k))).flushUntimed k
    else s)

end Sys2Proof.Machine
end

