-- ==== Sys2Proof/Machine/Vault.lean ====
section
/-!
DEFINITION. The meanings of the commands of the Vault (spec/17): job keys, attestation, OTP requests, debug unlock and tamper.
-/
namespace Sys2Proof.Machine

open Sys2Proof

/-! ## Results (R460) -/

/-- Results of a Vault operation. -/
def vrOk : Nat := 0
def vrFormat : Nat := 1
def vrSlotOwned : Nat := 2
def vrCtxMismatch : Nat := 3
def vrBadPoint : Nat := 4
def vrWrapCheck : Nat := 5
def vrBusy : Nat := 6
def vrHeld : Nat := 7
def vrDmaErr : Nat := 8
def vrExpired : Nat := 9
def vrBlocked : Nat := 10

/-- A Vault event of a context (KIND 0x07). -/
def State.vaultEvent (s : State) (k code unit info detail : Nat) : State :=
  if k < 8 then s.postGeneral k 0x07 code unit info detail else s

/-- An operation of a context ends with a result. -/
def State.vaultDone (s : State) (k result : Nat) : State :=
  (((s.updVault (fun v => { v with ops := v.ops.filter (fun e => e.1 != k) })).wr (VAULT_CTX_STAT_BUSY k) 0).wr
    (VAULT_CTX_STAT_DONE k) 1).wr (VAULT_CTX_STAT_RESULT k) result

/-- The Vault cannot use the identity key: unwrapping is blocked, or a tamper cause is held (R473, R475). -/
def State.vaultBlocked (s : State) : Bool := s.on VAULT_STAT_UNWRAP_BLOCK || s.on VAULT_STAT_TAMPER

/-- A write of CTX[k].CTL with GO, discarded while an operation of the context runs (R460). -/
def State.vaultGo (s : State) (who : Sender) (k op : Nat) (eff : State → State) : State :=
  s.gatedWrite who (VAULT_CTX_CTL_GO k) 1 (fun s =>
    let s := s.wr (VAULT_CTX_CTL_OP k) op
    if s.on (VAULT_CTX_STAT_BUSY k) then s else eff s)

/-- An operation starts, with the address that ADDR holds. -/
def State.vaultStart (s : State) (k op : Nat) : State :=
  let addr := s.rd2 (VAULT_CTX_ADDR_LO k) (VAULT_CTX_ADDR_HI k)
  (s.updVault (fun v => { v with ops := v.ops ++ [(k, ⟨op, addr⟩)] })).wr (VAULT_CTX_STAT_BUSY k) 1

/-- The operation of a context that runs, if it is of a kind. -/
def State.vaultOp (s : State) (k op : Nat) : Option VaultOp := (Store.find? s.vault.ops k).filter (fun o => o.op == op)

/-! ## Unwrap (R458 to R461) -/

/-- The start of an unwrap: refused while the context is held (R460, R461). No SLOT is known when it is held: the event's UNIT is free. -/
def State.unwrapGo (s : State) (k : Nat) : State :=
  if s.on (VAULT_CTX_STAT_HOLD k) then ((s.vaultDone k vrHeld).vaultEvent k 2 (s.free % 64) vrHeld 0).draw
  else s.vaultStart k 1

/-- UNWRAP: a write of CTX[k].CTL with GO and OP 1. -/
def execUnwrap (who : Sender) (k : CtxId) (s : State) : Host.Outcome State Fault Refusal :=
  .next (s.vaultGo who k.val 1 (fun s => s.unwrapGo k.val))

/-- The first check of R460 that a record fails, or the key it holds. -/
def State.unwrapCheck (s : State) (k : Nat) (bs : List Byte) : Nat ⊕ List Byte :=
  let slot := byteAt bs 3 % 64
  let expiry := leAt bs 8 8
  let pub := (bs.drop 16).take 96
  let salt := leBytes 8 (s.rd2 VAULT_SERIAL_LO VAULT_SERIAL_HI)
  if leAt bs 0 2 ≠ 0x4B57 ∨ byteAt bs 2 ≠ 1 ∨ leAt bs 6 2 ≠ 0 ∨ leAt bs 152 8 ≠ 0 ∨ byteAt bs 5 % 4 = 0 then .inl vrFormat
  else if byteAt bs 4 % 8 ≠ k then .inl vrCtxMismatch
  else if s.on (VAULT_SLOT_STAT_VALID slot) ∧ s.rd (VAULT_SLOT_STAT_OWNER slot) ≠ k then .inl vrSlotOwned
  else if s.slotUses slot ≠ 0 then .inl vrBusy
  else if expiry ≠ 0 ∧ ¬ (s.on TIME_STAT_VALID ∧ s.now < expiry) then .inl vrExpired
  else if (pointOf pub).isNone then .inl vrBadPoint
  else
    match unwrapKey pub salt (bs.take 16) ((bs.drop 112).take 40) with
    | none => .inl vrWrapCheck
    | some key => if s.vaultBlocked then .inl vrBlocked else .inr key

/-- An unwrap fails: reported and counted, and 16 failures in a row hold the context (R460, R461). -/
def State.unwrapFails (s : State) (k slot result : Nat) : State :=
  let s := s.vaultDone k result
  let s := if result == vrBusy || result == vrDmaErr then s
    else
      let s := s.report srcVaultUnwrap k 1 initCtx k accNone slot
      let fails := s.rd (VAULT_CTX_STAT_FAILS k) + 1
      if 16 ≤ fails then (s.wr (VAULT_CTX_STAT_HOLD k) 1).wr (VAULT_CTX_STAT_FAILS k) 0
      else s.wr (VAULT_CTX_STAT_FAILS k) fails
  s.vaultEvent k 2 slot result 0

/-- The slot that a record names gets its key (R460). -/
def State.loadSlot (s : State) (k slot : Nat) (bs key : List Byte) : State :=
  let s : State := { s with keys := Store.ins s.keys slot key,
                            vault := { s.vault with expiry := Store.put 0 s.vault.expiry slot (leAt bs 8 8) } }
  let s := ((s.wr (VAULT_SLOT_STAT_OWNER slot) k).wr (VAULT_SLOT_STAT_USAGE slot) (byteAt bs 5 % 4)).wr (VAULT_SLOT_STAT_VALID slot) 1
  (((s.wr (VAULT_SLOT_STAT_AUTH_FAIL slot) 0).wr (VAULT_CTX_STAT_FAILS k) 0).vaultDone k vrOk).vaultEvent k 1 slot vrOk 0

/-- An error in the slot store at a slot: corrected, or uncorrectable, which empties the slot (R476). -/
def State.slotEcc (s : State) (slot : Nat) (ecc : Option Bool) : State :=
  match ecc with
  | none => s
  | some uncorr =>
    let s := s.report srcVaultEcc 0 (if uncorr then 2 else 1) initNone 0 accNone slot
    if uncorr then s.emptySlot slot else s

/-- UNWRAP_DONE: the record is read once and checked in order (R460). A record that is not read names no slot: the event's UNIT is
free. -/
def execUnwrapDone (k : CtxId) (result : ReadResult) (ecc : Option Bool) (s : State) : Host.Outcome State Fault Refusal :=
  let k := k.val
  match s.vaultOp k 1 with
  | none => .next s
  | some o =>
    let ok := s.mayReadMem k o.addr 160
    if ok && !s.readEnds k o.addr result then .next s else
    let s := if ok then s else s.memXs k o.addr false
    match (if ok then s.dmaRead initCtx k o.addr 160 result else (s, none)) with
    | (s, none) => .next (s.unwrapFails k (s.free % 64) vrDmaErr).draw
    | (s, some bs) =>
      let slot := byteAt bs 3 % 64
      let s := s.slotEcc slot ecc
      match s.unwrapCheck k bs with
      | .inl r => .next (s.unwrapFails k slot r)
      | .inr key => .next (s.loadSlot k slot bs key)

/-- UNWRAP_HOLD_EXPIRY: HOLD clears by itself (R461). -/
def execUnwrapHoldExpiry (k : CtxId) (s : State) : Host.Outcome State Fault Refusal :=
  .next (s.wr (VAULT_CTX_STAT_HOLD k.val) 0)

/-! ## Emptying slots (R463, R464) -/

/-- A slot is emptied by its owner or the administrator, and its former owner gets an event (R463). What RESULT a context gets that
is neither is not stated: it is free. -/
def State.clearGo (s : State) (k slot : Nat) : State :=
  let s := s.wr (VAULT_CTX_CTL_SLOT k) slot
  let owner := s.rd (VAULT_SLOT_STAT_OWNER slot)
  if !s.on (VAULT_SLOT_STAT_VALID slot) then s.vaultDone k vrOk
  else if owner = k ∨ s.admin = k then ((s.emptySlot slot).vaultDone k vrOk).vaultEvent owner 3 slot 0 0
  else (s.vaultDone k s.free).draw

/-- CLEAR: a write of CTX[k].CTL with GO and OP 2. -/
def execClearSlot (who : Sender) (k : CtxId) (slot : Fin 64) (s : State) : Host.Outcome State Fault Refusal :=
  .next (s.vaultGo who k.val 2 (fun s => s.clearGo k.val slot.val))

/-- KEY_EXPIRY: valid device time reaches a slot's EXPIRY (R463, R464). -/
def execKeyExpiry (slot : Fin 64) (s : State) : Host.Outcome State Fault Refusal :=
  let slot := slot.val
  let expiry := Store.get 0 s.vault.expiry slot
  .next (if s.on (VAULT_SLOT_STAT_VALID slot) && expiry != 0 && s.on TIME_STAT_VALID && decide (expiry ≤ s.now) then
      (s.emptySlot slot).vaultEvent (s.rd (VAULT_SLOT_STAT_OWNER slot)) 4 slot 0 0
    else s)

/-! ## Attestation (R457) -/

/-- DEVICE_ID of a part (R1, spec/22). -/
def Part.deviceId : Part → Nat
  | .kv6416 => 0x4B566416 | .kv6432 => 0x4B566432 | .kv6464 => 0x4B566464

/-- Bytes 0 to 159 of an attestation report (R457). -/
def State.reportBody (s : State) (k : Nat) (nonce : List Byte) : List Byte :=
  let slots := ((List.range 64).map (fun i =>
    if s.on (VAULT_SLOT_STAT_VALID i) && s.rd (VAULT_SLOT_STAT_OWNER i) == k then 2 ^ i else 0)).sum
  leBytes 2 0x5241 ++ leBytes 1 1 ++ leBytes 1 k ++ leBytes 1 s.vault.debugMax ++ leBytes 1 (s.rd VAULT_STAT_SVN) ++
  leBytes 1 (s.rd VAULT_STAT_RB_COUNT) ++ leBytes 1 (s.rd VAULT_OTP_TAMPER_COUNT) ++
  leBytes 8 (s.rd2 VAULT_SERIAL_LO VAULT_SERIAL_HI) ++ leBytes 4 s.part.deviceId ++ leBytes 1 (s.rd GLOBAL_REV_REVISION) ++
  leBytes 1 (s.rd VAULT_STAT_KEY_IDX) ++ leBytes 2 (s.rd TIME_STATION_ID) ++
  leBytes 8 (if s.on TIME_STAT_VALID then s.now else 0) ++ nonce.take 48 ++
  (List.range 12).flatMap (fun j => leBytes 4 (s.rd (VAULT_FW_HASH j))) ++ leBytes 8 slots ++ leBytes 24 0

/-- ATTEST: an attestation starts (R457). A buffer in the context's local window serves like one in its host memory, which R457 does not say
(DESIGN CHOICE, notes/assumptions/95). -/
def execAttest (who : Sender) (k : CtxId) (s : State) : Host.Outcome State Fault Refusal :=
  .next (s.vaultGo who k.val 3 (fun s => s.vaultStart k.val 3))

/-- ATTEST_DONE: the nonce is read, the signed report written over it, and the event posted; none is given while a tamper cause is held
(R457). -/
def execAttestDone (k : CtxId) (result : ReadResult) (s : State) : Host.Outcome State Fault Refusal :=
  let k := k.val
  match s.vaultOp k 3 with
  | none => .next s
  | some o =>
    let fin (s : State) (r : Nat) : State := (s.vaultDone k r).vaultEvent k 5 0 r o.addr
    if s.on VAULT_STAT_TAMPER then .next (fin s vrBlocked)
    else if !s.mayWriteMem k o.addr 256 then .next (fin (s.memXs k o.addr true) vrDmaErr)
    else if !s.readEnds k o.addr result then .next s
    else
      match s.dmaRead initCtx k o.addr 48 result with
      | (s, none) => .next (fin s vrDmaErr)
      | (s, some nonce) =>
        let body := s.reportBody k nonce
        let sign := identitySign (sha384 body) s.free
        match s.draw.dmaWrite k initCtx k o.addr (body ++ sign) with
        | (s, true) => .next (fin s vrOk)
        | (s, false) => .next (fin s vrDmaErr)

/-! ## OTP requests (R454, R455, R471) -/

/-- A request to raise RB_COUNT to TARGET, which must lie above it and be at most the SVN of the running image (R454). One made while RB_BUSY is 1
does nothing, and TARGET stands as written (DESIGN CHOICE, notes/assumptions/95). -/
def State.rollbackGo (s : State) (who : Sender) (t : Nat) : State :=
  let s := s.wr VAULT_ROLLBACK_TARGET t
  if s.on VAULT_STAT_RB_BUSY then s
  else if t ≤ s.rd VAULT_STAT_RB_COUNT ∨ s.rd VAULT_STAT_SVN < t then s.hostXs who xsRule VAULT_ROLLBACK_GO.addr true
  else (s.wr VAULT_STAT_RB_BUSY 1).updVault (fun v => { v with rbTarget := t })

/-- ROLLBACK: a write of ROLLBACK with GO. -/
def execRollback (who : Sender) (target : BitVec 7) (s : State) : Host.Outcome State Fault Refusal :=
  .next (s.gatedWrite who VAULT_ROLLBACK_GO 1 (fun s => s.rollbackGo who target.toNat))

/-- ROLLBACK_DONE: the fuses are blown (R454); a corrected OTP error is reported (R475). -/
def execRollbackDone (otpErr : Option (BitVec 16)) (s : State) : Host.Outcome State Fault Refusal :=
  if !s.on VAULT_STAT_RB_BUSY then .next s
  else
    let s := match otpErr with
      | some w => s.report srcVaultOtp 0 1 initNone 0 accNone w.toNat
      | none => s
    .next (({ s with otp := { s.otp with rbCount := s.vault.rbTarget } } : State).showOtp.wr VAULT_STAT_RB_BUSY 0)

/-- Key indices are revoked in OTP, unless the request names the running image's or would leave none (R455). -/
def State.revokeGo (s : State) (who : Sender) (req : BitVec 4) : State :=
  let mask := BitVec.toNat (BitVec.ofNat 4 s.otp.revoked ||| req)
  if (s.rd VAULT_STAT_BOOT_SLOT != 0 && bitOf req.toNat (s.rd VAULT_STAT_KEY_IDX)) || mask == 15 then
    s.hostXs who xsRule VAULT_REVOKE_REQ.addr true
  else ({ s with otp := { s.otp with revoked := mask } } : State).showOtp

/-- REVOKE: a write of REVOKE.REQ. -/
def execRevoke (who : Sender) (req : BitVec 4) (s : State) : Host.Outcome State Fault Refusal :=
  .next (s.gatedWrite who VAULT_REVOKE_REQ req.toNat (fun s => s.revokeGo who req))

/-- The owner debug key's hash is programmed into OTP, once (R471). -/
def State.ownerProg (s : State) : State :=
  match s.otp.ownerHash with
  | some _ => s
  | none =>
    { s with otp := { s.otp with ownerHash := some ((List.range 12).flatMap (fun j => leBytes 4 (s.rd (VAULT_DBG_OWNER j)))) } }

/-- OWNER_PROG: a write of DBG_CTL.OWNER_PROG. -/
def execOwnerProg (who : Sender) (s : State) : Host.Outcome State Fault Refusal :=
  .next (s.gatedWrite who VAULT_DBG_CTL_OWNER_PROG 1 State.ownerProg)

/-! ## Debug (R470 to R473) -/

/-- The bytes of the token window. -/
def State.tokenBytes (s : State) : List Byte := (List.range 64).flatMap (fun j => leBytes 4 (s.rd (VAULT_DBG_TOKEN j)))

/-- Whether a token is accepted (R470, R471). -/
def State.tokenOk (s : State) (t : List Byte) : Bool :=
  let chal := (List.range 14).flatMap (fun j => leBytes 4 (s.rd (VAULT_DBG_CHAL j)))
  let sig := (t.drop 64).take 96
  let hash := sha384 (t.take 64)
  let owner := (t.drop 160).take 96
  leAt t 0 2 == 0x4455 && byteAt t 2 == 1 && (byteAt t 3 == 1 || byteAt t 3 == 2) && byteAt t 4 < 2 && leAt t 5 3 == 0 &&
  leAt t 8 8 == s.rd2 VAULT_SERIAL_LO VAULT_SERIAL_HI && (t.drop 16).take 48 == sha384 chal &&
  (if byteAt t 4 = 0 then ecdsaOk Config.quorakDebugKey hash sig
   else s.otp.ownerHash == some (sha384 owner) && ecdsaOk owner hash sig)

/-- The token in the window is presented (R471 to R473). After three failures GO does nothing, and an accepted token sets the level it names, be it
the lower one, and keeps the challenge (DESIGN CHOICE, notes/assumptions/95). -/
def State.presentToken (s : State) : State :=
  if 3 ≤ s.rd VAULT_DBG_CTL_ATTEMPTS then s
  else
    let t := s.tokenBytes
    let level := byteAt t 3 % 4
    if s.tokenOk t then
      let s := (s.wr VAULT_STAT_DEBUG level).updVault (fun v => { v with debugMax := max v.debugMax level })
      let s := (s.report srcVaultDebug 0 0 initNone 0 accNone level).vaultEvent s.admin 6 0 0 0
      if level = 2 then s.emptySlots.wr VAULT_STAT_UNWRAP_BLOCK 1 else s
    else ((s.bump VAULT_DBG_CTL_ATTEMPTS).report srcVaultDebug 0 1 initNone 0 accNone level).newChallenge

/-- DEBUG_TOKEN: a write of DBG_CTL.GO. -/
def execDebugToken (who : Sender) (s : State) : Host.Outcome State Fault Refusal :=
  .next (s.gatedWrite who VAULT_DBG_CTL_GO 1 State.presentToken)

/-- RELOCK: debug returns to locked (R472). -/
def execRelock (who : Sender) (s : State) : Host.Outcome State Fault Refusal :=
  .next (s.gatedWrite who VAULT_DBG_CTL_RELOCK 1 (fun s => s.wr VAULT_STAT_DEBUG 0))

/-! ## Tamper (R474, R475) -/

/-- TAMPER: a tamper cause empties every slot, blocks the identity key, latches the safe state, takes both ports' links down, and is
counted in OTP. -/
def execTamper (cause : Fin 6) (s : State) : Host.Outcome State Fault Refusal :=
  let c := cause.val + 1
  let s := ((s.emptySlots.wr VAULT_STAT_TAMPER 1).wr VAULT_STAT_UNWRAP_BLOCK 1).wr LEDGER_STAT_SIGN_BLOCKED 1
  let s := s.report srcVaultTamper 0 4 initNone 0 accNone c
  let s := [0, 1].foldl (fun s p =>
    if s.on (HOST_PORT_UP p) then
      [0, 1, 2, 3].foldl (fun s j => s.dropL1 (4 * p + j))
        ((s.clearAll [HOST_PORT_UP p, HOST_PORT_WIDTH p, HOST_PORT_RATE p, HOST_PORT_L1 p]).bump (HOST_PORT_DOWN p))
    else s) s
  .next ({ s with otp := { s.otp with tampers := min 32 (s.otp.tampers + 1), lastCause := c } } : State).showOtp

end Sys2Proof.Machine
end

