-- ==== Sys2Proof/Machine/Yoke.lean ====
section
/-!
DEFINITION. The meanings of the commands of the Yoke (spec/19 R499 to R514), but for the end of a takeover, which applies held writes.
-/
namespace Sys2Proof.Machine

open Sys2Proof

/-- A core sends its beat on the mailbox, and the active core on HB_OUT too (R501). A core in reset sends none. -/
def State.sendBeat (s : State) (c : YokeCore) (health : Bool) : State :=
  if 4 ≤ s.role c then s
  else
    let w := beatWord s.yoke.cycle (s.role c) health
    let s := s.emit (.beat false (coreNum c) w)
    if c == s.activeCore then s.emit (.beat true (coreNum c) w) else s

/-- CONTROL_CYCLE: beats are sent, the copies age, and the mode is decided (R501, R508, R509). Cycles run once the firmware has started. -/
def execControlCycle (healthA healthB : Bool) (s : State) : Host.Outcome State Fault Refusal :=
  if !s.on GLOBAL_READY_BOOT then .next s
  else
    let s := s.updYoke (fun y => { y with cycle := (y.cycle + 1) % 65536 })
    let s := (s.sendBeat .a healthA).sendBeat .b healthB
    let hot := decide (s.enabledCells ≤ 32) && !s.on YOKE_CTL_FORCE_COLD
    let s := (s.wrB YOKE_STAT_HOT_MODE hot).bump YOKE_STAT_COPY_AGE
    let sb := s.standby
    let s := if hot then s
      else if s.role sb == 1 then s.setRole sb 2
      else if s.role sb == 3 && s.yoke.syncWait then
        ((s.setRole sb 2).bump YOKE_CNT0_REPAIRS).updYoke (fun y => { y with syncWait := false })
      else s
    .next s.refreshHot

/-- STATE_COPY: the standby checks the copy of the cycle (R508, R509). A copy that has grown past 32 cells is cut short. -/
def execStateCopy (good : Bool) (s : State) : Host.Outcome State Fault Refusal :=
  let sb := s.standby
  let waits := s.role sb == 3 && s.yoke.syncWait
  if !s.on YOKE_STAT_HOT_MODE || !(s.standbyReady sb || waits) then .next s
  else if !good || decide (32 < s.enabledCells) then .next ((s.bump YOKE_CNT1_COPY_ERR).yokePath)
  else
    let s := (s.setRole sb 1).wr YOKE_STAT_COPY_AGE 0
    let s := if waits then (s.bump YOKE_CNT0_REPAIRS).updYoke (fun y => { y with syncWait := false }) else s
    .next s.refreshHot

/-- The count of a run of windows. -/
def runOf (hit : Bool) (n : Nat) : Nat := if hit then min (n + 1) 255 else 0

/-- The runs of the beat monitors after a window (R502, R505). -/
def Yoke.window (y : Yoke) (m b : Option Nat) (coop standby : Bool) : Yoke :=
  { y with
    mbMiss := runOf m.isNone y.mbMiss
    bothMiss := runOf (m.isNone && b.isNone) y.bothMiss
    differ := runOf (m.isSome && b.isSome && m != b) y.differ
    mbOnly := runOf (m.isNone && b.isSome) y.mbOnly
    brdOnly := runOf (b.isNone && m.isSome) y.brdOnly
    stMiss := runOf (!standby) y.stMiss
    coopMiss := ((!coop) :: y.coopMiss).take 3
    mbLost := y.mbLost && m.isNone
    brdLost := y.brdLost && b.isNone }

/-- A path lost for 3 windows while the other's beats arrive: YOKE_PATH, once until it recovers (R505, HB2). -/
def State.pathFaults (s : State) : State :=
  let y := s.yoke
  let s := if y.mbOnly == 3 && !y.mbLost then
      ((s.yokePath).bump YOKE_CNT1_PATH).updYoke (fun y => { y with mbLost := true })
    else s
  if y.brdOnly == 3 && !y.brdLost then
    ((s.yokePath).bump YOKE_CNT1_PATH).updYoke (fun y => { y with brdLost := true })
  else s

/-- A claim of the standby in ARB_COOP: confirmed by the Coop's own copy, or refused (R502, R503). A refused claim starts a new run. -/
def State.claimCoop (s : State) : State :=
  if 2 ≤ (s.yoke.coopMiss.filter id).length then s.moveToken tcClaim
  else if s.standbyReady s.standby then
    ((s.bump YOKE_CNT1_REFUSED).yokePath).updYoke (fun y => { y with mbMiss := 0 })
  else s

/-- BEAT_WINDOW: a window closes on both paths (R502 to R506). No beat is missed before the firmware has started (DESIGN CHOICE, notes/assumptions/97). -/
def execBeatWindow (mailbox board : Option Word) (coop standby : Bool) (s : State) : Host.Outcome State Fault Refusal :=
  if !s.on GLOBAL_READY_BOOT then .next s
  else
  let m := (mailbox.map BitVec.toNat).filter beatOk
  let b := (board.map BitVec.toNat).filter beatOk
  let s := s.updYoke (fun y => y.window m b coop standby)
  let s := (s.wrB YOKE_STAT_PATH_MB m.isSome).wrB YOKE_STAT_PATH_BRD b.isSome
  let s := if s.yoke.stMiss == 3 && s.standbyReady s.standby then s.isolate s.standby else s
  match s.rd YOKE_CTL_DET with
  | 1 => .next (if s.yoke.mbMiss == 3 then s.claimCoop else s)
  | 2 =>
    if s.yoke.mbMiss == 3 && s.standbyReady s.standby then .next (s.wr YOKE_STAT_ARB_REQ 1) else .next s
  | _ =>
    let s := s.pathFaults
    if s.yoke.bothMiss == 3 then .next (s.moveToken tcHbMiss)
    else if s.yoke.differ == 2 then .next (s.moveToken tcMismatch)
    else .next s

/-- RESIGN: the active core resigns (R503); in ARB_EXT the arbiter is asked (R504). -/
def execResign (s : State) : Host.Outcome State Fault Refusal :=
  if s.rd YOKE_CTL_DET == 2 && s.standbyReady s.standby then .next (s.wr YOKE_STAT_ARB_REQ 1)
  else .next (s.moveToken tcResign)

/-- ARB_GNT_CHANGE: a change of the grants has held for 1 µs (R502, R504); other modes ignore it. -/
def execArbGntChange (a b : Bool) (s : State) : Host.Outcome State Fault Refusal :=
  let s := s.wr YOKE_STAT_ARB_GNT (b2n a + 2 * b2n b)
  if s.rd YOKE_CTL_DET == 2 && a != b && (if b then YokeCore.b else YokeCore.a) != s.activeCore &&
      (s.standbyReady s.standby || s.on YOKE_STAT_ARB_REQ) then .next (s.moveToken tcGrant)
  else .next s

/-- ARB_TIMEOUT: the grants have been equal for ARB_TO (R504). -/
def execArbTimeout (s : State) : Host.Outcome State Fault Refusal :=
  .next (if s.rd YOKE_CTL_DET == 2 && (s.rd YOKE_STAT_ARB_GNT == 0 || s.rd YOKE_STAT_ARB_GNT == 3) then s.yokePath else s)

/-- CHECKPOINT: the active core writes a checkpoint into the older buffer, or fails to (R510). -/
def execCheckpoint (ok : Bool) (s : State) : Host.Outcome State Fault Refusal :=
  .next (if ok then s.updYoke (fun y => { y with ckpts := (s.now :: y.ckpts).take 2 }) else s.yokePath)

/-- A core fails its repair (R513). -/
def State.repairFails (s : State) (c : YokeCore) : State :=
  ((s.updYoke (fun y => { y with syncWait := false })).setRole c 6).yokeCore c

/-- REPAIR_SELFTEST_DONE: an isolated core's self-test ends (R513). -/
def execRepairSelftestDone (core : YokeCore) (pass : Bool) (s : State) : Host.Outcome State Fault Refusal :=
  if s.role core != 4 then .next s
  else if pass then .next (s.setRole core 3)
  else .next (s.repairFails core)

/-- REPAIR_SYNC_DONE: resynchronisation ends; in hot mode the core still waits for one good copy (R513). -/
def execRepairSyncDone (core : YokeCore) (pass : Bool) (s : State) : Host.Outcome State Fault Refusal :=
  if s.role core != 3 then .next s
  else if !pass then .next (s.repairFails core)
  else
    let s := s.updYoke (fun y => { y with repairs := Store.put 0 y.repairs (coreNum core) (s.repairs core + 1) })
    if s.on YOKE_STAT_HOT_MODE then .next (s.updYoke (fun y => { y with syncWait := true }))
    else .next ((s.setRole core 2).bump YOKE_CNT0_REPAIRS)

/-- SWITCH: a write of CTL.SWITCH (R514). -/
def State.switch (s : State) (who : Sender) : State :=
  if s.on YOKE_STAT_HOT_READY then s.moveToken tcSwitch else s.hostXs who xsRule YOKE_CTL_SWITCH.addr true

/-- SWITCH: a write of CTL.SWITCH (R514). -/
def execSwitchCore (who : Sender) (s : State) : Host.Outcome State Fault Refusal :=
  .next (s.gatedWrite who YOKE_CTL_SWITCH 1 (fun s => s.switch who))

end Sys2Proof.Machine
end

