-- ==== Sys2Proof/Machine/ConfigWrite.lean ====
section
/-!
DEFINITION. What CONFIG_WRITE does to the registers: a write of a register word, judged field by field by class, lock and the values the block accepts (spec/00
R10 to R13, R589, R590, spec/22 R554 to R562); the end of a takeover, which applies the writes held during it (spec/19 R511, R512).
-/
namespace Sys2Proof.Machine

open Sys2Proof

/-! ## The fields of a word -/

/-- The register table of a block, and the instance to read it with. -/
def Block.table : Block → List Row × Nat
  | .global => (rowsGlobal, 0) | .goose => (rowsGoose, 0) | .yoke => (rowsYoke, 0) | .coop => (rowsCoop, 0) | .vault => (rowsVault, 0)
  | .ledger => (rowsLedger, 0) | .time => (rowsTime, 0) | .net k => (rowsNet, k) | .mark m => (rowsMark, m) | .enc i => (rowsEnc, i)
  | .virt => (rowsVirt, 0) | .axis a => (rowsAxis, a) | .loop i => (rowsLoop, i) | .auxpwm k => (rowsAuxpwm, k) | .ain k => (rowsAin, k)
  | .gov => (rowsGov, 0) | .nougat => (rowsNougat, 0) | .memc => (rowsMemc, 0) | .host => (rowsHost, 0) | .insp p => (rowsInsp, p)
  | .cell n => (rowsCell, n) | .link n => (rowsLink, n)

/-- The indices of a row whose field lies in the word at `addr`. -/
def Row.indices (r : Row) (i addr : Nat) : List Nat :=
  let base := (r.fld i 0).addr
  if addr < base then []
  else
    let k := if r.stride = 0 then 0 else (addr - base) / r.stride
    ((List.range r.per).map (· + r.per * k)).filter (fun j => decide (j < r.count) && (r.fld i j).addr == addr)

/-- A field with its class and access. -/
structure FieldAt where
  fld : Fld
  cls : Cls
  acc : Acc
  deriving DecidableEq, Repr

/-- Whether a word of an encoder's window is one of the pair registers, which lie in the even input's window alone (spec/10). -/
def oddPair : Block → Nat → Bool
  | .enc i, addr => i % 2 == 1 && decide (0x100 ≤ addr % 0x1000 ∧ addr % 0x1000 < 0x200)
  | _, _ => false

/-- Whether a field is CTL.GANG of an odd cell, where it is reserved (spec/05 R160). -/
def oddGang : Block → Fld → Bool
  | .cell n, f => n % 2 == 1 && f == CELL_CTL_GANG n
  | _, _ => false

/-- The fields of the word at `addr` of a block. -/
def Block.fieldsAt (b : Block) (addr : Nat) : List FieldAt :=
  if oddPair b addr then []
  else (b.table.1.flatMap (fun r => (r.indices b.table.2 addr).map (fun j => ⟨r.fld b.table.2 j, r.cls, r.acc⟩))).filter
    (fun x => !oddGang b x.fld)

/-- The bits of a field in a written word. -/
def Fld.bits (f : Fld) (word : Nat) : Nat := bitsOf word f.lo f.width

/-! ## Enable, lock and value checks -/

/-- Whether the block to which a class S field belongs is enabled (R11, R82, R160 and the register sections of the chapters). -/
def State.enabledFor (s : State) (b : Block) (f : Fld) : Bool :=
  match b with
  | .host =>
    let off := f.addr - 0xE0000
    if off = 0x180 then s.on HOST_LMEM_SHARED_EN
    else if 0x1000 ≤ off ∧ off < 0x1200 then s.on (HOST_CTX_EN ((off - 0x1000) / 0x40))
    else if 0x2000 ≤ off then s.on (HOST_RING_EN ((off - 0x2000) / 0x10))
    else false
  | .nougat =>
    let off := f.addr - 0xC0000
    if 0x100 ≤ off ∧ off < 0x200 then s.on (NOUGAT_ARENA_EN ((off - 0x100) / 0x20)) else s.on NOUGAT_CTL_EN
  | .cell n =>
    if f = CELL_CTL_GANG n then s.cellState n != csOff || s.cellState (gangMate n) != csOff else s.on (CELL_CTL_EN n)
  | .link n => s.on (LINK_PHY_CTL_EN n)
  | .mark m => s.on (MARK_EN m)
  | .gov => s.on GOV_CTL_EN
  | .enc i => if 0x100 ≤ f.addr % 0x1000 ∧ f.addr % 0x1000 < 0x200 then s.on (ENC_DUAL_EN i) else s.on (ENC_CTL_EN i)
  | .axis a => s.on (AXIS_CTL_EN a)
  | .loop i => s.on (LOOP_CTL_EN i)
  | .auxpwm k => s.on (AUXPWM_EN k)
  | .insp p => if 0x100 ≤ f.addr % 0x10000 ∧ f.addr % 0x10000 < 0x200 then s.on (INSP_PORT_CTL_EN p) else s.on (INSP_CTL_EN p)
  | .time =>
    let off := f.addr - 0x60000
    if off < 0x80 then s.on TIME_PPS_CTL_IN_EN else if off < 0x100 then s.on TIME_PTP_CFG_EN else s.on TIME_DT_CFG_EN
  | .net k => s.on (NET_CTL_EN k)
  | _ => false

/-- The lock bit of a RWL field (R589). -/
def lockOf (f : Fld) : Option Fld :=
  if f.addr = HOST_ADMIN_LOCK.addr then some HOST_ADMIN_LOCK
  else if f.addr = YOKE_CTL_LOCK.addr ∨ f = YOKE_ARB_CFG_ARB_TO then some YOKE_CTL_LOCK
  else if f.addr = TIME_STATION_LOCK.addr then some TIME_STATION_LOCK
  else if f = GOOSE_CTL_INJ_LOCK then some GOOSE_CTL_INJ_LOCK
  else if 0x41000 ≤ f.addr ∧ f.addr < 0x41400 then some (VAULT_HEAD_CA_LOCK ((f.addr - 0x41000) / 0x80))
  else none

/-- Whether a lock stops a write of a field (R10, R589). -/
def State.lockedFld (s : State) (x : FieldAt) : Bool := x.acc == .rwl && (match lockOf x.fld with | some l => s.on l | none => false)

/-- Whether a write of `v` to a field is a refused change of a class S field (R590). -/
def State.refusesS (s : State) (b : Block) (x : FieldAt) (v : Nat) : Bool :=
  x.cls == .s && s.enabledFor b x.fld && v != s.rd x.fld

/-- Whether a window of the page store overlaps the system region (R51, R534). -/
def State.inSystem (s : State) (base size : Nat) : Bool := decide (0 < size ∧ s.rd GLOBAL_MEM_SYS_BASE < base + size)

/-- Whether the values that a write would leave in a word are values the block accepts: windows clear of the system region (R51), SIZE_LOG2 from 4 to 15 (spec/02), arenas
inside their local window (spec/04), TTS_STOP below TTS_WARN and OVS_PCT from 80 to 100 (spec/07), V_DN below V_UP (R346), and T_REL below
T_WARN below T_TRIP (R521). -/
def State.accepts (s : State) (b : Block) (addr : Nat) : Bool :=
  match b with
  | .host =>
    let off := addr - 0xE0000
    if off = 0x180 then !s.inSystem (s.rd HOST_LMEM_SHARED_BASE) (s.rd HOST_LMEM_SHARED_SIZE)
    else if 0x1000 ≤ off ∧ off < 0x1200 then
      let k := (off - 0x1000) / 0x40
      !s.inSystem (s.rd (HOST_CTX_LMEM_BASE k)) (s.rd (HOST_CTX_LMEM_SIZE k))
    else if 0x2000 ≤ off ∧ off % 0x10 = 8 then decide (4 ≤ s.rd (HOST_RING_SIZE_LOG2 ((off - 0x2000) / 0x10)))
    else true
  | .nougat =>
    let off := addr - 0xC0000
    if 0x100 ≤ off ∧ off < 0x200 then
      let k := (off - 0x100) / 0x20
      let base := s.rd (NOUGAT_ARENA_BASE k)
      let size := s.rd (NOUGAT_ARENA_SIZE k)
      let lo := s.rd (HOST_CTX_LMEM_BASE k)
      (size == 0 || decide (lo ≤ base ∧ base + size ≤ lo + s.rd (HOST_CTX_LMEM_SIZE k))) && !s.inSystem base size
    else true
  | .gov =>
    if addr = GOV_TTS_WARN.addr ∨ addr = GOV_TTS_STOP.addr then decide (s.rd GOV_TTS_STOP < s.rd GOV_TTS_WARN)
    else if addr = GOV_OVS_PCT.addr then decide (80 ≤ s.rd GOV_OVS_PCT ∧ s.rd GOV_OVS_PCT ≤ 100)
    else true
  | .axis a => addr != (AXIS_MODE_V_V_DN a).addr || decide (s.rd (AXIS_MODE_V_V_DN a) < s.rd (AXIS_MODE_V_V_UP a))
  | .coop =>
    (addr != COOP_THERM_T_WARN.addr && addr != COOP_THERM2_T_REL.addr) ||
      decide (s.rdS COOP_THERM2_T_REL < s.rdS COOP_THERM_T_WARN ∧ s.rdS COOP_THERM_T_WARN < s.rdS COOP_THERM_T_TRIP)
  | _ => true

/-! ## Fields whose write does more than set them -/

/-- A trigger: a 1 acts, a 0 does nothing. -/
def trig (eff : State → State) (v : Nat) (s : State) : State := if v = 0 then s else eff s

/-- An enable written 1 or 0. -/
def enab (on off : State → State) (v : Nat) (s : State) : State := if v = 0 then off s else on s

/-- An enable that clears counters when it is written 1. -/
def State.enClears (s : State) (f : Fld) (cs : List Fld) (v : Nat) : State := if v = 0 then s.wr f 0 else (s.wr f 1).clearAll cs

/-- Fields with the effect of a write. -/
abbrev Hooks := List (Fld × (Nat → State → State))

/-- A host's write of GPIO_DIR or GPIO_OUT changes only what GPIO_RES leaves at 0 (R562). -/
def State.gpioWrite (s : State) (who : Sender) (f : Fld) (v : Nat) : State :=
  if isHost who then
    let bit (j : Nat) : Nat := b2n (if bitOf (s.rd GLOBAL_GPIO_RES_RES) j then bitOf (s.rd f) j else bitOf v j) * 2 ^ j
    s.wr f ((List.range 16).map bit).sum
  else s.wr f v

/-- GLOBAL. A reset request written here, or held over a takeover, finds the sequencer's table as it was last read; any other key is
discarded (R540). -/
def hooksGlobal (who : Sender) : Hooks := [
  (GLOBAL_RST_KEY, fun v s => if v = 0xB007 then s.requestReset who s.lastTable else s),
  (GLOBAL_GPIO_RES_RES, fun v s => if isHost who then s.hostXs who xsRule GLOBAL_GPIO_RES_RES.addr true else s.wr GLOBAL_GPIO_RES_RES v),
  (GLOBAL_GPIO_DIR_DIR, fun v s => s.gpioWrite who GLOBAL_GPIO_DIR_DIR v),
  (GLOBAL_GPIO_OUT_OUT, fun v s => s.gpioWrite who GLOBAL_GPIO_OUT_OUT v)]

/-- GOOSE. An ARM written here finds a lost heartbeat still lost; SAFE_REL_ARM brings that it has come back. -/
def hooksGoose : Hooks := [
  (GOOSE_SAFE_REL_KEY, fun v s => if v = 0x5AFE then s.relArm (!s.goose.hbLost) else if v = 0xC1EA then s.relGo else s.relOther),
  (GOOSE_FIRST_CTL_ARM_ANY, trig (fun s => s.rearm GOOSE_FIRST_ANY)),
  (GOOSE_FIRST_CTL_ARM_REAL, trig (fun s => s.rearm GOOSE_FIRST_REAL)),
  (GOOSE_CTL_CLR_CNT, trig (fun s => s.clearAll gooseCounters)),
  (GOOSE_INJ_CTL_GO, trig State.inject)]

/-- YOKE: an isolated core tries its repair when AUTO_REPAIR is set (R513). -/
def hooksYoke (who : Sender) : Hooks := [
  (YOKE_CTL_AUTO_REPAIR, fun v s => ((s.wr YOKE_CTL_AUTO_REPAIR v).tryRepair .a).tryRepair .b),
  (YOKE_CTL_SWITCH, trig (fun s => s.switch who))]

/-- COOP. -/
def hooksCoop (who : Sender) : Hooks := [
  (COOP_PMB_MB0_GO, trig State.pmbMailbox),
  (COOP_SEQ_CTL_DOWN, trig (fun s => s.seqDown who)),
  (COOP_GATE_LO, fun v s => s.writeGate who false v),
  (COOP_GATE_HI, fun v s => s.writeGate who true v),
  (COOP_HEAD_PWR_EN, fun v s => s.writeHeadPwr v)]

/-- An operation of CTX[k].CTL; OP 0 is none. -/
def State.vaultOpGo (s : State) (k : Nat) : State :=
  if s.on (VAULT_CTX_STAT_BUSY k) then s
  else match s.rd (VAULT_CTX_CTL_OP k) with
    | 1 => s.unwrapGo k
    | 2 => s.clearGo k (s.rd (VAULT_CTX_CTL_SLOT k))
    | 3 => s.vaultStart k 3
    | _ => s

/-- VAULT. -/
def hooksVault (who : Sender) : Hooks := [
  (VAULT_ROLLBACK_GO, trig (fun s => s.rollbackGo who (s.rd VAULT_ROLLBACK_TARGET))),
  (VAULT_REVOKE_REQ, fun v s => s.revokeGo who (BitVec.ofNat 4 v)),
  (VAULT_DBG_CTL_GO, trig State.presentToken),
  (VAULT_DBG_CTL_RELOCK, trig (fun s => s.wr VAULT_STAT_DEBUG 0)),
  (VAULT_DBG_CTL_OWNER_PROG, trig State.ownerProg)] ++
  (List.range 8).map (fun k => (VAULT_CTX_CTL_GO k, trig (fun s => s.vaultOpGo k)))

/-- LEDGER. -/
def hooksLedger : Hooks := [(LEDGER_CTL_FLUSH, trig (fun s => s.startFlush true)), (LEDGER_CTL_EXPORT, trig State.exportGo)]

/-- The servo starts when SRC or the enable of PTP changes (R432, R434). -/
def State.startServo (s : State) : State :=
  let runs := s.timeSrc == 2 || (s.timeSrc == 1 && s.on TIME_PTP_CFG_EN)
  ({ s with time := { s.time with good := 0, bad := 0 } } : State).wr TIME_STAT_SERVO (if runs then svAcquiring else svFree)

/-- The counters that DT_CFG.EN clears when written 1. -/
def dtCounters : List Fld := [TIME_DT_CNT0_ACCEPT, TIME_DT_CNT0_DUP, TIME_DT_CNT1_LATE, TIME_DT_CNT1_DISC]

/-- TIME: the steering registers are the servo's while SRC is not FREE (R432). SRC comes last, so it is the SRC before the write that counts. -/
def hooksTime (who : Sender) : Hooks :=
  [TIME_SET_LO, TIME_SET_HI, TIME_INCR_OFF, TIME_ADJ].map (fun f => (f, fun v s => s.steered who f (fun s => s.wr f v))) ++ [
  (TIME_CTL_SET_GO, trig (fun s => s.steered who TIME_CTL_SET_GO State.setGo)),
  (TIME_CTL_ADJ_GO, trig (fun s => s.steered who TIME_CTL_ADJ_GO State.adjGo)),
  (TIME_CTL_ADJ_CANCEL, trig (fun s => s.steered who TIME_CTL_ADJ_CANCEL (fun s => s.setAdj 0))),
  (TIME_DT_CFG_EN, fun v s => s.enClears TIME_DT_CFG_EN dtCounters v),
  (TIME_PTP_CFG_EN, fun v s => if v = s.rd TIME_PTP_CFG_EN ∨ s.timeSrc ≠ 1 then s.wr TIME_PTP_CFG_EN v else (s.wr TIME_PTP_CFG_EN v).startServo),
  (TIME_CTL_SRC, fun v s => if v = s.rd TIME_CTL_SRC then s else (s.wr TIME_CTL_SRC v).startServo)]

/-- The counters of a port, which clear when EN is written 1. -/
def netCounters (k : Nat) : List Fld :=
  [NET_RX_PTP k, NET_RX_DT k, NET_RX_DROP k, NET_RX_FCS k, NET_TX_FRAMES k, NET_PAUSE k, NET_DOWN k] ++
  (List.range 4).flatMap (fun j => [NET_LQ_CNT_LATE_SENT k j, NET_LQ_CNT_DROPPED k j])

/-- NET: without EN a port has no link, and no loss of link is raised for it (R436: a port that loses link while enabled raises NET_LINK); what
STAT shows of a disabled port is a DESIGN CHOICE (notes/assumptions/94). -/
def hooksNet (k : Nat) : Hooks := [
  (NET_CTL_EN k, fun v s =>
    if v = 0 then ((s.wr (NET_CTL_EN k) 0).wr (NET_STAT_LINK k) 0).wr (NET_STAT_AN_DONE k) 0
    else s.enClears (NET_CTL_EN k) (netCounters k) v)]

/-- An encoder input and, in the even one, its pair. -/
def hooksEnc (i : Nat) : Hooks := [
  (ENC_CTL_EN i, enab (fun s => s.encEnable i) (fun s => s.encDisable i false)),
  (ENC_CTL_PWR i, enab (fun s => s.wr (ENC_CTL_PWR i) 1) (fun s => s.encDisable i true)),
  (ENC_CTL_RESTART i, trig (fun s => s.encRestartReq i)),
  (ENC_CAL_CTL_START i, trig (fun s => s.calRequest i)),
  (ENC_CAL_CTL_LOAD i, trig (fun s => s.calLoad i))] ++
  (if i % 2 = 0 then [
    (ENC_DUAL_EN i, enab (fun s => s.dualEnable (i / 2) true) (fun s => s.dualEnable (i / 2) false)),
    (ENC_DUAL_REARM i, trig (fun s => s.wr (ENC_DUAL_EXCLUDED i) 0))] else [])

/-- VIRT: without EN its velocity is 0 and the cells that use it lose their source (R316). -/
def hooksVirt : Hooks := [
  (VIRT_EN, fun v s =>
    if v = 0 ∧ s.on VIRT_EN then (s.wr VIRT_EN 0).virtRest.loseSources else s.wr VIRT_EN v),
  (VIRT_LOAD, trig State.virtLoad)]

/-- AXIS. -/
def hooksAxis (who : Sender) (a : Nat) : Hooks := [
  (AXIS_CTL_EN a, enab (fun s => (s.axOpEnable a 0).1) (fun s => (s.axOpDisable a 0).1)),
  (AXIS_CTL_POS_LOAD a, trig (fun s => s.posLoad who a)),
  (AXIS_CMD_GO a, fun v s => if v = 0 then s else s.axCommand a (if 2 ^ 31 ≤ v then v % 16 else s.rd (AXIS_CMD_OP a))),
  (AXIS_TBL_W a 3, fun v s => s.tblCommit a v)]

/-- LOOP: the time at which PV_SW was written shows whether a REG input is fresh (R362). -/
def hooksLoop (who : Sender) (i : Nat) : Hooks := [
  (LOOP_SP_PV_PV_SW i, fun v s => (s.wr (LOOP_SP_PV_PV_SW i) v).updSlot i (fun l => { l with swAt := some s.now })),
  (LOOP_CTL_EN i, enab (fun s => s.lpEnable who i) (fun s => s.lpDisable i)),
  (LOOP_CTL_COMMIT i, trig (fun s => s.lpCommit who i))]

/-- GOV. -/
def hooksGov : Hooks := [(GOV_STAT_LATCH, trig State.clearLatch), (GOV_TTS_MIN, fun _ s => s.wr GOV_TTS_MIN 0xFFFFFFFF)]

/-- An arena is enabled, with HEAD and TAIL at 0, or disabled, which a STRIP held in Nougat refuses as a class S change (spec/04). -/
def State.writeArenaEn (s : State) (who : Sender) (k v : Nat) : State :=
  let f := NOUGAT_ARENA_EN k
  s.memGate who f (fun s =>
    if v = s.rd f then s
    else if v = 1 then (((s.wr f 1).wr (NOUGAT_ARENA_HEAD k) 0).wr (NOUGAT_ARENA_TAIL k) 0).checkFull k
    else if s.nougat.jobs.any (·.ctx == k) then s.cfgLive who f.addr
    else s.wr f 0)

/-- NOUGAT. -/
def hooksNougat (who : Sender) : Hooks :=
  (NOUGAT_LANE_CTL_RESTORE, fun v s => s.restoreLanes v) ::
  (List.range 8).flatMap (fun k => [
    (NOUGAT_ARENA_EN k, fun v s => s.writeArenaEn who k v), (NOUGAT_ARENA_TAIL k, fun v s => s.writeTail who k v)])

/-- MEMC: CLR_CNT clears the counters (spec/22). -/
def hooksMemc : Hooks :=
  [(MEMC_CTL_CLR_CNT, trig (fun s => s.clearAll [MEMC_ECC_CORR, MEMC_ECC_UNCORR, MEMC_HELD_HELD_NH, MEMC_HELD_HELD_INSP]))]

/-- HOST: the contexts and rings that the word at `addr` belongs to; any write of XS_CNT clears it (spec/22). A CTL.EN written 1 is judged on the function as it was last seen. -/
def hooksHost (who : Sender) (addr : Nat) : Hooks :=
  if 0xE1000 ≤ addr ∧ addr < 0xE1200 then
    let k := (addr - 0xE1000) / 0x40
    [(HOST_CTX_EN k, enab (fun s => s.ctxOn who k (s.ctx k).busMaster (!(s.ctx k).flrBusy)) (fun s => s.ctxOff k)),
     (HOST_CTX_KICK k, fun _ s => s.trigFetch k true)]
  else if 0xE2000 ≤ addr then
    let q := (addr - 0xE2000) / 0x10
    [(HOST_RING_EN q, enab (fun s => s.ringOn q) (fun s => s.ringOff q)), (HOST_RING_ABORT q, trig (fun s => s.abortRing q))]
  else if 0xE0300 ≤ addr ∧ addr < 0xE0320 then
    let k := (addr - 0xE0300) / 4
    [(HOST_XS_CNT_COUNT k, fun _ s => s.wr (HOST_XS_CNT_COUNT k) 0)]
  else []

/-- The counters of a camera port, which clear when PORT_CTL.EN is written 1. -/
def portCounters (p : Nat) : List Fld :=
  [INSP_PORT_CNT0_NO_PIPE p, INSP_PORT_CNT0_BAD_DT p, INSP_PORT_CNT1_ECC_CORR p, INSP_PORT_CNT1_ECC_UNCORR p, INSP_PORT_CNT2_SOT p,
   INSP_PORT_CNT2_CRC p]

/-- INSP. -/
def hooksInsp (who : Sender) (p : Nat) : Hooks := [
  (INSP_CTL_EN p, fun v s => s.memGate who (INSP_CTL_EN p) (fun s => s.pipeEnable who p (v == 1))),
  (INSP_PORT_CTL_EN p, fun v s => s.enClears (INSP_PORT_CTL_EN p) (portCounters p) v),
  (INSP_CCI_MB0_GO p, trig (fun s => s.cciGo p))]

/-- CELL. A release written here finds a lost heartbeat still lost. -/
def hooksCell (who : Sender) (n : Nat) : Hooks := [
  (CELL_CTL_EN n, fun v s => s.memGate who (CELL_CTL_EN n) (enab (fun s => s.cellOn n) (fun s => s.cellOff n) v)),
  (CELL_CTL_RELEASE n, trig (fun s => s.cellRelease n (!s.goose.hbLost))),
  (CELL_CTL_SWAP_REQ n, trig (fun s => s.swapReq n)),
  (CELL_FE_CTL_SOFT_TRIG n, trig (fun s => s.softTrig n)),
  (CELL_NH_CTL_APPLY n, trig (fun s => s.nhUpdate n)),
  (CELL_NH_CTL_CLEAR n, trig (fun s => s.nhClear n)),
  (CELL_NH_VETO_VETO n, fun v s => s.nhVeto n v)]

/-- LINK. -/
def hooksLink (n : Nat) : Hooks := [
  (LINK_PHY_CTL_EN n, fun v s => if v = 1 then s.enableLane n else if s.on (LINK_PHY_CTL_EN n) then s.disableLane n else s),
  (LINK_EYE_CTL_START n, trig (fun s => s.startEye n)),
  (LINK_LL_CTL_RETRAIN n, trig (fun s => s.retrain n)),
  (LINK_CMD_CTL_GO n, trig (fun s => s.boxGo n))]

/-- The fields of a block whose write does more than set them, in the order in which they act. -/
def Block.hooks (b : Block) (who : Sender) (addr : Nat) : Hooks :=
  match b with
  | .global => hooksGlobal who
  | .goose => hooksGoose
  | .yoke => hooksYoke who
  | .coop => hooksCoop who
  | .vault => hooksVault who
  | .ledger => hooksLedger
  | .time => hooksTime who
  | .net k => hooksNet k
  | .enc i => hooksEnc i
  | .virt => hooksVirt
  | .axis a => hooksAxis who a
  | .loop i => hooksLoop who i
  | .gov => hooksGov
  | .nougat => hooksNougat who
  | .memc => hooksMemc
  | .host => hooksHost who addr
  | .insp p => hooksInsp who p
  | .cell n => hooksCell who n
  | .link n => hooksLink n
  | .mark _ => []
  | .auxpwm _ => []
  | .ain _ => []

/-! ## What follows from a word's new values -/

/-- The pins that a write changed: their nozzles are VETOED no longer (R423). -/
def State.pinsChanged (s old : State) (n word : Nat) : State :=
  (List.range 16).foldl (fun s j =>
    let k := 16 * word + j
    if s.rd (CELL_NH_PIN n k) = old.rd (CELL_NH_PIN n k) then s
    else s.updCell n (fun c => c.setNozzle k { c.nozzle k with vetoed := false })) s

/-- Levels that follow register values at once: the stop and slow requests (spec/07), PPS_OUT (R443), a calibration run that HOLD held up
(R329), the drive mode of an axis at rest (R346), the transmit codes of a disabled lane (R227), and vetoes that end with a new pin. -/
def State.follow (s old : State) (b : Block) (addr : Nat) : State :=
  match b with
  | .gov =>
    if addr = GOV_CTL_EN.addr ∨ addr = GOV_SW_DEM_SW_DEM.addr then s.refreshStop.refreshSlow
    else if addr = GOV_NET_EN.addr ∨ addr = GOV_NET_SLOT_OFF.addr then
      (if (s.rd GOV_NET_EN, s.rd GOV_NET_PERIOD, s.rd GOV_NET_SLOT_OFF) = (old.rd GOV_NET_EN, old.rd GOV_NET_PERIOD, old.rd GOV_NET_SLOT_OFF) then s
       else s.newSchedule)
    else s
  | .time => if addr = TIME_PPS_CTL_OUT_EN.addr then s.ppsCheck else s
  | .enc i => if addr = (ENC_CAL_CTL_HOLD i).addr then s.calPending i else s
  | .axis a =>
    if addr = (AXIS_CTL_DRIVE a).addr ∨ addr = (AXIS_MODE_V_V_DN a).addr then
      let target := s.axTarget a
      if (s.axis a).vel = 0 ∧ target ≠ s.rd (AXIS_STAT_DRIVE_NOW a) then s.takeDrive a target else s
    else s
  | .link n =>
    if addr = (LINK_TX_EQ_PRE n).addr ∧ !s.on (LINK_PHY_CTL_EN n) then s.useTxEq n
    else if addr = (LINK_RX_EQ_CTLE n).addr ∧ !s.on (LINK_PHY_CTL_EN n) then s.wr (LINK_RX_STAT_CTLE n) (s.rd (LINK_RX_EQ_CTLE n))
    else s
  | .cell n =>
    let off := addr % 0x10000
    if 0xC400 ≤ off ∧ off < 0xC600 then s.pinsChanged old n ((off - 0xC400) / 4) else s
  | _ => s

/-! ## A word -/

/-- A plain field takes its bits: a W1C bit written 1 clears, and a read-only field discards them (R10, R11). -/
def State.setPlain (s : State) (x : FieldAt) (v : Nat) : State :=
  match x.acc with
  | .ro => s
  | .w1c => if v = 0 then s else s.wr x.fld 0
  | _ => s.wr x.fld v

/-- The fields of a word are written together (R13, R590): fields refused under class S raise CFG_LIVE, locked fields are left,
the others take their values; values that the block does not accept discard the write with HOST_XS, cause VALUE; triggers and enables
act on the values written with them. -/
def State.writeFields (s : State) (who : Sender) (b : Block) (addr word : Nat) : State :=
  let all := b.fieldsAt addr
  let hooks := b.hooks who addr
  let live := all.filter (fun x => !s.lockedFld x && !s.refusesS b x (x.fld.bits word))
  let plain := live.filter (fun x => !hooks.any (fun h => h.1 == x.fld))
  let refused := all.any (fun x => s.refusesS b x (x.fld.bits word))
  let s' := plain.foldl (fun t x => t.setPlain x (x.fld.bits word)) s
  if !s'.accepts b addr then s.hostXs who xsValue addr true
  else
    let s' := if refused then s'.cfgLive who addr else s'
    let s' := hooks.foldl (fun t h => if live.any (fun x => x.fld == h.1) then h.2 (h.1.bits word) t else t) s'
    s'.follow s b addr

/-- The ownership word that an offset in HOST names. -/
def ownWordAt (addr : Nat) : Option (OwnKind × Nat) :=
  [OwnKind.cell, .axis, .loop, .insp, .lq, .enc].findSome? (fun k =>
    let base := (ownFld k 0).addr
    if base ≤ addr ∧ addr < base + 4 * ((ownCount k + 7) / 8) then some (k, (addr - base) / 4) else none)

/-- A write of one word that the filter passed. Ownership (R45), a takeover (R77), block resets (R542) and the background bank (R151) have
rules of their own; the actions of TIME.CTL are refused together (R432). -/
def State.applyWord (s : State) (who : Sender) (addr word : Nat) : State :=
  match decodeAddr addr with
  | none => s
  | some (.host, _) =>
    match ownWordAt addr with
    | some (k, w) => s.writeOwners who k w word
    | none =>
      match who with
      | .ctx k =>
        if addr = HOST_ADMIN_CTX.addr ∧ (s.ctx s.admin).inLoss then s.takeAdmin k (HOST_ADMIN_CTX.bits word)
        else s.writeFields who .host addr word
      | _ => s.writeFields who .host addr word
  | some (.global, _) => if addr = GLOBAL_BLK_RST_NOUGAT.addr then s.blockReset who word else s.writeFields who .global addr word
  | some (.cell n, off) =>
    if 0x4000 ≤ off ∧ off < 0x6000 then s.bgWrite who n (decide (0x5000 ≤ off)) (off % 0x1000 / 4) word
    else s.writeFields who (.cell n) addr word
  | some (.time, _) =>
    if addr = TIME_CTL_SRC.addr ∧ isHost who ∧ s.timeSrc ≠ 0 ∧ bitsOf word 4 3 ≠ 0 then
      (s.writeFields who .time addr (word - 16 * bitsOf word 4 3)).hostXs who xsRule addr true
    else s.writeFields who .time addr word
  | some (b, _) => s.writeFields who b addr word

/-- A write of a register that has no command of its own (R11). -/
def State.writeAccess (s : State) (who : Sender) (addr size value : Nat) : State :=
  match s.gateWrite who addr size with
  | .pass => s.applyWord who addr value
  | .hold => { s with heldWrites := s.heldWrites ++ [⟨who, addr, 32, value⟩] }
  | .drop s => s

/-! ## The end of a takeover (R510 to R512) -/

/-- A held write is applied: a word, or one field with a command of its own. One that resets the device ends those after it. -/
def State.applyHeld (s : State) (h : HeldWrite) : State :=
  if s.coop.coreReset then s
  else if h.lo = 32 then s.applyWord h.who h.addr h.val
  else match decodeAddr h.addr with
    | none => s
    | some (b, _) =>
      match (b.hooks h.who h.addr).find? (fun x => x.1.addr == h.addr && x.1.lo == h.lo) with
      | some x => x.2 h.val s
      | none => s

/-- The commands of a transfer that has not sent its END: they start again with BEGIN (R512). -/
def Desc.transfers (d : Desc) : Bool := (d.type == tyWave || d.type == tyTrim) && d.phase == .started

/-- Whether a command belongs to a WAVE or TRIM transfer. -/
def CmdTx.ofTransfer (c : CmdTx) : Bool :=
  [opWaveBegin, opWaveData, opWaveEnd, opTrimBegin, opTrimData, opTrimEnd].contains (c.payload % 256)

/-- Restart the transfers of one control ring whose END has not been sent. -/
def State.restartTransfers (s : State) (n : Nat) : State :=
  let q := 2 * n + 1
  (s.ring q).held.foldl (fun s d =>
    if d.transfers && (s.link n).cmds.any (fun c => c.for_ == .desc q d.idx) then
      (s.updLink n (fun l => { l with cmds := l.cmds.filter (fun c => !c.ofTransfer) })).setPhase q d.idx .queued
    else s) s

/-- TAKEOVER_COMPLETE: the new active core has resumed (R507, R510). Transfers in progress start again (R512), the held writes are applied in
order (R511), and a flush that was abandoned starts again (spec/21). -/
def execTakeoverComplete (us : BitVec 24) (ckptOk : Bool) (s : State) : Host.Outcome State Fault Refusal :=
  if !s.on YOKE_STAT_HOLDING then .next s
  else
    let noCkpt := s.on YOKE_LAST_COLD && (!ckptOk || s.yoke.ckpts.isEmpty)
    let s := ((s.wr YOKE_LAST_DURATION us.toNat).wrB YOKE_LAST_NO_CKPT noCkpt).wr YOKE_STAT_HOLDING 0
    let s := (List.range 64).foldl State.restartTransfers s
    let held := s.heldWrites
    let s := held.foldl State.applyHeld ({ s with heldWrites := [] } : State)
    .next s.resumeFlush

end Sys2Proof.Machine
end

