-- ==== Sys2Proof/Machine/Flags.lean ====
section
/-!
DEFINITION. Status that follows other state and is held nowhere: gang roles, nozzle status, Nougat's lanes, gates of fused cells, the levels of GPIO
and of AUX_PWM.
-/
namespace Sys2Proof.Machine

open Sys2Proof

/-- GANG_ROLE: 0 none, 1 leader, 2 follower (spec/05). -/
def State.gangRole (s : State) (n : Nat) : Nat := if !s.ganged n then 0 else 1 + n % 2

/-- NH_CNT.OUT: the nozzles OUT or PINNED_OUT (spec/15). -/
def State.nhOut (s : State) (n : Nat) : Nat := ((List.range 2048).filter (s.nzBad n)).length

/-- NH_CNT.UNCOVERED: the nozzles flagged UNCOVERED. -/
def State.nhUncovered (s : State) (n : Nat) : Nat := ((s.cell n).kept.filter (fun e => e.2.uncov)).length

/-- NZ_STAT: SCORE, STATE, last VERDICT, DONOR, VETOED and UNCOVERED of a nozzle (spec/15). -/
def State.nzStat (s : State) (n k : Nat) : Nat :=
  let z := (s.cell n).nozzle k
  let donor := (s.cell n).kept.any (fun e => e.2.donors.contains k)
  let uncov := (s.cell n).kept.any (fun e => e.1 == k && e.2.uncov)
  z.score + 16 * s.nzState n k + 256 * z.verdict + 2048 * b2n donor + 4096 * b2n z.vetoed + 8192 * b2n uncov

/-- LANE_STAT.BUSY: the lanes that hold a block (spec/04). -/
def State.lanesBusy (s : State) : Nat := ((List.range 16).map (fun i => b2n (s.laneBlock i).isSome * 2 ^ i)).sum

/-- What Nougat's fields show: busy lanes, and the blocks of a context that wait in lanes for commit order or space. -/
def State.showNougat (s : State) (f : Fld) : Nat :=
  if f = NOUGAT_LANE_STAT_BUSY then s.lanesBusy
  else if 0xC0100 ≤ f.addr ∧ f.addr < 0xC0200 ∧ f = NOUGAT_ARENA_WAITING ((f.addr - 0xC0100) / 0x20) then
    (s.nougat.lanes.filter (fun e => e.2.ctx == (f.addr - 0xC0100) / 0x20 && e.2.coded.isSome)).length
  else s.rd f

/-- COOP.GATE as it reads: bits of fused cells read 1 (R2). -/
def State.gateShown (s : State) (hi : Bool) : Nat :=
  ((List.range 32).map (fun j =>
    let n := j + (if hi then 32 else 0)
    b2n (s.fused n || s.gated n) * 2 ^ j)).sum

/-- GPIO_IN: the driven balls carry GPIO_OUT; the levels of the others come from outside and are free (R562). -/
def State.gpioIn (s : State) : Nat :=
  ((List.range 16).map (fun j =>
    b2n (if bitOf (s.rd GLOBAL_GPIO_DIR_DIR) j then bitOf (s.rd GLOBAL_GPIO_OUT_OUT) j else bitOf s.free j) * 2 ^ j)).sum

/-- The level of ball AUX_PWMk, `t` × 10 ns after its period began: low while EN is 0 and while the root clock or VDD_CORE is lost, otherwise
high for the high time first, and inverted under POL (spec/13 R375, R378). -/
def State.auxLevel (s : State) (k t : Nat) : Bool :=
  s.on (AUXPWM_EN k) && s.on GLOBAL_READY_PLL && decide ((railLimits 0).1 ≤ 10 * s.rd (COOP_SUP_NOW 0)) &&
    (decide (t < Store.get 0 s.auxHigh k) != s.on (AUXPWM_POL k))

end Sys2Proof.Machine
end

