-- ==== Sys2Proof/Machine/Operands.lean ====
section
/-!
DEFINITION. Reading a register over BAR0 (spec/00 R9, R10, R14, spec/22 R555 to R563): what each field shows, the read of a word by
a sender, what the filter records of it, and the captures of the counters that span several words.
-/
namespace Sys2Proof.Machine

open Sys2Proof

/-- The word of a segment row that TBL_W[w] reads (spec/12 R335). -/
def SegRow.word (r : SegRow) (w : Nat) : Nat :=
  bitsOf (r.dur + toBits 32 r.vel * 2 ^ 32 + toBits 64 r.pos * 2 ^ 64) (32 * w) 32

/-- What a cell's fields show that follow other state. -/
def State.showCell (s : State) (n : Nat) (f : Fld) : Nat :=
  if f = CELL_STATE_GANG_ROLE n then s.gangRole n
  else if f = CELL_FE_STAT_SRC_VALID n then b2n (s.srcOk n (s.rdF (CELL_FE_CTL_SRC n)))
  else if f = CELL_FE_STAT_DUE n ∨ f = CELL_FE_STAT_STALLED n then (if s.cellState n = csPrinting then s.rd f else 0)
  else if f = CELL_FE_STAT_STOP_FIRE n then b2n s.stopFireLatch
  else if f = CELL_FE_STAT_FIRE_EN n then b2n (s.fireEn (n / 8))
  else if f = CELL_NH_CNT_OUT n then s.nhOut n
  else if f = CELL_NH_CNT_UNCOVERED n then s.nhUncovered n
  else if 0xD000 ≤ f.addr % 0x10000 ∧ f.addr % 0x10000 < 0xE000 then s.nzStat n ((f.addr % 0x1000) / 2 + f.lo / 16)
  else s.rd f

/-- What an encoder's fields show that follow other state. -/
def State.showEnc (s : State) (i : Nat) (f : Fld) : Nat :=
  let e := s.enc i
  if f = ENC_STAT_PRINTING i then b2n (s.encInUse i)
  else if f = ENC_POS_LO i then toBits 48 (e.x / 65536) % 2 ^ 32
  else if f = ENC_POS_HI i then toBits 48 (e.x / 65536) / 2 ^ 32
  else if f = ENC_VEL i then toBits 32 (satInt 32 (s.divOpen (e.v * 1000000000) (2 ^ 40)))
  else if f = ENC_ACC i then toBits 32 (satInt 32 (s.divOpen (e.a * 1000000000000000000) (2 ^ 56)))
  else if f = ENC_COUNT_LO i then toBits 64 e.count % 2 ^ 32
  else if f = ENC_COUNT_HI i then toBits 64 e.count / 2 ^ 32
  else if f = ENC_POS_OFF_LO i then toBits 48 (e.posOff / 65536) % 2 ^ 32
  else if f = ENC_POS_OFF_HI i then toBits 48 (e.posOff / 65536) / 2 ^ 32
  else if f = ENC_DUAL_VALID i then b2n (s.pairSample (i / 2)).ok
  else s.rd f

/-- What the virtual encoder's fields show. -/
def State.showVirt (s : State) (f : Fld) : Nat :=
  if f = VIRT_NOW_LO then toBits 48 (s.virt.x / 65536) % 2 ^ 32
  else if f = VIRT_NOW_HI then toBits 48 (s.virt.x / 65536) / 2 ^ 32
  else if f = VIRT_NOW_VEL then toBits 32 (s.divOpen s.virt.v 50000000)
  else s.rd f

/-- What an axis's fields show. -/
def State.showAxis (s : State) (a : Nat) (f : Fld) : Nat :=
  let x := s.axis a
  if f = AXIS_STAT_LIM a then b2n (s.limActive a 0) + 2 * b2n (s.limActive a 1) + 4 * b2n (s.limActive a 2)
  else if f = AXIS_POS_LO a then toBits 64 x.pos % 2 ^ 32
  else if f = AXIS_POS_HI a then toBits 64 x.pos / 2 ^ 32
  else if f = AXIS_VEL a then toBits 32 x.vel
  else if (AXIS_TBL_W a 0).addr ≤ f.addr ∧ f.addr ≤ (AXIS_TBL_W a 3).addr then
    (x.rowAt (s.rd (AXIS_TBL_IDX a))).word ((f.addr - (AXIS_TBL_W a 0).addr) / 4)
  else s.rd f

/-- What GLOBAL shows of the part fused (R1, R2) and of its general-purpose balls (R562). -/
def State.showGlobal (s : State) (f : Fld) : Nat :=
  let fusedMask := ((List.range 64).map (fun n => b2n (s.fused n) * 2 ^ n)).sum
  if f = GLOBAL_DEVICE_ID then s.part.deviceId
  else if f = GLOBAL_PCI_VID_DID then s.part.deviceId % 2 ^ 16
  else if f = GLOBAL_REV_CELLS then s.part.cells
  else if f = GLOBAL_FUSED_LO then fusedMask % 2 ^ 32
  else if f = GLOBAL_FUSED_HI then fusedMask / 2 ^ 32
  else if f = GLOBAL_GPIO_IN_IN then s.gpioIn
  else s.rd f

/-- What a field shows when it is read: the register field, or what the field follows. A WO field shows 0. -/
def State.showFld (s : State) (b : Block) (x : FieldAt) : Nat :=
  if x.acc = .wo then 0
  else match b with
    | .cell n => s.showCell n x.fld
    | .enc i => s.showEnc i x.fld
    | .virt => s.showVirt x.fld
    | .axis a => s.showAxis a x.fld
    | .global => s.showGlobal x.fld
    | .time =>
      if x.fld = TIME_NOW_LO then s.timeNs % 2 ^ 32
      else if x.fld = TIME_NOW_HI then s.timeNs / 2 ^ 32
      else if x.fld = TIME_NOW_FRAC then s.timeFrac
      else s.rd x.fld
    | .nougat => s.showNougat x.fld
    | .vault =>
      if 0x40400 ≤ x.fld.addr ∧ x.fld.addr < 0x40500 ∧ x.fld.lo = 8 then min 255 (s.slotUses ((x.fld.addr - 0x40400) / 4)) else s.rd x.fld
    | .coop =>
      if x.fld = COOP_GATE_LO ∨ x.fld = COOP_GATE_HI then s.gateShown (x.fld = COOP_GATE_HI) else s.rd x.fld
    | _ => s.rd x.fld

/-- Whether a read reaches its register (R2, R41, R555, R556): the Yoke and the Vault read every register but those of a fused cell, and so does the debug
port at the levels TRACE and FULL, to which VAULT reads 0 beside STAT (spec/17 R473). -/
def State.mayRead (s : State) (who : Sender) (b : Block) (off : Nat) : Bool :=
  !(b.cell?.filter s.fused).isSome && match who with
    | .ctx k => !s.portReset k && (s.on GLOBAL_READY_HOST || beforeReady b off) && s.ctxMayRead k b off
    | .debug => s.rd VAULT_STAT_DEBUG != 0 && (b != .vault || decide (off < 4))
    | _ => true

/-- Whether a read is answered from its register: it reaches it, and the cell is not gated (R523). -/
def State.answers (s : State) (who : Sender) (b : Block) (off : Nat) : Bool := s.mayRead who b off && !(b.cell?.filter s.gated).isSome

/-- The word that a sender reads, or 0 where the filter refuses the read, the address holds no register, or the cell is gated (R9, R523,
R555, R556); two entries of a bank stand in one word (R163). The words of a counter beside its low one are shown as they stand now: a read of them gives what the
last read of the low word captured (`State.readShown`). -/
def State.readWord (s : State) (who : Sender) (addr : Nat) : Nat :=
  match decodeAddr addr with
  | none => 0
  | some (b, off) =>
    if !s.answers who b off then 0
    else match b with
      | .cell n =>
        if 0x4000 ≤ off ∧ off < 0x8000 then
          let key := 2048 * (off / 0x1000 % 2) + 2 * (off % 0x1000 / 4)
          let bank := (s.cell n).bank (if off < 0x6000 then 1 - s.fgBank n else s.fgBank n)
          Store.get 0 bank key + 65536 * Store.get 0 bank (key + 1)
        else ((b.fieldsAt addr).map (fun x => s.showFld b x * 2 ^ x.fld.lo)).sum
      | _ => ((b.fieldsAt addr).map (fun x => s.showFld b x * 2 ^ x.fld.lo)).sum

/-- The words that a read of a low word captures: those beside a position (spec/10 R311, spec/12) and beside device time (spec/16 R427). -/
def capturedBy (addr : Nat) : List Nat :=
  match decodeAddr addr with
  | some (.enc i, _) => if addr = (ENC_POS_LO i).addr then [(ENC_POS_HI i).addr, (ENC_VEL i).addr, (ENC_ACC i).addr] else []
  | some (.axis a, _) =>
    if addr = (AXIS_POS_LO a).addr then [(AXIS_POS_HI a).addr, (AXIS_VEL a).addr, (AXIS_REMAIN_LO a).addr, (AXIS_REMAIN_HI a).addr] else []
  | some (.time, _) => if addr = TIME_NOW_LO.addr then [TIME_NOW_HI.addr, TIME_NOW_FRAC.addr] else []
  | _ => []

/-- Whether a word is one that a read of its low word captures. -/
def isCaptured (addr : Nat) : Bool :=
  match decodeAddr addr with
  | some (.enc i, _) => (capturedBy (ENC_POS_LO i).addr).contains addr
  | some (.axis a, _) => (capturedBy (AXIS_POS_LO a).addr).contains addr
  | some (.time, _) => (capturedBy TIME_NOW_LO.addr).contains addr
  | _ => false

/-- What a read of a word returns: the present word, or for a captured one what the last capture holds. -/
def State.readShown (s : State) (who : Sender) (addr : Nat) : Nat :=
  if isCaptured addr && (decodeAddr addr).any (fun b => s.answers who b.1 b.2) then Store.get 0 s.caps addr else s.readWord who addr

/-- A word that was read captures the words beside it. -/
def State.captureWords (s : State) (who : Sender) (addr : Nat) : State :=
  { s with caps := (capturedBy addr).foldl (fun c a => Store.put 0 c a (s.readWord who a)) s.caps }

/-- What the filter records of a read, and whether the read is answered (R7, R46, R555, R558): an access that is no aligned word is ignored, one to a fused cell
or outside what the sender may read is answered with 0. -/
def State.gateRead (s : State) (who : Sender) (addr size : Nat) : State × Bool :=
  if (match who with | .ctx k => s.portReset k | _ => false) then (s, false)
  else if size ≠ 4 ∨ addr % 4 ≠ 0 then (s.hostXs who xsSize addr false, false)
  else match decodeAddr addr with
    | none => (s, true)
    | some (b, off) =>
      if (b.cell?.filter s.fused).isSome then (s.hostXs who xsRule addr false, true)
      else match who with
        | .ctx k =>
          if !s.on GLOBAL_READY_HOST && !beforeReady b off then (s, true)
          else if !s.ctxMayRead k b off then (s.hostXs who xsRule addr false, true)
          else (s, true)
        | _ => (s, true)

/-- A read of `size` bytes by a master: what the filter records, the answer, and the capture that goes with it. The answers that are open (a quotient rounded as the
spec does not say) are drawn afresh for each read. -/
def State.readAccess (s : State) (who : Sender) (addr size : Nat) : State :=
  match s.gateRead who addr size with
  | (t, false) => t
  | (t, true) => ((t.emit (.answer who (s.readShown who addr))).captureWords who addr).draw

end Sys2Proof.Machine
end

