-- ==== Sys2Proof/Machine/Access.lean ====
section
/-!
DEFINITION. CONFIG_WRITE, the accesses that masters make: of a register over BAR0 (spec/22 R555), of the MSI-X table and the pending-bit array over
BAR2, and of the configuration space of a function (spec/02 R37). The table has one row for them; what each needs beyond the spec is in notes/assumptions/31
and 63.
-/
namespace Sys2Proof.Machine

open Sys2Proof

/-! ## The MSI-X window (R37) -/

/-- Change what the configuration space of a function holds. -/
def State.updFn (s : State) (k : Nat) (f : PciFn → PciFn) : State := s.updCtx k (fun c => { c with fn := f c.fn })

/-- An entry of the MSI-X table with one of its four words changed: address low and high, data, and the mask in bit 0 of the last. -/
def MsixVec.put (m : MsixVec) (word v : Nat) : MsixVec :=
  match word with
  | 0 => { m with addr := m.addr / 2 ^ 32 * 2 ^ 32 + v / 4 * 4 }
  | 1 => { m with addr := m.addr % 2 ^ 32 + v * 2 ^ 32 }
  | 2 => { m with data := v }
  | _ => { m with masked := bitOf v 0 }

/-- A word of an entry of the MSI-X table. -/
def MsixVec.word (m : MsixVec) (word : Nat) : Nat :=
  match word with
  | 0 => m.addr % 2 ^ 32
  | 1 => m.addr / 2 ^ 32
  | 2 => m.data
  | _ => b2n m.masked

/-- Whether requests reach the memory windows of a function: its link is up and it is in D0 (R37). -/
def State.fnOpen (s : State) (k : Nat) : Bool := s.on (HOST_PORT_UP (k / 4)) && !s.portReset k

/-- A write of a word at an offset of BAR2: the MSI-X table holds 64 entries of 16 bytes from 0, and the pending-bit array is the device's. -/
def State.bar2Write (s : State) (k off v : Nat) : State :=
  if !s.fnOpen k || off % 4 != 0 || decide (0x400 ≤ off) then s
  else
    let e := off / 16
    (s.updFn k (fun f => { f with vecs := Store.put MsixVec.reset f.vecs e ((s.msixVec k e).put (off % 16 / 4) v) })).sendPending k

/-- What a word at an offset of BAR2 reads as: an entry of the table, or 32 pending bits from 0x1000. -/
def State.bar2Word (s : State) (k off : Nat) : Nat :=
  if off < 0x400 then (s.msixVec k (off / 16)).word (off % 16 / 4)
  else if off = 0x1000 ∨ off = 0x1004 then
    let first := 32 * ((off - 0x1000) / 4)
    ((List.range 32).map (fun j => b2n ((s.ctx k).fn.pending.contains (first + j)) * 2 ^ j)).sum
  else 0

/-- A read of a word at an offset of BAR2. -/
def State.bar2Read (s : State) (k : CtxId) (off : Nat) : State :=
  if !s.fnOpen k || off % 4 != 0 then s else s.emit (.answer (.ctx k) (s.bar2Word k off))

/-! ## The configuration space (R37, R40, R41) -/

/-- What a configuration request meets: no function behind a port held in reset or without a link, retry status while the port gives it (R40), else the function. -/
inductive CfgGate | silent | retry | open_
  deriving DecidableEq, Repr

/-- What a configuration request to the function of context `k` meets. -/
def State.cfgGate (s : State) (k : Nat) : CfgGate :=
  if s.on (HOST_PORT_PERST (k / 4)) || !s.on (HOST_PORT_UP (k / 4)) then .silent
  else if s.on (HOST_PORT_CRS (k / 4)) then .retry
  else .open_

/-- A register of the configuration space as it reads: the identity and the BARs as R37 gives them, and the controls that a host has set. -/
def State.pciWord (s : State) (k : Nat) (r : PciReg) : Nat :=
  let c := s.ctx k
  match r with
  | .vendorId => s.rd GLOBAL_PCI_VID_VID
  | .deviceId => s.part.deviceId % 2 ^ 16
  | .classCode => 0x118000
  | .interruptPin => 0
  | .bar0 => c.fn.bar0 % 2 ^ 32 + 4
  | .bar0Hi => c.fn.bar0 / 2 ^ 32
  | .bar2 => c.fn.bar2 % 2 ^ 32 + 4
  | .bar2Hi => c.fn.bar2 / 2 ^ 32
  | .busMaster => b2n c.busMaster
  | .msixEnable => b2n c.fn.msixOn
  | .msixMask => b2n c.fn.fnMask
  | .powerState => if c.fn.d3 then 3 else 0
  | .maxPayload => c.fn.mps
  | .maxReadRequest => c.fn.mrrs
  | .l1ExitLatency => 5

/-- A register of the configuration space is written: a BAR takes the bits above its size, a value that R37 does not list for a control is discarded, and
what reads the same for every function takes nothing. -/
def State.pciPut (s : State) (k : Nat) (r : PciReg) (v : Nat) : State :=
  match r with
  | .bar0 => s.updFn k (fun f => { f with bar0 := f.bar0 / 2 ^ 32 * 2 ^ 32 + v / 2 ^ 26 * 2 ^ 26 })
  | .bar0Hi => s.updFn k (fun f => { f with bar0 := f.bar0 % 2 ^ 32 + v * 2 ^ 32 })
  | .bar2 => s.updFn k (fun f => { f with bar2 := f.bar2 / 2 ^ 32 * 2 ^ 32 + v / 2 ^ 14 * 2 ^ 14 })
  | .bar2Hi => s.updFn k (fun f => { f with bar2 := f.bar2 % 2 ^ 32 + v * 2 ^ 32 })
  | .busMaster => if v % 2 = 1 then s.updCtx k (fun c => { c with busMaster := true }) else s.busMasterOff k
  | .msixEnable => (s.updFn k (fun f => { f with msixOn := bitOf v 0 })).sendPending k
  | .msixMask => (s.updFn k (fun f => { f with fnMask := bitOf v 0 })).sendPending k
  | .powerState => if v = 0 ∨ v = 3 then s.updFn k (fun f => { f with d3 := decide (v = 3) }) else s
  | .maxPayload => if v ≤ 2 then s.updFn k (fun f => { f with mps := v }) else s
  | .maxReadRequest => if v ≤ 5 then s.updFn k (fun f => { f with mrrs := v }) else s
  | .vendorId => s
  | .deviceId => s
  | .classCode => s
  | .interruptPin => s
  | .l1ExitLatency => s

/-- A write of the configuration space of the function of context `k`. -/
def State.pciWrite (s : State) (k : Nat) (r : PciReg) (v : Nat) : State :=
  match s.cfgGate k with
  | .silent => s
  | .retry => s.emit (.retryStatus k)
  | .open_ => s.pciPut k r v

/-- A read of the configuration space of the function of context `k`. -/
def State.pciRead (s : State) (k : CtxId) (r : PciReg) : State :=
  match s.cfgGate k with
  | .silent => s
  | .retry => s.emit (.retryStatus k)
  | .open_ => s.emit (.answer (.ctx k) (s.pciWord k r))

/-- CONFIG_WRITE: an access of a master that has no command of its own (R11). BAR2 and the configuration space are those of the sender's own function; a sender
that is no host has none, and the access does nothing, as one of them of another size than a word does (PRESUMED, notes/assumptions/63). -/
def execConfigWrite (who : Sender) (addr : Place) (size : Fin 65) (value : Option Word) (s : State) : Host.Outcome State Fault Refusal :=
  .next (match addr, who, value with
    | .reg a, _, some v => s.writeAccess who a.toNat size.val v.toNat
    | .reg a, _, none => s.readAccess who a.toNat size.val
    | .bar2 off, .ctx k, some v => if size = 4 then s.bar2Write k off.toNat v.toNat else s
    | .bar2 off, .ctx k, none => if size = 4 then s.bar2Read k off.toNat else s
    | .pci r, .ctx k, some v => if size = 4 then s.pciWrite k r v.toNat else s
    | .pci r, .ctx k, none => if size = 4 then s.pciRead k r else s
    | _, _, _ => s)

end Sys2Proof.Machine
end

