-- ==== Sys2Proof/Machine/Dispatch.lean ====
section
/-!
DEFINITION. The dispatch: one arm per command of the opcode table, each a direct call of that command's meaning.
-/
namespace Sys2Proof.Machine

open Sys2Proof

/-- The effect of one command on everything but the queue. -/
def exec (i : Instr) (s : State) : Host.Outcome State Fault Refusal :=
  match i with
  | .configWrite who addr size value => Sys2Proof.Machine.execConfigWrite who addr size value s
  | .ownershipWrite who kind word value => Sys2Proof.Machine.execOwnershipWrite who kind word value s
  | .adminTakeover who value => Sys2Proof.Machine.execAdminTakeover who value s
  | .perstAssert p => Sys2Proof.Machine.execPerstAssert p s
  | .perstDeassert p => Sys2Proof.Machine.execPerstDeassert p s
  | .crsTimeout p => Sys2Proof.Machine.execCrsTimeout p s
  | .functionLevelReset k => Sys2Proof.Machine.execFunctionLevelReset k s
  | .portLinkDownTimeout p => Sys2Proof.Machine.execPortLinkDownTimeout p s
  | .busMasterClear k => Sys2Proof.Machine.execBusMasterClear k s
  | .watchdogExpiry k => Sys2Proof.Machine.execWatchdogExpiry k s
  | .l1Exit p => Sys2Proof.Machine.execL1Exit p s
  | .ctxEnable who k busMaster flrDone => Sys2Proof.Machine.execCtxEnable who k busMaster flrDone s
  | .ctxDisable who k => Sys2Proof.Machine.execCtxDisable who k s
  | .kick who k => Sys2Proof.Machine.execKick who k s
  | .pollExpiry k => Sys2Proof.Machine.execPollExpiry k s
  | .doorbellFetch k result => Sys2Proof.Machine.execDoorbellFetch k result s
  | .descriptorFetch q result => Sys2Proof.Machine.execDescriptorFetch q result s
  | .ringEnable who q => Sys2Proof.Machine.execRingEnable who q s
  | .ringDisable who q => Sys2Proof.Machine.execRingDisable who q s
  | .ringAbort who q => Sys2Proof.Machine.execRingAbort who q s
  | .nop q => Sys2Proof.Machine.execNop q s
  | .page n => Sys2Proof.Machine.execPage n s
  | .strip n => Sys2Proof.Machine.execStrip n s
  | .mapload n result => Sys2Proof.Machine.execMapload n result s
  | .maploadLock n => Sys2Proof.Machine.execMaploadLock n s
  | .wave n result => Sys2Proof.Machine.execWave n result s
  | .trim n result => Sys2Proof.Machine.execTrim n result s
  | .ladder n => Sys2Proof.Machine.execLadder n s
  | .sync q => Sys2Proof.Machine.execSync q s
  | .syncTimeReached q => Sys2Proof.Machine.execSyncTimeReached q s
  | .syncTimeout q => Sys2Proof.Machine.execSyncTimeout q s
  | .buf q => Sys2Proof.Machine.execBuf q s
  | .launch q result => Sys2Proof.Machine.execLaunch q result s
  | .launchDue k => Sys2Proof.Machine.execLaunchDue k s
  | .loadDpcMap p result => Sys2Proof.Machine.execLoadDpcMap p result s
  | .loadShading p result => Sys2Proof.Machine.execLoadShading p result s
  | .loadMatrix p result => Sys2Proof.Machine.execLoadMatrix p result s
  | .setExposure p result => Sys2Proof.Machine.execSetExposure p result s
  | .inspCommit p => Sys2Proof.Machine.execInspCommit p s
  | .inspArm p => Sys2Proof.Machine.execInspArm p s
  | .inspDisarm p => Sys2Proof.Machine.execInspDisarm p s
  | .eventRingSpace k pi => Sys2Proof.Machine.execEventRingSpace k pi s
  | .moderationHoldoff k vec => Sys2Proof.Machine.execModerationHoldoff k vec s
  | .entryRead n result => Sys2Proof.Machine.execEntryRead n result s
  | .entryRepoll n => Sys2Proof.Machine.execEntryRepoll n s
  | .rowFetchStart n => Sys2Proof.Machine.execRowFetchStart n s
  | .blockRead n result => Sys2Proof.Machine.execBlockRead n result s
  | .blockRowReady n => Sys2Proof.Machine.execBlockRowReady n s
  | .nougatDispatch lane => Sys2Proof.Machine.execNougatDispatch lane s
  | .nougatBlockCoded lane result mismatch eccErr => Sys2Proof.Machine.execNougatBlockCoded lane result mismatch eccErr s
  | .nougatCommit k => Sys2Proof.Machine.execNougatCommit k s
  | .arenaTail who k value => Sys2Proof.Machine.execArenaTail who k value s
  | .nougatLaneRestore who mask => Sys2Proof.Machine.execNougatLaneRestore who mask s
  | .cellEnable who n => Sys2Proof.Machine.execCellEnable who n s
  | .cellDisable who n => Sys2Proof.Machine.execCellDisable who n s
  | .softTrig who n => Sys2Proof.Machine.execSoftTrig who n s
  | .printStart n => Sys2Proof.Machine.execPrintStart n s
  | .rowStep n parityErr err => Sys2Proof.Machine.execRowStep n parityErr err s
  | .fireSend n row => Sys2Proof.Machine.execFireSend n row s
  | .pageComplete n => Sys2Proof.Machine.execPageComplete n s
  | .lockstepMismatch n => Sys2Proof.Machine.execLockstepMismatch n s
  | .cellRelease who n alive => Sys2Proof.Machine.execCellRelease who n alive s
  | .cellSelftestDone n pass => Sys2Proof.Machine.execCellSelftestDone n pass s
  | .swapReq who n => Sys2Proof.Machine.execSwapReq who n s
  | .retiringEnd n => Sys2Proof.Machine.execRetiringEnd n s
  | .mirrorDone n => Sys2Proof.Machine.execMirrorDone n s
  | .bgTableWrite who n merge word value => Sys2Proof.Machine.execBgTableWrite who n merge word value s
  | .tempHoldExpiry n => Sys2Proof.Machine.execTempHoldExpiry n s
  | .markEdge m rising age => Sys2Proof.Machine.execMarkEdge m rising age s
  | .stopFireFall => Sys2Proof.Machine.execStopFireFall s
  | .stopFireRise => Sys2Proof.Machine.execStopFireRise s
  | .stopFireClear => Sys2Proof.Machine.execStopFireClear s
  | .govUpdate => Sys2Proof.Machine.execGovUpdate s
  | .slowReqPeriod => Sys2Proof.Machine.execSlowReqPeriod s
  | .speedFramePeriodic => Sys2Proof.Machine.execSpeedFramePeriodic s
  | .speedFrameEvent => Sys2Proof.Machine.execSpeedFrameEvent s
  | .govLatchClear who => Sys2Proof.Machine.execGovLatchClear who s
  | .ttsMinReset who => Sys2Proof.Machine.execTtsMinReset who s
  | .dsFrameSend n => Sys2Proof.Machine.execDsFrameSend n s
  | .frameReceive n wire stamp => Sys2Proof.Machine.execFrameReceive n wire stamp s
  | .replayTimeout n => Sys2Proof.Machine.execReplayTimeout n s
  | .ackTimer n => Sys2Proof.Machine.execAckTimer n s
  | .ocAdjust n => Sys2Proof.Machine.execOcAdjust n s
  | .eyeScanStart who n => Sys2Proof.Machine.execEyeScanStart who n s
  | .eyeScanDone n pts => Sys2Proof.Machine.execEyeScanDone n pts s
  | .eyeAutoSweep n => Sys2Proof.Machine.execEyeAutoSweep n s
  | .dozeEntry n => Sys2Proof.Machine.execDozeEntry n s
  | .sleepEntry n up => Sys2Proof.Machine.execSleepEntry n up s
  | .wake n => Sys2Proof.Machine.execWake n s
  | .squelchAssert n => Sys2Proof.Machine.execSquelchAssert n s
  | .falseWakeTimeout n => Sys2Proof.Machine.execFalseWakeTimeout n s
  | .lossOfSignal n => Sys2Proof.Machine.execLossOfSignal n s
  | .laneEnable who n => Sys2Proof.Machine.execLaneEnable who n s
  | .laneDisable who n => Sys2Proof.Machine.execLaneDisable who n s
  | .timeSyncSend n => Sys2Proof.Machine.execTimeSyncSend n s
  | .timeReplyTimeout n => Sys2Proof.Machine.execTimeReplyTimeout n s
  | .lockLossTimeout n => Sys2Proof.Machine.execLockLossTimeout n s
  | .retrain who n => Sys2Proof.Machine.execRetrain who n s
  | .rateChangeTimeout n => Sys2Proof.Machine.execRateChangeTimeout n s
  | .trainTimeout n => Sys2Proof.Machine.execTrainTimeout n s
  | .retrainDelayExpiry n => Sys2Proof.Machine.execRetrainDelayExpiry n s
  | .authVerifyDone n => Sys2Proof.Machine.execAuthVerifyDone n s
  | .authTimeout n => Sys2Proof.Machine.execAuthTimeout n s
  | .ident who n arg => Sys2Proof.Machine.execIdent who n arg s
  | .ping who n arg => Sys2Proof.Machine.execPing who n arg s
  | .trimSelect who n arg => Sys2Proof.Machine.execTrimSelect who n arg s
  | .levelMap who n arg => Sys2Proof.Machine.execLevelMap who n arg s
  | .sense who n arg => Sys2Proof.Machine.execSense who n arg s
  | .heater who n arg => Sys2Proof.Machine.execHeater who n arg s
  | .headDefinedCmd who n op arg => Sys2Proof.Machine.execHeadDefinedCmd who n op arg s
  | .mailboxRefused who n op arg => Sys2Proof.Machine.execMailboxRefused who n op arg s
  | .cmdTimeout n cid => Sys2Proof.Machine.execCmdTimeout n cid s
  | .upwr n wake => Sys2Proof.Machine.execUpwr n wake s
  | .tlmGap n => Sys2Proof.Machine.execTlmGap n s
  | .observerSample input b => Sys2Proof.Machine.execObserverSample input b s
  | .disturbFault input => Sys2Proof.Machine.execDisturbFault input s
  | .wireFault input => Sys2Proof.Machine.execWireFault input s
  | .amplFault input => Sys2Proof.Machine.execAmplFault input s
  | .coastFault input => Sys2Proof.Machine.execCoastFault input s
  | .pwrFault input => Sys2Proof.Machine.execPwrFault input s
  | .pwrSettleExpiry input => Sys2Proof.Machine.execPwrSettleExpiry input s
  | .missingIndex input => Sys2Proof.Machine.execMissingIndex input s
  | .acquisitionEnd input => Sys2Proof.Machine.execAcquisitionEnd input s
  | .encRestart who input => Sys2Proof.Machine.execEncRestart who input s
  | .encEnable who input => Sys2Proof.Machine.execEncEnable who input s
  | .encDisable who input pwr => Sys2Proof.Machine.execEncDisable who input pwr s
  | .dualEnable who p on => Sys2Proof.Machine.execDualEnable who p on s
  | .dualMismatch p => Sys2Proof.Machine.execDualMismatch p s
  | .dualRearm who p => Sys2Proof.Machine.execDualRearm who p s
  | .virtualStep => Sys2Proof.Machine.execVirtualStep s
  | .virtualLoad who => Sys2Proof.Machine.execVirtualLoad who s
  | .calTempCheck input temp => Sys2Proof.Machine.execCalTempCheck input temp s
  | .calStart who input => Sys2Proof.Machine.execCalStart who input s
  | .calTrimEnd input zs zc ds dc => Sys2Proof.Machine.execCalTrimEnd input zs zc ds dc s
  | .calAccumulateEnd input => Sys2Proof.Machine.execCalAccumulateEnd input s
  | .calApply input => Sys2Proof.Machine.execCalApply input s
  | .calTimeout input => Sys2Proof.Machine.execCalTimeout input s
  | .calLoad who input => Sys2Proof.Machine.execCalLoad who input s
  | .axisLoadTable n result => Sys2Proof.Machine.execAxisLoadTable n result s
  | .axisStart via => Sys2Proof.Machine.execAxisStart via s
  | .axisStop via => Sys2Proof.Machine.execAxisStop via s
  | .axisResume via => Sys2Proof.Machine.execAxisResume via s
  | .axisHome via => Sys2Proof.Machine.execAxisHome via s
  | .axisEnable via => Sys2Proof.Machine.execAxisEnable via s
  | .axisDisable via => Sys2Proof.Machine.execAxisDisable via s
  | .tblCommit who a value => Sys2Proof.Machine.execTblCommit who a value s
  | .posLoad who a => Sys2Proof.Machine.execPosLoad who a s
  | .axisTick a => Sys2Proof.Machine.execAxisTick a s
  | .axisAtRest a => Sys2Proof.Machine.execAxisAtRest a s
  | .moveEnd a => Sys2Proof.Machine.execMoveEnd a s
  | .lambPeriod a ia ib => Sys2Proof.Machine.execLambPeriod a ia ib s
  | .chopWindow a f => Sys2Proof.Machine.execChopWindow a f s
  | .overcurrent a => Sys2Proof.Machine.execOvercurrent a s
  | .limitChange a input high age => Sys2Proof.Machine.execLimitChange a input high age s
  | .homeTimeout a => Sys2Proof.Machine.execHomeTimeout a s
  | .holdDelayExpiry a => Sys2Proof.Machine.execHoldDelayExpiry a s
  | .bridgeReleaseTimer a => Sys2Proof.Machine.execBridgeReleaseTimer a s
  | .loopTick => Sys2Proof.Machine.execLoopTick s
  | .loopEnable who slot => Sys2Proof.Machine.execLoopEnable who slot s
  | .loopDisable who slot => Sys2Proof.Machine.execLoopDisable who slot s
  | .loopCommit who slot => Sys2Proof.Machine.execLoopCommit who slot s
  | .loopInputFault slot => Sys2Proof.Machine.execLoopInputFault slot s
  | .loopFeFault slot => Sys2Proof.Machine.execLoopFeFault slot s
  | .auxPwmPeriod k => Sys2Proof.Machine.execAuxPwmPeriod k s
  | .ainConvert k code => Sys2Proof.Machine.execAinConvert k code s
  | .csiPacket port vc pkt corrected sot held => Sys2Proof.Machine.execCsiPacket port vc pkt corrected sot held s
  | .inspEnable who p on => Sys2Proof.Machine.execInspEnable who p on s
  | .cciAck m => Sys2Proof.Machine.execCciAck m s
  | .cciFail m => Sys2Proof.Machine.execCciFail m s
  | .cciMailbox who m => Sys2Proof.Machine.execCciMailbox who m s
  | .inspEccError p uncorr => Sys2Proof.Machine.execInspEccError p uncorr s
  | .ladderAnalysed p => Sys2Proof.Machine.execLadderAnalysed p s
  | .nhApply who n => Sys2Proof.Machine.execNhApply who n s
  | .nhClear who n => Sys2Proof.Machine.execNhClear who n s
  | .vetoHoldExpiry n => Sys2Proof.Machine.execVetoHoldExpiry n s
  | .nhVeto who n value => Sys2Proof.Machine.execNhVeto who n value s
  | .policyWrite n ecc => Sys2Proof.Machine.execPolicyWrite n ecc s
  | .setGo who => Sys2Proof.Machine.execSetGo who s
  | .adjGo who => Sys2Proof.Machine.execAdjGo who s
  | .adjCancel who => Sys2Proof.Machine.execAdjCancel who s
  | .netFrameReceive k bytes fcsOk => Sys2Proof.Machine.execNetFrameReceive k bytes fcsOk s
  | .domainTriggerPresent => Sys2Proof.Machine.execDomainTriggerPresent s
  | .netLinkLoss k => Sys2Proof.Machine.execNetLinkLoss k s
  | .holdoverExpiry => Sys2Proof.Machine.execHoldoverExpiry s
  | .ppsInMissing => Sys2Proof.Machine.execPpsInMissing s
  | .ppsInEdge age => Sys2Proof.Machine.execPpsInEdge age s
  | .ppsOutRise => Sys2Proof.Machine.execPpsOutRise s
  | .ppsOutFall => Sys2Proof.Machine.execPpsOutFall s
  | .unwrap who k => Sys2Proof.Machine.execUnwrap who k s
  | .unwrapDone k result ecc => Sys2Proof.Machine.execUnwrapDone k result ecc s
  | .unwrapHoldExpiry k => Sys2Proof.Machine.execUnwrapHoldExpiry k s
  | .clearSlot who k slot => Sys2Proof.Machine.execClearSlot who k slot s
  | .attest who k => Sys2Proof.Machine.execAttest who k s
  | .attestDone k result => Sys2Proof.Machine.execAttestDone k result s
  | .keyExpiry slot => Sys2Proof.Machine.execKeyExpiry slot s
  | .rollback who target => Sys2Proof.Machine.execRollback who target s
  | .rollbackDone otpErr => Sys2Proof.Machine.execRollbackDone otpErr s
  | .revoke who req => Sys2Proof.Machine.execRevoke who req s
  | .debugToken who => Sys2Proof.Machine.execDebugToken who s
  | .relock who => Sys2Proof.Machine.execRelock who s
  | .ownerProg who => Sys2Proof.Machine.execOwnerProg who s
  | .tamper cause => Sys2Proof.Machine.execTamper cause s
  | .faultReport => Sys2Proof.Machine.execFaultReport s
  | .safeRelArm who alive => Sys2Proof.Machine.execSafeRelArm who alive s
  | .safeRelGo who => Sys2Proof.Machine.execSafeRelGo who s
  | .safeRelArmTimeout => Sys2Proof.Machine.execSafeRelArmTimeout s
  | .safeRelSelftestDone pass => Sys2Proof.Machine.execSafeRelSelftestDone pass s
  | .faultInject who => Sys2Proof.Machine.execFaultInject who s
  | .armAny who => Sys2Proof.Machine.execArmAny who s
  | .armReal who => Sys2Proof.Machine.execArmReal who s
  | .clrCnt who => Sys2Proof.Machine.execClrCnt who s
  | .gooseScrub ok => Sys2Proof.Machine.execGooseScrub ok s
  | .gooseSelfFail => Sys2Proof.Machine.execGooseSelfFail s
  | .heartbeatLoss unit => Sys2Proof.Machine.execHeartbeatLoss unit s
  | .controlCycle healthA healthB => Sys2Proof.Machine.execControlCycle healthA healthB s
  | .stateCopy good => Sys2Proof.Machine.execStateCopy good s
  | .beatWindow mailbox board coop standby => Sys2Proof.Machine.execBeatWindow mailbox board coop standby s
  | .resign => Sys2Proof.Machine.execResign s
  | .arbGntChange a b => Sys2Proof.Machine.execArbGntChange a b s
  | .arbTimeout => Sys2Proof.Machine.execArbTimeout s
  | .takeoverComplete us ckptOk => Sys2Proof.Machine.execTakeoverComplete us ckptOk s
  | .checkpoint ok => Sys2Proof.Machine.execCheckpoint ok s
  | .repairSelftestDone core pass => Sys2Proof.Machine.execRepairSelftestDone core pass s
  | .repairSyncDone core pass => Sys2Proof.Machine.execRepairSyncDone core pass s
  | .switchCore who => Sys2Proof.Machine.execSwitchCore who s
  | .supplyExcursion rail mv => Sys2Proof.Machine.execSupplyExcursion rail mv s
  | .pmbusPoll replies => Sys2Proof.Machine.execPmbusPoll replies s
  | .pmbusAlert seg reply => Sys2Proof.Machine.execPmbusAlert seg reply s
  | .pmbusMailbox who => Sys2Proof.Machine.execPmbusMailbox who s
  | .sequencerStep mv => Sys2Proof.Machine.execSequencerStep mv s
  | .sequencerWaitExpiry => Sys2Proof.Machine.execSequencerWaitExpiry s
  | .sequenceDown who => Sys2Proof.Machine.execSequenceDown who s
  | .thermRead temps => Sys2Proof.Machine.execThermRead temps s
  | .coopSelfFail cause => Sys2Proof.Machine.execCoopSelfFail cause s
  | .arbAliveToggle => Sys2Proof.Machine.execArbAliveToggle s
  | .gate who hi value => Sys2Proof.Machine.execGate who hi value s
  | .headPwr who value => Sys2Proof.Machine.execHeadPwr who value s
  | .referenceLoss present => Sys2Proof.Machine.execReferenceLoss present s
  | .vsafeRise => Sys2Proof.Machine.execVsafeRise s
  | .coopResetRelease table => Sys2Proof.Machine.execCoopResetRelease table s
  | .vsafeLoss => Sys2Proof.Machine.execVsafeLoss s
  | .powerCycle => Sys2Proof.Machine.execPowerCycle s
  | .pllLock => Sys2Proof.Machine.execPllLock s
  | .pllLockTimeout present => Sys2Proof.Machine.execPllLockTimeout present s
  | .coreResetRelease mode => Sys2Proof.Machine.execCoreResetRelease mode s
  | .bootComplete slotA slotB matchB => Sys2Proof.Machine.execBootComplete slotA slotB matchB s
  | .memTrainDone channels gib => Sys2Proof.Machine.execMemTrainDone channels gib s
  | .sysInitDone ok => Sys2Proof.Machine.execSysInitDone ok s
  | .memInitDone => Sys2Proof.Machine.execMemInitDone s
  | .cellTestDone engine memory => Sys2Proof.Machine.execCellTestDone engine memory s
  | .ledgerRestore flashKiB slots readErr => Sys2Proof.Machine.execLedgerRestore flashKiB slots readErr s
  | .hostReady ms => Sys2Proof.Machine.execHostReady ms s
  | .discoveryNoSignal n => Sys2Proof.Machine.execDiscoveryNoSignal n s
  | .discoveryDone => Sys2Proof.Machine.execDiscoveryDone s
  | .resetN table => Sys2Proof.Machine.execResetN table s
  | .rstKey who table => Sys2Proof.Machine.execRstKey who table s
  | .blkRst who value => Sys2Proof.Machine.execBlkRst who value s
  | .boundaryScan drive => Sys2Proof.Machine.execBoundaryScan drive s
  | .tapReset => Sys2Proof.Machine.execTapReset s
  | .ledgerSecond => Sys2Proof.Machine.execLedgerSecond s
  | .flush who => Sys2Proof.Machine.execFlush who s
  | .flushDone ok => Sys2Proof.Machine.execFlushDone ok s
  | .ledgerExport who => Sys2Proof.Machine.execLedgerExport who s
  | .dropRestoreDone slots readErr => Sys2Proof.Machine.execDropRestoreDone slots readErr s
  | .portLinkDown p => Sys2Proof.Machine.execPortLinkDown p s
  | .portLinkUp p width rate sris => Sys2Proof.Machine.execPortLinkUp p width rate sris s
  | .aspmL1Entry p => Sys2Proof.Machine.execAspmL1Entry p s
  | .netLinkUp k => Sys2Proof.Machine.execNetLinkUp k s
  | .ptpMasterLost => Sys2Proof.Machine.execPtpMasterLost s
  | .ptpMessageDue k kind => Sys2Proof.Machine.execPtpMessageDue k kind s
  | .slewEnd => Sys2Proof.Machine.execSlewEnd s
  | .supplyInRange rail mv => Sys2Proof.Machine.execSupplyInRange rail mv s
  | .bootFail slotA slotB => Sys2Proof.Machine.execBootFail slotA slotB s
  | .maploadWriteDone n => Sys2Proof.Machine.execMaploadWriteDone n s
  | .policyWriteDone n => Sys2Proof.Machine.execPolicyWriteDone n s
  | .chopperCompare a coilB microvolts => Sys2Proof.Machine.execChopperCompare a coilB microvolts s
  | .cciMailboxDone m nack lowUs data => Sys2Proof.Machine.execCciMailboxDone m nack lowUs data s
  | .pmbusMailboxDone nack pecErr data => Sys2Proof.Machine.execPmbusMailboxDone nack pecErr data s
  | .exportDone => Sys2Proof.Machine.execExportDone s

end Sys2Proof.Machine
end

