-- ==== Sys2Proof/Safety.lean ====
section
/-!
DEFINITION. What counts as a safe run of the block, in the terms the claims use: no step stops, and no state lets a head fire that must not.
-/
namespace Sys2Proof.Safety

open Sys2Proof Sys2Proof.Machine

/-- A run of `k` steps that neither faults nor refuses, and where it ends. -/
def Reaches (s : State) (k : Nat) (t : State) : Prop := sys2run k s = .next t
where
  /-- The machine's run. -/
  sys2run (k : Nat) (s : State) : Host.Outcome State Fault Refusal :=
    match k with
    | 0 => .next s
    | k + 1 =>
      match step s with
      | .next t => sys2run k t
      | .fault r => .fault r
      | .refused r => .refused r

/-- No group's FIRE_EN is high while the device is in the safe state, or while STOP_FIRE is latched or its ball low (spec/06 R197, R198). -/
def FireHeld (s : State) : Prop := (s.safe ∨ s.stopFireLatch ∨ !s.stopFireN) → ∀ g, s.fireEn g = false

/-- The page store is in its canonical form. -/
abbrev MemOk (s : State) : Prop := Memory.wf s.mem = true

/-! ## What a command leaves alone -/

/-- Every register field but the listed ones reads the same. -/
def SameRegs (fs : List Fld) (s t : State) : Prop := ∀ f : Fld, f.key ∉ fs.map Fld.key → t.rd f = s.rd f

/-- Nothing but the listed register fields has changed. -/
def OnlyRegs (fs : List Fld) (s t : State) : Prop := SameRegs fs s t ∧ { t with regs := s.regs } = s

/-- No cell holds a page: none in print, none armed next and none whose rows still finish. -/
abbrev NoPages (s : State) : Prop := ∀ e ∈ s.cells, e.2.cur = none ∧ e.2.nxt = none ∧ e.2.tails = []

/-- A write of a sender to a field passes the filter of the configuration fabric. -/
abbrev Passes (s : State) (who : Sender) (f : Fld) : Prop := s.gateWrite who f.addr 4 = .pass

/-- The effects of a list of commands, one after the other. -/
def runAll : List Instr → State → Host.Outcome State Fault Refusal
  | [], s => .next s
  | c :: cs, s =>
    match exec c s with
    | .next t => runAll cs t
    | .fault r => .fault r
    | .refused r => .refused r

/-- The command on an axis by a write, if that is how it comes: the field and what is written. -/
def axisWrite (op : Nat) : AxisVia → Option (Sender × Fld × Nat)
  | .ring _ => none
  | .cmd who a => some (who, AXIS_CMD_GO a, 2 ^ 31 + op)
  | .ctl who a => if op = 5 then some (who, AXIS_CTL_EN a, 1) else if op = 6 then some (who, AXIS_CTL_EN a, 0) else none

/-- The register field that a command writes, by whom and what, for the commands that are a write of one field with a row of its own. -/
def writeOf : Instr → Option (Sender × Fld × Nat)
  | .ownershipWrite who kind word v =>
    if ownCount kind ≤ 8 * word.val then none else some (who, ownFld kind (8 * word.val), v.toNat)
  | .ctxEnable who k _ _ => some (who, HOST_CTX_EN k, 1)
  | .ctxDisable who k => some (who, HOST_CTX_EN k, 0)
  | .kick who k => some (who, HOST_CTX_KICK k, 1)
  | .ringEnable who q => some (who, HOST_RING_EN q, 1)
  | .ringDisable who q => some (who, HOST_RING_EN q, 0)
  | .ringAbort who q => some (who, HOST_RING_ABORT q, 1)
  | .arenaTail who k v => some (who, NOUGAT_ARENA_TAIL k, v.toNat)
  | .nougatLaneRestore who mask => some (who, NOUGAT_LANE_CTL_RESTORE, mask.toNat)
  | .cellEnable who n => some (who, CELL_CTL_EN n, 1)
  | .cellDisable who n => some (who, CELL_CTL_EN n, 0)
  | .softTrig who n => some (who, CELL_FE_CTL_SOFT_TRIG n, 1)
  | .cellRelease who n _ => some (who, CELL_CTL_RELEASE n, 1)
  | .swapReq who n => some (who, CELL_CTL_SWAP_REQ n, 1)
  | .govLatchClear who => some (who, GOV_STAT_LATCH, 1)
  | .ttsMinReset who => some (who, GOV_TTS_MIN, 0xFFFFFFFF)
  | .eyeScanStart who n => some (who, LINK_EYE_CTL_START n, 1)
  | .laneEnable who n => some (who, LINK_PHY_CTL_EN n, 1)
  | .laneDisable who n => some (who, LINK_PHY_CTL_EN n, 0)
  | .retrain who n => some (who, LINK_LL_CTL_RETRAIN n, 1)
  | .ident who n _ | .ping who n _ | .trimSelect who n _ | .levelMap who n _ | .sense who n _ | .heater who n _ =>
    some (who, LINK_CMD_CTL_GO n, 1)
  | .headDefinedCmd who n _ _ | .mailboxRefused who n _ _ => some (who, LINK_CMD_CTL_GO n, 1)
  | .encRestart who i => some (who, ENC_CTL_RESTART i, 1)
  | .encEnable who i => some (who, ENC_CTL_EN i, 1)
  | .encDisable who i pwr => some (who, if pwr then ENC_CTL_PWR i else ENC_CTL_EN i, 0)
  | .dualEnable who p on => some (who, ENC_DUAL_EN (2 * p.val), b2n on)
  | .dualRearm who p => some (who, ENC_DUAL_REARM (2 * p.val), 1)
  | .virtualLoad who => some (who, VIRT_LOAD, 1)
  | .calStart who i => some (who, ENC_CAL_CTL_START i, 1)
  | .calLoad who i => some (who, ENC_CAL_CTL_LOAD i, 1)
  | .axisStart via => axisWrite 1 via
  | .axisStop via => axisWrite 2 via
  | .axisResume via => axisWrite 3 via
  | .axisHome via => axisWrite 4 via
  | .axisEnable via => axisWrite 5 via
  | .axisDisable via => axisWrite 6 via
  | .tblCommit who a v => some (who, AXIS_TBL_W a 3, v.toNat)
  | .posLoad who a => some (who, AXIS_CTL_POS_LOAD a, 4096)
  | .loopEnable who i => some (who, LOOP_CTL_EN i, 1)
  | .loopDisable who i => some (who, LOOP_CTL_EN i, 0)
  | .loopCommit who i => some (who, LOOP_CTL_COMMIT i, 2)
  | .inspEnable who p on => some (who, INSP_CTL_EN p, b2n on)
  | .cciMailbox who m => some (who, INSP_CCI_MB0_GO m, 1)
  | .nhApply who n => some (who, CELL_NH_CTL_APPLY n, 1)
  | .nhClear who n => some (who, CELL_NH_CTL_CLEAR n, 1)
  | .nhVeto who n v => some (who, CELL_NH_VETO_VETO n, v.toNat)
  | .setGo who => some (who, TIME_CTL_SET_GO, 1)
  | .adjGo who => some (who, TIME_CTL_ADJ_GO, 1)
  | .adjCancel who => some (who, TIME_CTL_ADJ_CANCEL, 1)
  | .unwrap who k | .clearSlot who k _ | .attest who k => some (who, VAULT_CTX_CTL_GO k, 1)
  | .rollback who _ => some (who, VAULT_ROLLBACK_GO, 1)
  | .revoke who req => some (who, VAULT_REVOKE_REQ, req.toNat)
  | .debugToken who => some (who, VAULT_DBG_CTL_GO, 1)
  | .relock who => some (who, VAULT_DBG_CTL_RELOCK, 1)
  | .ownerProg who => some (who, VAULT_DBG_CTL_OWNER_PROG, 1)
  | .safeRelArm who _ => some (who, GOOSE_SAFE_REL_KEY, 0x5AFE)
  | .safeRelGo who => some (who, GOOSE_SAFE_REL_KEY, 0xC1EA)
  | .faultInject who => some (who, GOOSE_INJ_CTL_GO, 1)
  | .armAny who => some (who, GOOSE_FIRST_CTL_ARM_ANY, 1)
  | .armReal who => some (who, GOOSE_FIRST_CTL_ARM_REAL, 1)
  | .clrCnt who => some (who, GOOSE_CTL_CLR_CNT, 1)
  | .switchCore who => some (who, YOKE_CTL_SWITCH, 1)
  | .pmbusMailbox who => some (who, COOP_PMB_MB0_GO, 1)
  | .sequenceDown who => some (who, COOP_SEQ_CTL_DOWN, 1)
  | .gate who hi v => some (who, if hi then COOP_GATE_HI else COOP_GATE_LO, v.toNat)
  | .headPwr who v => some (who, COOP_HEAD_PWR_EN, v.toNat)
  | .rstKey who _ => some (who, GLOBAL_RST_KEY, 0xB007)
  | .blkRst who v => some (who, GLOBAL_BLK_RST_NOUGAT, v.toNat)
  | .flush who => some (who, LEDGER_CTL_FLUSH, 1)
  | .ledgerExport who => some (who, LEDGER_CTL_EXPORT, 1)
  | _ => none

end Sys2Proof.Safety
end

