-- ==== Sys2Proof/Certificates/Slice0/Obligations.lean ====
section
/-!
DEFINITION. The statements about the model of the KV6464. One whose clauses rest on a reading or a choice of the model names its log entries.
-/
open Sys2Proof Sys2Proof.Machine Sys2Proof.Safety

/-- A step with a command at the front of the queue is that command's effect with the queue's rest. -/
def Obligations.StepRunsFrontCommand : Prop :=
  ∀ (c : Instr) (cs : List Instr) (s : State), step { s with pending := c :: cs } = exec c { s with pending := cs }

/-- On an empty queue a step is one tick of the TIME clock (the tick on an empty queue is the model's choice, notes/assumptions/2): while the clock
does not run the block idles; while it runs, with no step to take, no slew left and INCR_OFF within ±RATE_LIM, device time advances by 2 ns +
INCR_OFF × 2⁻³² ns, and nothing else changes. Where clauses of it rest on a reading or a choice of the model: notes/assumptions/2. -/
def Obligations.IdleStepIsOneTick : Prop :=
  ∀ (s : State), s.pending = [] →
    (s.on TIME_STAT_RUNNING = false → step s = .next s) ∧
    (s.on TIME_STAT_RUNNING = true → s.time.step = none → s.time.adj = 0 →
      ∀ lim total : Int, lim = ((max 1 (s.rd TIME_RATE_LIM) * 2 ^ 33 : Nat) : Int) / 1000000 →
        -lim ≤ s.rdS TIME_INCR_OFF → s.rdS TIME_INCR_OFF ≤ lim →
        total = (s.timeNs * 2 ^ 32 + s.timeFrac : Nat) + 2 ^ 33 + s.rdS TIME_INCR_OFF →
        step s = .next { s with timeNs := (total / 2 ^ 32).toNat % 2 ^ 64, timeFrac := (total % 2 ^ 32).toNat })

/-- No command stops the block: every command answers a next state in every state. No command touches the queue: what waits behind it still waits.
Where clauses of it rest on a reading or a choice of the model: notes/assumptions/3. -/
def Obligations.EveryCommandAnswersAndKeepsTheQueue : Prop :=
  (∀ (c : Instr) (s : State), ∃ t, exec c s = .next t) ∧
  (∀ (c : Instr) (s t : State), exec c s = .next t → t.pending = s.pending)

/-- The filter holds for every command that is a write of one field: a write that the filter drops leaves what the filter says (nothing but the
records of the refusal), one that meets a takeover is held (spec/19 R511), and neither has the command's own effect. Which writes of a host context
pass the filter, once the host interface is ready, its port is out of reset and its function in D0, the cell is not fused off and no takeover holds
writes: exactly the aligned 32-bit ones to an existing block that the map's writers column gives to that context, of no gated cell, and not to PHY_CTL of a lane in
discovery. Where clauses of it rest on a reading or a choice of the model: notes/assumptions/5, 62. -/
def Obligations.FieldAndContextWrites : Prop :=
  (∀ (c : Instr) (who : Sender) (f : Fld) (v : Nat) (s : State), writeOf c = some (who, f, v) →
      (∀ d, s.gateWrite who f.addr 4 = .drop d → exec c s = .next d) ∧
      (s.gateWrite who f.addr 4 = .hold → exec c s = .next { s with heldWrites := s.heldWrites ++ [⟨who, f.addr, f.lo, v⟩] })) ∧
  (∀ (s : State) (k : CtxId) (addr size : Nat) (b : Block) (off : Nat),
      decodeAddr addr = some (b, off) → s.on GLOBAL_READY_HOST = true → s.portReset k = false → s.on YOKE_STAT_HOLDING = false →
      (∀ n, b.cell? = some n → s.fused n = false) →
      (s.gateWrite (.ctx k) addr size = .pass ↔
        size = 4 ∧ addr % 4 = 0 ∧ s.ctxMayWrite k.val b off = true ∧ (∀ n, b.cell? = some n → s.gated n = false) ∧
        ¬ ∃ n, b = .link n ∧ s.discovering n = true ∧ addr = (LINK_PHY_CTL_EN n).addr))

/-- A read of an address that holds no register is answered with 0, a write to it is discarded, and neither raises a fault: the write leaves the state as
it is, the read nothing but the answer. A read or write of any size but an aligned 32-bit word, by a context whose port is out of reset and its function in
D0, by the Yoke core that holds the token, by the Vault, or by the debug port at the level FULL, changes no register but the records of HOST_XS: the report,
and for a context its count and XS_LAST. Any aligned word that one of these senders writes to the window of a fused cell or its lane is refused and recorded
as HOST_XS; a read of one is answered with 0 beside the record. XS_LAST follows register accesses of contexts alone: a refused access by another
sender, a refused descriptor and a refused local address leave it as it was; an access of a context sets its offset, context, direction and cause and adds one to
the context's XS_CNT. Where clauses of it rest on a reading or a choice of the model: notes/assumptions/5, 31, 65, 95. -/
def Obligations.HostAccessErrors : Prop :=
  (∀ (s : State) (who : Sender) (addr : BitVec 26) (v : Word),
      decodeAddr addr.toNat = none → addr.toNat % 4 = 0 → (∀ c, who = .yoke c → c = s.activeCore) → (∀ k, who = .ctx k → s.portReset k = false) →
      s.readWord who addr.toNat = 0 ∧ exec (.configWrite who (.reg addr) 4 (some v)) s = .next s ∧
      exec (.configWrite who (.reg addr) 4 none) s = .next ((s.emit (.answer who 0)).draw)) ∧
  (∀ (s : State) (who : Sender) (addr : BitVec 26) (size : Fin 65) (v : Word),
      (∀ c, who = .yoke c → c = s.activeCore) → (∀ k, who = .ctx k → s.portReset k = false) → (who = .debug → s.rd VAULT_STAT_DEBUG = 2) →
      ((size ≠ 4 ∨ addr.toNat % 4 ≠ 0) →
        exec (.configWrite who (.reg addr) size (some v)) s = .next (s.hostXs who xsSize addr.toNat true) ∧
        exec (.configWrite who (.reg addr) size none) s = .next (s.hostXs who xsSize addr.toNat false)) ∧
      (∀ b off n, decodeAddr addr.toNat = some (b, off) → b.cell? = some n → s.fused n = true → addr.toNat % 4 = 0 →
        exec (.configWrite who (.reg addr) 4 (some v)) s = .next (s.hostXs who xsRule addr.toNat true) ∧
        exec (.configWrite who (.reg addr) 4 none) s = .next (((s.hostXs who xsRule addr.toNat false).emit (.answer who 0)).draw))) ∧
  (∀ (s : State) (cause addr : Nat) (w : Bool) (f : Fld),
      f ∈ [HOST_XS_LAST_OFFSET, HOST_XS_LAST_CTX, HOST_XS_LAST_WRITE, HOST_XS_LAST_CAUSE] →
      (∀ c, (s.hostXs (.yoke c) cause addr w).rd f = s.rd f) ∧ (s.hostXs .vault cause addr w).rd f = s.rd f ∧
      (s.hostXs .debug cause addr w).rd f = s.rd f ∧
      (∀ k q slot, k < 8 → (s.descXs k q slot).rd f = s.rd f) ∧ (∀ k a, k < 8 → (s.memXs k a w).rd f = s.rd f) ∧
      (∀ k : CtxId, let t := s.hostXs (.ctx k) cause addr w
        t.rd HOST_XS_LAST_OFFSET = addr % 2 ^ HOST_XS_LAST_OFFSET.width ∧ t.rd HOST_XS_LAST_CTX = k.val ∧ t.on HOST_XS_LAST_WRITE = w ∧
        t.rd HOST_XS_LAST_CAUSE = cause % 2 ^ HOST_XS_LAST_CAUSE.width ∧
        t.rd (HOST_XS_CNT_COUNT k.val) = satNat 32 (s.rd (HOST_XS_CNT_COUNT k.val) + 1)))

/-- The commands of a host port: PERST_N, retry status, the link's training, loss and power state; what waits for a link to leave L1 leaves in order as
it does. Every cause of host loss brings an enabled context that is in none into it: LOST is 1 with the cause, no doorbell fetch of it is in progress, it
holds no event, and HOST_LOSS is pending for the Goose; a context that is disabled, or in host loss already, meets a cause without effect. The
administrator of a context in host loss may be replaced while TAKEOVER is 1, by a context that names itself; any other write to ADMIN by a context that
is not the administrator is recorded as HOST_XS. Enabling a context, leaving host loss by a write of EN = 1, disabling a context that has no enabled ring,
the KICK, and the poll: one of each at the same device time cause one fetch. Where clauses of it rest on a reading or a choice of the model:
notes/assumptions/3, 9, 13, 15, 63, 67. -/
def Obligations.PortsAndContexts : Prop :=
  (∀ (s : State) (p : PortId), s.on VAULT_STAT_TAMPER = false →
      exec (.perstAssert p) s = .next ((portCtxs p).foldl (fun s k => s.hostLoss k 2)
        ((portCtxs p).foldl (fun s k => (s.updCtx k (fun c => { c with busMaster := false, flrBusy := false, fn := PciFn.reset })).dropL1 k)
          (((s.clearAll [HOST_PORT_UP p, HOST_PORT_WIDTH p, HOST_PORT_RATE p, HOST_PORT_L1 p, HOST_PORT_SRIS p]).wr
            (HOST_PORT_PERST p) 1).wr (HOST_PORT_CRS p) 1))) ∧
      exec (.perstDeassert p) s = .next (((s.clearAll [HOST_PORT_CORR p, HOST_PORT_UNCORR p, HOST_PORT_CPL_TO p, HOST_PORT_UR p, HOST_PORT_L1_EXITS p,
        HOST_PORT_DOWN p]).wr (HOST_PORT_PERST p) 0).wr (HOST_PORT_CRS p) (if s.on GLOBAL_READY_HOST then 0 else 1)) ∧
      (s.on (HOST_PORT_PERST p) = false → exec (.crsTimeout p) s = .next (s.wr (HOST_PORT_CRS p) 0)) ∧
      (s.on (HOST_PORT_PERST p) = false → ∀ (width : Fin 9) (rate : Fin 6) (sris : Bool), ∃ t,
        exec (.portLinkUp p width rate sris) s = .next t ∧ t.rd (HOST_PORT_UP p) = 1 ∧ t.rd (HOST_PORT_WIDTH p) = width ∧
        t.rd (HOST_PORT_RATE p) = rate ∧ t.on (HOST_PORT_SRIS p) = sris ∧ t.rd (HOST_PORT_L1 p) = 0 ∧
        SameRegs [HOST_PORT_UP p, HOST_PORT_WIDTH p, HOST_PORT_RATE p, HOST_PORT_SRIS p, HOST_PORT_L1 p] s t ∧
        { t with regs := s.regs } = s.releaseL1 p) ∧
      (s.on (HOST_PORT_UP p) = true → ∃ t, exec (.portLinkDown p) s = .next t ∧ t.rd (HOST_PORT_UP p) = 0 ∧ t.rd (HOST_PORT_WIDTH p) = 0 ∧
        t.rd (HOST_PORT_RATE p) = 0 ∧ t.rd (HOST_PORT_L1 p) = 0 ∧
        t.rd (HOST_PORT_DOWN p) = satNat (HOST_PORT_DOWN p).width (s.rd (HOST_PORT_DOWN p) + 1) ∧
        SameRegs [HOST_PORT_UP p, HOST_PORT_WIDTH p, HOST_PORT_RATE p, HOST_PORT_L1 p, HOST_PORT_DOWN p] s t ∧
        { t with regs := s.regs } = (portCtxs p).foldl State.dropL1 s) ∧
      (s.on (HOST_PORT_UP p) = false →
        exec (.portLinkDownTimeout p) s = .next ((portCtxs p).foldl (fun s k => s.hostLoss k 3) s)) ∧
      (s.on (HOST_PORT_UP p) = true → exec (.aspmL1Entry p) s = .next (s.wr (HOST_PORT_L1 p) 1)) ∧
      (s.on (HOST_PORT_L1 p) = true →
        exec (.l1Exit p) s = .next (((s.wr (HOST_PORT_L1 p) 0).bump (HOST_PORT_L1_EXITS p)).releaseL1 p))) ∧
  (∀ (s : State) (k : CtxId), s.on (HOST_CTX_EN k) = true → (s.ctx k).inLoss = false →
      let lost (c : Instr) (cause : Nat) := ∃ t, exec c s = .next t ∧ t.rd (HOST_CTX_LOST k) = 1 ∧ t.rd (HOST_CTX_LOSS_CAUSE k) = cause ∧
        (t.ctx k).inLoss = true ∧ (t.ctx k).fetching = false ∧ (t.ctx k).held = [] ∧
        t.reports.any (fun r => r.src == srcHostLoss && r.unit == k.val) = true
      lost (.functionLevelReset k) 1 ∧
      (∀ p : PortId, p.val = k.val / 4 → (s.on VAULT_STAT_TAMPER = false → lost (.perstAssert p) 2) ∧
        (s.on (HOST_PORT_UP p) = false → lost (.portLinkDownTimeout p) 3)) ∧
      ((s.ownRings k) ≠ [] → lost (.busMasterClear k) 4) ∧
      ((s.ctx k).fetching = true → s.readEnds k (s.doorbellAddr k 0) (.failed 0) = true → lost (.doorbellFetch k none) 5) ∧
      (s.rd (HOST_CTX_MS k) ≠ 0 → lost (.watchdogExpiry k) 6)) ∧
  (∀ (s : State) (k cause : Nat), s.on (HOST_CTX_EN k) = false ∨ (s.ctx k).inLoss = true → s.hostLoss k cause = s) ∧
  (∀ (s : State) (who v : CtxId), s.on GLOBAL_READY_HOST = true → s.portReset who = false → s.admin ≠ who.val →
      ((s.ctx s.admin).inLoss = true → s.on HOST_ADMIN_TAKEOVER = true → v = who →
        exec (.adminTakeover who v) s = .next (s.wr HOST_ADMIN_CTX who)) ∧
      (((s.ctx s.admin).inLoss = false ∨ s.on HOST_ADMIN_TAKEOVER = false ∨ v ≠ who) →
        exec (.adminTakeover who v) s = .next (s.hostXs (.ctx who) xsRule HOST_ADMIN_CTX.addr true))) ∧
  (∀ (s : State) (who : Sender) (k : CtxId),
      (Passes s who (HOST_CTX_EN k) → ∀ bm flr : Bool,
        let u := s.updCtx k (fun c => { c with busMaster := bm, flrBusy := !flr })
        ((s.ctx k).inLoss = false → s.on (HOST_CTX_EN k) = false → (s.ctx k).closing = false →
          exec (.ctxEnable who k bm flr) s = .next ((u.wr (HOST_CTX_EN k) 1).updCtx k
            (fun c => { c with inLoss := false, fetching := false, seq := 0, lostSince := 0, held := [] }))) ∧
        ((s.ctx k).inLoss = true → s.on (HOST_PORT_PERST (k.val / 4)) = false → s.on (HOST_PORT_UP (k.val / 4)) = true → flr = true → bm = true →
          exec (.ctxEnable who k bm flr) s = .next (u.updCtx k (fun c => { c with inLoss := false, fetching := false }))) ∧
        ((s.ctx k).inLoss = true → (s.on (HOST_PORT_PERST (k.val / 4)) = true ∨ s.on (HOST_PORT_UP (k.val / 4)) = false ∨ flr = false ∨ bm = false) →
          exec (.ctxEnable who k bm flr) s = .next (u.hostXs who xsRule (HOST_CTX_EN k).addr true))) ∧
      (Passes s who (HOST_CTX_EN k) → s.on (HOST_CTX_EN k) = true → s.ownRings k = [] → (s.ctx k).held = [] →
        s.hasHeld k = false → exec (.ctxDisable who k) s = .next
          ((((s.wr (HOST_CTX_EN k) 0).wr (HOST_CTX_KICK_PEND k) 0).updCtx k
            (fun c => { c with fetching := false, closing := true, inLoss := false })).closeEvents k)) ∧
      (s.on (HOST_CTX_EN k) = true → (s.ctx k).inLoss = false →
        let fetch (kick : Bool) := let u := s.updCtx k (fun c => { c with trigAt := some (s.now, kick) })
          if (s.ctx k).fetching then u.wr (HOST_CTX_KICK_PEND k) 1 else u.updCtx k (fun c => { c with fetching := true })
        (Passes s who (HOST_CTX_KICK k) →
          exec (.kick who k) s = .next (if (s.ctx k).trigAt = some (s.now, false) then s else fetch true)) ∧
        (s.rd (HOST_CTX_POLL_US k) ≠ 0 →
          exec (.pollExpiry k) s = .next (if (s.ctx k).trigAt = some (s.now, true) then s else fetch false))))

/-- The commands of rings: enabling one, once the host interface is ready, disabling and aborting one with nothing held, the disable of an event ring,
the doorbell fetch of one ring, and the descriptor fetch of one descriptor from host memory. However many KICKs and poll expiries arrive while a fetch of
a context is in progress, exactly one further fetch starts when it ends. The event ring: a new consumer index of the host is the ring's CI and releases
the events that the context holds, a failed read of it is a host loss, and the end of a holdoff raises the vector with everything pending on it, as far as
MSI-X and its masks let it leave. Where clauses of it rest on a reading or a choice of the model: notes/assumptions/3, 14, 55, 63, 72, 78. -/
def Obligations.RingsAndEvents : Prop :=
  (∀ (s : State) (who : Sender) (q : RingId) (k : CtxId),
      (Passes s who (HOST_RING_EN q) → s.on (HOST_RING_EN q) = false → s.ringExists q = true → s.on GLOBAL_READY_HOST = true →
        let t := (((s.setRing q { s.ring q with known := false, guard := 0 }).clearAll
          [HOST_RING_ERR q, HOST_RING_ERR_CODE q]).wr (HOST_RING_EN q) 1).wr (HOST_RING_RUN q) 1
        exec (.ringEnable who q) s = .next (if q.val < 152 then t else t.updCtx (q.val - 152) (fun c => { c with evtKnown := false }))) ∧
      (Passes s who (HOST_RING_EN q) → s.on (HOST_RING_EN q) = true → q.val < 152 → (s.ring q).held = [] →
        (s.ctx (s.ringOwner q)).closing = false →
        exec (.ringDisable who q) s = .next ((s.wr (HOST_RING_EN q) 0).wr (HOST_RING_RUN q) 0)) ∧
      (Passes s who (HOST_RING_EN q) → s.on (HOST_RING_EN q) = true → q.val = 152 + k.val →
        exec (.ringDisable who q) s = .next ((((s.wr (HOST_RING_EN q) 0).wr (HOST_RING_RUN q) 0).updCtx k (fun c =>
          { c with held := [], evtKnown := false, lostSince := c.lostSince + (s.ctx k).held.length })).bumpBy (HOST_CTX_EVT_LOST k)
            (s.ctx k).held.length)) ∧
      (Passes s who (HOST_RING_ABORT q) → (s.ring q).held = [] →
        exec (.ringAbort who q) s = .next ((s.wr (HOST_RING_ERR q) 0).wr (HOST_RING_ERR_CODE q) 0)) ∧
      ((s.ctx k).fetching = true → s.readEnds k (s.doorbellAddr k 0) (.ok []) = true → ∀ pi : BitVec 16, s.ownRings k = [q.val] → q.val < 152 →
        s.on (HOST_RING_ERR q) = false → (s.ring q).known = true → pi.toNat ≠ (s.ring q).pi →
        (pi.toNat + 65536 - s.rd (HOST_RING_CI q)) % 65536 ≤ s.ringSize q → s.rd (HOST_CTX_KICK_PEND k) = 0 →
        exec (.doorbellFetch k (some [(q, pi)])) s = .next ((((s.setRing q { s.ring q with pi := pi.toNat }).updCtx k
          (fun c => { c with fetching := false })).wr (HOST_CTX_KICK_PEND k) 0))) ∧
      (s.on (HOST_RING_EN q) = true → s.on (HOST_RING_ERR q) = false → (s.ring q).known = true → s.ringOwner q = k.val →
        s.on (HOST_CTX_EN k) = true → (s.ctx k).inLoss = false → (s.ring q).pi = ((s.ring q).fetch + 1) % 65536 → (s.ring q).fetch < 65536 →
        q.val < 152 → s.safe = false → s.on (HOST_PORT_L1 (k.val / 4)) = false → s.reaches k = true → isLocal (s.ringBase q) = false →
        ∀ bs : List Byte, bs.length = 32 → byteAt bs 0 ≠ tyStrip → s.roomFor q (byteAt bs 0) = true → (s.ring q).guard = 0 →
        (∀ n, cellOfRing q = some n → s.cellState n ≠ csFenced) →
        let d : Desc := ⟨(s.ring q).fetch, bs, .queued, (s.ctx k).fetchNo⟩
        checkDesc (ringKind q) d = none →
        ∃ t, exec (.descriptorFetch q (.ok bs)) s = .next t ∧
          (t.ring q).held = (s.ring q).held ++ [d] ∧ (t.ring q).fetch = ((s.ring q).fetch + 1) % 65536 ∧ (t.ctx k).fetchNo = (s.ctx k).fetchNo + 1 ∧
          t.rd (HOST_RING_HELD q) = min ((s.ring q).held.length + 1) 255 ∧ t.mem = s.mem ∧ t.out = s.out ∧ t.reports = s.reports ∧
          SameRegs [HOST_RING_HELD q] s t)) ∧
  (∀ (s : State) (k : CtxId) (trigs : List Instr) (pis : List (RingId × BitVec 16)),
      s.on (HOST_CTX_EN k) = true → (s.ctx k).inLoss = false → (s.ctx k).fetching = true → s.reaches k = true →
      s.on (HOST_PORT_L1 (k.val / 4)) = false → s.rd (HOST_CTX_POLL_US k) ≠ 0 → s.ownRings k = [] → (∀ b, (s.ctx k).trigAt ≠ some (s.now, b)) →
      trigs ≠ [] → (∀ c ∈ trigs, c = .pollExpiry k ∨ ∃ who, Passes s who (HOST_CTX_KICK k) ∧ c = .kick who k) →
      ∃ t u, runAll trigs s = .next t ∧ exec (.doorbellFetch k (some pis)) t = .next u ∧ (u.ctx k).fetching = true ∧
        u.rd (HOST_CTX_KICK_PEND k) = 0 ∧
        ∃ w, exec (.doorbellFetch k (some pis)) u = .next w ∧ (w.ctx k).fetching = false) ∧
  (∀ (s : State) (k : CtxId),
      (s.on (HOST_CTX_EN k) = true → (s.ctx k).inLoss = false → s.on (HOST_RING_EN (152 + k.val)) = true → s.on (HOST_PORT_L1 (k.val / 4)) = false →
        (∀ pi : BitVec 16, s.reaches k = true → exec (.eventRingSpace k (some pi)) s = .next ((((s.updCtx k (fun c =>
          { c with evtHost := pi.toNat, evtStart := if c.evtKnown then c.evtStart else pi.toNat,
                   evtProd := if c.evtKnown then c.evtProd else pi.toNat, evtKnown := true })).wr (HOST_RING_CI (152 + k.val)) pi.toNat).flushEvents k
                     64).settleSyncs 160)) ∧
        ((s.ctx k).busMaster = true → (s.ctx k).flrBusy = false → (s.ctx k).fn.d3 = false →
          exec (.eventRingSpace k none) s = .next (((s.countReadError k).wr (HOST_CTX_FETCH_ERR k) 1).hostLoss k 5))) ∧
      (∀ vec : Fin 64, Store.get 0 (s.ctx k).unsig vec.val ≠ 0 →
        let u := s.updCtx k (fun c => { c with unsig := Store.del c.unsig vec })
        let f := (s.ctx k).fn
        (f.msixOn = false → exec (.moderationHoldoff k vec) s = .next u) ∧
        (f.msixOn = true → (f.fnMask = true ∨ (s.msixVec k vec).masked = true) → exec (.moderationHoldoff k vec) s = .next (u.updCtx k (fun c =>
          { c with fn := { c.fn with pending := vec.val :: c.fn.pending.filter (· != vec.val) } }))) ∧
        (f.msixOn = true → f.fnMask = false → (s.msixVec k vec).masked = false → s.reaches k = true → s.on (HOST_PORT_L1 (k.val / 4)) = false →
          exec (.moderationHoldoff k vec) s = .next (u.emit (.msix k vec)))))

/-- A NOP that may start completes with OK, a SYNC whose context does not own the unit it names with REFUSED; one whose RING_CI condition is already
met completes with OK at once; one with a time that has not passed, or that meets no valid device time, or with a condition that is neither a time nor
RING_CI, waits; a SYNC reached by device time and one that times out complete with OK and TIMEOUT. What finishing the only descriptor of a ring does, for a
context whose writes leave: its completion is written over its slot in host memory with the echoed TYPE and TAG, the status and the completion phase; CI
moves past it, HELD is 0, and without FLAGS.EVT and CI write-back nothing else is written or raised. Where clauses of it rest on a reading or a choice of
the model: notes/assumptions/3. -/
def Obligations.NopSyncAndCompletion : Prop :=
  (∀ (s : State) (q : RingId) (d : Desc), s.descAt q d.idx = some d →
      let cond := bitsOf (d.u8 4) 0 4
      (s.takeable q tyNop = some d → exec (.nop q) s = .next (s.finish q d.idx ⟨stOk, 0, s.now, 0, 0⟩)) ∧
      (s.takeable q tySync = some d → s.syncOwned q d = false →
        exec (.sync q) s = .next ((s.descXs (s.ringOwner q) q d.idx).finish q d.idx ⟨stRefused, 0, s.now, 0, 0⟩)) ∧
      (s.takeable q tySync = some d → s.syncOwned q d = true → cond = 5 → s.ciReached d = true →
        exec (.sync q) s = .next ((s.setPhase q d.idx .started).finish q d.idx ⟨stOk, 1, s.now, s.now, 0⟩)) ∧
      (s.takeable q tySync = some d → s.syncOwned q d = true → (cond = 5 → s.ciReached d = false) →
        (cond = 0 → s.on TIME_STAT_VALID = false ∨ s.now ≤ d.u64 8) →
        exec (.sync q) s = .next (s.setPhase q d.idx .started)) ∧
      (s.on TIME_STAT_VALID = true →
        (s.ring q).held.find? (fun d => waitingSync 0 d && decide (d.u64 8 ≤ s.now)) = some d →
        exec (.syncTimeReached q) s = .next (s.finish q d.idx ⟨stOk, 1, s.now, s.now, 0⟩)) ∧
      ((s.ring q).held.find? (fun d => d.type == tySync && d.phase == .started && d.u32 16 != 0) = some d →
        exec (.syncTimeout q) s = .next ((s.applyGuard q d.idx (d.u8 6) stTimeout).finish q d.idx ⟨stTimeout, 0, s.now, 0, 0⟩))) ∧
  (∀ (s : State) (q : RingId) (d : Desc) (c : Completion) (k : CtxId),
      (s.ring q).held = [d] → d.bytes.length = 32 → d.evt = false → s.ringOwner q = k.val → s.reaches k = true →
      s.on (HOST_PORT_L1 (k.val / 4)) = false →
      (s.ctx k).closing = false → isLocal (s.slotAddr q d.idx) = false → s.on (HOST_RING_CI_WB q) = false → s.on (HOST_RING_EN q) = true →
      s.on (HOST_RING_ERR q) = false → (s.ring q).fetch < 65536 →
      let t := s.finishRaw q d.idx c
      t.out = .hostWrite k.val (s.slotAddr q d.idx) (completionBytes d c (s.phaseBit q d.idx)) :: s.out ∧
      (t.ring q).held = [] ∧ t.rd (HOST_RING_CI q) = (s.ring q).fetch ∧ t.rd (HOST_RING_HELD q) = 0 ∧
      SameRegs [HOST_RING_CI q, HOST_RING_HELD q] s t ∧ t.mem = s.mem ∧ t.reports = s.reports)

/-- A write of ownership by the administrator or the Yoke gives each resource of the word that is not busy the owner that its field names when every
value is 0 to 7 or 15; a busy resource keeps its owner, and a change of it raises CFG_LIVE; with a value from 8 to 14 the whole write is refused as
HOST_XS. The field of a fused cell takes no write. Where clauses of it rest on a reading or a choice of the model: notes/assumptions/5. -/
def Obligations.OwnershipWrites : Prop :=
  ∀ (s : State) (who : Sender) (kind : OwnKind) (word : Fin 10) (v : Word), 8 * word.val < ownCount kind →
    Passes s who (ownFld kind (8 * word.val)) →
    let there (j : Nat) := j < 8 ∧ 8 * word.val + j < ownCount kind ∧ (kind = .cell → s.fused (8 * word.val + j) = false)
    let fld (j : Nat) := ownFld kind (8 * word.val + j)
    let val (j : Nat) := bitsOf v.toNat (4 * j) 4
    let stays (j : Nat) := val j ≠ s.rd (fld j) ∧ s.ownBusy kind (8 * word.val + j) = true
    ((∀ j, there j → val j < 8 ∨ val j = 15) →
      ∃ t, (∀ j, there j → stays j → t.rd (fld j) = s.rd (fld j)) ∧ (∀ j, there j → ¬ stays j → t.rd (fld j) = val j) ∧
        (∀ j, j < 8 → ¬ there j → t.rd (fld j) = s.rd (fld j)) ∧ OnlyRegs ((List.range 8).map fld) s t ∧
        ((∀ j, there j → ¬ stays j) → exec (.ownershipWrite who kind word v) s = .next t) ∧
        ((∃ j, there j ∧ stays j) → exec (.ownershipWrite who kind word v) s = .next (t.cfgLive who (fld 0).addr))) ∧
    ((∃ j, there j ∧ 8 ≤ val j ∧ val j ≤ 14) →
      exec (.ownershipWrite who kind word v) s = .next (s.hostXs who xsValue (fld 0).addr true))

/-- A fetched producer index that differs from the consumer index by more than the ring size stops the ring with RING_ERR as class 1 and error code
PI_BAD, and a producer index equal to the last one read has no effect. -/
def Obligations.BadProducerIndex : Prop :=
  ∀ (s : State) (q : RingId) (pi : BitVec 16), q.val < 152 → s.on (HOST_RING_ERR q) = false → (s.ring q).known = true →
    (pi.toNat = (s.ring q).pi → s.takePi q pi.toNat = s) ∧
    (pi.toNat ≠ (s.ring q).pi → s.ringSize q < (pi.toNat + 65536 - s.rd (HOST_RING_CI q)) % 65536 →
      let t := s.takePi q pi.toNat
      t.rd (HOST_RING_ERR q) = 1 ∧ t.rd (HOST_RING_ERR_CODE q) = 1 ∧ (t.ring q).pi = (s.ring q).pi ∧
      t.reports = addReport s.reports ⟨srcRingErr, 0, 1, initCtx, s.ringOwner q, accFetch, q.val, s.faultTime, 0⟩)

/-- The fields of a word are judged one by one: in MARK, EN (class L) always takes its bit; FILT (class S) takes its bits while EN is 0, and while
EN is 1 a changed value is refused with CFG_LIVE and EN still takes effect; read-only words discard the write. A write of a class B field changes
its shadow alone: the window of a cell reads as written at once, and the values in force stay. A read of any class B field, of any block, shows the
field's shadow. While READY.MEM_FAIL is 1, a write of an enable of a cell or of a pipeline that the filter passes is discarded and recorded as
HOST_XS. Where clauses of it rest on a reading or a choice of the model: notes/assumptions/5, 15. -/
def Obligations.RegisterWrites : Prop :=
  (∀ (s : State) (who : Sender) (m : Fin 4) (addr : BitVec 26) (v : Word), s.gateWrite who addr.toNat 4 = .pass →
      (addr.toNat = (MARK_EN m).addr →
        (s.on (MARK_EN m) = false ∨ bitsOf v.toNat 4 10 = s.rd (MARK_FILT m) →
          exec (.configWrite who (.reg addr) 4 (some v)) s = .next ((s.wr (MARK_EN m) (v.toNat % 2)).wr (MARK_FILT m) (bitsOf v.toNat 4 10))) ∧
        (s.on (MARK_EN m) = true → bitsOf v.toNat 4 10 ≠ s.rd (MARK_FILT m) →
          exec (.configWrite who (.reg addr) 4 (some v)) s = .next ((s.wr (MARK_EN m) (v.toNat % 2)).cfgLive who addr.toNat))) ∧
      ((MARK_RISE_SEQ m).addr ≤ addr.toNat → addr.toNat < (MARK_EN m).addr + 0x80 → exec (.configWrite who (.reg addr) 4 (some v)) s = .next s)) ∧
  (∀ (s : State) (who : Sender) (n : CellId) (addr : BitVec 26) (v : Word), addr.toNat = (CELL_WIN_BASE n).addr →
      s.gateWrite who addr.toNat 4 = .pass →
      exec (.configWrite who (.reg addr) 4 (some v)) s = .next ((s.wr (CELL_WIN_BASE n) (v.toNat % 2 ^ 16)).wr (CELL_WIN_WIDTH n) (bitsOf v.toNat 16 8)) ∧
      ∀ t, exec (.configWrite who (.reg addr) 4 (some v)) s = .next t → t.rdF (CELL_WIN_BASE n) = s.rdF (CELL_WIN_BASE n) ∧
        t.rdF (CELL_WIN_WIDTH n) = s.rdF (CELL_WIN_WIDTH n) ∧ t.rd (CELL_WIN_BASE n) = v.toNat % 2 ^ 16) ∧
  (∀ (s : State) (b : Block) (addr : Nat) (x : FieldAt), x ∈ b.fieldsAt addr → x.cls ≠ .s → x.cls ≠ .l → x.cls ≠ .none →
      x.acc ≠ .wo → s.showFld b x = s.rd x.fld) ∧
  (∀ (s : State) (who : Sender), s.on GLOBAL_READY_MEM_FAIL = true →
      (∀ n : CellId, Passes s who (CELL_CTL_EN n) → exec (.cellEnable who n) s = .next (s.hostXs who xsRule (CELL_CTL_EN n).addr true) ∧
        exec (.cellDisable who n) s = .next (s.hostXs who xsRule (CELL_CTL_EN n).addr true)) ∧
      (∀ (p : PipeId) on, Passes s who (INSP_CTL_EN p) →
        exec (.inspEnable who p on) s = .next (s.hostXs who xsRule (INSP_CTL_EN p).addr true)))

/-- A write of LMEM_BASE, LMEM_SIZE or LMEM_SHARED that would make the window overlap the system region is discarded with HOST_XS, cause VALUE. -/
def Obligations.WindowsStayClearOfTheSystemRegion : Prop :=
  ∀ (s : State) (who : Sender) (k : CtxId) (addr : BitVec 26) (v : Word), s.gateWrite who addr.toNat 4 = .pass →
    let overlaps (base size : Nat) := 0 < size ∧ s.rd GLOBAL_MEM_SYS_BASE < base + size
    (s.on (HOST_CTX_EN k) = false → addr.toNat = (HOST_CTX_LMEM_BASE k).addr → overlaps (v.toNat % 2 ^ 14) (s.rd (HOST_CTX_LMEM_SIZE k)) →
      exec (.configWrite who (.reg addr) 4 (some v)) s = .next (s.hostXs who xsValue addr.toNat true)) ∧
    (s.on (HOST_CTX_EN k) = false → addr.toNat = (HOST_CTX_LMEM_SIZE k).addr → overlaps (s.rd (HOST_CTX_LMEM_BASE k)) (v.toNat % 2 ^ 15) →
      exec (.configWrite who (.reg addr) 4 (some v)) s = .next (s.hostXs who xsValue addr.toNat true)) ∧
    (s.on HOST_LMEM_SHARED_EN = false → addr.toNat = HOST_LMEM_SHARED_BASE.addr → overlaps (v.toNat % 2 ^ 14) (bitsOf v.toNat 16 15) →
      exec (.configWrite who (.reg addr) 4 (some v)) s = .next (s.hostXs who xsValue addr.toNat true))

/-- Until READY.DISC, a write of a context to PHY_CTL of a lane of the discovery set, that the filter would else pass, is discarded and CFG_LIVE is
raised as class 1. -/
def Obligations.PhyCtlDuringDiscovery : Prop :=
  ∀ (s : State) (k : CtxId) (n : CellId) (addr : BitVec 26) (v : Word), s.on GLOBAL_READY_DISC = false →
    s.coop.disc.contains n.val = true → s.on GLOBAL_READY_HOST = true → s.portReset k = false → s.fused n = false → s.gated n = false →
    s.ctxMayWrite k.val (.link n) (addr.toNat % 0x10000) = true → addr.toNat = (LINK_PHY_CTL_EN n).addr →
    let t := s.report srcCfgLive 0 1 initCtx k.val accConfig addr.toNat
    exec (.configWrite (.ctx k) (.reg addr) 4 (some v)) s = .next t ∧ exec (.laneEnable (.ctx k) n) s = .next t ∧ exec (.laneDisable (.ctx k) n) s = .next t

/-- The descriptors of a cell's rings that it may start: a PAGE that passes every check is taken, and the cell is ARMED with it; a STRIP that passes
every check, with none fetched earlier for its context waiting, is Nougat's; a MAPLOAD
whose bytes are read from host memory waits for the background with the entries they hold; a MAPLOAD at the head of the waiters takes the READY
background, and ends with its last entry written. A LADDER that passes the checks is taken as the cell's next page, with the depth, direction and
source of the page before it. The transfers of a control ring: WAVE and TRIM that may start on a lane that is UP have their bytes read and are
forwarded as BEGIN, DATA of 24 bytes each, and END with the CRC, whose response the descriptor awaits; a BUF in the windows of its context is
accepted. Where clauses of it rest on a reading or a choice of the model: notes/assumptions/19, 74. -/
def Obligations.TakingDescriptors : Prop :=
  (∀ (s : State) (n : CellId) (d : Desc),
      (s.takeable (2 * n.val) tyPage = some d → s.ganged n = false → (s.cell n).cur = none → s.cellState n = csIdle →
        s.mayTake n (depthBits (bitsOf (d.u8 27) 0 2)) = true → s.pageBad n d = none →
        s.mayReadMem (s.ringOwner (2 * n.val)) (d.u64 4) (tableSize d) = true →
        (d.bit 1 3 = true ∨ s.keyFits (s.ringOwner (2 * n.val)) (bitsOf (d.u8 24) 0 6) 0 = true) →
        ∃ t p, exec (.page n) s = .next t ∧ (t.cell n).cur = some p ∧ p.idx = d.idx ∧ p.lines = pageLines (d.u32 20) ∧ p.table = d.u64 4 ∧
          p.strips = d.u8 26 ∧ p.started = false ∧ t.cellState n = csArmed ∧ t.mem = s.mem ∧ t.out = s.out) ∧
      (s.takeable (2 * n.val) tyStrip = some d → s.cellState n ≠ csFenced → s.earlierStrip (s.ringOwner (2 * n.val)) d.ord = false → s.stripBad (s.ringOwner (2 * n.val)) d = none →
        ∃ t j, exec (.strip n) s = .next t ∧ t.nougat.jobs = s.nougat.jobs ++ [j] ∧ j.idx = d.idx ∧ j.ctx = s.ringOwner (2 * n.val) ∧
          j.src = d.u64 4 ∧ j.entry = d.u64 12 ∧ j.firstLine = d.u32 20 ∧ j.lines = d.u16 24 ∧ j.next = 0 ∧ j.committed = 0 ∧ t.mem = s.mem ∧
          SameRegs [HOST_RING_HELD (2 * n.val)] s t) ∧
      (∀ bs : List Byte, s.takeable (2 * n.val) tyMapload = some d → s.cellState n ≠ csFenced → isLocal (d.u64 4) = false →
        s.readEnds (s.ringOwner (2 * n.val)) (d.u64 4) (.ok bs) = true →
        let count := d.u16 16 * (b2n (d.bit 12 0) + b2n (d.bit 12 1))
        exec (.mapload n (.ok bs)) s = .next ((s.setPhase (2 * n.val) d.idx .started).updCell n (fun c =>
          { c with bgWait := c.bgWait ++ [.mapload d.idx (entries16 (bs.take (2 * count)) count)] }))) ∧
      (∀ es rest, s.rd (CELL_BANK_STAT_BG_STATE n) = bgReady → (s.cell n).bgWait = .mapload d.idx es :: rest → s.on (CELL_NH_CTL_OVERLAY n) = false →
        exec (.maploadLock n) s = .next
          ((s.updCell n (fun c => { c with bgWait := rest, holder := some (d.idx, es) })).wr (CELL_BANK_STAT_BG_STATE n) bgHost)) ∧
      (∀ es, (s.cell n).holder = some (d.idx, es) → s.descAt (2 * n.val) d.idx = some d → d.bit 1 2 = false →
        exec (.maploadWriteDone n) s = .next ((((s.putBg n (maploadWrites d es)).updCell n (fun c => { c with holder := none })).wr
          (CELL_BANK_STAT_BG_STATE n) bgReady).finishSt (2 * n.val) d.idx stOk))) ∧
  (∀ (s : State) (n : CellId) (d : Desc) (prev : PrevPage),
      s.takeable (2 * n.val) tyLadder = some d → s.ganged n = false → (s.cell n).prev = some prev → s.mayTake n prev.depth = true →
      (s.cell n).cur = none → s.cellState n = csIdle → s.takeOk n prev.depth = true → d.u8 6 < 4 → d.u8 13 % 16 < 2 ^ prev.depth →
      d.u16 8 + d.u16 10 ≤ 2048 →
      (d.u8 6 ≤ 1 → max 1 (s.rd (CELL_NH_LADDER_BLANK n)) + 2 * (if d.u8 12 % 64 = 0 then 64 else d.u8 12 % 64) ≤ d.u16 4) →
      ∃ t p, exec (.ladder n) s = .next t ∧ (t.cell n).cur = some p ∧ p.idx = d.idx ∧ p.lines = d.u16 4 ∧ p.depth = prev.depth ∧ p.dir = prev.dir ∧
        p.par.src = prev.src ∧ p.par.pitch = prev.pitch ∧ p.ladder.isSome = true ∧ t.cellState n = csArmed) ∧
  (∀ (s : State) (n : CellId) (d : Desc) (bs : List Byte) (q : RingId),
      let sent (len beginArg opBegin opData step opEnd : Nat) : State :=
        (s.setPhase (2 * n.val + 1) d.idx .started).updLink n (fun l => { l with cmds := l.cmds ++
          ([⟨opBegin + beginArg * 2 ^ 32, false, .none⟩] ++ dataCmds opData step (ceilDiv len 24) 0 (bs.take len) ++
            [⟨opEnd + crc32 (bs.take len) * 2 ^ 32, true, .desc (2 * n.val + 1) d.idx⟩]) })
      (s.takeable (2 * n.val + 1) tyWave = some d → s.linkState n = lsUp → isLocal (d.u64 4) = false →
        s.readEnds (s.ringOwner (2 * n.val + 1)) (d.u64 4) (.ok bs) = true →
        exec (.wave n (.ok bs)) s = .next (sent (d.u32 12) (bitsOf (d.u8 16) 0 4 + d.u8 17 * 2 ^ 8 + d.u32 12 * 2 ^ 32) opWaveBegin opWaveData 24
          opWaveEnd)) ∧
      (s.takeable (2 * n.val + 1) tyTrim = some d → s.linkState n = lsUp → isLocal (d.u64 4) = false →
        s.readEnds (s.ringOwner (2 * n.val + 1)) (d.u64 4) (.ok bs) = true →
        exec (.trim n (.ok bs)) s = .next (sent (2 * d.u16 14) (bitsOf (d.u8 16) 0 4 + d.u8 17 * 2 ^ 8 + d.u16 12 * 2 ^ 16 + d.u16 14 * 2 ^ 32)
          opTrimBegin opTrimData 12 opTrimEnd)) ∧
      (s.takeable q tyBuf = some d → s.mayWriteMem (s.ringOwner q) (d.u64 4) (d.u32 12) = true →
        exec (.buf q) s = .next (s.setPhase q d.idx .started)))

/-- The fetch engine of a cell, of data in host memory whose reads end: an entry read as valid joins the page's entries and the next one is due; an invalid
one waits for its re-poll, which makes it due again; a
block row takes its line-buffer slots; a block that passes every check joins its row; and the row's lines become ready together. Nougat: dispatch,
coding, commit in dispatch order at HEAD, release of units by TAIL, and lanes that return to service. Where clauses of it
rest on a reading or a choice of the model: notes/assumptions/3, 6, 17, 20. -/
def Obligations.FetchAndNougat : Prop :=
  (∀ (s : State) (n : CellId) (p : PageRun), (s.cell n).fetchPage = some p → s.cellState n ≠ csFenced →
      (∀ bs, p.entWait = false → (p.aborted && p.entAgain) = false → p.entB < p.blockRows → p.entB ≤ p.entryLimit →
        isLocal (p.entryAddr p.entB p.entS) = false → s.readEnds (s.owner .cell n) (p.entryAddr p.entB p.entS) (.ok bs) = true → bs.length = 16 →
        (∀ a size zero, bitOf (byteAt bs 11) 0 = true → judgeEntry bs = some (a, size, zero) →
          exec (.entryRead n (.ok bs)) s = .next (s.updPage n p.idx (fun q =>
            PageRun.nextEntry { q with entries := q.entries ++ [⟨p.entB, p.entS, a, size, zero, false⟩] }))) ∧
        (bitOf (byteAt bs 11) 0 = false →
          exec (.entryRead n (.ok bs)) s = .next (s.updPage n p.idx (fun q => { q with entWait := true, entRetry := false, entAgain := true })))) ∧
      (exec (.entryRepoll n) s = .next (s.updPage n p.idx (fun p => { p with entWait := false }))) ∧
      (p.row = none → (s.cell n).pages.foldl (fun u q => u + q.slots) 0 + p.lb ≤ lbCapacity (64 * p.winWidth) p.depth →
        exec (.rowFetchStart n) s = .next (s.updPage n p.idx (fun p =>
          { p with row := some ⟨p.nextRow, [], p.entries.any (fun e => e.b == p.nextRow && e.bad), false⟩, nextRow := p.nextRow + 1 }))) ∧
      (∀ r e bs raw, p.row = some r → r.faulted = false → p.nextBlock (p.fillZeros r) = some e → isLocal e.addr = false →
        s.readEnds (s.ringOwner (2 * s.leader n)) e.addr (.ok bs) = true →
        openBlock (bs.take e.size) p.depth e.strip r.b (r.b * p.lb) (p.rowLines r.b) e.size p.nokey (s.slotKey p.keySlot) p.nonce = .ok raw →
        exec (.blockRead n (.ok bs)) s = .next (s.updPage n p.idx (fun q =>
          { q with row := some { p.fillZeros r with blocks := (p.fillZeros r).blocks ++ [(e.strip, .raw raw)], retried := false } }))) ∧
      (∀ r, p.row = some r → (s.cell n).cur = some p → s.on (CELL_LB_CTL_EVT_LOW n) = false →
        (r.faulted = true ∨ p.winStrips.all (fun w => (p.fillZeros r).blocks.any (fun k => k.1 == w)) = true) →
        ∃ t p', exec (.blockRowReady n) s = .next t ∧ (t.cell n).cur = some p' ∧ p'.idx = p.idx ∧ p'.row = none ∧
          p'.entries = p.entries.filter (fun e => e.b ≠ r.b) ∧ t.mem = s.mem ∧ t.rings = s.rings ∧ t.out = s.out ∧
          SameRegs [CELL_LB_STAT_READY n, CELL_LB_STAT_LOW n] s t)) ∧
  (∀ (s : State) (who : Sender) (lane : Fin 16) (k : CtxId),
      (∀ j, s.on NOUGAT_CTL_EN = true → s.laneFree lane.val = true → s.turns[s.nougat.rrTurn % max 1 s.turns.length]? = some k.val →
        s.nextJob k.val = some j → ∃ t, exec (.nougatDispatch lane) s = .next t ∧
          t.laneBlock lane.val = some ⟨k.val, j.ring, j.idx, j.next, s.nougat.sent, false, none⟩ ∧ t.nougat.sent = s.nougat.sent + 1 ∧
          t.regs = s.regs ∧ t.mem = s.mem) ∧
      (∀ l j bs, s.laneBlock lane.val = some l → s.jobOf l = some j → l.coded = none → isLocal (j.src + l.i * j.lb * lineBytes j.depth) = false →
        s.readEnds j.ctx (j.src + l.i * j.lb * lineBytes j.depth) (.ok bs) = true →
        bs.length = j.blockLines l.i * lineBytes j.depth → j.encrypt = false → (lzwEncode bs).length ≤ bs.length →
        ∃ t, exec (.nougatBlockCoded lane (.ok bs) false false) s = .next t ∧
          t.laneBlock lane.val = some { l with coded := some (kbcHeader false false bs.length (lzwEncode bs).length j.strip (j.blockLines l.i)
            (j.firstLine + l.i * j.lb) (crc32 bs) ++ lzwEncode bs) }) ∧
      (∀ l bs j, s.nextCommit k.val = some (lane.val, l, bs) → s.jobOf l = some j → s.arenaFits k.val (ceilDiv bs.length 64) = true →
        s.badWords = [] → ∃ t, exec (.nougatCommit k) s = .next t ∧ t.laneBlock lane.val = none ∧
          t.rd (NOUGAT_ARENA_HEAD k) = (s.arenaStart k.val (ceilDiv bs.length 64) + ceilDiv bs.length 64) % 2 ^ 28) ∧
      (∀ v : BitVec 28, Passes s who (NOUGAT_ARENA_TAIL k) →
        exec (.arenaTail who k v) s = .next (if s.tailOk k.val v.toNat then (s.wr (NOUGAT_ARENA_TAIL k) v.toNat).checkFull k
          else s.hostXs who xsValue (NOUGAT_ARENA_TAIL k).addr true)) ∧
      (∀ mask : BitVec 16, Passes s who NOUGAT_LANE_CTL_RESTORE →
        ∃ t, exec (.nougatLaneRestore who mask) s = .next t ∧
          (∀ i, i < 16 → bitOf (t.rd NOUGAT_LANE_STAT_FENCED) i = (bitOf (s.rd NOUGAT_LANE_STAT_FENCED) i && !bitOf mask.toNat i)) ∧
          SameRegs [NOUGAT_LANE_STAT_FENCED] s t))

/-- A committed block's bytes stand in the arena where its entry does not, the entry names them, and every byte of the page store outside the block and its 16-byte entry reads as before. Where
clauses of it rest on a reading or a choice of the model: notes/assumptions/56. -/
def Obligations.CommitWritesBlockAndEntry : Prop :=
  ∀ (s : State) (k : CtxId) (lane : Nat) (l : LaneBlock) (bs : List Byte) (j : StripJob),
    s.nextCommit k.val = some (lane, l, bs) → s.jobOf l = some j → s.arenaFits k.val (ceilDiv bs.length 64) = true → s.badWords = [] →
    bs.length ≤ 2 ^ 34 → s.on (NOUGAT_ARENA_EVT_FULL k) = false → j.committed + 1 < j.blocks → j.dead = none →
    let off := s.rd (NOUGAT_ARENA_BASE k) * 2 ^ 20 + 64 * s.arenaStart k.val (ceilDiv bs.length 64)
    let ent := localOff (j.entry + 16 * l.i)
    ∃ t, exec (.nougatCommit k) s = .next t ∧
      (∀ a, (∀ i, i < bs.length → a % 2 ^ 34 ≠ (off + i) % 2 ^ 34) → (∀ i, i < 16 → a % 2 ^ 34 ≠ (ent + i) % 2 ^ 34) →
        t.memByte a = s.memByte a) ∧
      (∀ i, i < bs.length → (∀ m, m < 16 → (off + i) % 2 ^ 34 ≠ (ent + m) % 2 ^ 34) → t.memByte (off + i) = bs.getD i 0) ∧
      (∀ i, i < 16 → t.memByte (ent + i) = (entryBytes (2 ^ 63 + off) bs.length).getD i 0)

/-- A payload sealed under a key is opened with the same key, IV and additional data: AES-256-GCM, which the spec names and a standard defines.
RAW_CRC is the CRC-32 of IEEE 802.3: its check value over the digits 1 to 9, and 0 over nothing. Where clauses of it rest on a reading or a choice
of the model: notes/assumptions/53. -/
def Obligations.SealsAndChecks : Prop :=
  (∀ key iv aad p : List Byte, key.length = 32 →
      let b := gcmSeal key iv aad p
      gcmOpen key iv aad (b.take p.length) (b.drop p.length) = some p) ∧
  (crc32 [0x31, 0x32, 0x33, 0x34, 0x35, 0x36, 0x37, 0x38, 0x39] = 0xCBF43926 ∧ crc32 [] = 0)

/-- Enabling and disabling a cell: an OFF cell goes to IDLE with its counts restarted, one that has still to reach OFF holds the write, and an IDLE
cell goes to OFF at once. The background bank: a swap request of a cell that is not in a gang, the end of RETIRING, the mirror copy, a write of two
entries in READY and one that is dropped, and a head that has cooled. Where clauses of it rest on a reading or a choice of the model:
notes/assumptions/21, 22. -/
def Obligations.CellsAndBanks : Prop :=
  (∀ (s : State) (who : Sender) (n : CellId), Passes s who (CELL_CTL_EN n) → s.on GLOBAL_READY_MEM_FAIL = false →
      (s.cellState n = csOff → (s.cell n).goingOff = false → ∃ t, exec (.cellEnable who n) s = .next t ∧ t.cellState n = csIdle ∧
        t.on (CELL_CTL_EN n) = true ∧ t.rd (CELL_CNT_MUTE n) = 0 ∧ t.rd (CELL_CNT_UNDERRUN n) = 0 ∧ t.rd (CELL_SWAP_COUNT n) = 0 ∧
        t.rd (CELL_LINE n) = 0 ∧ (t.cell n).lineTag = 0 ∧ (t.cell n).prev = none ∧ t.mem = s.mem) ∧
      ((s.cell n).goingOff = true → s.cellState n ≠ csFenced →
        exec (.cellEnable who n) s = .next ((if s.cellState n = csPrinting then s else s.updCell n (fun c => { c with prev := none })).updCell n
          (fun c => { c with enHeld := true }))) ∧
      (s.cellState n = csIdle → exec (.cellDisable who n) s = .next ((s.wr (CELL_CTL_EN n) 0).wr (CELL_STATE_STATE n) csOff))) ∧
  (∀ (s : State) (who : Sender) (n : CellId),
      (Passes s who (CELL_CTL_SWAP_REQ n) → s.cellState n ≠ csFenced → s.ganged n = false → s.on (CELL_NH_CTL_OVERLAY n) = false →
        exec (.swapReq who n) s = .next (s.wr (CELL_BANK_STAT_SWAP_PEND n) 1)) ∧
      (Passes s who (CELL_CTL_SWAP_REQ n) → s.cellState n = csFenced → exec (.swapReq who n) s = .next s) ∧
      (s.rd (CELL_BANK_STAT_BG_STATE n) = bgRetiring → s.retiringLeft n (1 - s.fgBank n) = false →
        exec (.retiringEnd n) s = .next (s.wr (CELL_BANK_STAT_BG_STATE n) (if s.on (CELL_CTL_MIRROR n) then bgMirroring else bgReady))) ∧
      (s.rd (CELL_BANK_STAT_BG_STATE n) = bgMirroring → s.fgBank n ≤ 1 → ∃ t, exec (.mirrorDone n) s = .next t ∧
        (t.cell n).bank (1 - s.fgBank n) = (s.cell n).bank (s.fgBank n) ∧ (t.cell n).bank (s.fgBank n) = (s.cell n).bank (s.fgBank n) ∧
        t.rd (CELL_BANK_STAT_BG_STATE n) = bgReady ∧ SameRegs [CELL_BANK_STAT_BG_STATE n] s t) ∧
      (∀ (merge : Bool) (word : Fin 1024) (v : Word),
        let addr := 0x1000000 + 0x10000 * n.val + 0x4000 + 0x1000 * b2n merge + 4 * word.val
        s.gateWrite who addr 4 = .pass →
        (s.rd (CELL_BANK_STAT_BG_STATE n) = bgReady → s.fgBank n ≤ 1 → ∃ t, exec (.bgTableWrite who n merge word v) s = .next t ∧
          Store.get 0 ((t.cell n).bank (1 - s.fgBank n)) (2048 * b2n merge + 2 * word.val) = v.toNat % 2 ^ 16 ∧
          Store.get 0 ((t.cell n).bank (1 - s.fgBank n)) (2048 * b2n merge + 2 * word.val + 1) = v.toNat / 2 ^ 16 ∧
          (t.cell n).bank (s.fgBank n) = (s.cell n).bank (s.fgBank n) ∧ t.regs = s.regs ∧ t.mem = s.mem) ∧
        (s.rd (CELL_BANK_STAT_BG_STATE n) ≠ bgReady →
          exec (.bgTableWrite who n merge word v) s = .next ((s.bump (CELL_BANK_STAT_BG_WR_DROP n)).cfgLive who addr))) ∧
      (s.on (CELL_TEMP_STAT_TRIP n) = true → s.rdS (CELL_TEMP_STAT_TEMP n) < s.rdS (CELL_TEMP_CLR_TEMP_CLEAR n) →
        let t := (s.wr (CELL_TEMP_STAT_TRIP n) 0).updCell n (fun c => { c with pause := false })
        exec (.tempHoldExpiry n) s = .next (if (s.cell n).pause then t.refreshStop else t)))

/-- A mismatch of the two copies of a fire engine fences a cell outside a gang: it is FENCED with cause LOCKSTEP, holds no page, and CELL_LOCKSTEP is
pending for the Goose; a fenced cell stays as it is. The release of a fenced cell: refused in the safe state; granted, outside a gang and after a lockstep fence while fewer than
FENCE_MAX fences have been counted, with a self-test; a request of the other cell of its pair that
still waits lapses with the grant; and ended by the self-test: IDLE or OFF with its cause cleared when it passes, still FENCED
with cause LOCKSTEP when it fails. Where clauses of it rest on a reading or a choice of the model: notes/assumptions/3, 43. -/
def Obligations.FencesAndReleases : Prop :=
  (∀ (s : State) (n : CellId),
      (s.cellState n ≠ csFenced → s.ganged n = false → ∃ t, exec (.lockstepMismatch n) s = .next t ∧ t.cellState n = csFenced ∧
        t.rd (CELL_STATE_FENCE_CAUSE n) = fcLockstep ∧ (t.cell n).cur = none ∧ (t.cell n).nxt = none ∧ (t.cell n).tails = [] ∧
        t.reports.any (fun r => r.src == srcCellLockstep && r.unit == n.val) = true) ∧
      (s.cellState n = csFenced → exec (.lockstepMismatch n) s = .next s)) ∧
  (∀ (s : State) (who : Sender) (n : CellId), s.cellState n = csFenced →
      (∀ alive, Passes s who (CELL_CTL_RELEASE n) → (s.cell n).selfTest = false → s.on GOOSE_STATUS_SAFE = true →
        exec (.cellRelease who n alive) s = .next (s.wr (GOOSE_FENCE_STAT_REL_DENIED n) 1)) ∧
      (∀ alive, Passes s who (CELL_CTL_RELEASE n) → (s.cell n).selfTest = false → s.on GOOSE_STATUS_SAFE = false → s.ganged n = false →
        s.rd (CELL_STATE_FENCE_CAUSE n) = fcLockstep →
        (s.rd GOOSE_CTL_FENCE_MAX = 0 ∨ s.rd (GOOSE_FENCE_STAT_FENCES n) < s.rd GOOSE_CTL_FENCE_MAX) →
        exec (.cellRelease who n alive) s = .next ((s.updCell n (fun c => { c with selfTest := true, relPending := false })).updCell
          (if n.val % 2 = 0 then n.val + 1 else n.val - 1) (fun c => { c with relPending := false }))) ∧
      ((s.cell n).selfTest = true →
      (s.rd (CELL_STATE_FENCE_CAUSE n) ≠ fcMapEcc → ∃ t, exec (.cellSelftestDone n true) s = .next t ∧
        t.cellState n = (if s.on (CELL_CTL_EN n) then csIdle else csOff) ∧ t.rd (CELL_STATE_FENCE_CAUSE n) = 0 ∧ (t.cell n).selfTest = false ∧
        t.mem = s.mem) ∧
      (∃ t, exec (.cellSelftestDone n false) s = .next t ∧ t.cellState n = csFenced ∧ t.rd (CELL_STATE_FENCE_CAUSE n) = fcLockstep ∧
        (t.cell n).selfTest = false ∧ t.reports = addReport s.reports ⟨srcCellLockstep, n, 2, initCell, n, accNone, 0, s.faultTime, 0⟩ ∧
        SameRegs [CELL_STATE_FENCE_CAUSE n, GOOSE_FENCE_STAT_FENCES n] s t)))

/-- FIRE_EN of a group is high only while STOP_FIRE_N is high and its latch clear, the device is not in the safe state, and a cell of the group that
is not fused off is enabled and requests it. The commands of STOP_FIRE_N: a fall latches and is reported as class 2, a rise leaves the latch, and the latch clears while
the ball is high. After a fall no group's FIRE_EN is high until both have happened. Where clauses of it rest on a reading or a choice of the model:
notes/assumptions/10, 60. -/
def Obligations.FireEnableAndStopFire : Prop :=
  (∀ (s : State) (g : Nat), s.fireEn g = true →
      s.stopFireN = true ∧ s.stopFireLatch = false ∧ s.safe = false ∧
      ∃ i, i < 8 ∧ s.fused (8 * g + i) = false ∧ s.on (CELL_CTL_EN (8 * g + i)) = true ∧ s.on (CELL_FE_CTL_FIRE_EN_REQ (8 * g + i)) = true) ∧
  (∀ (s : State),
      (s.stopFireN = true → exec .stopFireFall s = .next (({ s with stopFireN := false, stopFireLatch := true } : State).report srcStopFire 0 2 initCoop 0
        accNone 0)) ∧
      exec .stopFireRise s = .next { s with stopFireN := true } ∧
      (s.stopFireN = true → exec .stopFireClear s = .next { s with stopFireLatch := false }) ∧
      (∀ t u, exec .stopFireFall s = .next t → exec .stopFireRise t = .next u → s.stopFireN = true → ∀ g, t.fireEn g = false ∧ u.fireEn g = false))

/-- Triggers and the print start of a cell outside a gang: a SOFT trigger of a page that waits for one is taken with the position now; the page
whose trigger has been taken starts, PRINTING, with what is in force from then on. Sending and completing: the FIRE entry of the row-line whose send
time has come is queued on the cell's lane, and a page that every row has fired completes and leaves the cell. Where clauses of it rest on a reading
or a choice of the model: notes/assumptions/3, 59. -/
def Obligations.TriggersAndPages : Prop :=
  (∀ (s : State) (who : Sender) (n : CellId) (p : PageRun),
      (Passes s who (CELL_FE_CTL_SOFT_TRIG n) → (s.cell n).cur = some p → p.started = false → p.trig = none → p.ladder = none → p.trigKind = 7 →
        s.ganged n = false → s.srcOk n (s.rd (CELL_FE_CTL_SRC n)) = true → (s.cell n).tails = [] →
        exec (.softTrig who n) s = .next (s.updPage n p.idx (fun q =>
          { q with trig := some (s.now, s.posAt (s.rd (CELL_FE_CTL_SRC n)) s.now), srcFixed := s.rd (CELL_FE_CTL_SRC n) }))) ∧
      (∀ t0 pt, (s.cell n).cur = some p → p.started = false → p.trig = some (t0, pt) → p.ladder = none → s.ganged n = false → s.safe = false →
        s.cellState n = csArmed → s.srcOk n p.srcFixed = true → (s.cell n).nxt = none → 0 < p.lines → p.entered = 0 →
        ∃ t p', exec (.printStart n) s = .next t ∧ (t.cell n).cur = some p' ∧ p'.idx = p.idx ∧ p'.started = true ∧
          p'.p0 = s.originFor n p.dir pt ∧ p'.par.pitch = s.pitch n ∧ p'.par.src = p.srcFixed ∧ t.cellState n = csPrinting ∧
          t.rdF (CELL_FE_PITCH_INT n) = s.rd (CELL_FE_PITCH_INT n))) ∧
  (∀ (s : State) (n : CellId) (row : Fin 8) (p : PageRun) (c : Commit),
      (s.ganged n = false → s.cellState n ≠ csFenced → s.cellState n ≠ csOff → s.dueSend n row.val = some (p, c) → s.on (LINK_LL_STAT_HALTED n) = false →
        ∃ t, exec (.fireSend n row) s = .next t ∧ (t.link n).fireNew = (s.link n).fireNew ++ [fireNewEnt p row.val c c.data] ∧ t.regs = s.regs ∧
          t.mem = s.mem ∧ t.rings = s.rings) ∧
      (s.ganged n = false → s.cellState n ≠ csFenced →
        (((s.fireDue n).cell n).tails ++ ((s.fireDue n).cell n).cur.toList).find? (·.over) = some p →
        exec (.pageComplete n) s = .next ((s.fireDue n).endPage n p)))

/-- The row step of an IDLE cell that has no page: its sample is noted, and its readings show no line due. The order of a row step of a cell that is
neither OFF nor FENCED: what is due fires; the sample is kept or discarded, and the pages of a PRINTING cell whose source has become invalid
are lost; outside the safe
state every page in print is corrected and commits; then the cell settles, triggers of the kinds IMMEDIATE and FOLLOW are tried, and the readings
follow. An OFF cell only fires what is due. Where clauses of it rest on a reading or a choice of the model: notes/assumptions/18. -/
def Obligations.RowSteps : Prop :=
  (∀ (s : State) (n : CellId), s.cellState n = csIdle → s.ganged n = false → (s.cell n).cur = none → (s.cell n).nxt = none → (s.cell n).tails = [] →
      (s.cell n).orphans = [] → (s.cell n).goingOff = false →
      (∃ t, exec (.rowStep n false none) s = .next t ∧ (t.cell n).badSamples = 0 ∧ t.rd (CELL_FE_STAT_DUE n) = 0 ∧ t.rd (CELL_FE_STAT_STALLED n) = 0 ∧
        t.cellState n = csIdle ∧ t.mem = s.mem ∧ t.out = s.out ∧ t.reports = s.reports) ∧
      (∃ t, exec (.rowStep n true none) s = .next t ∧ (t.cell n).badSamples = (s.cell n).badSamples + 1 ∧
        t.reports = addReport s.reports ⟨srcFeObsParity, n, 1, initCell, n, accNone, 0, s.faultTime, 0⟩)) ∧
  (∀ (s : State) (n : CellId) (bad : Bool) (err : Option RowErr), s.follower n = false → s.cellState n ≠ csFenced →
      (s.cellState n = csOff → exec (.rowStep n bad err) s = .next (s.fireDue n)) ∧
      (s.cellState n ≠ csOff →
        let a := ((s.fireDue n).noteSample n bad).loseCell n
        let b := if a.safe then a else
          ((a.cell n).tails ++ (a.cell n).cur.toList).foldl (fun u p => if p.started then u.stepPage n p.idx bad err else u) a
        exec (.rowStep n bad err) s = .next (((((b.syncFollower n).settleCrew n).condTrigger n).feStat n bad))))

/-- The governor's update: while EN is 0 the demand is 1,024 and no cell counts; while EN is 1 and STOP_REQ holds the demand is 0 at once; and in no
update does the demand, counted in 1/1,000 of a step, rise by more than RISE. SLOW_REQ takes the demand and the period at the start of a PWM period,
is high for the first 1,024 − DEMAND of the period's 1,024 steps, and is static low only with a demand of 1,024 or SLOW_EN at 0 while the safe state does not
drive it; the latched causes and TTS_MIN clear by a write. Speed-demand frames: the periodic
one that is due leaves with its launch time, and a frame for the safe state, while NET runs, or for an event, 10 µs after the
one before it, leaves with the time now, on a port whose link is up; with the link down the periodic and the safe-state frame are counted as lost. Where clauses of it rest on a reading or a choice of the model: notes/assumptions/23, 60, 84. -/
def Obligations.Governor : Prop :=
  (∀ (s : State), ∃ t, exec .govUpdate s = .next t ∧
      (s.on GOV_CTL_EN = false → t.rd GOV_STAT_DEMAND = 1024 ∧ t.rd GOV_TTS = 0xFFFFFFFF ∧ t.rd GOV_STAT_WORST_CELL = 255) ∧
      (s.on GOV_CTL_EN = true → t.on GOV_STAT_STOP = true → t.rd GOV_STAT_DEMAND = 0) ∧
      (s.on GOV_CTL_EN = true →
        1000 * t.rd GOV_STAT_DEMAND + t.gov.frac ≤ 1000 * s.rd GOV_STAT_DEMAND + s.gov.frac + max 1 (s.rd GOV_DEM_CTL_RISE)) ∧
      t.rd GOV_TTS_MIN ≤ s.rd GOV_TTS_MIN ∧ t.rd GOV_TTS_MIN ≤ t.rd GOV_TTS ∧
      SameRegs [GOV_TTS, GOV_TTS_MIN, GOV_STAT_WORST_CELL, GOV_STAT_STOP, GOV_STAT_LATCH, GOV_STAT_CAUSE, GOV_STAT_SLOW, GOV_STAT_DEMAND] s t ∧
      { t with regs := s.regs, gov := s.gov } = s) ∧
  (∀ (s : State) (who : Sender),
      (∃ t, exec .slowReqPeriod s = .next t ∧ t.rdF GOV_PWM_PERIOD = s.rd GOV_PWM_PERIOD ∧ t.gov = { s.gov with pwm := s.rd GOV_STAT_DEMAND, pwmStart := s.now } ∧
        (∀ x p, p = 1000 * max 1 (s.rd GOV_PWM_PERIOD) → x < p →
          t.slowPwm (s.now + x) = decide (x * 1024 < (1024 - min 1024 (s.rd GOV_STAT_DEMAND)) * p)) ∧
        t.on GOV_STAT_SLOW = (s.safeDrives || (s.on GOV_CTL_SLOW_EN && decide (s.rd GOV_STAT_DEMAND < 1024))) ∧
        SameRegs [GOV_STAT_SLOW] s t) ∧
      (Passes s who GOV_STAT_LATCH → ∃ t, exec (.govLatchClear who) s = .next t ∧ t.gov.lossLatch = false ∧ t.gov.underLatch = false ∧
        t.on GOV_STAT_LATCH = false ∧ SameRegs [GOV_STAT_STOP, GOV_STAT_LATCH, GOV_STAT_CAUSE] s t) ∧
      (Passes s who GOV_TTS_MIN → exec (.ttsMinReset who) s = .next (s.wr GOV_TTS_MIN 0xFFFFFFFF))) ∧
  (∀ (s : State), s.on GOV_NET_EN = true → s.on TIME_STAT_VALID = true → s.rd GOV_NET_PORT < 2 →
      (∀ t, s.periodicDue = some t → ∃ u, exec .speedFramePeriodic s = .next u ∧ u.gov.lastPeriodic = some t ∧
        (s.netUp (s.rd GOV_NET_PORT) = true →
          u = { s.sendFrame (s.rd GOV_NET_PORT) (padFrame (s.govTemplate ++ s.govPayload 0 t)) with
            gov := { s.gov with seq := (s.gov.seq + 1) % 65536, sentDemand := s.rd GOV_STAT_DEMAND, lastPeriodic := some t } }) ∧
        (s.netUp (s.rd GOV_NET_PORT) = false → u = { s.bump GOV_NET_LOST with
          gov := { s.gov with sentDemand := s.rd GOV_STAT_DEMAND, lastPeriodic := some t } })) ∧
      (s.gov.safeDue = true → ∃ u, exec .speedFrameEvent s = .next u ∧ u.gov.safeDue = false ∧
        (s.coreRuns = true → s.netUp (s.rd GOV_NET_PORT) = true →
          u = { s.sendFrame (s.rd GOV_NET_PORT) (padFrame (s.govTemplate ++ s.govPayload 2 s.now)) with
            gov := { s.gov with seq := (s.gov.seq + 1) % 65536, sentDemand := s.rd GOV_STAT_DEMAND, safeDue := false } }) ∧
        (s.coreRuns = true → s.netUp (s.rd GOV_NET_PORT) = false → u = { s.bump GOV_NET_LOST with
          gov := { s.gov with sentDemand := s.rd GOV_STAT_DEMAND, safeDue := false } }) ∧
        (s.coreRuns = false → u = { s with gov := { s.gov with safeDue := false } })) ∧
      (s.gov.safeDue = false → s.gov.eventDue = true → (∀ l, s.gov.lastEvent = some l → l + 10000 ≤ s.now) → s.netUp (s.rd GOV_NET_PORT) = true →
        exec .speedFrameEvent s = .next { s.sendFrame (s.rd GOV_NET_PORT) (padFrame (s.govTemplate ++ s.govPayload 1 s.now)) with
          gov := { s.gov with seq := (s.gov.seq + 1) % 65536, sentDemand := s.rd GOV_STAT_DEMAND, eventDue := false, lastEvent := some s.now } }))

/-- What the transmitter's scrambler and stuffing make of any frame, the receiver in the same state undoes: the last 288 bits it has are that frame,
with a good sync nibble and CRC and the TYPE, SEQ and payload that were sent; none of its bits is counted as broken; and the two ends agree for the next frame. -/
def Obligations.WireCarriesEveryFrame : Prop :=
  ∀ (t : TxWire) (r : RxWire) (type seq payload : Nat), type < 16 → seq < 256 → payload < 2 ^ 256 →
    t.run < 36 → r.hist = t.hist → r.run = t.run → r.last = t.last →
    let f := frameBits type seq payload
    let t' := (t.sendAll (msbBits 288 f)).1
    let r' := (t.sendAll (msbBits 288 f)).2.foldl (fun r w => (r.take w).1) r
    r'.sr = f ∧ syncOk r'.sr = true ∧ crcOk r'.sr = true ∧ frameType r'.sr = type ∧ frameSeq r'.sr = seq ∧ framePayload r'.sr = payload ∧
    r'.clean = min 329 (r.clean + 288) ∧ r'.pos = r.pos + 288 ∧ t'.run < 36 ∧ r'.hist = t'.hist ∧ r'.run = t'.run ∧ r'.last = t'.last

/-- At every frame boundary of a lane whose downstream is neither OFF nor asleep, exactly one frame leaves, coded by the lane's transmitter and
inverted on the wire under TX_INV; an asleep or OFF one sends nothing and stays as it is. Bits that arrive on a live upstream pass the wire decoder
one by one, inverted where the receiver has found the pair inverted; a receiver that is OFF or asleep takes none. Where clauses of it rest on a
reading or a choice of the model: notes/assumptions/24. -/
def Obligations.BoundariesAndBits : Prop :=
  (∀ (s : State) (n : CellId),
      (s.rd (LINK_PWR_STAT_DS n) ≠ pwOff → s.rd (LINK_PWR_STAT_DS n) ≠ pwSleep →
        ∃ t f, exec (.dsFrameSend n) s = .next t ∧ t.out =
            .laneFrame n f (((s.link n).tx.sendAll (msbBits 288 f)).2.map (fun b => b != s.on (LINK_PHY_CTL_TX_INV n))) :: s.out) ∧
      ((s.rd (LINK_PWR_STAT_DS n) = pwOff ∨ s.rd (LINK_PWR_STAT_DS n) = pwSleep) → exec (.dsFrameSend n) s = .next s)) ∧
  (∀ (s : State) (n : CellId) (w : Bool) (ws : List Bool) (stamp : Nat),
      s.rd (LINK_PWR_STAT_US n) ≠ pwOff → s.rd (LINK_PWR_STAT_US n) ≠ pwSleep →
      exec (.frameReceive n [] stamp) s = .next (s.wr (LINK_RX_STAT_SIGNAL n) 1) ∧
      exec (.frameReceive n (w :: ws) stamp) s = .next (ws.foldl (fun u v => u.rxBit n stamp (v != u.on (LINK_RX_STAT_INV n)))
        ((s.wr (LINK_RX_STAT_SIGNAL n) 1).rxBit n stamp (w != s.on (LINK_RX_STAT_INV n)))))

/-- A frame with a good CRC whose TYPE does not come upstream is not delivered: it is counted in PROTO and LINK_PROTO is raised as class 1. Reliable
delivery: a replay starts from the oldest frame held while its limit is not reached, and at the limit the lane goes down; the replay of an UPWR waits for the
upstream; an acknowledgement falls due for frames delivered. A mailbox command without a response times out; the upstream's idle state is sent on a lane that is UP, and its wake while
it sleeps and the downstream is ON; and a gap in
telemetry is reported once. Where clauses of it rest on a reading or a choice of the model: notes/assumptions/3, 24. -/
def Obligations.FramesAndTelemetry : Prop :=
  (∀ (s : State) (n : CellId) (f stamp : Nat), upstreamType (frameType f) = false → (s.linkState n < lsTimeAcq ∨ lsUp < s.linkState n) →
      ∃ t, s.rxFrame n f true stamp = t ∧ t.rd (LINK_LL_CNT_PROTO n) = satNat (LINK_LL_CNT_PROTO n).width (s.rd (LINK_LL_CNT_PROTO n) + 1) ∧
        t.reports = addReport s.reports ⟨srcLinkProto, n, 1, initCell, n, accNone, 0, s.faultTime, 0⟩ ∧ t.mem = s.mem ∧ t.out = s.out ∧
        SameRegs [LINK_LL_CNT_PROTO n, LINK_RX_STAT_FROZEN n, LINK_RX_STAT_FREQ n] s t) ∧
  (∀ (s : State) (n : CellId) (f : HeldFrame) (fs : List HeldFrame),
      ((s.link n).heldTx = f :: fs → s.replayWaits n f = true → exec (.replayTimeout n) s = .next s) ∧
      ((s.link n).heldTx = f :: fs → s.replayWaits n f = false → (s.link n).rpBase ≠ f.seq → exec (.replayTimeout n) s = .next
        (((s.updLink n (fun l => { l with replay := some 0, rpBase := f.seq, rpCount := 1 })).bump (LINK_LL_CNT_REPLAY n)).report srcLinkRetry n 1
          initCell n accNone 0)) ∧
      ((s.link n).heldTx = f :: fs → s.replayWaits n f = false → (s.link n).rpBase = f.seq → max 1 (s.rd (LINK_LL_REPLAY_MAX n)) ≤ (s.link n).rpCount →
        s.linkState n = lsUp → ∃ t, exec (.replayTimeout n) s = .next t ∧ t.linkState n ≠ lsUp ∧ t.rd (LINK_LL_STAT_DOWN_CAUSE n) = dcReplay) ∧
      (0 < (s.link n).unacked → exec (.ackTimer n) s = .next (s.updLink n (fun l => { l with ackDue := true })))) ∧
  (∀ (s : State) (n : CellId),
      (∀ (cid : BitVec 16) (w : CmdWait), (s.link n).waits.find? (fun w => w.cid == cid.toNat) = some w → w.for_ = .mailbox →
        exec (.cmdTimeout n cid) s = .next ((((s.updLink n (fun l => { l with waits := l.waits.filter (fun v => decide (v.cid ≠ w.cid)) })).report
          srcLinkCmd n 1 initCell n accNone 0).wr (LINK_CMD_CTL_BUSY n) 0).wr (LINK_CMD_CTL_TIMEOUT n) 1)) ∧
      (s.linkState n = lsUp → exec (.upwr n false) s = .next (s.updLink n (fun l => { l with cmds := l.cmds ++
        [deviceCmd opUpwr (rateCode (s.rd (LINK_PWR_CTL_US_IDLE n)))] }))) ∧
      (s.linkState n = lsUp → s.rd (LINK_PWR_STAT_US n) = pwSleep → s.rd (LINK_PWR_STAT_DS n) = pwOn →
        exec (.upwr n true) s = .next (s.updLink n (fun l => { l with cmds := l.cmds ++ [deviceCmd opUpwr 0] }))) ∧
      (s.linkState n = lsUp → s.usLive n = true → (s.link n).tlmSeen = true → exec (.tlmGap n) s = .next
        ((s.updLink n (fun l => { l with tlmSeen := false })).report srcLinkTlm n 1 initCell n accNone 0)))

/-- The receiver's adaptation and eye scans: for each window of 4,096 received bits the canceller moves one step toward balance when its ones and zeros
differ by more than 64, and stays as it is while it is held; a
scan starts with a live upstream and is over at once without one; a host's sweep ends with its eye, a host's point measurement
with the count at its point, each count cut to the bits a point takes; an automatic sweep starts or waits. Where
clauses of it rest on a reading or a choice of the model: notes/assumptions/24, 25. -/
def Obligations.EyeAndOffset : Prop :=
  ∀ (s : State) (who : Sender) (n : CellId),
    (∀ ones rest, (s.link n).rx.wins = ones :: rest →
      let u := s.updLink n (fun l => { l with rx := { l.rx with wins := rest } })
      (s.ocHeld n = true → exec (.ocAdjust n) s = .next u) ∧
      (s.ocHeld n = false → exec (.ocAdjust n) s = .next (
        if 4096 - ones + 64 < ones then u.wrSat (LINK_RX_STAT_OC n) (s.rdS (LINK_RX_STAT_OC n) + 1)
        else if ones + 64 < 4096 - ones then u.wrSat (LINK_RX_STAT_OC n) (s.rdS (LINK_RX_STAT_OC n) - 1)
        else u))) ∧
    (Passes s who (LINK_EYE_CTL_START n) → (s.link n).scan = none → (s.rd (LINK_EYE_CTL_MODE n) = 1 ∨ s.rd (LINK_EYE_CTL_MODE n) = 2) →
      exec (.eyeScanStart who n) s = .next (if s.usLive n then
          (s.updLink n (fun l => { l with scan := some (.host (s.rd (LINK_EYE_CTL_MODE n))) })).wr (LINK_EYE_STAT_BUSY n) 1
        else (s.wr (LINK_EYE_STAT_DONE n) 1).wr (LINK_EYE_STAT_NO_SIGNAL n) 1)) ∧
    (∀ pts : EyePoints, (s.link n).scan = some (.host 2) → (s.link n).autoDue = false → ∃ t, exec (.eyeScanDone n pts) s = .next t ∧
      (t.link n).scan = none ∧ t.rd (LINK_EYE_STAT_BUSY n) = 0 ∧ t.rd (LINK_EYE_STAT_DONE n) = 1 ∧ t.rd (LINK_EYE_STAT_NO_SIGNAL n) = 0 ∧
      let cut := eyeWithin pts (s.rd (LINK_EYE_CTL_DWELL n))
      t.rd (LINK_EYE_STAT_EYE_W n) = (sweepEye (s.rd (LINK_EYE_CTL_ERR_MAX n)) cut).1 % 2 ^ (LINK_EYE_STAT_EYE_W n).width ∧
      t.rd (LINK_EYE_STAT_EYE_H n) = (sweepEye (s.rd (LINK_EYE_CTL_ERR_MAX n)) cut).2 % 2 ^ (LINK_EYE_STAT_EYE_H n).width) ∧
    (∀ pts : EyePoints, (s.link n).scan = some (.host 1) → (s.link n).autoDue = false → ∃ t, exec (.eyeScanDone n pts) s = .next t ∧
      (t.link n).scan = none ∧ t.rd (LINK_EYE_STAT_BUSY n) = 0 ∧ t.rd (LINK_EYE_STAT_DONE n) = 1 ∧
      t.rd (LINK_EYE_RES_ERRORS n) = satNat 32 (eyeAt (eyeWithin pts (s.rd (LINK_EYE_CTL_DWELL n))) (s.rdS (LINK_EYE_CTL_PHASE n))
        (s.rdS (LINK_EYE_CTL_VOFF n))) % 2 ^ (LINK_EYE_RES_ERRORS n).width ∧
      t.rd (LINK_EYE_STAT_EYE_W n) = s.rd (LINK_EYE_STAT_EYE_W n) ∧ t.rd (LINK_EYE_STAT_EYE_H n) = s.rd (LINK_EYE_STAT_EYE_H n)) ∧
    (s.rd (LINK_EYE_AUTO_PERIOD_S n) ≠ 0 → s.usLive n = true →
      ((s.link n).scan = none → exec (.eyeAutoSweep n) s = .next
        ((s.updLink n (fun l => { l with scan := some .auto, autoDue := false })).wr (LINK_EYE_STAT_BUSY n) 1)) ∧
      ((s.link n).scan ≠ none → exec (.eyeAutoSweep n) s = .next (s.updLink n (fun l => { l with autoDue := true }))))

/-- Power states of the two directions of a lane: idle states are entered as PWR_CTL says, a wake begins with a preamble of 4.0 µs to 4.5 µs (as many pairs of
bits as the rate makes of that, the number free), and none begins in the safe state. Enabling a lane of a cell that is not fused off, whose receiver is not
LOCKED, clears its counters and begins DETECT; disabling one that is neither UP nor LOCKED takes both directions to OFF at once; a write to a fused
lane by the core that holds the token is refused and recorded. Where clauses of it rest on a reading or a choice of the model:
notes/assumptions/24, 65. -/
def Obligations.LanePowerAndEnable : Prop :=
  (∀ (s : State) (n : CellId),
      (s.rd (LINK_PWR_STAT_DS n) = pwOn → (s.rd (LINK_PWR_CTL_DS_IDLE n) = 1 ∨ s.rd (LINK_PWR_CTL_DS_IDLE n) = 3) → s.dsMayIdle n = true →
        max 1 (s.rd (LINK_PWR_CTL_DOZE_AFTER n)) ≤ (s.link n).idleTx → exec (.dozeEntry n) s = .next (s.wr (LINK_PWR_STAT_DS n) pwDoze)) ∧
      (s.rd (LINK_PWR_STAT_DS n) = pwEntering → 8 ≤ (s.link n).wakeIdle →
        exec (.sleepEntry n false) s = .next (s.wr (LINK_PWR_STAT_DS n) pwSleep)) ∧
      (s.rd (LINK_PWR_STAT_US n) = pwEntering →
        exec (.sleepEntry n true) s = .next (((s.wr (LINK_PWR_STAT_US n) pwSleep).wr (LINK_RX_STAT_SIGNAL n) 0).breakRx n)) ∧
      (s.rd (LINK_PWR_STAT_DS n) = pwSleep → s.linkState n ≠ lsRate → s.wantsWake n = true →
        (s.on GOOSE_STATUS_SAFE = false → ∃ pairs, (preamblePairs (s.rd (LINK_LL_STAT_RATE n))).1 ≤ pairs ∧
          pairs ≤ (preamblePairs (s.rd (LINK_LL_STAT_RATE n))).1 + (preamblePairs (s.rd (LINK_LL_STAT_RATE n))).2 ∧
          exec (.wake n) s = .next (((((s.wr (LINK_PWR_STAT_DS n) pwWaking).bump (LINK_PWR_STAT_WAKES n)).updLink n
            (fun l => { l with wakeIdle := 0, tx := l.tx.afterPreamble })).draw).emit (.preamble n (preambleBits pairs (s.on (LINK_PHY_CTL_TX_INV n)))))) ∧
        (s.on GOOSE_STATUS_SAFE = true → exec (.wake n) s = .next s)) ∧
      (s.rd (LINK_PWR_STAT_US n) = pwSleep → exec (.squelchAssert n) s = .next
        (((s.updLink n (fun l => { l with rx := l.rx.broken, usNotice := false })).wr (LINK_PWR_STAT_US n) pwWaking).wr (LINK_RX_STAT_SIGNAL n) 1)) ∧
      (s.rd (LINK_PWR_STAT_US n) = pwWaking → exec (.falseWakeTimeout n) s = .next
        ((((s.breakRx n).wr (LINK_PWR_STAT_US n) pwSleep).wr (LINK_RX_STAT_SIGNAL n) 0).report srcLinkAlign n 1 initCell n accNone 0)) ∧
      (s.usLive n = true → (s.link n).usNotice = false → s.rd (LINK_RX_STAT_ALIGN n) ≠ 2 → exec (.lossOfSignal n) s = .next
        (((((s.wr (LINK_RX_STAT_SIGNAL n) 0).bump (LINK_PHY_CNT_LOS n)).report srcLinkLos n 1 initCell n accNone 0).breakRx n).updLink n
          (fun l => { l with los := true })))) ∧
  (∀ (s : State) (who : Sender) (n : CellId), Passes s who (LINK_PHY_CTL_EN n) →
      (s.on (LINK_PHY_CTL_EN n) = false → s.fused n = false → s.rd (LINK_RX_STAT_ALIGN n) ≠ 2 → ∃ t, exec (.laneEnable who n) s = .next t ∧ t.linkState n = lsDetect ∧
        t.on (LINK_PHY_CTL_EN n) = true ∧ t.rd (LINK_PWR_STAT_DS n) = pwOn ∧ t.rd (LINK_PWR_STAT_US n) = pwOn ∧ t.rd (LINK_LL_CNT_CRC n) = 0 ∧
        t.rd (LINK_PHY_CNT_LOS n) = 0 ∧ t.rd (LINK_LL_STAT_TLOCK n) = 0 ∧ (t.link n).heldTx = [] ∧ t.mem = s.mem ∧ t.reports = s.reports) ∧
      (s.linkState n ≠ lsUp → s.rd (LINK_RX_STAT_ALIGN n) ≠ 2 → ∃ t, exec (.laneDisable who n) s = .next t ∧ t.linkState n = lsOff ∧ t.on (LINK_PHY_CTL_EN n) = false ∧
        t.rd (LINK_PWR_STAT_DS n) = pwOff ∧ t.rd (LINK_PWR_STAT_US n) = pwOff ∧ t.rd (LINK_LL_STAT_TLOCK n) = 0 ∧ t.rd (LINK_LL_STAT_AUTHED n) = 0 ∧
        (t.link n).cmds = [] ∧ t.mem = s.mem ∧ t.reports = s.reports)) ∧
  (∀ (s : State) (n : CellId), s.fused n = true →
      exec (.laneEnable (.yoke s.activeCore) n) s = .next (s.hostXs (.yoke s.activeCore) xsRule (LINK_PHY_CTL_EN n).addr true))

/-- Time lock and training events: a SYNC falls due on a lane that is UP or in TIME_ACQ with its downstream ON or in DOZE, the oldest REPLY awaited is missed, the receiver stays out of LOCKED, a host asks for a retraining, a rate
change, an attempt and a wait end. Head authentication: the Vault's checks end with the lane authenticated, or with LINK_AUTH as class 2; the
exchange that is not complete in time fails too. Where clauses of it rest on a reading or a choice of the model: notes/assumptions/6, 24, 25. -/
def Obligations.TrainingAndAuthentication : Prop :=
  (∀ (s : State) (who : Sender) (n : CellId),
      ((s.linkState n = lsUp ∨ s.linkState n = lsTimeAcq) → (s.rd (LINK_PWR_STAT_DS n) = pwOn ∨ s.rd (LINK_PWR_STAT_DS n) = pwDoze) →
        exec (.timeSyncSend n) s = .next (s.updLink n (fun l => { l with syncDue := true }))) ∧
      (∀ x rest, (s.link n).sync = x :: rest → s.linkState n ≠ lsUp → ∃ t, exec (.timeReplyTimeout n) s = .next t ∧ (t.link n).sync = rest ∧
        (t.link n).missRun = (s.link n).missRun + 1 ∧ (t.link n).okRun = 0 ∧
        t.rd (LINK_LL_CNT_TLOST n) = satNat (LINK_LL_CNT_TLOST n).width (s.rd (LINK_LL_CNT_TLOST n) + 1) ∧ SameRegs [LINK_LL_CNT_TLOST n] s t) ∧
      (s.linkState n = lsUp → s.rd (LINK_RX_STAT_ALIGN n) ≠ 2 → s.usLive n = true → ∃ t, exec (.lockLossTimeout n) s = .next t ∧
        t.linkState n ≠ lsUp ∧ t.rd (LINK_LL_STAT_DOWN_CAUSE n) = (if (s.link n).los then dcLos else dcAlign)) ∧
      (Passes s who (LINK_LL_CTL_RETRAIN n) → s.linkState n ≠ lsOff → ∃ t, exec (.retrain who n) s = .next t ∧ t.linkState n = lsDetect) ∧
      (s.linkState n = lsRate → (s.link n).train.changed = true → ∃ t, exec (.rateChangeTimeout n) s = .next t ∧ t.linkState n = lsDetect ∧
        (t.link n).train.limit = (s.link n).train.rate ∧ (t.link n).train.failed = true ∧ t.rd (LINK_PWR_STAT_DS n) = pwOn) ∧
      (1 ≤ s.linkState n → s.linkState n ≤ lsTimeAcq → ∃ t, exec (.trainTimeout n) s = .next t ∧ t.linkState n = lsWait ∧
        t.rd (LINK_LL_STAT_TRAIN_FAIL n) = s.linkState n ∧ (t.link n).train.fails = (s.link n).train.fails + 1) ∧
      (s.linkState n = lsWait → (s.link n).train.hold = false → (s.link n).train.fails < max 1 (s.rd (LINK_LL_CTL_RETRAIN_MAX n)) →
        exec (.retrainDelayExpiry n) s = .next (s.startDetect n) ∧ (s.startDetect n).linkState n = lsDetect)) ∧
  (∀ (s : State) (n : CellId) (a : AuthRun), (s.link n).auth = some a →
      (a.check = true → s.headPasses n a = true → s.linkState n ≠ lsTimeAcq → ∃ t, exec (.authVerifyDone n) s = .next t ∧
        t.rd (LINK_LL_STAT_AUTHED n) = 1 ∧ (t.link n).auth = none ∧ t.reports = s.reports ∧ SameRegs [LINK_LL_STAT_AUTHED n] s t) ∧
      (a.check = true → s.headPasses n a = false → ∃ t, exec (.authVerifyDone n) s = .next t ∧ t.regs = s.regs ∧
        t.reports = addReport s.reports ⟨srcLinkAuth, n, 2, initCell, n, accNone, 0, s.faultTime, 0⟩) ∧
      (a.msg1 ≠ [] → exec (.authTimeout n) s = .next ((s.updLink n (fun l => { l with auth := some ⟨[], [], [], false⟩ })).report srcLinkAuth n 2 initCell n
        accNone 0)))

/-- The mailbox of a lane: with no command outstanding, IDENT, PING, TRIM_SELECT, LEVEL_MAP, SENSE, the head-defined codes and a HEATER of a zone
that no loop drives are queued as written and await their response (HEATER has none); any other code, or any with a command outstanding, sets
REFUSED and sends nothing; the words written stand in CMD_TX either way. Where clauses of it rest on a reading or a choice of the model: notes/assumptions/24. -/
def Obligations.MailboxCommands : Prop :=
  ∀ (s : State) (who : Sender) (n : CellId) (arg : BitVec 224), Passes s who (LINK_CMD_CTL_GO n) →
    let sends (c : Instr) (op : Nat) (resp : Bool) := ∃ t, exec c s = .next t ∧
      (t.link n).cmds = (s.link n).cmds ++ [⟨op + arg.toNat * 2 ^ 32, resp, if resp then .mailbox else .none⟩] ∧
      t.on (LINK_CMD_CTL_BUSY n) = resp ∧ t.rd (LINK_CMD_CTL_REFUSED n) = 0 ∧ t.rd (LINK_CMD_CTL_DONE n) = 0 ∧
      SameRegs ([LINK_CMD_CTL_BUSY n, LINK_CMD_CTL_REFUSED n, LINK_CMD_CTL_TIMEOUT n, LINK_CMD_CTL_DONE n] ++ (List.range 8).map (LINK_CMD_TX n)) s t
    (s.on (LINK_CMD_CTL_BUSY n) = false →
      sends (.ident who n arg) opIdent true ∧ sends (.ping who n arg) opPing true ∧ sends (.trimSelect who n arg) opTrimSelect true ∧
      sends (.levelMap who n arg) opLevelMap true ∧ sends (.sense who n arg) opSense true ∧
      (∀ op : Fin 64, sends (.headDefinedCmd who n op arg) (0xC0 + op.val) true) ∧
      (s.zoneBound n (arg.toNat % 256) = false → sends (.heater who n arg) opHeater false)) ∧
    (∀ op : BitVec 8, (s.on (LINK_CMD_CTL_BUSY n) = true ∨ s.boxAccepts n op.toNat arg.toNat = false) →
      ∃ t, exec (.mailboxRefused who n op arg) s = .next t ∧ t.rd (LINK_CMD_CTL_REFUSED n) = 1 ∧ (t.link n).cmds = (s.link n).cmds ∧
        SameRegs (LINK_CMD_CTL_REFUSED n :: (List.range 8).map (LINK_CMD_TX n)) s t)

/-- An input becomes valid: its supply settles, and with no page in print the end of its acquisition makes it valid and changes nothing else where
CAL_CTL.AUTO is 0 and no START waits; where AUTO is 1, an analogue input that is not held and has no run begins one with cause 3. A sample: a
disabled input takes none. An enabled, settled input outside an enabled pair, with no run and with its index off, coasts at a sample that has the
SIN pair in disagreement, and keeps its count; without disagreement, a digital one without an edge keeps its count and stops coasting, and one with
a qualified edge on A alone moves its count by one in the direction of the lines. Where clauses of it rest on a reading or a choice of the model:
notes/assumptions/6, 27, 86. -/
def Obligations.AcquisitionAndObserver : Prop :=
  (∀ (s : State) (i : EncId),
      (s.on (ENC_CTL_PWR i) = true → (s.enc i).settled = false → ∃ t, exec (.pwrSettleExpiry i) s = .next t ∧ (t.enc i).settled = true ∧
        t.on (ENC_STAT_PWR_OK i) = (s.rd (ENC_STAT_CAUSE i) != 5) ∧ SameRegs [ENC_STAT_PWR_OK i] s t ∧ t.mem = s.mem) ∧
      (s.on (ENC_STAT_ACQ i) = true → NoPages s → s.on (ENC_CAL_CTL_AUTO i) = false → s.on (ENC_CAL_STAT_PEND i) = false →
        exec (.acquisitionEnd i) s = .next (((s.wr (ENC_STAT_ACQ i) 0).wr (ENC_STAT_VALID i) 1).updEnc i (fun e => { e with acquired := true }))) ∧
      (s.on (ENC_STAT_ACQ i) = true → NoPages s → s.on (ENC_CAL_CTL_AUTO i) = true → s.on (ENC_CTL_MODE i) = false →
        s.on (ENC_CAL_CTL_HOLD i) = false → (s.enc i).cal = none → ∃ t, exec (.acquisitionEnd i) s = .next t ∧ t.on (ENC_STAT_VALID i) = true ∧
          t.rd (ENC_CAL_STAT_CAUSE i) = 3 ∧ t.rd (ENC_CAL_STAT_PHASE i) = (if s.on (ENC_CAL_CTL_ADC_TRIM i) then 1 else 2) ∧
          t.rd (ENC_CAL_TEMP_TREF i) = s.rd (ENC_CAL_TEMP_TEMP i) % 2 ^ 16)) ∧
  (∀ (s : State) (i : EncId) (b : EncBalls),
      (s.on (ENC_CTL_EN i) = false → exec (.observerSample i b) s = .next s) ∧
      (s.on (ENC_CTL_EN i) = true → s.on (ENC_CTL_PWR i) = true → (s.enc i).settled = true → (s.enc i).cal = none →
        s.on (ENC_CTL_IDX_EN i) = false → s.pairOn (i.val / 2) = false →
        ((s.disagree i b).sin = true → ∃ t, exec (.observerSample i b) s = .next t ∧ (t.enc i).count = (s.enc i).count ∧ t.on (ENC_STAT_COAST i) = true ∧
          (t.enc i).coast = (s.enc i).coast + 1 ∧ (t.enc i).t = s.timeNs ∧ t.mem = s.mem ∧
          t.rd (ENC_STAT_WIRE i) = 1 + 2 * b2n (s.disagree i b).cos + 4 * b2n (s.disagree i b).idx) ∧
        (∀ φ, s.on (ENC_CTL_MODE i) = true → s.disagree i b = ⟨false, false, false⟩ → (s.enc i).phi = some φ →
          (s.enc i).lineB = ⟨b.b, 0⟩ → (s.enc i).lineZ = ⟨b.z, 0⟩ →
          ((s.enc i).lineA = ⟨b.a, 0⟩ → ∃ t, exec (.observerSample i b) s = .next t ∧ (t.enc i).count = sext 64 (toBits 64 (s.enc i).count) ∧
            (t.enc i).coast = 0 ∧ t.on (ENC_STAT_COAST i) = false ∧ t.reports = s.reports ∧ t.mem = s.mem) ∧
          ((s.enc i).lineA.level ≠ b.a → max 1 (s.rd (ENC_CFG_EDGE_MIN i)) ≤ (s.enc i).lineA.run + 1 → ∃ t, exec (.observerSample i b) s = .next t ∧
            (t.enc i).count = sext 64 (toBits 64 ((s.enc i).count +
              (if s.on (ENC_CTL_INV i) then -1 else 1) * (if b.a != b.b then 1 else -1))) ∧
            (t.enc i).coast = 0 ∧ (t.enc i).lineA = ⟨b.a, 0⟩ ∧ t.reports = s.reports ∧ t.mem = s.mem))))

/-- The causes of an input without a run, outside an enabled pair and with no page in print: each is held, makes the input invalid, is counted, and
is reported as class 2; while a cause is held no other replaces it. A missing index where INDEX_STRICT is 0: with the count more than 1.5 periods
from the last one it is counted and reported as class 0, and the check restarts from the present count. Enable, disable (by CTL.EN and by CTL.PWR)
and restart of an input outside an enabled pair, without a run and with no page in print. Where clauses of it rest on a reading or a choice of the model:
notes/assumptions/3, 27, 86. -/
def Obligations.EncoderFaultsAndEnable : Prop :=
  (∀ (s : State) (i : EncId) (c : Instr) (k : Nat),
      (c = .disturbFault i ∧ k = 1 ∧ ∃ w x y z, (s.enc i).dist = [w, x, y, z] ∧ w - z < 1024) ∨
      (c = .wireFault i ∧ k = 2 ∧ max 1 (s.rd (ENC_CFG_WIRE_T i)) ≤ max (s.enc i).disSin (max (s.enc i).disCos (s.enc i).disIdx)) ∨
      (c = .amplFault i ∧ k = 3 ∧ 16 ≤ (s.enc i).outl) ∨
      (c = .coastFault i ∧ k = 4 ∧ max 40 (s.rd (ENC_OBS_COAST_MAX i)) * 50 < (s.enc i).coast) ∨
      (c = .pwrFault i ∧ k = 5 ∧ s.on (ENC_CTL_PWR i) = true) →
      (s.rd (ENC_STAT_CAUSE i) = 0 → s.pairOn (i.val / 2) = false → (s.enc i).cal = none → NoPages s → ∃ t, exec c s = .next t ∧
        t.rd (ENC_STAT_CAUSE i) = k ∧ t.on (ENC_STAT_VALID i) = false ∧ t.on (ENC_STAT_ACQ i) = false ∧ (t.enc i).acquired = false ∧
        t.rd (ENC_CNT2_FAULTS i) = satNat (ENC_CNT2_FAULTS i).width (s.rd (ENC_CNT2_FAULTS i) + 1) ∧
        t.reports = addReport s.reports ⟨srcEncFault, i, 2, initNone, 0, accNone, i, s.faultTime, 0⟩ ∧ t.mem = s.mem ∧
        SameRegs [ENC_STAT_CAUSE i, ENC_STAT_VALID i, ENC_STAT_ACQ i, ENC_STAT_PWR_OK i, ENC_CNT2_FAULTS i, LEDGER_ENC_FAULTS (8 * i.val + k)] s t) ∧
      (s.rd (ENC_STAT_CAUSE i) ≠ 0 → exec c s = .next (if k = 5 then s.wr (ENC_STAT_PWR_OK i) 0 else s))) ∧
  (∀ (s : State) (i : EncId) (c0 : Int), (s.enc i).idxRef = some c0 → s.rd (ENC_IDX_PERIOD i) ≠ 0 →
      3 * s.rd (ENC_IDX_PERIOD i) < 2 * ((s.enc i).count - c0).natAbs → s.on (ENC_IDX_CFG_INDEX_STRICT i) = false →
      ∃ t, exec (.missingIndex i) s = .next t ∧ (t.enc i).idxRef = some (s.enc i).count ∧
        t.rd (ENC_CNT3_MISSING i) = satNat (ENC_CNT3_MISSING i).width (s.rd (ENC_CNT3_MISSING i) + 1) ∧
        t.reports = addReport s.reports ⟨srcEncIndex, i, 0, initNone, 0, accNone, i, s.faultTime, 0⟩ ∧
        SameRegs [ENC_CNT3_MISSING i] s t ∧ t.mem = s.mem) ∧
  (∀ (s : State) (who : Sender) (i : EncId), s.pairOn (i.val / 2) = false → (s.enc i).cal = none → NoPages s →
      (Passes s who (ENC_CTL_EN i) → s.on (ENC_CTL_EN i) = false → ∃ t, exec (.encEnable who i) s = .next t ∧ t.on (ENC_CTL_EN i) = true ∧
        t.rd (ENC_STAT_CAUSE i) = 0 ∧ t.on (ENC_STAT_VALID i) = false ∧ (∀ f ∈ encCounters i, t.rd f = 0) ∧ (t.enc i).phi = none ∧
        t.on (ENC_STAT_PWR_OK i) = (s.on (ENC_CTL_PWR i) && (s.enc i).settled) ∧ t.mem = s.mem) ∧
      (Passes s who (ENC_CTL_EN i) → s.on (ENC_CTL_EN i) = true → ∃ t, exec (.encDisable who i false) s = .next t ∧ t.on (ENC_CTL_EN i) = false ∧
        t.on (ENC_STAT_VALID i) = false ∧ t.rd (ENC_STAT_CAUSE i) = s.rd (ENC_STAT_CAUSE i) ∧ (t.enc i).phi = none ∧
        SameRegs [ENC_CTL_EN i, ENC_STAT_VALID i, ENC_STAT_ACQ i] s t ∧ t.mem = s.mem) ∧
      (Passes s who (ENC_CTL_PWR i) → s.on (ENC_CTL_PWR i) = true → ∃ t, exec (.encDisable who i true) s = .next t ∧ t.on (ENC_CTL_PWR i) = false ∧
        t.on (ENC_STAT_PWR_OK i) = false ∧ (t.enc i).settled = false ∧
        SameRegs [ENC_CTL_PWR i, ENC_STAT_VALID i, ENC_STAT_ACQ i, ENC_STAT_PWR_OK i] s t ∧ t.mem = s.mem) ∧
      (Passes s who (ENC_CTL_RESTART i) →
        (s.on (ENC_CTL_EN i) = false → exec (.encRestart who i) s = .next (s.wr (ENC_STAT_CAUSE i) 0)) ∧
        (s.on (ENC_CTL_EN i) = true → ∃ t, exec (.encRestart who i) s = .next t ∧ t.rd (ENC_STAT_CAUSE i) = 0 ∧ t.on (ENC_STAT_VALID i) = false ∧
          (t.enc i).phi = none ∧ (t.enc i).dist = [] ∧ (t.enc i).coast = 0 ∧
          SameRegs [ENC_STAT_CAUSE i, ENC_STAT_VALID i, ENC_STAT_ACQ i, ENC_STAT_PWR_OK i] s t ∧ t.mem = s.mem)))

/-- Dual pairs: enable; disable with no page in print, after which no trim of its inputs waits; the rearm; and a mismatch, which excludes the input
with the higher mean innovation and has the pair switch at the next sample, at the position that the active input predicts for it, where that input
is the active one. The virtual encoder: while valid its velocity follows the goal by at most the acceleration a step, and a load
takes effect at the step; while not, it stands still with v and a 0, and a load takes effect at once. Where clauses of it rest on a reading or a
choice of the model: notes/assumptions/3, 27, 88. -/
def Obligations.PairsAndVirtualEncoder : Prop :=
  (∀ (s : State) (who : Sender) (p : PairId),
      (Passes s who (ENC_DUAL_EN (2 * p.val)) → s.pairOn p = false → ∃ t, exec (.dualEnable who p true) s = .next t ∧ t.pairOn p = true ∧
        t.rd (ENC_DUAL_ACTIVE (2 * p.val)) = s.rd (ENC_DUAL_PRIMARY (2 * p.val)) % 2 ∧ t.on (ENC_DUAL_STANDBY_OK (2 * p.val)) = false ∧
        t.on (ENC_DUAL_EXCLUDED (2 * p.val)) = false ∧ t.rd (ENC_DUAL_DISAGREE (2 * p.val)) = 0 ∧ t.pair p = Pair.reset) ∧
      (Passes s who (ENC_DUAL_EN (2 * p.val)) → s.pairOn p = true → NoPages s → ∃ t, exec (.dualEnable who p false) s = .next t ∧
        t.pairOn p = false ∧ t.on (ENC_DUAL_STANDBY_OK (2 * p.val)) = false ∧
        SameRegs [ENC_DUAL_EN (2 * p.val), ENC_DUAL_STANDBY_OK (2 * p.val)] s t ∧ t.mem = s.mem ∧
        (∀ i, i = 2 * p.val ∨ i = 2 * p.val + 1 → (t.enc i).cal = (s.enc i).cal.map (fun c => { c with waits := false }))) ∧
      (Passes s who (ENC_DUAL_REARM (2 * p.val)) → exec (.dualRearm who p) s = .next (s.wr (ENC_DUAL_EXCLUDED (2 * p.val)) 0)) ∧
      (s.pairOn p = true → max 1 (s.rd (ENC_DUAL_SAMPLES (2 * p.val))) ≤ (s.pair p).run → ∃ t, exec (.dualMismatch p) s = .next t ∧
        t.on (ENC_DUAL_EXCLUDED (2 * p.val)) = true ∧ t.on (ENC_DUAL_STANDBY_OK (2 * p.val)) = false ∧
        t.reports = addReport s.reports ⟨srcEncDual, p, 2, initNone, 0, accNone, 2 * p.val, s.faultTime, 0⟩ ∧
        t.rd (ENC_DUAL_ACTIVE (2 * p.val)) = s.rd (ENC_DUAL_ACTIVE (2 * p.val)) ∧ (t.pair p).run = 0 ∧
        (t.pair p).due =
          (let a := (s.enc (s.pairActive p)).innov
           let b := (s.enc (s.pairOther p)).innov
           if a.sum * b.length ≤ b.sum * a.length then (s.pair p).due
           else (s.pair p).due <|> some (wrapPos ((s.enc (s.pairActive p)).predicted + (s.pair p).offK))) ∧ t.mem = s.mem)) ∧
  (∀ (s : State) (who : Sender),
      (s.virtOk = false → exec .virtualStep s = .next { s with virt := { s.virt with v := 0, dv := 0, t := s.timeNs } }) ∧
      (s.virtOk = true → ∃ t, exec .virtualStep s = .next t ∧ t.virt.load = false ∧ t.virt.t = s.timeNs ∧ t.regs = s.regs ∧ t.mem = s.mem ∧
        (s.virt.load = true → t.virt.x = s.virtPos) ∧
        (s.rd VIRT_VIRT_ACC = 0 → t.virt.v = s.rdS VIRT_VIRT_VEL * 50000000 ∧ t.virt.dv = 0) ∧
        (s.rd VIRT_VIRT_ACC ≠ 0 → t.virt.dv = t.virt.v - s.virt.v ∧ t.virt.dv.natAbs ≤ s.rd VIRT_VIRT_ACC ∧
          (t.virt.v = s.rdS VIRT_VIRT_VEL * 50000000 ∨ t.virt.dv.natAbs = s.rd VIRT_VIRT_ACC))) ∧
      (Passes s who VIRT_LOAD → exec (.virtualLoad who) s = .next
        (if s.virtOk then { s with virt := { s.virt with load := true } } else { s with virt := { s.virt with x := s.virtPos } })))

/-- Calibration of an input for which no START waits. A temperature check stores the temperature, and starts a run with cause 1 where AUTO is 1,
a run may start and the temperature has moved from TREF by more than CAL_DT. START gives NOT_ANALOG on a digital input, and begins a run with its
latched settings where one may start. A trim's end moves the offsets by what the trim has changed the codes by, and accumulation begins; it ends with
enough wraps and enough samples in every bin. The run's end gives the result of its checks, and a failure keeps the coefficients and is reported; so
does the time limit, with result 6. LOAD with no run in progress puts plausible coefficients into force with result 1, and refuses others with result
9 and a report. Where clauses of it rest on a reading or a choice of the model: notes/assumptions/28, 87. -/
def Obligations.CalibrationRuns : Prop :=
  ∀ (s : State) (who : Sender) (i : EncId), s.on (ENC_CAL_STAT_PEND i) = false →
    (∀ temp : BitVec 16,
      ((sext 16 temp.toNat - s.rdS (ENC_CAL_TEMP_TREF i)).natAbs : Int) ≤ s.rdS (ENC_CAL_DT i) →
      exec (.calTempCheck i temp) s = .next (s.wr (ENC_CAL_TEMP_TEMP i) temp.toNat)) ∧
    (∀ temp : BitVec 16, s.rdS (ENC_CAL_DT i) < ((sext 16 temp.toNat - s.rdS (ENC_CAL_TEMP_TREF i)).natAbs : Int) →
      s.on (ENC_CAL_CTL_AUTO i) = true → s.calReady i = true → ∃ t, exec (.calTempCheck i temp) s = .next t ∧
        t.rd (ENC_CAL_TEMP_TREF i) = temp.toNat ∧ t.rd (ENC_CAL_STAT_CAUSE i) = 1 ∧
        t.rd (ENC_CAL_STAT_PHASE i) = (if s.on (ENC_CAL_CTL_ADC_TRIM i) then 1 else 2) ∧ (t.enc i).cal.isSome = true) ∧
    (Passes s who (ENC_CAL_CTL_START i) →
      (s.on (ENC_CTL_MODE i) = true → exec (.calStart who i) s = .next ((s.wr (ENC_CAL_STAT_RESULT i) 8).wr (ENC_CAL_STAT_DONE i) 1)) ∧
      (s.calReady i = true → ∃ t c, exec (.calStart who i) s = .next t ∧ (t.enc i).cal = some c ∧ c.phase = t.rd (ENC_CAL_STAT_PHASE i) ∧
        c.periods = clampNat 256 4096 (s.rd (ENC_CAL_PERIODS i)) ∧ c.binMin = max 16 (s.rd (ENC_CAL_BIN_MIN i)) ∧ c.wraps = 0 ∧ c.bins = [] ∧
        t.rd (ENC_CAL_STAT_PHASE i) = (if s.on (ENC_CAL_CTL_ADC_TRIM i) then 1 else 2) ∧ t.rd (ENC_CAL_STAT_CAUSE i) = 2 ∧
        t.on (ENC_CAL_STAT_PEND i) = false ∧ t.rd (ENC_CAL_CNT_RUNS i) = satNat (ENC_CAL_CNT_RUNS i).width (s.rd (ENC_CAL_CNT_RUNS i) + 1) ∧
        t.mem = s.mem)) ∧
    (∀ (c : CalRun) (zs zc : BitVec 16) (ds dc : Fin 65536), (s.enc i).cal = some c → c.phase = 1 → c.waits = false → c.dead = false →
      ∃ t, exec (.calTrimEnd i zs zc ds dc) s = .next t ∧ (t.enc i).cal = some { c with phase := 2 } ∧ t.rd (ENC_CAL_STAT_PHASE i) = 2 ∧
        t.rd (ENC_ADC_TRIM_ZS i) = zs.toNat % 2 ^ (ENC_ADC_TRIM_ZS i).width ∧ t.rd (ENC_ADC_TRIM_ZC i) = zc.toNat % 2 ^ (ENC_ADC_TRIM_ZC i).width ∧
        t.rdS (ENC_CAL_COEF_OFF_S i) = satInt 16 (s.rdS (ENC_CAL_COEF_OFF_S i) + sext 16 ds) ∧
        t.rdS (ENC_CAL_COEF_OFF_C i) = satInt 16 (s.rdS (ENC_CAL_COEF_OFF_C i) + sext 16 dc) ∧ (t.enc i).reform = true) ∧
    (∀ c : CalRun, (s.enc i).cal = some c → c.phase = 2 → c.periods ≤ c.wraps → (∀ b, b < 64 → c.binMin ≤ (Store.get (0, 0, 0) c.bins b).1) →
      exec (.calAccumulateEnd i) s = .next ((s.updEnc i (fun e => { e with cal := some { c with phase := 3 } })).wr (ENC_CAL_STAT_PHASE i) 3)) ∧
    (∀ c : CalRun, (s.enc i).cal = some c → c.phase = 3 → ∃ t, exec (.calApply i) s = .next t ∧ (t.enc i).cal = none ∧
      t.rd (ENC_CAL_STAT_PHASE i) = 0 ∧ t.on (ENC_CAL_STAT_DONE i) = true ∧
      (let m := estimate c.means
       let r := m.result (m.spread c.means).1 (m.spread c.means).2
       t.rd (ENC_CAL_STAT_RESULT i) = r ∧ (r ≠ 1 → t.coef i = s.coef i ∧
         t.reports = addReport s.reports ⟨srcEncCal, i, 1, initNone, 0, accNone, i, s.faultTime, 0⟩) ∧ (r = 1 → t.reports = s.reports))) ∧
    (∀ c : CalRun, (s.enc i).cal = some c → c.phase = 2 → ∃ t, exec (.calTimeout i) s = .next t ∧ (t.enc i).cal = none ∧
      t.rd (ENC_CAL_STAT_RESULT i) = 6 ∧ t.on (ENC_CAL_STAT_DONE i) = true ∧ t.rd (ENC_CAL_STAT_PHASE i) = 0 ∧
      t.reports = addReport s.reports ⟨srcEncCal, i, 1, initNone, 0, accNone, i, s.faultTime, 0⟩ ∧ t.coef i = s.coef i) ∧
    (Passes s who (ENC_CAL_CTL_LOAD i) → (s.enc i).cal = none → ∃ t, exec (.calLoad who i) s = .next t ∧ t.on (ENC_CAL_STAT_DONE i) = true ∧
      (let c : Coef := ⟨s.rdS (ENC_CAL_SET_OFF_S i), s.rdS (ENC_CAL_SET_OFF_C i), s.rd (ENC_CAL_SET_GAIN_C i), s.rdS (ENC_CAL_SET_PH_SIN i),
        s.rd (ENC_CAL_SET_PH_SEC i)⟩
       (c.plausible = true → t.rd (ENC_CAL_STAT_RESULT i) = 1 ∧ t.rdS (ENC_CAL_COEF_OFF_S i) = c.offS ∧ t.rd (ENC_CAL_COEF_GAIN_C i) = c.gainC ∧
         t.reports = s.reports) ∧
       (c.plausible = false → t.rd (ENC_CAL_STAT_RESULT i) = 9 ∧ t.coef i = s.coef i ∧
         t.reports = addReport s.reports ⟨srcEncCal, i, 1, initNone, 0, accNone, i, s.faultTime, 0⟩)))

/-- Operations on an axis on which nothing waits, with no ring held and no DISABLE under way. By a write of CMD with GO: START from READY, STOP from
MOVING, RESUME from STOPPING, RESUME that abandons the rest from STOPPED, and HOME from READY with its source switch not active. By a write of CTL.EN:
ENABLE from OFF, and DISABLE from READY at rest. Where clauses of it rest on a reading or a choice of the model: notes/assumptions/29. -/
def Obligations.AxisOperations : Prop :=
  ∀ (s : State) (who : Sender) (a : AxisId), (s.axis a).waits = [] → s.rings = [] → (s.axis a).disabling = false →
    (Passes s who (AXIS_CMD_GO a) →
      (s.axState a = axReady → s.rd (AXIS_ARG a) < 2 → 1 ≤ s.rd (AXIS_CMD_ROWS_ROWS a) →
        s.rd (AXIS_CMD_ROWS_FIRST_ROW a) + s.rd (AXIS_CMD_ROWS_ROWS a) ≤ 1024 → ∃ t, exec (.axisStart (.cmd who a)) s = .next t ∧
          t.axState a = axMoving ∧ t.rd (AXIS_STAT_ROW a) = s.rd (AXIS_CMD_ROWS_FIRST_ROW a) ∧
          (let f := s.rd (AXIS_CMD_ROWS_FIRST_ROW a)
           let r := (s.axis a).rowAt f
           (t.axis a).move = some ⟨f, f + s.rd (AXIS_CMD_ROWS_ROWS a) - 1, ⟨(s.axis a).pos, 0, r.dur, r.pos, r.vel, 0⟩, false⟩) ∧
          t.rd (AXIS_CMD_RES_STATUS a) = stOk ∧ t.on (AXIS_CMD_RES_DONE a) = true ∧ t.mem = s.mem) ∧
      (s.axState a = axMoving → s.rd (AXIS_ARG a) = 0 → ∃ t, exec (.axisStop (.cmd who a)) s = .next t ∧ t.axState a = axStopping ∧
          (t.axis a).ramp = some ⟨(s.axis a).pos, (s.axis a).vel, max 1 (s.rd (AXIS_STOP_DECEL a)), 0, 0⟩ ∧ (t.axis a).chain = none ∧
          t.rd (AXIS_CNT2_STOPS a) = satNat (AXIS_CNT2_STOPS a).width (s.rd (AXIS_CNT2_STOPS a) + 1) ∧
          t.rd (AXIS_CMD_RES_STATUS a) = stOk ∧ t.on (AXIS_CMD_RES_DONE a) = true ∧ t.mem = s.mem) ∧
      (s.axState a = axStopping → s.rd (AXIS_ARG a) = 0 → ∃ t, exec (.axisResume (.cmd who a)) s = .next t ∧ t.axState a = axStopping ∧
          t.on (AXIS_STAT_RESUME_PEND a) = true ∧ (t.axis a).abandon = false ∧ t.rd (AXIS_CMD_RES_STATUS a) = stOk ∧ t.mem = s.mem) ∧
      (s.axState a = axStopped → s.rd (AXIS_ARG a) = 1 → ∃ t, exec (.axisResume (.cmd who a)) s = .next t ∧ t.axState a = axReady ∧
          (t.axis a).move = none ∧ t.rd (AXIS_CMD_RES_STATUS a) = stOk ∧ t.mem = s.mem) ∧
      (s.axState a = axReady → s.rd (AXIS_ARG a) < 4 → s.limActive a (Homing.source ⟨1, bitOf (s.rd (AXIS_ARG a)) 0, bitOf (s.rd (AXIS_ARG a)) 1,
          none, []⟩) = false → ∃ t h r, exec (.axisHome (.cmd who a)) s = .next t ∧ t.axState a = axHoming ∧ (t.axis a).home = some h ∧
          (t.axis a).ramp = some r ∧ h.phase = 2 ∧ h.neg = bitOf (s.rd (AXIS_ARG a)) 0 ∧ r.p0 = (s.axis a).pos ∧
          r.goal = (if bitOf (s.rd (AXIS_ARG a)) 0 then -(s.rd (AXIS_HOME_VEL a) : Int) else s.rd (AXIS_HOME_VEL a)) ∧
          r.acc = s.rd (AXIS_HOME_ACC a) ∧ t.rd (AXIS_CMD_RES_STATUS a) = stOk)) ∧
    (Passes s who (AXIS_CTL_EN a) →
      (s.axState a = axOff → ∃ t, exec (.axisEnable (.ctl who a)) s = .next t ∧ t.axState a = axReady ∧ t.on (AXIS_CTL_EN a) = true ∧
          (t.axis a).on = true ∧ (t.axis a).cur = s.rd (AXIS_CUR_HOLD_CUR a) ∧ (t.axis a).vel = 0 ∧ t.on (AXIS_STAT_BRAKE a) = false ∧
          t.rd (AXIS_STAT_FAULT_CAUSE a) = 0 ∧ (∀ f ∈ axCounters a, t.rd f = 0) ∧ t.mem = s.mem) ∧
      (s.axState a = axReady → (s.axis a).vel = 0 → ∃ t, exec (.axisDisable (.ctl who a)) s = .next t ∧ t.axState a = axReady ∧
          t.on (AXIS_CTL_EN a) = false ∧ (t.axis a).disabling = true ∧ (t.axis a).releaseDue = true ∧ t.on (AXIS_STAT_BRAKE a) = true ∧
          t.mem = s.mem))

/-- The table and the position: a row written through TBL_W that no lock covers takes effect when it passes the checks and is refused otherwise, and
the index goes on either way; the rows that a descriptor's read of host memory gives, with no lock in their range, are all written or none; and a
position is loaded in OFF and READY, where it becomes valid. The motion: an axis in OFF stays as it is; in a move of an axis without enabled switch
inputs, within a row the position is the cubic's, at the row's end position and velocity are the row's end state, from which the next row begins; a
move whose last row has ended with no chained move, and a stop that has come to rest with no RESUME waiting, end in READY and STOPPED, where nothing
waits. The timers of an axis: the hold current at rest, and the release of the bridges with the end of a DISABLE in OFF, where the position stays
valid with the brake engaged and not without. Where clauses of it rest on a reading or a
choice of the model: notes/assumptions/29. -/
def Obligations.AxisMotion : Prop :=
  (∀ (s : State) (who : Sender) (a : AxisId) (n : CellId) (v : Word),
      (Passes s who (AXIS_TBL_W a 3) → (s.axis a).hitsLock (s.rd (AXIS_TBL_IDX a)) 1 = false →
        ∃ t, exec (.tblCommit who a v) s = .next t ∧ t.rd (AXIS_TBL_IDX a) = (s.rd (AXIS_TBL_IDX a) + 1) % 2 ^ (AXIS_TBL_IDX a).width ∧
          t.on (AXIS_CMD_RES_DONE a) = true ∧
          (let bs := leBytes 4 (s.rd (AXIS_TBL_W a 0)) ++ leBytes 4 (s.rd (AXIS_TBL_W a 1)) ++ leBytes 4 (s.rd (AXIS_TBL_W a 2)) ++ leBytes 4 v.toNat
           (∀ r, segRow bs = some r → (t.axis a).rowAt (s.rd (AXIS_TBL_IDX a)) = r ∧ t.rd (AXIS_CMD_RES_STATUS a) = stOk) ∧
           (segRow bs = none → (t.axis a).table = (s.axis a).table ∧ t.rd (AXIS_CMD_RES_STATUS a) = stBadDesc))) ∧
      (Passes s who (AXIS_CTL_POS_LOAD a) → s.axState a = axOff ∨ s.axState a = axReady → exec (.posLoad who a) s = .next
        ((s.updAxis a (fun x => { x with pos := sext 47 (s.rd2 (AXIS_POS_SET_LO a) (AXIS_POS_SET_HI a)) })).wr (AXIS_STAT_POS_VALID a) 1)) ∧
      (∀ (d : Desc) (bs : List Byte), s.axDesc n 0 = some d → s.axOwned n d = true → isLocal (d.u64 8) = false →
        s.mayReadMem (s.ringOwner (2 * n.val + 1)) (d.u64 8) (16 * d.u16 18) = true → d.u32 20 = 0 → s.readEnds (s.ringOwner (2 * n.val + 1)) (d.u64 8) (.ok bs) = true →
        (s.axis (d.u8 4 % 8)).hitsLock (d.u16 16) (d.u16 18) = false →
        (∀ rs, segRows (d.u16 18) (bs.take (16 * d.u16 18)) = some rs → exec (.axisLoadTable n (.ok bs)) s = .next
          (((s.setPhase (2 * n.val + 1) d.idx .started).updAxis (d.u8 4 % 8) (fun x => x.putRows (d.u16 16) rs)).axComplete (d.u8 4 % 8)
            (2 * n.val + 1) d.idx stOk)) ∧
        (segRows (d.u16 18) (bs.take (16 * d.u16 18)) = none → exec (.axisLoadTable n (.ok bs)) s = .next
          ((s.setPhase (2 * n.val + 1) d.idx .started).axComplete (d.u8 4 % 8) (2 * n.val + 1) d.idx stBadDesc)))) ∧
  (∀ (s : State) (a : AxisId),
      (s.axState a = axOff → exec (.axisTick a) s = .next s) ∧
      (∀ m, s.axState a = axMoving → (∀ i, s.on (limFlds a i).1 = false) → (s.axis a).ramp = none → (s.axis a).move = some m → m.done = false →
        (m.seg.t + 1 < m.seg.dur → ∃ t, exec (.axisTick a) s = .next t ∧ t.axState a = axMoving ∧
          (t.axis a).pos = s.fit 47 (({ m.seg with t := m.seg.t + 1 } : Seg).at s).1 ∧
          (t.axis a).move = some { m with seg := { m.seg with t := m.seg.t + 1 } } ∧ t.rd (AXIS_STAT_ROW a) = s.rd (AXIS_STAT_ROW a) ∧ t.mem = s.mem) ∧
        (m.seg.t + 1 = m.seg.dur → m.row < m.last → m.last < 1024 → ∃ t, exec (.axisTick a) s = .next t ∧ t.axState a = axMoving ∧
          (t.axis a).pos = s.fit 47 m.seg.p1 ∧ (t.axis a).vel = s.fit 32 m.seg.v1 ∧ t.rd (AXIS_STAT_ROW a) = m.row + 1 ∧
          (let r := (s.axis a).rowAt (m.row + 1)
           (t.axis a).move = some ⟨m.row + 1, m.last, ⟨m.seg.p1, m.seg.v1, r.dur, r.pos, r.vel, 0⟩, false⟩) ∧ t.mem = s.mem)) ∧
      (∀ r, (s.axis a).ramp = some r → r.atRest = true → s.axState a = axStopping → (s.axis a).disabling = false →
        s.on (AXIS_STAT_RESUME_PEND a) = false → (s.axis a).waits = [] → ∃ t, exec (.axisAtRest a) s = .next t ∧ t.axState a = axStopped ∧
          (t.axis a).vel = 0 ∧ (t.axis a).ramp = none ∧ (t.axis a).pos = s.fit 47 (r.at s r.t).1 ∧ t.mem = s.mem) ∧
      (∀ m, (s.axis a).move = some m → m.done = true → (s.axis a).chain = none → s.axState a = axMoving → (s.axis a).waits = [] → s.rings = [] →
        ∃ t, exec (.moveEnd a) s = .next t ∧ t.axState a = axReady ∧ (t.axis a).move = none ∧ SameRegs [AXIS_STAT_STATE a] s t ∧ t.mem = s.mem)) ∧
  (∀ (s : State) (a : AxisId),
      ((s.axis a).vel = 0 → exec (.holdDelayExpiry a) s = .next (s.updAxis a (fun x => { x with holding := true }))) ∧
      ((s.axis a).releaseDue = true → (s.axis a).disabling = true → (s.axis a).waits = [] → ∃ t, exec (.bridgeReleaseTimer a) s = .next t ∧
        t.axState a = axOff ∧ (t.axis a).on = false ∧ (t.axis a).coilA = .released ∧ (t.axis a).coilB = .released ∧ (t.axis a).disabling = false ∧
        (s.on (AXIS_STAT_BRAKE a) = true → t.rd (AXIS_STAT_POS_VALID a) = s.rd (AXIS_STAT_POS_VALID a)) ∧
        (s.on (AXIS_STAT_BRAKE a) = false → t.on (AXIS_STAT_POS_VALID a) = false) ∧
        SameRegs [AXIS_STAT_STATE a, AXIS_STAT_POS_VALID a] s t ∧ t.mem = s.mem))

/-- Faults of an axis on which nothing waits, with no ring held: three converter samples over IMAX in a row on energised bridges release them and engage
the brake whatever SAFE_ACT says, which is counted; motion into the positive limit once its level has held for LIM_FILT, and a homing without a latch,
fault with their causes; each is reported as class 2. The drive of energised bridges: a PWM period outside Bull mode shows the converters' currents and
sets both duties; in Bull mode coil A, decaying slowly below its band around a reference that is not negative, is driven toward it, its comparators
are blanked and the change is counted; and at the end of a window, with the frequency that its bridge changes give, the band lies between H_MIN and H_MAX, is doubled within them
where the bridge changed at least 256 times, F_NOW shows the frequency, and the count begins anew. Where clauses of it rest on a reading or a choice of the model:
notes/assumptions/6, 29, 89, 90, 91. -/
def Obligations.AxisFaultsAndDrive : Prop :=
  (∀ (s : State) (a : AxisId), (s.axis a).waits = [] → s.rings = [] →
      (∀ i1 i2 i3 : CoilCodes, (s.axis a).on = true → s.overImax a i1 = true → s.overImax a i2 = true → s.overImax a i3 = true →
        ∃ t, exec (.overcurrent ⟨a, i1, i2, i3⟩) s = .next t ∧ t.axState a = axFault ∧ t.rd (AXIS_STAT_FAULT_CAUSE a) = 3 ∧
        (t.axis a).on = false ∧ (t.axis a).coilA = .released ∧ (t.axis a).coilB = .released ∧ t.on (AXIS_STAT_BRAKE a) = true ∧ (t.axis a).move = none ∧
        (t.axis a).vel = 0 ∧ t.rd (AXIS_CNT2_FAULTS a) = satNat (AXIS_CNT2_FAULTS a).width (s.rd (AXIS_CNT2_FAULTS a) + 1) ∧
        t.reports = addReport s.reports ⟨srcAxFault, a, 2, initAxis, a, accNone, 3, s.faultTime, 0⟩ ∧ t.mem = s.mem) ∧
      (∀ age : Fin 65537, s.rd (AXIS_LIM_LIM_FILT a) ≤ age.val → s.axState a = axMoving → (s.axis a).home = none → 0 < (s.axis a).vel → s.on (AXIS_LIM_LIM_P_EN a) = true →
        s.on (AXIS_LIM_LIM_P_POL a) = true → bitOf (s.axis a).levels 0 = false → ∃ t, exec (.limitChange a .limP true age) s = .next t ∧
          t.axState a = axFault ∧ t.rd (AXIS_STAT_FAULT_CAUSE a) = 1 ∧ (t.axis a).move = none ∧ (t.axis a).chain = none ∧
          t.reports = addReport s.reports ⟨srcAxFault, a, 2, initAxis, a, accNone, 1, s.faultTime, 0⟩ ∧ t.mem = s.mem) ∧
      (∀ h, (s.axis a).home = some h → (h.phase = 1 ∨ h.phase = 2) → ∃ t, exec (.homeTimeout a) s = .next t ∧ t.axState a = axFault ∧
        t.rd (AXIS_STAT_FAULT_CAUSE a) = 5 ∧ (t.axis a).home = none ∧
        t.reports = addReport s.reports ⟨srcAxFault, a, 2, initAxis, a, accNone, 5, s.faultTime, 0⟩ ∧ t.mem = s.mem)) ∧
  (∀ (s : State) (a : AxisId), (s.axis a).on = true →
      (∀ ia ib : BitVec 12, s.rd (AXIS_STAT_DRIVE_NOW a) ≠ drBull → ∃ t da db, exec (.lambPeriod a ia ib) s = .next t ∧ (t.axis a).coilA = .duty da ∧
        (t.axis a).coilB = .duty db ∧
        t.rdS (AXIS_IAB_IA a) = satInt 16 (s.divOpenAt 8 (sext 12 ia.toNat * s.rd (AXIS_ISNS_IFS a)) 2048) ∧
        t.rdS (AXIS_IAB_IB a) = satInt 16 (s.divOpenAt 9 (sext 12 ib.toNat * s.rd (AXIS_ISNS_IFS a)) 2048) ∧
        SameRegs [AXIS_IAB_IA a, AXIS_IAB_IB a] s t ∧ t.mem = s.mem) ∧
      (∀ uV : Int, s.rd (AXIS_STAT_DRIVE_NOW a) = drBull → (s.axis a).blankA ≤ s.timeNs → 0 ≤ (s.axis a).refA → (s.axis a).coilA = .slow →
        s.sensed a uV < ((s.axis a).refA - (s.rd (AXIS_CHOP_H_NOW a) : Int) * 65536) * 900000 →
        exec (.chopperCompare a false uV) s = .next (s.updAxis a (fun x =>
          { x with coilA := .drive true, blankA := s.timeNs + max 100 (s.rd (AXIS_PWM_BLANK a)), changes := x.changes + 1 }))) ∧
      (s.rd (AXIS_STAT_DRIVE_NOW a) = drBull → s.rd (AXIS_BULL_H_MIN a) ≤ s.rd (AXIS_BULL_H_MAX a) →
        s.rd (AXIS_BULL_H_MAX a) < 2 ^ 16 → ∀ f : Fin 256, s.chopFreqOk a f = true → ∃ t, exec (.chopWindow a f) s = .next t ∧
        s.rd (AXIS_BULL_H_MIN a) ≤ t.rd (AXIS_CHOP_H_NOW a) ∧ t.rd (AXIS_CHOP_H_NOW a) ≤ s.rd (AXIS_BULL_H_MAX a) ∧
        t.rd (AXIS_CHOP_F_NOW a) = f.val ∧
        (t.axis a).changes = 0 ∧ (256 ≤ (s.axis a).changes → t.rd (AXIS_CHOP_H_NOW a) =
          clampNat (s.rd (AXIS_BULL_H_MIN a)) (s.rd (AXIS_BULL_H_MAX a)) (2 * s.rd (AXIS_CHOP_H_NOW a))) ∧
        SameRegs [AXIS_CHOP_H_NOW a, AXIS_CHOP_F_NOW a] s t ∧ t.mem = s.mem))

/-- Enable, disable and commit of a slot: an accepted enable waits for its first fresh sample with output 0; a disable takes effect at the next
sample, for which it is marked; coefficients come into force at once in OFF and are marked for the next sample otherwise; and an enable with RATE_DIV
0, and a commit with OUT_MAX below OUT_MIN, are discarded and recorded. Faults of a slot that is neither OFF nor in FAULT: too many stale samples in a
row, and a following error that has lasted FE_TIME. It drives 0 in FAULT and is reported as class 2. Where clauses of it rest on a reading or a choice
of the model: notes/assumptions/30, 92. -/
def Obligations.LoopsEnabledAndFaulted : Prop :=
  (∀ (s : State) (who : Sender) (i : SlotId),
      (Passes s who (LOOP_CTL_EN i) → s.on (LOOP_CTL_EN i) = false → s.lpRefused i = false → s.lpState i = lpOff →
        ∃ t, exec (.loopEnable who i) s = .next t ∧ t.on (LOOP_CTL_EN i) = true ∧ t.lpState i = lpWait ∧ t.rd (LOOP_OUTS_OUT i) = 0 ∧
          t.rd (LOOP_SAMPLES i) = 0 ∧ t.rd (LOOP_CNT_STALE i) = 0 ∧ t.rd (LOOP_STAT_FAULT_CAUSE i) = 0 ∧ (t.slot i).staleRun = 0 ∧ t.mem = s.mem ∧
          SameRegs [LOOP_CTL_EN i, LOOP_STAT_STATE i, LOOP_OUTS_OUT i, LOOP_SAMPLES i, LOOP_CNT_STALE i, LOOP_STAT_FAULT_CAUSE i, LOOP_STAT_SAT i,
            LOOP_CNT_FE_TMR i] s t) ∧
      (Passes s who (LOOP_CTL_EN i) → s.on (LOOP_CTL_EN i) = false → s.rd (LOOP_RATE_DIV i) = 0 → exec (.loopEnable who i) s = .next
        (s.hostXs who xsRule (LOOP_CTL_EN i).addr true)) ∧
      (Passes s who (LOOP_CTL_EN i) → s.on (LOOP_CTL_EN i) = true → exec (.loopDisable who i) s = .next
        ((s.wr (LOOP_CTL_EN i) 0).updSlot i (fun l => { l with stopping := s.lpState i != lpOff }))) ∧
      (Passes s who (LOOP_CTL_COMMIT i) →
        (s.rdS (LOOP_LIM_OUT_MAX i) < s.rdS (LOOP_LIM_OUT_MIN i) → exec (.loopCommit who i) s = .next
          (s.hostXs who xsValue (LOOP_CTL_COMMIT i).addr true)) ∧
        (s.rdS (LOOP_LIM_OUT_MIN i) ≤ s.rdS (LOOP_LIM_OUT_MAX i) → s.lpState i ≠ lpOff → exec (.loopCommit who i) s = .next
          (s.wr (LOOP_STAT_COMMIT_PEND i) 1)) ∧
        (s.rdS (LOOP_LIM_OUT_MIN i) ≤ s.rdS (LOOP_LIM_OUT_MAX i) → s.lpState i = lpOff → ∃ t, exec (.loopCommit who i) s = .next t ∧
          (∀ f ∈ lpSet i, t.rdF f = s.rd f) ∧ t.regs = s.regs ∧ t.mem = s.mem))) ∧
  (∀ (s : State) (i : SlotId), s.lpState i ≠ lpOff → s.lpState i ≠ lpFault →
      (max 1 (s.rd (LOOP_STALE_STALE_N i)) ≤ (s.slot i).staleRun → ∃ t, exec (.loopInputFault i) s = .next t ∧ t.lpState i = lpFault ∧
        t.rd (LOOP_STAT_FAULT_CAUSE i) = 2 ∧ t.rd (LOOP_OUTS_OUT i) = 0 ∧ t.mem = s.mem ∧
        t.reports = addReport s.reports ⟨srcLoopInput, i, 2, initNone, 0, accNone, i, s.faultTime, 0⟩) ∧
      (s.rd (LOOP_FE_FE_LIMIT i) ≠ 0 → max 1 (s.rd (LOOP_FE_FE_TIME i)) * 1000 ≤ (s.slot i).feUs → ∃ t, exec (.loopFeFault i) s = .next t ∧
        t.lpState i = lpFault ∧ t.rd (LOOP_STAT_FAULT_CAUSE i) = 1 ∧ t.rd (LOOP_OUTS_OUT i) = 0 ∧ t.mem = s.mem ∧
        t.reports = addReport s.reports ⟨srcLoopFe, i, 2, initNone, 0, accNone, i, s.faultTime, 0⟩))

/-- A tick with no slot due only goes on to the next, and one with one slot due evaluates that slot once, on the input as the tick began. A slot
without heaters: one that is to stop, and watches no following error, goes to OFF with output 0; one in FAULT with no set waiting stays as it is; and
of one that regulates with no set waiting, a stale input holds its output, and a fresh one drives an output within the limits in force, its integrator
within them too. Auxiliary outputs and inputs: a disabled output has duty 0, an enabled one without a slot has IDLE; and an input shows the sum of the
two conversions of a tick times 4. Where clauses of it rest on a reading or a choice of the model: notes/assumptions/30, 92. -/
def Obligations.LoopTicksAndAuxiliary : Prop :=
  (∀ (s : State),
      ((∀ i, i < 80 → s.lpDue i = false) → exec .loopTick s = .next (({ s with loopTick := s.loopTick + 1, ainFirst := [] } : State).draw.drawN 80)) ∧
      (∀ i, i < 80 → s.lpDue i = true → (∀ j, j < 80 → j ≠ i → s.lpDue j = false) → exec .loopTick s = .next
        (((({ s with loopTick := s.loopTick + 1, ainFirst := [] } : State).draw).lpSample i (s.lpInput i).1 (s.lpInput i).2).drawN 80)) ∧
      (∀ (i : SlotId) (pv : Int) (fresh : Bool), s.lpHeater i = false →
        ((s.slot i).stopping = true → s.rd (LOOP_FE_FE_LIMIT i) = 0 → (s.lpSample i pv fresh).lpState i = lpOff ∧ (s.lpSample i pv fresh).rd (LOOP_OUTS_OUT i) = 0) ∧
        ((s.slot i).stopping = false → s.lpState i = lpFault → s.on (LOOP_STAT_COMMIT_PEND i) = false → s.lpSample i pv fresh = s) ∧
        ((s.slot i).stopping = false → s.lpState i = lpRun ∨ s.lpState i = lpRamping ∨ s.lpState i = lpHold → s.on (LOOP_STAT_COMMIT_PEND i) = false →
          ((s.lpSample i pv false).lpState i = lpHold ∧ (s.lpSample i pv false).rd (LOOP_OUTS_OUT i) = s.rd (LOOP_OUTS_OUT i)) ∧
          (let t := s.lpSample i pv true
           (s.lpLimits i).1 ≤ t.rdS (LOOP_OUTS_OUT i) ∧ t.rdS (LOOP_OUTS_OUT i) ≤ (s.lpLimits i).2 ∧
           (s.lpLimits i).1 * 65536 ≤ (t.slot i).i ∧ (t.slot i).i ≤ (s.lpLimits i).2 * 65536 ∧
           (t.lpState i = lpRun ∨ t.lpState i = lpRamping) ∧ t.rd (LOOP_SAMPLES i) = satNat (LOOP_SAMPLES i).width (s.rd (LOOP_SAMPLES i) + 1))))) ∧
  (∀ (s : State) (k : Fin 16),
      (s.on (AUXPWM_EN k) = false → ∃ t, exec (.auxPwmPeriod k) s = .next t ∧ t.rd (AUXPWM_DUTY_NOW k) = 0 ∧ Store.get 0 t.auxHigh k.val = 0 ∧
        SameRegs [AUXPWM_DUTY_NOW k] s t ∧ t.mem = s.mem) ∧
      (s.on (AUXPWM_EN k) = true → s.auxDriver k = none → ∃ t, exec (.auxPwmPeriod k) s = .next t ∧
        t.rd (AUXPWM_DUTY_NOW k) = s.rd (AUXPWM_IDLE k) % 2 ^ (AUXPWM_DUTY_NOW k).width ∧
        Store.get 0 t.auxHigh k.val = (s.nearest (s.rd (AUXPWM_IDLE k) * max 100 (s.rd (AUXPWM_PERIOD k)) : Nat) 65536).toNat) ∧
      (∀ c d : BitVec 12, Store.get none s.ainFirst k.val = none → ∃ t u, exec (.ainConvert k c) s = .next t ∧ exec (.ainConvert k d) t = .next u ∧
        t.regs = s.regs ∧ u.rd (AIN_VALUE k) = 4 * (c.toNat + d.toNat) ∧ SameRegs [AIN_VALUE k] s u ∧ u.ainFirst = Store.put none
          (Store.put none s.ainFirst k.val (some c.toNat)) k.val none ∧ u.mem = s.mem))

/-- The operations of a pipeline on its control ring. The tables and the write list of the shadow, from a read of host memory that ends with data: a
sorted defect map is taken and one out of order is BAD_DESC; shading gains and the colour matrix of their lengths are taken; and so is a write list
whose entries are all well formed. COMMIT, with none pending, makes the shadow pending. ARM and DISARM: at once, and with a frame open DISARM at its
end. Where clauses of it rest on a reading or a choice of the model: notes/assumptions/33, 93. -/
def Obligations.InspectionOperations : Prop :=
  ∀ (s : State) (p : PipeId) (op : Nat) (d : Desc), s.inspDesc p op = some d →
    let q := 128 + 4 * p.val
    let n := d.u32 16
    (∀ bs, n ≠ 0 → isLocal (d.u64 8) = false → s.mayReadMem (s.ringOwner q) (d.u64 8) n = true →
      s.readEnds (s.ringOwner q) (d.u64 8) (.ok bs) = true →
      (op = 0 → n ≤ 16384 → n % 4 = 0 → mapSorted (words32 (bs.take n)) = true → exec (.loadDpcMap p (.ok bs)) s = .next
        ((s.updPipe p (fun x => { x with dpc := words32 (bs.take n) })).finishSt q d.idx stOk)) ∧
      (op = 0 → n ≤ 16384 → n % 4 = 0 → mapSorted (words32 (bs.take n)) = false → exec (.loadDpcMap p (.ok bs)) s = .next
        (s.finishSt q d.idx stBadDesc)) ∧
      (op = 1 → n = 6600 → exec (.loadShading p (.ok bs)) s = .next
        ((s.updPipe p (fun x => { x with shade := (List.range 3300).map (fun i => leAt (bs.take n) (2 * i) 2) })).finishSt q d.idx stOk)) ∧
      (op = 2 → n = 24 → exec (.loadMatrix p (.ok bs)) s = .next
        ((s.updPipe p (fun x => { x with mat := (List.range 12).map (fun i => leAt (bs.take n) (2 * i) 2) })).finishSt q d.idx stOk)) ∧
      (op = 3 → n ≤ 512 → n % 8 = 0 →
        (let ws := (List.range ((bs.take n).length / 8)).map (cciEntry (bs.take n))
         (∀ w ∈ ws, w.alen ≠ 3 ∧ 1 ≤ w.dlen ∧ w.dlen ≤ 4) → exec (.setExposure p (.ok bs)) s = .next
          ((s.updPipe p (fun x => { x with cci := ws })).finishSt q d.idx stOk)))) ∧
    (op = 4 → n = 0 → (s.pipe p).commit = none → ∃ t c, exec (.inspCommit p) s = .next t ∧ (t.pipe p).commit = some c ∧ c.idx = d.idx ∧
      c.id = d.u16 20 ∧ c.set = s.shadowSet p ∧ t.on (INSP_SET_STAT_PEND p) = true ∧ SameRegs [INSP_SET_STAT_PEND p] s t ∧ t.mem = s.mem) ∧
    (op = 5 → n = 0 → exec (.inspArm p) s = .next
      (((s.wr (INSP_CTL_ARMED p) 1).updPipe p (fun x => { x with disarmDue := false })).finishSt q d.idx stOk)) ∧
    (op = 6 → n = 0 → (s.pipe p).frame = none → exec (.inspDisarm p) s = .next ((s.disarmNow p).finishSt q d.idx stOk)) ∧
    (op = 6 → n = 0 → ∀ f, (s.pipe p).frame = some f → exec (.inspDisarm p) s = .next
      ((s.updPipe p (fun x => { x with disarmDue := true })).finishSt q d.idx stOk))

/-- What a port makes of a packet: nothing where it is disabled; one of another data type, a Frame End for no pipeline and a Frame End for a disarmed
one are dropped and counted; a Frame Start opens a frame on an armed pipeline with no frame and no COMMIT; and a line that fits is kept, padded to
WIDTH. A pipeline is enabled where its port and virtual channel are free and its frames fit, and otherwise the write is refused and recorded. The CCI
master: an acknowledged transaction of a list, or one that ends its list by a NACK or by stretching; the mailbox, which waits while something holds
it, and its end; and memory errors of a pipeline, an uncorrectable one with no frame and no COMMIT. Where clauses of it rest on a reading or a choice of
the model: notes/assumptions/32, 33, 93. -/
def Obligations.CamerasAndPipelines : Prop :=
  (∀ (s : State) (m p : PipeId) (vc : Fin 16),
      (∀ pkt c h, s.on (INSP_PORT_CTL_EN m) = false → exec (.csiPacket m vc pkt c false h) s = .next s) ∧
      (s.on (INSP_PORT_CTL_EN m) = true →
        (∀ h, exec (.csiPacket m vc .other false false h) s = .next (s.bump (INSP_PORT_CNT0_BAD_DT m))) ∧
        (∀ h, s.pipeFor m vc = none → exec (.csiPacket m vc .frameEnd false false h) s = .next (s.bump (INSP_PORT_CNT0_NO_PIPE m))) ∧
        (s.pipeFor m vc = some p.val →
          (∀ h, s.on (INSP_CTL_ARMED p) = false → exec (.csiPacket m vc .frameEnd false false h) s = .next (s.bump (INSP_CNT_DROP_DISARMED p))) ∧
          (∀ (num : BitVec 16) (h : CsiHeld), s.on (INSP_CTL_ARMED p) = true → (s.pipe p).frame = none → (s.pipe p).commit = none →
            (s.pipe p).next < 2 ^ 32 → ∃ t f, exec (.csiPacket m vc (.frameStart num) false false h) s = .next t ∧ (t.pipe p).frame = some f ∧
              f.hdr.num = (s.pipe p).next ∧ f.hdr.csi = num.toNat ∧ f.rows = [] ∧ f.hdr.tFs = s.stamp p ∧
              bitOf f.hdr.flags 7 = (s.pipe p).free.isEmpty ∧ (t.pipe p).next = ((s.pipe p).next + 1) % 2 ^ 32 ∧
              t.rd (INSP_FRAME_NOW p) = (s.pipe p).next ∧ t.mem = s.mem) ∧
          (∀ (ty : Fin 5) (px : List (BitVec 16)) (f : Frame), s.on (INSP_CTL_ARMED p) = true → ty.val = s.boundType p → (s.pipe p).frame = some f →
            f.dropping = false → px.length ≤ s.rd (INSP_GEOM_WIDTH p) → f.rows.length < s.rd (INSP_GEOM_MAX_LINES p) →
            ∃ t g, exec (.csiPacket m vc (.raw ty px true) false false .none) s = .next t ∧ (t.pipe p).frame = some g ∧
              g.rows = (px.map (·.toNat) ++ List.replicate (s.rd (INSP_GEOM_WIDTH p) - px.length) 0) :: f.rows ∧ g.hdr.num = f.hdr.num ∧
              t.regs = s.regs ∧ t.mem = s.mem)))) ∧
  (∀ (s : State) (who : Sender) (p m : PipeId),
      (Passes s who (INSP_CTL_EN p) → s.on GLOBAL_READY_MEM_FAIL = false → s.on (INSP_CTL_EN p) = false →
        (s.pipeClash p = false → ∃ t, exec (.inspEnable who p true) s = .next t ∧ t.on (INSP_CTL_EN p) = true ∧
          t.rd (INSP_STAT_SLOTS p) = s.slotCount p ∧ t.rd (INSP_STAT_FREE p) = s.slotCount p ∧ (t.pipe p).next = 0 ∧ (t.pipe p).frame = none ∧
          (t.pipe p).free = List.range (s.slotCount p) ∧ (∀ f ∈ pipeCounters p, t.rd f = 0) ∧ t.mem = s.mem) ∧
        (s.pipeClash p = true → exec (.inspEnable who p true) s = .next (s.hostXs who xsRule (INSP_CTL_EN p).addr true))) ∧
      (∀ j w w' ws js, s.on (INSP_CCI_STAT_BUSY m) = false → s.on (INSP_CCI_STAT_WAIT m) = false → s.cci m = j :: js → j.launched = true →
        (j.left = w :: w' :: ws → exec (.cciAck m) s = .next ((s.emit (.cci m w false)).setCci m ({ j with left := w' :: ws } :: js))) ∧
        (j.left = w :: w' :: ws → j.live = false → js = [] → ∀ (nack : Bool) (low : Fin 65536),
          nack = true ∨ s.stretched m low = true → exec (.cciFail ⟨m, nack, low⟩) s = .next
          (((s.emit (.cci m w false)).report srcInspCci j.pipe 1 initPipe j.pipe accNone 0).setCci m []))) ∧
      (Passes s who (INSP_CCI_MB0_GO m) → s.on (INSP_CCI_STAT_BUSY m) = false → s.on (INSP_CCI_STAT_WAIT m) = false →
        (s.cciHeld m = true → exec (.cciMailbox who m) s = .next (s.wr (INSP_CCI_STAT_WAIT m) 1)) ∧
        (s.cciHeld m = false → ∃ t o, exec (.cciMailbox who m) s = .next t ∧ t.on (INSP_CCI_STAT_BUSY m) = true ∧ t.out = o :: s.out ∧
          SameRegs [INSP_CCI_STAT_BUSY m, INSP_CCI_STAT_WAIT m] s t)) ∧
      (∀ (low : Fin 65536) (data : Word), s.on (INSP_CCI_STAT_BUSY m) = true → ∃ t, exec (.cciMailboxDone m false low data) s = .next t ∧
        t.on (INSP_CCI_STAT_BUSY m) = false ∧ t.on (INSP_CCI_STAT_DONE m) = true ∧ t.on (INSP_CCI_STAT_NACK m) = false ∧
        t.on (INSP_CCI_STAT_TIMEOUT m) = s.stretched m low ∧
        t.rd (INSP_CCI_MB2_DATA m) = (if s.on (INSP_CCI_MB0_READ m) ∧ s.stretched m low = false then data.toNat else s.rd (INSP_CCI_MB2_DATA m))) ∧
      exec (.inspEccError p false) s = .next ((s.bump (INSP_CNT_ECC_ECC p)).report srcInspEcc p 1 initPipe p accNone 0) ∧
      ((s.pipe p).frame = none → (s.pipe p).commit = none → ∃ t, exec (.inspEccError p true) s = .next t ∧ t.on (INSP_CTL_ARMED p) = false ∧
        (t.pipe p).planes = [] ∧ t.reports = addReport s.reports ⟨srcInspEcc, p, 2, initPipe, p, accNone, 0, s.faultTime, 0⟩ ∧ t.mem = s.mem ∧
        SameRegs [INSP_CTL_ARMED p, INSP_STAT_FREE p] s t))

/-- The ladder that a pipeline analyses is the oldest one of its that is ready: it leaves the list and is counted. A nozzle's state follows its
score: OUT from OUT_AT on, and back only at CLEAR_AT; a verdict moves the score within 0 to 15; and a pin OUT decides over both. The compensation
policy: APPLY does nothing outside AUTO mode, and in it forms an update where something differs, which joins the writers of the background; CLEAR
outside AUTO mode forgets every nozzle without a pin; a hold that ends lets its update go on; a veto discards it; and the policy writes a READY
background under its lock, or forgets what it kept after an uncorrectable error, and ends by asking for a swap. Where
clauses of it rest on a reading or a choice of the model: notes/assumptions/34, 35. -/
def Obligations.LadderAndPolicy : Prop :=
  (∀ (s : State) (p : PipeId) (n : CellId),
      ((∀ l ∈ s.ladders, l.pipe ≠ p.val ∨ l.ready = false) → exec (.ladderAnalysed p) s = .next s) ∧
      (∀ l, s.ladders.find? (fun l => l.pipe == p.val && l.ready) = some l → ∃ t, exec (.ladderAnalysed p) s = .next t ∧
        t.ladders = s.ladders.erase l ∧ t.rd (INSP_NH_STAT_ANALYSED p) = (s.rd (INSP_NH_STAT_ANALYSED p) + 1) % 2 ^ 16 ∧
        (l.counted = true → t.rd (INSP_NH_STAT_PENDING p) = (s.rd (INSP_NH_STAT_PENDING p) - 1) % 2 ^ (INSP_NH_STAT_PENDING p).width)) ∧
      (∀ k v, k < 4096 → v ≠ 0 → (s.cell n).nozzle k = Noz.reset ∨ ((s.cell n).nozzle k).score ≤ 15 →
        let z := ((s.scoreNozzle p n k v).cell n).nozzle k
        z.verdict = v ∧ z.score ≤ 15 ∧ (max 1 (s.rd (INSP_NH_SCORE_OUT_AT p)) ≤ z.score → z.state = nzOut) ∧
        (((s.cell n).nozzle k).state = nzOut → z.state ≠ nzOut → z.score ≤ s.rd (INSP_NH_SCORE_CLEAR_AT p) ∧
          z.score < max 1 (s.rd (INSP_NH_SCORE_OUT_AT p))) ∧
        (s.rd (CELL_NH_PIN n k) = 2 → (s.scoreNozzle p n k v).nzState n k = nzPinnedOut))) ∧
  (∀ (s : State) (who : Sender) (n : CellId),
      (Passes s who (CELL_NH_CTL_APPLY n) →
        (s.rd (CELL_NH_CTL_MODE n) ≠ 2 → exec (.nhApply who n) s = .next s) ∧
        (s.rd (CELL_NH_CTL_MODE n) = 2 → (s.cell n).nhBlind = false → s.nhCover n ≠ [] → s.on (CELL_CTL_MIRROR n) = true →
          s.cellState n ≠ csOff → s.cellState n ≠ csFenced → s.safe = false → s.rd (CELL_NH_CTL_VETO_HOLD n) = 0 → (s.cell n).nhQ = [] →
          (s.cell n).bgWait = [] → s.rd (CELL_BANK_STAT_BG_STATE n) ≠ bgPolicy → ∃ t, exec (.nhApply who n) s = .next t ∧
            (t.cell n).nhQ = [⟨(s.cell n).nhSeq % 65535 + 1, s.nhCover n, false, false⟩] ∧ (t.cell n).bgWait = [.policy] ∧
            (t.cell n).nhSeq = (s.cell n).nhSeq % 65535 + 1 ∧ t.regs = s.regs ∧ t.mem = s.mem)) ∧
      (Passes s who (CELL_NH_CTL_CLEAR n) → s.rd (CELL_NH_CTL_MODE n) ≠ 2 → ∃ t, exec (.nhClear who n) s = .next t ∧ (t.cell n).nhBlind = false ∧
        (∀ k, s.rd (CELL_NH_PIN n k) = 0 → (t.cell n).nozzle k = Noz.reset) ∧ t.regs = s.regs ∧ t.mem = s.mem) ∧
      (∀ u, (s.cell n).nhQ = [u] → u.held = true → (s.cell n).bgWait = [] → s.rd (CELL_BANK_STAT_BG_STATE n) ≠ bgPolicy →
        (∃ t, exec (.vetoHoldExpiry n) s = .next t ∧ (t.cell n).nhQ = [{ u with held := false }] ∧ (t.cell n).bgWait = [.policy] ∧ t.regs = s.regs ∧
          t.mem = s.mem) ∧
        (∀ v : BitVec 16, Passes s who (CELL_NH_VETO_VETO n) → v.toNat = u.seq → ∃ t, exec (.nhVeto who n v) s = .next t ∧ (t.cell n).nhQ = [] ∧
          t.rd (CELL_NH_STAT_SKIP_CAUSE n) = 4 ∧ (∀ k ∈ u.cover, ((t.cell n).nozzle k).vetoed = true))) ∧
      (∀ u us rest, (s.cell n).nhQ = u :: us →
        (u.held = false → (s.cell n).bgWait = .policy :: rest → s.rd (CELL_BANK_STAT_BG_STATE n) = bgReady →
          (∃ t, exec (.policyWrite n none) s = .next t ∧ t.rd (CELL_BANK_STAT_BG_STATE n) = bgPolicy ∧ (t.cell n).bgWait = rest ∧
            (t.cell n).nhQ = u :: us ∧ (t.cell n).bank (s.fgBank n) = (s.cell n).bank (s.fgBank n)) ∧
          (∃ t, exec (.policyWrite n (some true)) s = .next t ∧ (t.cell n).nhBlind = true ∧ (t.cell n).kept = [] ∧ (t.cell n).noz = [] ∧
            t.reports = addReport s.reports ⟨srcNhEcc, n, 2, initCell, n, accNone, n, s.faultTime, 0⟩ ∧ t.regs = s.regs)) ∧
        (s.rd (CELL_BANK_STAT_BG_STATE n) = bgPolicy → s.cellState n ≠ csFenced → s.ganged n = false → ∃ t, exec (.policyWriteDone n) s = .next t ∧
          (t.cell n).nhQ = us ∧ (t.cell n).nhSwap = (s.cell n).nhSwap ++ [u.seq] ∧ t.rd (CELL_BANK_STAT_BG_STATE n) = bgReady ∧
          t.on (CELL_BANK_STAT_SWAP_PEND n) = true ∧ SameRegs [CELL_BANK_STAT_BG_STATE n, CELL_BANK_STAT_SWAP_PEND n] s t)))

/-- Steps and slews: SET_GO keeps TIME.SET for the next tick, and while time is steered a host's write of it is discarded and recorded; a tick takes
the step that waits, with no ring held and no trigger pending, and refuses it while a cell is ARMED or PRINTING; ADJ begins a slew, CANCEL ends it, and
so does the tick whose share is all that remains. The servo's lock and the pulse per second: a master that is lost, the end of holdover, and a missing
pulse; an edge whose level has held for IN_FILT samples is latched, and steers nothing where SRC is not PPS; and the output rises at its time only while
it may run, and falls after its width. Where clauses of it rest on a reading or a choice of the model: notes/assumptions/12, 36, 37, 94. -/
def Obligations.StepsSlewsAndServo : Prop :=
  (∀ (s : State) (who : Sender),
      (Passes s who TIME_CTL_SET_GO → (isHost who = false ∨ s.timeSrc = 0) → exec (.setGo who) s = .next
        { s with time := { s.time with step := some (s.rd2 TIME_SET_LO TIME_SET_HI) } }) ∧
      (Passes s who TIME_CTL_SET_GO → isHost who = true → s.timeSrc ≠ 0 → exec (.setGo who) s = .next
        (s.hostXs who xsRule (Fld.addr TIME_CTL_SET_GO) true)) ∧
      (∀ v, s.pending = [] → s.on TIME_STAT_RUNNING = true → s.time.step = some v →
        (s.stepBlocked = false → s.rings = [] → s.time.pend = [] → v < 2 ^ 64 → ∃ t, step s = .next t ∧ t.timeNs = v ∧ t.timeFrac = 0 ∧
          t.time.step = none ∧ t.on TIME_STAT_SET = true ∧ t.on TIME_STAT_VALID = true ∧ t.time.adj = 0 ∧ t.mem = s.mem) ∧
        (s.stepBlocked = true → ∃ t, step s = .next t ∧ t.timeNs = s.timeNs ∧ t.time.step = none ∧ t.on TIME_STAT_STEP_REFUSED = true ∧
          t.reports = addReport s.reports ⟨srcTimeStep, 0, 1, initNone, 0, accNone, 0, s.faultTime, 0⟩ ∧ SameRegs [TIME_STAT_STEP_REFUSED] s t)) ∧
      (Passes s who TIME_CTL_ADJ_GO → (isHost who = false ∨ s.timeSrc = 0) → ∃ t, exec (.adjGo who) s = .next t ∧
        t.time.adj = s.rdS TIME_ADJ * 4294967296 ∧ t.rdS TIME_ADJ_REM = s.rdS TIME_ADJ ∧ t.on TIME_STAT_SLEWING = decide (s.rdS TIME_ADJ ≠ 0) ∧
        SameRegs [TIME_ADJ_REM, TIME_STAT_SLEWING] s t) ∧
      (Passes s who TIME_CTL_ADJ_CANCEL → (isHost who = false ∨ s.timeSrc = 0) → ∃ t, exec (.adjCancel who) s = .next t ∧ t.time.adj = 0 ∧
        t.rd TIME_ADJ_REM = 0 ∧ t.on TIME_STAT_SLEWING = false ∧ SameRegs [TIME_ADJ_REM, TIME_STAT_SLEWING] s t) ∧
      (s.on TIME_STAT_RUNNING = true → s.time.step = none → s.time.adj ≠ 0 → s.tickShare.1 = s.time.adj → ∃ t, exec .slewEnd s = .next t ∧
        t.time.adj = 0 ∧ t.rd TIME_ADJ_REM = 0 ∧ t.on TIME_STAT_SLEWING = false)) ∧
  (∀ (s : State),
      (s.timeSrc = 1 → s.on TIME_PTP_CFG_EN = true → s.rd TIME_STAT_SERVO ≠ svHoldover → ∃ t, exec .ptpMasterLost s = .next t ∧
        t.rd TIME_STAT_SERVO = svHoldover ∧ t.time.adj = 0 ∧ (s.time.incrs = [] → t.rd TIME_INCR_OFF = s.rd TIME_INCR_OFF) ∧
        t.on TIME_STAT_LOCKED = s.on TIME_STAT_LOCKED ∧ t.timeNs = s.timeNs) ∧
      (s.rd TIME_STAT_SERVO = svHoldover → s.on TIME_STAT_LOCKED = true → ∃ t, exec .holdoverExpiry s = .next t ∧ t.on TIME_STAT_LOCKED = false ∧
        t.rd TIME_STAT_SERVO = svHoldover ∧ t.reports = addReport s.reports ⟨srcTimeLock, 0, 1, initNone, 0, accNone, 3, s.faultTime, 0⟩ ∧
        SameRegs [TIME_STAT_LOCKED, TIME_STAT_SERVO] s t) ∧
      (s.timeSrc = 2 → ∃ t, exec .ppsInMissing s = .next t ∧ t.rd TIME_STAT_SERVO = svHoldover ∧
        t.reports = addReport s.reports ⟨srcTimePps, 0, 1, initNone, 0, accNone, 0, s.faultTime, 0⟩ ∧ t.timeNs = s.timeNs) ∧
      (∀ age : Fin 2001, s.on TIME_PPS_CTL_IN_EN = true → s.rd TIME_PPS_CTL_IN_FILT ≤ age.val + 1 → s.timeSrc ≠ 2 → exec (.ppsInEdge age) s = .next
        ((s.wr2 TIME_PPS_IN_TIME_LO TIME_PPS_IN_TIME_HI (s.now - age.val)).bumpMod TIME_PPS_IN_SEQ)) ∧
      (∀ t, s.ppsDue = some t → s.now < t + 3 → s.time.ppsRise ≠ some t →
        (s.ppsRuns = true → exec .ppsOutRise s = .next
          { s with time := { s.time with ppsOut := true, ppsRise := some t, ppsLen := 1000 * max 1 (s.rd TIME_PPS_W) } }) ∧
        (s.ppsRuns = false → exec .ppsOutRise s = .next s)) ∧
      (∀ t, s.time.ppsRise = some t → s.time.ppsOut = true → t + s.time.ppsLen ≤ s.now →
        exec .ppsOutFall s = .next { s with time := { s.time with ppsOut := false } }))

/-- The level of a MARK input follows one that has held for FILT samples, and a shorter one or no change does nothing; at a disabled input that is all,
and an enabled one, with no page in print and no ring held, latches the time and counts the edge of its polarity. The Ethernet ports: link lost and
gained; a frame with a bad check or too long, one for nobody, and a domain trigger that is accepted; a LAUNCH at the head of its queue whose bytes are
read from host memory; a launch that is due, dropped without link and otherwise sent; a message of the PTP engine that waits for the wire; and triggers
presented at their time with no page in print. Where clauses of it rest on a reading or a choice of the model: notes/assumptions/38, 39, 83, 94. -/
def Obligations.MarkEdgesAndPorts : Prop :=
  (∀ (s : State) (m : Fin 4) (age : Fin 2001) (rising : Bool),
      (age.val + 1 < s.rd (MARK_FILT m) ∨ Store.get false s.time.marks m.val = rising → exec (.markEdge m rising age) s = .next s) ∧
      (s.rd (MARK_FILT m) ≤ age.val + 1 → Store.get false s.time.marks m.val ≠ rising → s.on (MARK_EN m) = false → exec (.markEdge m rising age) s = .next
        { s with time := { s.time with marks := Store.put false s.time.marks m.val rising } }) ∧
      (s.rd (MARK_FILT m) ≤ age.val + 1 → Store.get false s.time.marks m.val ≠ rising → s.on (MARK_EN m) = true → NoPages s → s.rings = [] →
        ∃ t, exec (.markEdge m rising age) s = .next t ∧ t.time.marks = Store.put false s.time.marks m.val rising ∧
        (rising = true → t.rd2 (MARK_RISE_TIME_LO m) (MARK_RISE_TIME_HI m) = (s.now - age.val) % 2 ^ 64 ∧
          t.rd (MARK_RISE_SEQ m) = (s.rd (MARK_RISE_SEQ m) + 1) % 2 ^ 16 ∧ t.rd (MARK_FALL_SEQ m) = s.rd (MARK_FALL_SEQ m)) ∧
        (rising = false → t.rd2 (MARK_FALL_TIME_LO m) (MARK_FALL_TIME_HI m) = (s.now - age.val) % 2 ^ 64 ∧
          t.rd (MARK_FALL_SEQ m) = (s.rd (MARK_FALL_SEQ m) + 1) % 2 ^ 16 ∧ t.rd (MARK_RISE_SEQ m) = s.rd (MARK_RISE_SEQ m)) ∧ t.mem = s.mem)) ∧
  (∀ (s : State) (k : NetId),
      (s.netUp k = true → exec (.netLinkLoss k) s = .next
        ((((s.wr (NET_STAT_LINK k) 0).wr (NET_STAT_AN_DONE k) 0).bump (NET_DOWN k)).report srcNetLink k 1 initNone 0 accNone k)) ∧
      (s.on (NET_CTL_EN k) = true → (s.net k).untimed = [] → exec (.netLinkUp k) s = .next
        ((s.wr (NET_STAT_LINK k) 1).wrB (NET_STAT_AN_DONE k) (s.on (NET_CTL_MODE k) && s.on (NET_CTL_AN k)))) ∧
      (∀ bs, s.netUp k = true →
        exec (.netFrameReceive k bs false) s = .next (s.bump (NET_RX_FCS k)) ∧
        (1518 < bs.length → exec (.netFrameReceive k bs true) s = .next (s.bump (NET_RX_FCS k))) ∧
        (bs.length ≤ 1518 → etherType bs ≠ 0x8808 → s.macOk k bs = true → s.isPtp k bs = false →
          (s.dtPayload bs = none → exec (.netFrameReceive k bs true) s = .next (s.bump (NET_RX_DROP k))) ∧
          (∀ p, s.dtPayload bs = some p → s.on TIME_DT_CFG_EN = true → dtFormOk p = true → byteAt p 6 = s.rd TIME_STATION_PRESS_DOM →
            s.dtSeen p = false → s.dtBlocked p = false → s.now ≤ leAt p 16 8 → ∃ t, exec (.netFrameReceive k bs true) s = .next t ∧
              t.time.pend = s.time.pend ++ [⟨byteAt p 3 % 16, leAt p 16 8⟩] ∧ t.rd TIME_DT_PENDING = s.time.pend.length + 1 ∧
              t.rd TIME_DT_CNT0_ACCEPT = satNat 16 (s.rd TIME_DT_CNT0_ACCEPT + 1) ∧ t.rd (NET_RX_DT k) = satNat 16 (s.rd (NET_RX_DT k) + 1)))) ∧
      (∀ (q : RingId) (d : Desc) (bs : List Byte), s.takeable q tyLaunch = some d → (s.headDesc q).map (·.idx) = some d.idx →
        s.mayReadMem (s.ringOwner q) (d.u64 4) (d.u16 12) = true → isLocal (d.u64 4) = false →
        s.readEnds (s.ringOwner q) (d.u64 4) (.ok bs) = true → d.bit 1 3 = false → exec (.launch q (.ok bs)) s = .next
        ((s.setPhase q d.idx .started).updNet (launchPort q) (fun x => { x with launches := x.launches.filter (fun l => l.q != q.val) ++
          [⟨q, d.idx, bs.take (d.u16 12), s.on TIME_STAT_VALID && decide (d.u64 16 < s.now)⟩] }))) ∧
      (∀ l d, s.on TIME_STAT_VALID = true → s.speedDue k = false → s.dueLaunch k = some (l, d) →
        (s.netUp k = false → exec (.launchDue k) s = .next (s.dropLaunch k l)) ∧
        (s.netUp k = true → s.wireFree k = true → l.late = false → s.txStamp k ≤ d.u64 16 * 65536 + 419430 →
          exec (.launchDue k) s = .next (s.sendLaunch k l d false))) ∧
      (∀ kind : Fin 3, s.on TIME_PTP_CFG_EN = true → bitOf (s.rd TIME_PTP_CFG_PORTS) k = true → s.on YOKE_STAT_HOLDING = false →
        (kind = 0 → s.on TIME_PTP_CFG_SLAVE_ONLY = false) → (kind = 1 → s.on TIME_PTP_CFG_P2P = false) →
        (kind = 2 → s.on TIME_PTP_CFG_P2P = true) → s.wireFree k = false → ∃ t, exec (.ptpMessageDue k kind) s = .next t ∧
          (t.net k).untimed = (s.net k).untimed ++ [Config.ptpMessage k kind.val s.drawn] ∧ t.drawn = s.drawn + 1 ∧ t.regs = s.regs ∧ t.out = s.out) ∧
      (∀ d ds, s.time.pend = d :: ds → s.on TIME_STAT_VALID = true → (∀ e ∈ d :: ds, d.time ≤ e.time) → d.time ≤ s.now → NoPages s →
        exec .domainTriggerPresent s = .next (s.setPend ((d :: ds).filter (fun e => e.time != d.time)))))

/-- A GO of a context starts nothing while an operation of it runs; an UNWRAP starts otherwise, and on HOLD it is refused with its result. A record
that is read from host memory and passes every check loads the slot it names; one that fails a check of its content is reported, and counted, and the
16th failure in a row sets HOLD, which its expiry clears. A slot is emptied by a CLEAR of its owner, and by its expiry, which is not evaluated while
device time is not valid. Where clauses of it rest on a reading or a choice of the model: notes/assumptions/40, 53, 95. -/
def Obligations.KeysAndSlots : Prop :=
  (∀ (s : State) (who : Sender) (k : CtxId),
      (Passes s who (VAULT_CTX_CTL_GO k) →
        (s.on (VAULT_CTX_STAT_BUSY k) = true → exec (.unwrap who k) s = .next (s.wr (VAULT_CTX_CTL_OP k) 1) ∧
          exec (.attest who k) s = .next (s.wr (VAULT_CTX_CTL_OP k) 3)) ∧
        (s.on (VAULT_CTX_STAT_BUSY k) = false → s.on (VAULT_CTX_STAT_HOLD k) = false → ∃ t, exec (.unwrap who k) s = .next t ∧
          t.on (VAULT_CTX_STAT_BUSY k) = true ∧ SameRegs [VAULT_CTX_CTL_OP k, VAULT_CTX_STAT_BUSY k] s t ∧
          t.vault.ops = s.vault.ops ++ [(k.val, ⟨1, s.rd2 (VAULT_CTX_ADDR_LO k) (VAULT_CTX_ADDR_HI k)⟩)] ∧ t.mem = s.mem) ∧
        (s.on (VAULT_CTX_STAT_BUSY k) = false → s.on (VAULT_CTX_STAT_HOLD k) = true → ∃ t, exec (.unwrap who k) s = .next t ∧
          t.rd (VAULT_CTX_STAT_RESULT k) = vrHeld ∧ t.on (VAULT_CTX_STAT_DONE k) = true ∧ t.keys = s.keys)) ∧
      (∀ (o : VaultOp) (bs : List Byte), s.vaultOp k 1 = some o → s.mayReadMem k o.addr 160 = true → isLocal o.addr = false →
        s.readEnds k o.addr (.ok bs) = true →
        (∀ key, s.unwrapCheck k (bs.take 160) = .inr key → ∃ t, exec (.unwrapDone k (.ok bs) none) s = .next t ∧
          t.rd (VAULT_CTX_STAT_RESULT k) = vrOk ∧ t.on (VAULT_CTX_STAT_BUSY k) = false ∧ t.on (VAULT_CTX_STAT_DONE k) = true ∧
          (let slot := byteAt (bs.take 160) 3 % 64
           t.on (VAULT_SLOT_STAT_VALID slot) = true ∧ t.rd (VAULT_SLOT_STAT_OWNER slot) = k.val ∧
           t.rd (VAULT_SLOT_STAT_USAGE slot) = byteAt (bs.take 160) 5 % 4 ∧ t.rd (VAULT_SLOT_STAT_AUTH_FAIL slot) = 0 ∧
           Store.find? t.keys slot = some key ∧ Store.get 0 t.vault.expiry slot = leAt (bs.take 160) 8 8)) ∧
        (∀ r, s.unwrapCheck k (bs.take 160) = .inl r → r ≠ vrBusy → r ≠ vrDmaErr → ∃ t, exec (.unwrapDone k (.ok bs) none) s = .next t ∧
          t.rd (VAULT_CTX_STAT_RESULT k) = r ∧ t.on (VAULT_CTX_STAT_DONE k) = true ∧ t.keys = s.keys ∧
          t.reports.any (fun x => x.src == srcVaultUnwrap && x.unit == k.val) = true ∧
          (15 ≤ s.rd (VAULT_CTX_STAT_FAILS k) → t.on (VAULT_CTX_STAT_HOLD k) = true) ∧
          (s.rd (VAULT_CTX_STAT_FAILS k) < 15 → t.rd (VAULT_CTX_STAT_FAILS k) = s.rd (VAULT_CTX_STAT_FAILS k) + 1))) ∧
      exec (.unwrapHoldExpiry k) s = .next (s.wr (VAULT_CTX_STAT_HOLD k) 0)) ∧
  (∀ (s : State) (who : Sender) (k : CtxId) (slot : Fin 64),
      (Passes s who (VAULT_CTX_CTL_GO k) → s.on (VAULT_CTX_STAT_BUSY k) = false → s.on (VAULT_SLOT_STAT_VALID slot) = true →
        s.rd (VAULT_SLOT_STAT_OWNER slot) = k.val → ∃ t, exec (.clearSlot who k slot) s = .next t ∧ t.on (VAULT_SLOT_STAT_VALID slot) = false ∧
          t.rd (VAULT_SLOT_STAT_OWNER slot) = 15 ∧ t.rd (VAULT_SLOT_STAT_USAGE slot) = 0 ∧ Store.find? t.keys slot.val = none ∧
          t.rd (VAULT_CTX_STAT_RESULT k) = vrOk ∧ t.on (VAULT_CTX_STAT_DONE k) = true) ∧
      (s.on TIME_STAT_VALID = false → exec (.keyExpiry slot) s = .next s) ∧
      (s.on TIME_STAT_VALID = true → s.on (VAULT_SLOT_STAT_VALID slot) = true → Store.get 0 s.vault.expiry slot.val ≠ 0 →
        Store.get 0 s.vault.expiry slot.val ≤ s.now → ∃ t, exec (.keyExpiry slot) s = .next t ∧ t.on (VAULT_SLOT_STAT_VALID slot) = false ∧
          t.rd (VAULT_SLOT_STAT_OWNER slot) = 15 ∧ Store.find? t.keys slot.val = none))

/-- Attestation: an operation starts as OP 3, and ends with the report and a signature of 96 bytes written at its address in host memory; none is given
while a tamper cause is held. Requests that blow fuses: ROLLBACK within its limits, refused outside them, and its end; REVOKE, refused where it names
the running image's index or would leave none; and the owner debug key, programmed once. Where clauses of it rest on a reading or a choice of the
model: notes/assumptions/40, 41, 53, 95. -/
def Obligations.AttestationAndOtp : Prop :=
  (∀ (s : State) (who : Sender) (k : CtxId),
      (Passes s who (VAULT_CTX_CTL_GO k) → s.on (VAULT_CTX_STAT_BUSY k) = false → ∃ t, exec (.attest who k) s = .next t ∧
        t.on (VAULT_CTX_STAT_BUSY k) = true ∧ SameRegs [VAULT_CTX_CTL_OP k, VAULT_CTX_STAT_BUSY k] s t ∧
        t.vault.ops = s.vault.ops ++ [(k.val, ⟨3, s.rd2 (VAULT_CTX_ADDR_LO k) (VAULT_CTX_ADDR_HI k)⟩)] ∧ t.mem = s.mem) ∧
      (∀ (o : VaultOp) (bs : List Byte), s.vaultOp k 3 = some o →
        (s.on VAULT_STAT_TAMPER = true → ∃ t, exec (.attestDone k (.ok bs)) s = .next t ∧ t.rd (VAULT_CTX_STAT_RESULT k) = vrBlocked ∧
          t.on (VAULT_CTX_STAT_DONE k) = true) ∧
        (s.on VAULT_STAT_TAMPER = false → s.mayWriteMem k o.addr 256 = true → isLocal o.addr = false → s.readEnds k o.addr (.ok bs) = true →
          ∃ t sig, exec (.attestDone k (.ok bs)) s = .next t ∧ sig.length = 96 ∧
            Out.hostWrite k o.addr (s.reportBody k (bs.take 48) ++ sig) ∈ t.out ∧ t.rd (VAULT_CTX_STAT_RESULT k) = vrOk ∧
            t.on (VAULT_CTX_STAT_DONE k) = true))) ∧
  (∀ (s : State) (who : Sender),
      (∀ target : BitVec 7, Passes s who VAULT_ROLLBACK_GO → s.on VAULT_STAT_RB_BUSY = false →
        (s.rd VAULT_STAT_RB_COUNT < target.toNat → target.toNat ≤ s.rd VAULT_STAT_SVN → ∃ t, exec (.rollback who target) s = .next t ∧
          t.on VAULT_STAT_RB_BUSY = true ∧ t.vault.rbTarget = target.toNat ∧ t.otp = s.otp) ∧
        ((target.toNat ≤ s.rd VAULT_STAT_RB_COUNT ∨ s.rd VAULT_STAT_SVN < target.toNat) → exec (.rollback who target) s = .next
          ((s.wr VAULT_ROLLBACK_TARGET target.toNat).hostXs who xsRule (Fld.addr VAULT_ROLLBACK_GO) true))) ∧
      (s.on VAULT_STAT_RB_BUSY = true → ∃ t, exec (.rollbackDone none) s = .next t ∧ t.otp = { s.otp with rbCount := s.vault.rbTarget } ∧
        t.on VAULT_STAT_RB_BUSY = false ∧ t.rd VAULT_STAT_RB_COUNT = s.vault.rbTarget % 2 ^ 7 ∧ t.reports = s.reports) ∧
      (∀ req : BitVec 4, Passes s who VAULT_REVOKE_REQ →
        (let mask := BitVec.ofNat 4 s.otp.revoked ||| req
         ((s.rd VAULT_STAT_BOOT_SLOT = 0 ∨ bitOf req.toNat (s.rd VAULT_STAT_KEY_IDX) = false) → mask ≠ 15 → ∃ t, exec (.revoke who req) s = .next t ∧
           t.otp = { s.otp with revoked := mask.toNat } ∧ t.rd VAULT_REVOKE_MASK = mask.toNat) ∧
         (s.rd VAULT_STAT_BOOT_SLOT ≠ 0 → bitOf req.toNat (s.rd VAULT_STAT_KEY_IDX) = true → exec (.revoke who req) s = .next
           (s.hostXs who xsRule (Fld.addr VAULT_REVOKE_REQ) true)) ∧
         (mask = 15 → exec (.revoke who req) s = .next (s.hostXs who xsRule (Fld.addr VAULT_REVOKE_REQ) true)))) ∧
      (Passes s who VAULT_DBG_CTL_OWNER_PROG →
        (∀ h, s.otp.ownerHash = some h → exec (.ownerProg who) s = .next s) ∧
        (s.otp.ownerHash = none → exec (.ownerProg who) s = .next { s with otp := { s.otp with
          ownerHash := some ((List.range 12).flatMap (fun j => leBytes 4 (s.rd (VAULT_DBG_OWNER j)))) } })))

/-- Debug and tamper: a token that fails is counted and reported and leaves the debug level, after three none is looked at, an accepted one sets its
level, and with level 2 empties every slot and blocks unwrapping; and RELOCK locks. A tamper cause empties every slot, blocks the identity key and the
signing of the Ledger, is counted in OTP and reported as class 4, asks for the safe state, in which no head may fire, and takes both ports' links
down. Where clauses of it rest on a reading or a choice of the model: notes/assumptions/40, 95. -/
def Obligations.DebugAndTamper : Prop :=
  ∀ (s : State) (who : Sender),
    (Passes s who VAULT_DBG_CTL_GO →
      (3 ≤ s.rd VAULT_DBG_CTL_ATTEMPTS → exec (.debugToken who) s = .next s) ∧
      (s.rd VAULT_DBG_CTL_ATTEMPTS < 3 → s.tokenOk s.tokenBytes = false → ∃ t, exec (.debugToken who) s = .next t ∧
        t.rd VAULT_DBG_CTL_ATTEMPTS = s.rd VAULT_DBG_CTL_ATTEMPTS + 1 ∧ t.rd VAULT_STAT_DEBUG = s.rd VAULT_STAT_DEBUG ∧
        t.reports.any (fun x => x.src == srcVaultDebug) = true ∧ t.keys = s.keys) ∧
      (s.rd VAULT_DBG_CTL_ATTEMPTS < 3 → s.tokenOk s.tokenBytes = true → ∃ t, exec (.debugToken who) s = .next t ∧
        t.rd VAULT_STAT_DEBUG = byteAt s.tokenBytes 3 % 4 ∧ t.rd VAULT_DBG_CTL_ATTEMPTS = s.rd VAULT_DBG_CTL_ATTEMPTS ∧
        (byteAt s.tokenBytes 3 % 4 = 2 → t.on VAULT_STAT_UNWRAP_BLOCK = true ∧ ∀ j, j < 64 → t.on (VAULT_SLOT_STAT_VALID j) = false))) ∧
    (Passes s who VAULT_DBG_CTL_RELOCK → exec (.relock who) s = .next (s.wr VAULT_STAT_DEBUG 0)) ∧
    (∀ cause : Fin 6, ∃ t, exec (.tamper cause) s = .next t ∧ t.on VAULT_STAT_TAMPER = true ∧ t.on VAULT_STAT_UNWRAP_BLOCK = true ∧
      (∀ j, j < 64 → t.on (VAULT_SLOT_STAT_VALID j) = false ∧ t.rd (VAULT_SLOT_STAT_OWNER j) = 15) ∧ t.keys = s.keys.filter (fun e => 64 ≤ e.1) ∧
      t.otp = { s.otp with tampers := min 32 (s.otp.tampers + 1), lastCause := cause.val + 1 } ∧
      t.reports = addReport s.reports ⟨srcVaultTamper, 0, 4, initNone, 0, accNone, cause.val + 1, s.faultTime, 0⟩ ∧ t.safe = true ∧ t.on LEDGER_STAT_SIGN_BLOCKED = true ∧
      (∀ g, t.fireEn g = false) ∧ t.on (HOST_PORT_UP 0) = false ∧ t.on (HOST_PORT_UP 1) = false)

/-- Taking reports while the Goose's store is good: with none pending nothing happens, and the first pending report becomes a record, which with every
event ring disabled leaves the others as they are. One of a class below 3 that is not promoted and does not fence is counted and leaves the safe state
as it was; one of class 3 or 4 enters the safe state with its source and class as the cause, and then no head has power or may fire. Injection and
capture: a refused injection sets REFUSED alone; an accepted one without REACT is counted as injected and reaches neither the safe state nor the real
capture; a held capture is copied to the Ledger when it is armed again; and CLR_CNT clears the counters. Where clauses of it rest on a reading or a
choice of the model: notes/assumptions/42, 96. -/
def Obligations.FaultRecords : Prop :=
  (∀ (s : State), s.goose.storeBad = false →
      (s.reports = [] → exec .faultReport s = .next s) ∧
      (∀ r rs, firstReport s.reports = some (r, rs) →
        (r.cls < 3 → s.rd (GOOSE_SRC_CFG_PROMOTE r.src) = 0 → s.on (GOOSE_SRC_CFG_FENCE r.src) = false → r.src < 256 →
          ∃ t, exec .faultReport s = .next t ∧ ((∀ k, k < 8 → s.on (HOST_RING_EN (152 + k)) = false) → t.reports = rs) ∧ t.rd GOOSE_SEQ = (s.rd GOOSE_SEQ + 1) % 2 ^ 32 ∧
            t.rd (GOOSE_SRC_STAT_COUNT r.src) = satNat 16 (s.rd (GOOSE_SRC_STAT_COUNT r.src) + (1 + r.merged)) ∧
            t.on GOOSE_STATUS_SAFE = s.on GOOSE_STATUS_SAFE ∧ t.rd GOOSE_STATUS_CAUSE_SRC = s.rd GOOSE_STATUS_CAUSE_SRC) ∧
        ((r.cls = 3 ∨ r.cls = 4) → s.on GOOSE_STATUS_SAFE = false → r.src < 256 → ∃ t, exec .faultReport s = .next t ∧
          t.on GOOSE_STATUS_SAFE = true ∧ t.rd GOOSE_STATUS_CAUSE_SRC = r.src ∧ t.rd GOOSE_STATUS_CAUSE_CLASS = r.cls ∧
          (r.cls = 4 → t.on GOOSE_STATUS_LATCH4 = true) ∧ t.rd COOP_HEAD_PWR_EN = 0 ∧ (∀ g, t.fireEn g = false)))) ∧
  (∀ (s : State) (who : Sender),
      (Passes s who GOOSE_INJ_CTL_GO →
        (s.on GOOSE_CTL_INJ_LOCK = true ∨ isSource (s.rd GOOSE_INJ_CTL_SRC) = false ∨ 4 < s.rd GOOSE_INJ_CTL_CLASS ∨ 7 < s.rd GOOSE_INJ_INIT_TYPE →
          exec (.faultInject who) s = .next (s.wr GOOSE_INJ_STAT_REFUSED 1)) ∧
        (s.on GOOSE_CTL_INJ_LOCK = false → isSource (s.rd GOOSE_INJ_CTL_SRC) = true → s.rd GOOSE_INJ_CTL_CLASS ≤ 4 → s.rd GOOSE_INJ_INIT_TYPE ≤ 7 →
          s.on GOOSE_INJ_CTL_REACT = false → ∃ t, exec (.faultInject who) s = .next t ∧
            t.rd GOOSE_INJ_STAT_INJECTED = satNat 16 (s.rd GOOSE_INJ_STAT_INJECTED + 1) ∧ t.rd GOOSE_SEQ = (s.rd GOOSE_SEQ + 1) % 2 ^ 32 ∧
            t.on GOOSE_STATUS_SAFE = s.on GOOSE_STATUS_SAFE ∧ (∀ j, j < 8 → t.rd (GOOSE_FIRST_REAL j) = s.rd (GOOSE_FIRST_REAL j)))) ∧
      (Passes s who GOOSE_FIRST_CTL_ARM_ANY → ∃ t, exec (.armAny who) s = .next t ∧ bitOf (t.rd (GOOSE_FIRST_ANY 7)) 31 = false ∧
        (bitOf (s.rd (GOOSE_FIRST_ANY 7)) 31 = true → t.rd LEDGER_COPY_IDX = (s.rd LEDGER_COPY_IDX + 1) % 16 ∧
          ∀ j, j < 8 → t.rd (LEDGER_COPY (8 * ((s.rd LEDGER_COPY_IDX + 1) % 16) + j)) = s.rd (GOOSE_FIRST_ANY j) % 2 ^ 32) ∧
        t.mem = s.mem ∧ t.reports = s.reports) ∧
      (Passes s who GOOSE_FIRST_CTL_ARM_REAL → ∃ t, exec (.armReal who) s = .next t ∧ bitOf (t.rd (GOOSE_FIRST_REAL 7)) 31 = false ∧
        (bitOf (s.rd (GOOSE_FIRST_REAL 7)) 31 = true → t.rd LEDGER_COPY_IDX = (s.rd LEDGER_COPY_IDX + 1) % 16 ∧
          ∀ j, j < 8 → t.rd (LEDGER_COPY (8 * ((s.rd LEDGER_COPY_IDX + 1) % 16) + j)) = s.rd (GOOSE_FIRST_REAL j) % 2 ^ 32) ∧
        t.mem = s.mem ∧ t.reports = s.reports) ∧
      (Passes s who GOOSE_CTL_CLR_CNT → ∃ t, exec (.clrCnt who) s = .next t ∧ (∀ f ∈ gooseCounters, t.rd f = 0) ∧ OnlyRegs gooseCounters s t))

/-- The release of the safe state: with nothing PRESENT and STOP_FIRE not latched the arm is accepted without a class 4 latch, and refused with its code
under one; the GO after it starts the self-test, and one without it is refused; an arm that waits too long lapses; and a self-test that passes with no
new fault leaves the safe state, while one that fails, or passes after a new fault, does not. Self-checks and heartbeats: a self-check or a scrub that
fails enters the safe state and is reported; a clean scrub lets reports be taken again; and, with no reference, PLL or supply fault PRESENT and outside
the core reset, the loss of a heartbeat is class 3 of the time block, fences a watched cell, and is YOKE_BOTH of an active core without a standby.
Where clauses of it rest on a reading or a choice of the model: notes/assumptions/43, 44. -/
def Obligations.SafeStateReleaseAndChecks : Prop :=
  (∀ (s : State) (who : Sender),
      (Passes s who GOOSE_SAFE_REL_KEY → s.goose.relTest = false →
        (∀ alive, (∀ i, i < 256 → s.on (GOOSE_SRC_STAT_PRESENT i) = false) → s.stopFireLatch = false → s.on GOOSE_STATUS_SAFE = true →
          (s.on GOOSE_STATUS_LATCH4 = false → ∃ t, exec (.safeRelArm who alive) s = .next t ∧ t.on GOOSE_STATUS_REL_ARMED = true ∧
            t.goose.relBad = false ∧ t.goose.promoted = [] ∧ SameRegs [GOOSE_STATUS_REL_ARMED] s t ∧ t.mem = s.mem) ∧
          (s.on GOOSE_STATUS_LATCH4 = true → ∃ t, exec (.safeRelArm who alive) s = .next t ∧ t.on GOOSE_STATUS_REL_ARMED = false ∧
            t.rd GOOSE_STATUS_REL_ERR = 2 ∧ t.on GOOSE_STATUS_SAFE = true)) ∧
        (s.on GOOSE_STATUS_REL_ARMED = true → exec (.safeRelGo who) s = .next (s.updGoose (fun g => { g with relTest := true }))) ∧
        (s.on GOOSE_STATUS_REL_ARMED = false → ∃ t, exec (.safeRelGo who) s = .next t ∧ t.rd GOOSE_STATUS_REL_ERR = 1 ∧
          SameRegs [GOOSE_STATUS_REL_ARMED, GOOSE_STATUS_REL_ERR] s t)) ∧
      (s.on GOOSE_STATUS_REL_ARMED = true → s.goose.relTest = false → ∃ t, exec .safeRelArmTimeout s = .next t ∧
        t.on GOOSE_STATUS_REL_ARMED = false ∧ t.rd GOOSE_STATUS_REL_ERR = 1 ∧ SameRegs [GOOSE_STATUS_REL_ARMED, GOOSE_STATUS_REL_ERR] s t) ∧
      (s.goose.relTest = true →
        (∃ t, exec (.safeRelSelftestDone false) s = .next t ∧ t.goose.relTest = false ∧ t.on GOOSE_STATUS_REL_ARMED = false ∧
          t.rd GOOSE_STATUS_REL_ERR = 4 ∧ t.on GOOSE_STATUS_SAFE = s.on GOOSE_STATUS_SAFE) ∧
        (s.goose.relBad = true → ∃ t, exec (.safeRelSelftestDone true) s = .next t ∧ t.rd GOOSE_STATUS_REL_ERR = 5 ∧
          t.on GOOSE_STATUS_SAFE = s.on GOOSE_STATUS_SAFE ∧ t.goose.relTest = false) ∧
        (s.goose.relBad = false → ∃ t, exec (.safeRelSelftestDone true) s = .next t ∧ t.on GOOSE_STATUS_SAFE = false ∧
          t.on GOOSE_STATUS_REL_ARMED = false ∧ t.rd GOOSE_STATUS_REL_ERR = 0 ∧ t.on GOOSE_STATUS_SELF_FAIL = false ∧ t.goose.relTest = false))) ∧
  (∀ (s : State) (c : Instr), c = .gooseSelfFail ∨ c = .gooseScrub false →
      (∃ t, exec c s = .next t ∧ t.on GOOSE_STATUS_SAFE = true ∧ t.on GOOSE_STATUS_SELF_FAIL = true ∧ t.goose.storeBad = true ∧ t.goose.relBad = true ∧
        t.reports.any (fun r => r.src == srcGooseSelf) = true ∧ t.safe = true) ∧
      exec (.gooseScrub true) s = .next (s.updGoose (fun g => { g with storeBad := false })) ∧
      ((∀ i ∈ [srcCoopRef, srcCoopPll, srcCoopSupply], s.on (GOOSE_SRC_STAT_PRESENT i) = false) →
        (s.coop.coreReset = false →
          exec (.heartbeatLoss .time) s = .next ((s.report srcGooseHb 149 3 initNone 0 accNone 0).updGoose (fun g => { g with hbLost := true }))) ∧
        (∀ n : CellId, s.watched (.cell n) = true → s.cellState n ≠ csFenced → s.ganged n = false → ∃ t,
          exec (.heartbeatLoss (.cell n)) s = .next t ∧ t.cellState n = csFenced ∧ t.rd (CELL_STATE_FENCE_CAUSE n) = fcCommanded ∧
          (t.cell n).fenceSrc = srcGooseHb ∧ t.reports.any (fun r => r.src == srcGooseHb && r.unit == n.val) = true) ∧
        (s.coop.coreReset = false → s.standbyReady (otherCore s.activeCore) = false → exec (.heartbeatLoss (.core s.activeCore)) s = .next (s.yokeBoth s.activeCore))))

/-- A takeover: while none runs, a third window without a beat on either path, a resignation, a change of the arbiter's grant to the other core and a
write of SWITCH with a hot standby move the token to a standby that can take it; the former active core is isolated and reported, writes are held from
then on, and the cause is recorded. SWITCH without a hot standby is discarded and recorded; a resignation without a standby is YOKE_BOTH, and under
ARB_EXT with one it asks the arbiter, whose timeout is reported; and with no write held, no flush to resume and no descriptor held the new active core
ends the takeover with its duration. The control cycle once the firmware runs, the copy of the standby, checkpoints, and the repair of an isolated
core. Where clauses of it rest on a reading or a choice of the model: notes/assumptions/45, 46, 47, 97. -/
def Obligations.TakeoversOfTheYoke : Prop :=
  (∀ (s : State) (who : Sender) (c : Instr) (cause : Nat),
      (c = .resign ∧ s.rd YOKE_CTL_DET ≠ 2 ∧ cause = 4) ∨
      (c = .switchCore who ∧ Passes s who YOKE_CTL_SWITCH ∧ s.on YOKE_STAT_HOT_READY = true ∧ cause = 6) ∨
      (c = .beatWindow none none false true ∧ (s.rd YOKE_CTL_DET = 0 ∨ s.rd YOKE_CTL_DET = 3) ∧ s.yoke.bothMiss = 2 ∧ s.on GLOBAL_READY_BOOT = true ∧ cause = 1) ∨
      (c = .arbGntChange true false ∧ s.rd YOKE_CTL_DET = 2 ∧ s.activeCore = .b ∧ cause = 5) ∨
      (c = .arbGntChange false true ∧ s.rd YOKE_CTL_DET = 2 ∧ s.activeCore = .a ∧ cause = 5) →
      s.coop.failed = false → s.standbyReady s.standby = true → s.on YOKE_STAT_HOLDING = false →
      ∃ t, exec c s = .next t ∧ t.activeCore = s.standby ∧ t.role s.standby = 0 ∧ 4 ≤ t.role s.activeCore ∧ t.on YOKE_STAT_HOLDING = true ∧
        t.rd YOKE_LAST_CAUSE = cause ∧ t.on YOKE_LAST_COLD = !s.on YOKE_STAT_HOT_READY ∧
        t.rd YOKE_CNT0_FAILOVERS = satNat 16 (s.rd YOKE_CNT0_FAILOVERS + 1) ∧ t.on YOKE_STAT_HOT_READY = false ∧
        t.reports = addReport s.reports ⟨srcYokeCore, coreNum s.activeCore, 2, initYoke, coreNum s.activeCore, accNone, 0, s.faultTime, 0⟩ ∧
        t.mem = s.mem) ∧
  (∀ (s : State) (who : Sender),
      (Passes s who YOKE_CTL_SWITCH → s.on YOKE_STAT_HOT_READY = false → exec (.switchCore who) s = .next
        (s.hostXs who xsRule (Fld.addr YOKE_CTL_SWITCH) true)) ∧
      (s.rd YOKE_CTL_DET ≠ 2 → s.coop.failed = false → s.standbyReady s.standby = false → exec .resign s = .next (s.yokeBoth s.activeCore)) ∧
      (s.rd YOKE_CTL_DET = 2 → s.standbyReady s.standby = true → exec .resign s = .next (s.wr YOKE_STAT_ARB_REQ 1)) ∧
      (s.rd YOKE_CTL_DET = 2 → (s.rd YOKE_STAT_ARB_GNT = 0 ∨ s.rd YOKE_STAT_ARB_GNT = 3) → exec .arbTimeout s = .next s.yokePath) ∧
      (∀ (us : BitVec 24), s.on YOKE_STAT_HOLDING = true → s.heldWrites = [] → s.ledger.flush = none → (∀ q, (s.ring q).held = []) →
        ∃ t, exec (.takeoverComplete us true) s = .next t ∧ t.on YOKE_STAT_HOLDING = false ∧ t.rd YOKE_LAST_DURATION = us.toNat ∧
          SameRegs [YOKE_STAT_HOLDING, YOKE_LAST_DURATION, YOKE_LAST_NO_CKPT] s t ∧ t.mem = s.mem)) ∧
  (∀ (s : State),
      (∀ ha hb, s.on GLOBAL_READY_BOOT = true → ∃ t, exec (.controlCycle ha hb) s = .next t ∧ t.yoke.cycle = (s.yoke.cycle + 1) % 65536 ∧
        t.on YOKE_STAT_HOT_MODE = (decide (s.enabledCells ≤ 32) && !s.on YOKE_CTL_FORCE_COLD) ∧
        t.rd YOKE_STAT_COPY_AGE = satNat 3 (s.rd YOKE_STAT_COPY_AGE + 1) ∧ t.activeCore = s.activeCore ∧ t.mem = s.mem) ∧
      (s.on YOKE_STAT_HOT_MODE = true → s.standbyReady s.standby = true →
        (s.enabledCells ≤ 32 → s.yoke.syncWait = false → ∃ t, exec (.stateCopy true) s = .next t ∧ t.role s.standby = 1 ∧ t.rd YOKE_STAT_COPY_AGE = 0 ∧
          t.on YOKE_STAT_HOT_READY = true ∧ t.reports = s.reports ∧ t.mem = s.mem) ∧
        exec (.stateCopy false) s = .next ((s.bump YOKE_CNT1_COPY_ERR).yokePath)) ∧
      exec (.checkpoint true) s = .next (s.updYoke (fun y => { y with ckpts := (s.now :: y.ckpts).take 2 })) ∧
      exec (.checkpoint false) s = .next s.yokePath ∧
      (∀ core, s.role core = 4 → exec (.repairSelftestDone core true) s = .next (s.setRole core 3) ∧
        (∃ t, exec (.repairSelftestDone core false) s = .next t ∧ t.role core = 6 ∧
          t.reports = addReport s.reports ⟨srcYokeCore, coreNum core, 2, initYoke, coreNum core, accNone, 0, s.faultTime, 0⟩)) ∧
      (∀ core, s.role core = 3 →
        (s.on YOKE_STAT_HOT_MODE = false → ∃ t, exec (.repairSyncDone core true) s = .next t ∧ t.role core = 2 ∧ t.repairs core = s.repairs core + 1 ∧
          t.rd YOKE_CNT0_REPAIRS = satNat 16 (s.rd YOKE_CNT0_REPAIRS + 1)) ∧
        (s.on YOKE_STAT_HOT_MODE = true → ∃ t, exec (.repairSyncDone core true) s = .next t ∧ t.yoke.syncWait = true ∧ t.regs = s.regs)))

/-- Supplies: a watched rail but VDD_CORE out of its range is COOP_SUPPLY of class 3, above its absolute maximum of class 4, and one VSAFE feed with the
other in range only COOP_VSAFE; the rail's voltage is recorded in each; and a rail that is back in range is shown so. PMBus: a poll with no regulator to
poll does nothing, and one reads the single listed regulator of an enabled segment, whose fault is reported as COOP_VCORE; an alert reads the Alert
Response Address; and the mailbox runs one transaction of a command that the Coop uses, and ends it. Where clauses of it rest on a reading or a choice
of the model: notes/assumptions/48, 49. -/
def Obligations.SuppliesAndPmbus : Prop :=
  (∀ (s : State) (rail : Fin 9) (mv : BitVec 16),
      (railIn rail.val mv.toNat = false → s.railWatched rail.val = true → 1 ≤ rail.val →
        ((railLimits rail.val).2.2 < 10 * mv.toNat → exec (.supplyExcursion rail mv) s = .next ((s.setRail rail mv.toNat).supplyFault 4 rail)) ∧
        (10 * mv.toNat ≤ (railLimits rail.val).2.2 → rail.val < 7 → exec (.supplyExcursion rail mv) s = .next
          ((s.setRail rail mv.toNat).supplyFault 3 rail)) ∧
        (10 * mv.toNat ≤ (railLimits rail.val).2.2 → 7 ≤ rail.val → bitOf (s.rd COOP_SUP_STAT_IN_RANGE) (15 - rail.val) = true →
          exec (.supplyExcursion rail mv) s = .next ((s.setRail rail mv.toNat).report srcCoopVsafe 0 1 initCoop 0 accNone rail))) ∧
      (railIn rail.val mv.toNat = true → ∃ t, exec (.supplyInRange rail mv) s = .next t ∧ bitOf (t.rd COOP_SUP_STAT_IN_RANGE) rail.val = true ∧
        t.rd (COOP_SUP_NOW rail) = mv.toNat ∧ t.reports = s.reports ∧ t.mem = s.mem)) ∧
  (∀ (s : State) (who : Sender),
      (∀ rs, (∀ e, e < 32 → s.pmbPolled e = false) → exec (.pmbusPoll rs) s = .next s) ∧
      (∀ r : RegReply, r.fault = true → (∀ e, e < 32 → (s.pmbPolled e = true ↔ e = r.entry.val)) → bitOf (s.rd COOP_PMB_STAT_FAILED) r.entry = false →
        ∃ t, exec (.pmbusPoll [r]) s = .next t ∧ bitOf (t.rd COOP_PMB_STAT_FAILED) r.entry = true ∧
          t.reports.any (fun x => x.src == srcCoopVcore) = true ∧ t.out.length = s.out.length + 3 ∧ t.mem = s.mem) ∧
      (∀ seg, exec (.pmbusAlert seg none) s = .next (s.emit (.pmbus (b2n seg) 0x0C 0 [] true))) ∧
      (Passes s who COOP_PMB_MB0_GO →
        (s.on COOP_PMB_MB2_BUSY = true ∨ s.rd COOP_PMB_MB0_CMD ∉ pmbusCmds → exec (.pmbusMailbox who) s = .next s) ∧
        (s.on COOP_PMB_MB2_BUSY = false → s.rd COOP_PMB_MB0_CMD ∈ pmbusCmds → ∃ t o, exec (.pmbusMailbox who) s = .next t ∧
          t.on COOP_PMB_MB2_BUSY = true ∧ t.out = o :: s.out ∧ SameRegs [COOP_PMB_MB2_BUSY, COOP_PMB_MB2_NACK, COOP_PMB_MB2_PEC_ERR] s t)) ∧
      (∀ data : Word, s.on COOP_PMB_MB2_BUSY = true → ∃ t, exec (.pmbusMailboxDone false false data) s = .next t ∧ t.on COOP_PMB_MB2_BUSY = false ∧
        t.on COOP_PMB_MB2_DONE = true ∧ t.on COOP_PMB_MB2_NACK = false ∧ t.rd COOP_PMB_MB1_DATA = (if s.on COOP_PMB_MB0_READ then
          data.toNat % 2 ^ (8 * min 4 (s.rd COOP_PMB_MB0_LEN)) else s.rd COOP_PMB_MB1_DATA)))

/-- The sequencer of a Coop that works: a step whose rail is in range, or that has none, is followed by the next one, the last one ends the sequence,
and a step whose rail is not in range in time stops it; DOWN, with no cell ARMED or PRINTING, turns off the regulator that was turned on last, or ends.
The die sensors: the values and extremes, and a trip; a self-check that fails enters the safe state with its latch; ARB_ALIVE changes level; gating is
refused for an enabled cell, and otherwise gates cells and takes their registers back to reset; head power is 0 in the safe state and as written
otherwise; and the loss of the reference or the root PLL stops device time, releases the bridges of the axes and is reported. Where clauses of it rest
on a reading or a choice of the model: notes/assumptions/3, 50, 82, 97. -/
def Obligations.SequencerAndCoop : Prop :=
  (∀ (s : State) (who : Sender) (mv : BitVec 16) (p : SeqStep), s.coop.failed = false → s.rd COOP_SEQ_STAT_STATE = 1 → s.coop.down = false →
      s.coop.steps[s.rd COOP_SEQ_STAT_STEP]? = some p → s.rd COOP_SEQ_STAT_STEP < 16 →
      ((9 ≤ p.rail ∨ railIn p.rail mv.toNat = true) →
        (s.rd COOP_SEQ_STAT_STEP + 1 < s.coop.steps.length → s.rd COOP_SEQ_STAT_STEP < 15 → ∃ t, exec (.sequencerStep mv) s = .next t ∧
          t.rd COOP_SEQ_STAT_STEP = s.rd COOP_SEQ_STAT_STEP + 1 ∧ t.rd COOP_SEQ_STAT_STATE = 1) ∧
        (s.rd COOP_SEQ_STAT_STEP + 1 = s.coop.steps.length → ∃ t, exec (.sequencerStep mv) s = .next t ∧ t.rd COOP_SEQ_STAT_STATE = 2 ∧
          t.on COOP_SUP_STAT_SEQ_DONE = true ∧ t.on GLOBAL_READY_SEQ = true ∧ t.coop.watched = 127)) ∧
      (p.rail < 9 → bitOf (s.rd COOP_SUP_STAT_IN_RANGE) p.rail = false → exec .sequencerWaitExpiry s = .next
        (((s.wr COOP_SEQ_STAT_STATE 3).wr COOP_SEQ_STAT_ERR (s.rd COOP_SEQ_STAT_STEP + 1)).supplyFault 3 p.rail)) ∧
      (Passes s who COOP_SEQ_CTL_DOWN → (∀ n, n < 64 → s.cellState n ≠ csArmed ∧ s.cellState n ≠ csPrinting) →
        (s.coop.done = [] → ∃ t, exec (.sequenceDown who) s = .next t ∧ t.rd COOP_SEQ_STAT_STATE = 2 ∧ t.coop.down = false) ∧
        (∀ i is q, s.coop.done = i :: is → s.coop.steps[i]? = some q → ∃ t, exec (.sequenceDown who) s = .next t ∧ t.coop.down = true ∧
          t.coop.done = is ∧ t.out = .pmbus q.seg q.addr 0x01 [0x00] false :: s.out))) ∧
  (∀ (s : State) (who : Sender),
      (∀ temps : Vector (BitVec 16) 16, ∃ t, exec (.thermRead temps) s = .next t ∧
        (∀ i : Fin 16, t.rdS (COOP_TEMP_TEMP i) = temps[i].toInt ∧ t.rdS (COOP_TEMP_TMAX i) = max temps[i].toInt (s.rdS (COOP_TEMP_TMAX i))) ∧
        (s.coop.tripped = false → (∃ i : Fin 16, bitOf (t.rd COOP_THERM2_EXCLUDED) i = false ∧ s.rdS COOP_THERM_T_TRIP ≤ temps[i].toInt) →
          t.reports.any (fun r => r.src == srcThermTrip) = true ∧ t.safeLine = true) ∧ t.mem = s.mem) ∧
      (∀ cause, ∃ t, exec (.coopSelfFail cause) s = .next t ∧ t.coop.failed = true ∧ t.on GOOSE_STATUS_SAFE = true ∧ t.on GOOSE_STATUS_LATCH4 = true ∧
        t.reports.any (fun r => r.src == srcCoopSelf) = true) ∧
      (s.coop.running = true → s.coop.failed = false → exec .arbAliveToggle s = .next (s.updCoop (fun c => { c with alive := !c.alive }))) ∧
      (∀ v : Word, Passes s who COOP_GATE_LO →
        ((∃ n, n < 32 ∧ bitOf v.toNat n = true ∧ s.fused n = false ∧ s.gated n = false ∧ s.on (CELL_CTL_EN n) = true) →
          exec (.gate who false v) s = .next (s.cfgLive who (Fld.addr COOP_GATE_LO))) ∧
        ((∀ n, n < 32 → bitOf v.toNat n = true → s.on (CELL_CTL_EN n) = false ∧ s.on (LINK_PHY_CTL_EN n) = false) → s.part = .kv6464 → s.rd COOP_GATE_LO < 2 ^ 32 →
          ∃ t, exec (.gate who false v) s = .next t ∧ t.rd COOP_GATE_LO = v.toNat ∧ t.rd COOP_GATE_HI = s.rd COOP_GATE_HI ∧
            (∀ n, n < 32 → s.gated n ≠ bitOf v.toNat n → t.rd (CELL_CTL_EN n) = 0 ∧ t.rd (LINK_PHY_CTL_EN n) = 0 ∧ (t.cell n).cur = none ∧
              t.rd (GOOSE_FENCE_STAT_FENCES n) = 0) ∧ t.mem = s.mem)) ∧
      (∀ v : BitVec 8, Passes s who COOP_HEAD_PWR_EN → ∃ t, exec (.headPwr who v) s = .next t ∧
        t.rd COOP_HEAD_PWR_EN = (if s.on GOOSE_STATUS_SAFE then 0 else v.toNat) ∧
        (∀ g, g < 8 → bitOf (t.rd COOP_HEAD_PWR_LEVEL) g = t.headPwr g) ∧ OnlyRegs [COOP_HEAD_PWR_EN, COOP_HEAD_PWR_LEVEL] s t) ∧
      (∀ present, s.on GLOBAL_READY_PLL = true → ∃ t, exec (.referenceLoss present) s = .next t ∧ t.on GLOBAL_READY_PLL = false ∧ t.coop.onRc = true ∧
        t.on TIME_STAT_RUNNING = false ∧ t.on TIME_STAT_VALID = false ∧ t.timeNs = s.timeNs ∧ (∀ a, a < 8 → s.axState a ≠ axOff → (t.axis a).on = false) ∧
        t.auxHigh = [] ∧ t.reports.any (fun r => r.src == (if present then srcCoopPll else srcCoopRef)) = true ∧ t.safe = true))

/-- Start of the Coop and the root clock: a feed that rises lets the Coop leave its reset, which starts the sequence if its table is right and reports
COOP_SUPPLY if it is not; the PLL's lock starts device time, and its timeout is reported; and the core reset is released, into the safe state under
the class 4 latch. Boot: the first slot whose image passes every check runs, with YOKE_B held back where the first slot's copy differs; where neither
passes, VAULT_BOOT is raised as class 3 with both codes. Where clauses of it rest on a reading or a choice of the model: notes/assumptions/51. -/
def Obligations.CoopStartAndBoot : Prop :=
  (∀ (s : State),
      (s.coop.running = false → exec .vsafeRise s = .next (s.updCoop (fun c => { c with rising := true }))) ∧
      (∀ table, s.coop.running = false → s.coop.rising = true → s.coop.failed = false →
        (∀ ps, parseTable table = some ps → ∃ t, exec (.coopResetRelease table) s = .next t ∧ t.coop.running = true ∧ t.coop.hold = true ∧
          t.coop.steps = ps ∧ t.rd COOP_SEQ_STAT_STATE = 1 ∧ t.rd COOP_SEQ_STAT_STEP = 0 ∧ t.on GLOBAL_READY_SEQ = false ∧ t.reports = s.reports) ∧
        (parseTable table = none → ∃ t, exec (.coopResetRelease table) s = .next t ∧ t.coop.running = true ∧ t.rd COOP_SEQ_STAT_STATE = 3 ∧
          t.rd COOP_SEQ_STAT_ERR = 0x1F ∧ t.reports.any (fun r => r.src == srcCoopSupply) = true ∧ t.safeLine = true)) ∧
      (s.coop.pllOn = true → s.on GLOBAL_READY_PLL = false →
        (∃ t, exec .pllLock s = .next t ∧ t.on GLOBAL_READY_PLL = true ∧ t.coop.onRc = false ∧ t.on TIME_STAT_RUNNING = true ∧
          t.on TIME_STAT_SET = s.on TIME_STAT_SET ∧ t.timeNs = s.timeNs) ∧
        (∀ present, exec (.pllLockTimeout present) s = .next (s.report (if present then srcCoopPll else srcCoopRef) 0 3 initCoop 0 accNone 0))) ∧
      (∀ mode, s.coop.running = true → s.coop.coreReset = true → s.on GLOBAL_READY_SEQ = true → s.on GLOBAL_READY_PLL = true →
        (s.on GOOSE_STATUS_LATCH4 = false → ∃ t, exec (.coreResetRelease mode) s = .next t ∧ t.coop.coreReset = false ∧
          t.rd GLOBAL_READY_MODE = mode.toNat ∧ t.on GLOBAL_READY_BOOT_FAIL = (mode == 2) ∧ t.on GOOSE_STATUS_SAFE = s.on GOOSE_STATUS_SAFE) ∧
        (s.on GOOSE_STATUS_LATCH4 = true → ∃ t, exec (.coreResetRelease mode) s = .next t ∧ t.coop.coreReset = false ∧
          t.on GOOSE_STATUS_SAFE = true ∧ t.on GOOSE_STATUS_LATCH4 = true))) ∧
  (∀ (s : State) (a b : Option Image), s.booting = true →
      (∀ match', s.imageCheck a = 0 → ∃ t h, a = some h ∧ exec (.bootComplete a b match') s = .next t ∧ t.on GLOBAL_READY_BOOT = true ∧
        t.coop.hold = false ∧ t.rd VAULT_STAT_BOOT_SLOT = 1 ∧ t.rd VAULT_STAT_SVN = byteAt h.header 4 % 2 ^ 7 ∧
        t.rd VAULT_STAT_KEY_IDX = byteAt h.header 3 ∧ t.role .a = 0 ∧ t.role .b = (if match' then 2 else 5)) ∧
      (∀ match', s.imageCheck a ≠ 0 → s.imageCheck b = 0 → ∃ t, exec (.bootComplete a b match') s = .next t ∧ t.on GLOBAL_READY_BOOT = true ∧
        t.rd VAULT_STAT_BOOT_SLOT = 2 ∧ t.rd VAULT_BOOT_ERR_ERR_A = s.imageCheck a) ∧
      (s.imageCheck a ≠ 0 → s.imageCheck b ≠ 0 → ∃ t, exec (.bootFail a b) s = .next t ∧ t.on GLOBAL_READY_BOOT_FAIL = true ∧
        t.rd VAULT_BOOT_ERR_ERR_A = s.imageCheck a ∧ t.rd VAULT_BOOT_ERR_ERR_B = s.imageCheck b ∧ t.reports = addReport s.reports
          ⟨srcVaultBoot, 0, 3, initNone, 0, accNone, s.imageCheck a + 256 * s.imageCheck b, s.faultTime, 0⟩))

/-- The firmware stages after boot, each once the stages before it have ended: memory training, which fails with a channel untrained or a size that is
not listed; the system region, and the sweep; the self-test of the cells, clean or with one that fails its engine test; the host interface, which
enables the contexts' READY and, in NORMAL mode or the one that acts as it, makes the discovery set; a lane without signal, whose cell is gated; and the
end of discovery with every lane settled. Where clauses of it rest on a reading or a choice of the model: notes/assumptions/51, 61, 98. -/
def Obligations.StartupStages : Prop :=
  ∀ (s : State),
    (∀ gib : BitVec 5, s.on GLOBAL_READY_BOOT = true → s.on GLOBAL_READY_MEM_TRAIN = false → s.on GLOBAL_READY_MEM_FAIL = false →
      (gib = 4 ∨ gib = 8 ∨ gib = 16 → ∃ t, exec (.memTrainDone 15 gib) s = .next t ∧ t.on MEMC_STAT_TRAINED = true ∧
        t.on GLOBAL_READY_MEM_TRAIN = true ∧ t.rd GLOBAL_MEM_SIZE = gib.toNat ∧ t.rd GLOBAL_MEM_SYS_BASE = 1024 * gib.toNat - 1536 ∧
        t.rd MEMC_STAT_CH_OK = 15) ∧
      (∀ ch : BitVec 4, (ch ≠ 15 ∨ (gib ≠ 4 ∧ gib ≠ 8 ∧ gib ≠ 16)) → ∃ t, exec (.memTrainDone ch gib) s = .next t ∧ t.on GLOBAL_READY_MEM_FAIL = true ∧ t.rd MEMC_STAT_CH_OK = ch.toNat ∧
        SameRegs [GLOBAL_READY_MEM_FAIL, MEMC_STAT_CH_OK] s t)) ∧
    (s.on GLOBAL_READY_MEM_TRAIN = true → s.on GLOBAL_READY_SYS_INIT = false → s.on GLOBAL_READY_MEM_FAIL = false →
      (s.rd GLOBAL_MEM_SYS_BASE ≤ 14848 → ∃ t, exec (.sysInitDone true) s = .next t ∧ t.on GLOBAL_READY_SYS_INIT = true ∧
        s.rd GLOBAL_MEM_SYS_BASE ≤ t.rd YOKE_CKPT_BASE ∧ t.rd YOKE_CKPT_BASE < s.rd GLOBAL_MEM_SYS_BASE + 1536 ∧
        SameRegs [GLOBAL_READY_SYS_INIT, YOKE_CKPT_BASE] s t) ∧
      exec (.sysInitDone false) s = .next (s.wr GLOBAL_READY_MEM_FAIL 1)) ∧
    (s.on GLOBAL_READY_SYS_INIT = true → exec .memInitDone s = .next (s.wr GLOBAL_READY_MEM_INIT 1)) ∧
    (s.on GLOBAL_READY_BOOT = true → s.memStaged = true → s.on GLOBAL_READY_CELL_TEST = false →
      exec (.cellTestDone 0 0) s = .next (s.wr GLOBAL_READY_CELL_TEST 1) ∧
      (∀ n : CellId, s.fused n = false → s.gated n = false → s.cellState n ≠ csFenced → s.ganged n = false → ∃ t,
        exec (.cellTestDone (BitVec.ofNat 64 (2 ^ n.val)) 0) s = .next t ∧ t.on GLOBAL_READY_CELL_TEST = true ∧ t.cellState n = csFenced ∧
        t.rd (CELL_STATE_FENCE_CAUSE n) = fcLockstep ∧ t.maskBit GLOBAL_CELL_FAIL_LO GLOBAL_CELL_FAIL_HI n = true)) ∧
    (∀ ms, s.on GLOBAL_READY_BOOT = true → s.memStaged = true → s.on GLOBAL_READY_CELL_TEST = true → s.on GLOBAL_READY_HOST = false → ∃ t, exec (.hostReady ms) s = .next t ∧ t.on GLOBAL_READY_HOST = true ∧
      t.rd GLOBAL_BOOT_TIME_MS = ms.toNat ∧ (∀ k, k < 8 → t.on (HOST_CTX_READY k) = true) ∧
      ((s.rd GLOBAL_READY_MODE = 0 ∨ s.rd GLOBAL_READY_MODE = 3) → ∀ n, n < 64 →
        (n ∈ t.coop.disc ↔ s.fused n = false ∧ s.gated n = false ∧ s.cellState n ≠ csFenced))) ∧
    (∀ n : CellId, s.discovering n = true → s.on (LINK_PHY_CTL_EN n) = true → s.on (LINK_RX_STAT_SIGNAL n) = false → s.fused n = false →
      s.gated n = false → ∃ t, exec (.discoveryNoSignal n) s = .next t ∧ t.gated n = true ∧ t.on (LINK_PHY_CTL_EN n) = false ∧ n.val ∈ t.coop.discGated) ∧
    (s.on GLOBAL_READY_HOST = true → (s.rd GLOBAL_READY_MODE = 0 ∨ s.rd GLOBAL_READY_MODE = 3) → (∀ n ∈ s.coop.disc, s.laneSettled n = true) →
      exec .discoveryDone s = .next (s.wr GLOBAL_READY_DISC 1))

/-- Every reset of the whole device, RESET_N while the Coop runs and the key with FORCE or with no cell ARMED or PRINTING: the cores are held in reset,
nothing of the page store, the rings or the cells remains, OTP stays, and so do the commands that wait, the retained counters of the Ledger and the
class 4 latch, but for a power cycle, which clears both. Without FORCE the key is refused while a cell is ARMED or PRINTING; a block reset resets an
idle Nougat and refuses an enabled one; and boundary scan holds head power and fire low, and the test access port's reset ends it. Where clauses of it
rest on a reading or a choice of the model: notes/assumptions/10, 52. -/
def Obligations.Resets : Prop :=
  (∀ (s : State) (who : Sender) (table : List Byte) (c : Instr) (cause : Nat),
      (c = .powerCycle ∧ cause = 1) ∨ (c = .vsafeLoss ∧ cause = s.rd GLOBAL_RST_CAUSE_CAUSE) ∨ (c = .resetN table ∧ s.coop.running = true ∧ cause = 2) ∨
      (c = .rstKey who table ∧ Passes s who GLOBAL_RST_KEY ∧ s.on GLOBAL_RST_FORCE = true ∧ cause = 4) ∨
      (c = .rstKey who table ∧ Passes s who GLOBAL_RST_KEY ∧ s.on GLOBAL_RST_FORCE = false ∧
        (∀ n, n < 64 → s.cellState n ≠ csArmed ∧ s.cellState n ≠ csPrinting) ∧ cause = 3) →
      ∃ t, exec c s = .next t ∧ t.rd GLOBAL_RST_CAUSE_CAUSE = cause ∧ t.coop.coreReset = true ∧ t.on GLOBAL_READY_BOOT = false ∧
        t.on GLOBAL_READY_HOST = false ∧ t.mem = [] ∧ t.rings = [] ∧ t.cells = [] ∧ t.keys = [] ∧ t.otp = s.otp ∧ t.pending = s.pending ∧ t.timeNs = 0 ∧
        (∀ n, n < 64 → t.on (CELL_CTL_EN n) = false) ∧ (∀ g, t.fireEn g = false) ∧
        (c ≠ .powerCycle → t.on GOOSE_STATUS_LATCH4 = s.on GOOSE_STATUS_LATCH4 ∧ t.rd LEDGER_ON_SECONDS = s.rd LEDGER_ON_SECONDS ∧
          ∀ j, j < 2048 → t.rd (LEDGER_GOOSE_CNT j) = s.rd (LEDGER_GOOSE_CNT j)) ∧
        (c = .powerCycle → t.on GOOSE_STATUS_LATCH4 = false ∧ ∀ j, j < 2048 → t.rd (LEDGER_GOOSE_CNT j) = 0)) ∧
  (∀ (s : State) (who : Sender),
      (∀ table n, Passes s who GLOBAL_RST_KEY → s.on GLOBAL_RST_FORCE = false → n < 64 → (s.cellState n = csArmed ∨ s.cellState n = csPrinting) →
        exec (.rstKey who table) s = .next (s.cfgLive who (Fld.addr GLOBAL_RST_KEY))) ∧
      (Passes s who GLOBAL_BLK_RST_NOUGAT →
        (s.on NOUGAT_CTL_EN = false → (∀ k, k < 8 → s.on (NOUGAT_ARENA_EN k) = false) → exec (.blkRst who 1) s = .next s.resetNougat) ∧
        (s.on NOUGAT_CTL_EN = true → exec (.blkRst who 1) s = .next (s.cfgLive who (Fld.addr GLOBAL_BLK_RST_NOUGAT)))) ∧
      (∃ t, exec (.boundaryScan true) s = .next t ∧ t.bscan = true ∧ t.rd COOP_HEAD_PWR_LEVEL = 0 ∧ (∀ g, t.fireEn g = false) ∧
        (s.bscan = false → t.reports = addReport s.reports ⟨srcStopFire, 0, 2, initCoop, 0, accNone, 0, s.faultTime, 0⟩) ∧
        SameRegs [COOP_HEAD_PWR_LEVEL] s t) ∧
      (∃ t, exec .tapReset s = .next t ∧ t.bscan = false ∧ (∀ g, g < 8 → bitOf (t.rd COOP_HEAD_PWR_LEVEL) g = t.headPwr g) ∧
        SameRegs [COOP_HEAD_PWR_LEVEL] s t ∧ t.reports = s.reports))

/-- Counting and flushes: with no flush waiting for time, an AON second counts while rail 0 is in range, with the temperature of each lane that is UP, and
not otherwise; a flush starts, waits for the one that runs, or is refused under a tamper cause; and outside a takeover a summary that has been written
ends it, where no drop counts follow and nothing waits, while one that could not be written is followed by the next slot. Restore and export: the stage
that runs once before READY.HOST loads the newest summary after a power cycle, or starts the counters fresh, and after another reset they stand; drop
counts are restored after READY.HOST; and an export waits for a flush or forms its record, which is then written to the administrator's host memory.
Where clauses of it rest on a reading or a choice of the model: notes/assumptions/54. -/
def Obligations.LedgerRecords : Prop :=
  (∀ (s : State) (who : Sender),
      (s.ledger.after = none →
        (bitOf (s.rd COOP_SUP_STAT_IN_RANGE) 0 = true → s.rd LEDGER_ON_SECONDS + 1 < 2 ^ 32 → ∃ t, exec .ledgerSecond s = .next t ∧
          t.rd LEDGER_ON_SECONDS = s.rd LEDGER_ON_SECONDS + 1 ∧ (∀ n, n < 64 → s.linkState n = lsUp →
            (let f := LEDGER_HEAD_TEMP_HIST (64 * n + tempBin (s.rdS (CELL_TEMP_STAT_TEMP n)) 8)
             t.rd f = satNat f.width (s.rd f + 1))) ∧ t.mem = s.mem) ∧
        (bitOf (s.rd COOP_SUP_STAT_IN_RANGE) 0 = false → ∃ t, exec .ledgerSecond s = .next t ∧ t.rd LEDGER_ON_SECONDS = s.rd LEDGER_ON_SECONDS ∧
          t.out = s.out ∧ t.mem = s.mem)) ∧
      (Passes s who LEDGER_CTL_FLUSH →
        (s.on VAULT_STAT_TAMPER = true → exec (.flush who) s = .next (s.wr LEDGER_STAT_SIGN_BLOCKED 1)) ∧
        (s.on VAULT_STAT_TAMPER = false → s.on LEDGER_STAT_BUSY = true → exec (.flush who) s = .next
          (s.updLedger (fun l => { l with again := some true }))) ∧
        (s.on VAULT_STAT_TAMPER = false → s.on LEDGER_STAT_BUSY = false → ∃ t f bs, exec (.flush who) s = .next t ∧ t.on LEDGER_STAT_BUSY = true ∧
          t.ledger.flush = some f ∧ f.kind = 1 ∧ f.slot = s.nextSlot 1 ∧ f.dropRec.isSome = s.on LEDGER_STAT_DROP_FLASH ∧
          t.out = .flashWrite (slotOff 1 (s.nextSlot 1 % 30)) bs :: s.out ∧ SameRegs [LEDGER_STAT_BUSY] s t)) ∧
      (∀ f, s.ledger.flush = some f → s.on YOKE_STAT_HOLDING = false → f.kind = 1 →
        (f.dropRec = none → s.ledger.exp = none → s.ledger.again = none → ∃ t, exec (.flushDone true) s = .next t ∧ t.ledger.flush = none ∧
          t.ledger.newSum = some (f.slot % 30, s.nextGen 1) ∧ t.on LEDGER_STAT_BUSY = false ∧ t.on LEDGER_STAT_DONE = true ∧
          t.rd LEDGER_CNT_FLUSHES = satNat 16 (s.rd LEDGER_CNT_FLUSHES + 1) ∧ t.mem = s.mem) ∧
        (f.fails < 2 → ∃ t g, exec (.flushDone false) s = .next t ∧ t.ledger.flush = some g ∧ g.slot = f.slot + 1 ∧ g.fails = f.fails + 1 ∧
          t.rd LEDGER_STAT_ERR = 1 ∧ t.rd LEDGER_CNT_WR_ERR = satNat 16 (s.rd LEDGER_CNT_WR_ERR + 1)))) ∧
  (∀ (s : State) (who : Sender),
      (∀ (kib : BitVec 20) (slots : List (Fin 30 × List Byte)), s.on GLOBAL_READY_MEM_TRAIN = true → s.on GLOBAL_READY_CELL_TEST = true → s.on GLOBAL_READY_HOST = false →
        s.on LEDGER_STAT_FRESH = false → s.ledger.newSum = none →
        (s.rd GLOBAL_RST_CAUSE_CAUSE = 1 → s.newest 1 (slots.map (fun e => (e.1.val, e.2))) = none → ∃ t,
          exec (.ledgerRestore kib slots false) s = .next t ∧ t.on LEDGER_STAT_FRESH = true ∧ t.rd LEDGER_POWER_CYCLES = 1 ∧ t.rd LEDGER_ON_SECONDS = 0 ∧
          (∀ j, j < 2048 → t.rd (LEDGER_GOOSE_CNT j) = 0)) ∧
        (∀ e, s.rd GLOBAL_RST_CAUSE_CAUSE = 1 → s.newest 1 (slots.map (fun e => (e.1.val, e.2))) = some e → ∃ t,
          exec (.ledgerRestore kib slots false) s = .next t ∧ t.rd LEDGER_ON_SECONDS = leAt e.2 24 4 ∧
          t.rd LEDGER_POWER_CYCLES = satNat 32 (leAt e.2 28 4 + 1) ∧ t.ledger.newSum = some (e.1, recordGen e.2)) ∧
        (s.rd GLOBAL_RST_CAUSE_CAUSE ≠ 1 → ∃ t, exec (.ledgerRestore kib slots false) s = .next t ∧
          SameRegs [LEDGER_DROP_SLOTS, LEDGER_STAT_DROP_FLASH, LEDGER_GEN_LO, LEDGER_GEN_HI] s t)) ∧
      (∀ slots : List (BitVec 8 × List Byte), s.ledger.loading = true → s.on GLOBAL_READY_HOST = true →
        (s.newest 2 (slots.map (fun e => (e.1.toNat, e.2))) = none → exec (.dropRestoreDone slots false) s = .next
          (s.updLedger (fun l => { l with loading := false }))) ∧
        (∀ e, s.newest 2 (slots.map (fun e => (e.1.toNat, e.2))) = some e → ∃ t, exec (.dropRestoreDone slots false) s = .next t ∧
          t.on LEDGER_STAT_RESTORED = true ∧ t.ledger.loading = false ∧ t.ledger.newDrop = some (e.1, recordGen e.2) ∧
          SameRegs [LEDGER_STAT_RESTORED] s t)) ∧
      (Passes s who LEDGER_CTL_EXPORT → s.on VAULT_STAT_TAMPER = false → s.ledger.exp = none →
        (∀ f, s.ledger.flush = some f → exec (.ledgerExport who) s = .next
          (s.updLedger (fun l => { l with exp := some (if s.rd LEDGER_CTL_KIND = 2 then 2 else 1, none) }))) ∧
        (s.ledger.flush = none → ∃ t bs, exec (.ledgerExport who) s = .next t ∧ t.on LEDGER_STAT_BUSY = true ∧
          t.ledger.exp = some (if s.rd LEDGER_CTL_KIND = 2 then 2 else 1, some bs) ∧ SameRegs [LEDGER_STAT_BUSY] s t)) ∧
      (∀ kind bs, s.ledger.exp = some (kind, some bs) → s.ledger.again = none → bs.length < 2 ^ 32 →
        (let addr := s.rd2 LEDGER_EXP_ADDR_LO LEDGER_EXP_ADDR_HI / 64 * 64
         addrOk addr = true → isLocal addr = false → s.mayWriteMem s.admin addr bs.length = true → s.reaches s.admin = true →
          s.on (HOST_PORT_L1 (s.admin / 4)) = false → ∃ t,
          exec .exportDone s = .next t ∧ t.out = .hostWrite s.admin addr bs :: s.out ∧ t.rd LEDGER_EXP_LEN = bs.length ∧ t.ledger.exp = none ∧
          t.on LEDGER_STAT_BUSY = false ∧ t.on LEDGER_STAT_DONE = true ∧ SameRegs [LEDGER_EXP_LEN, LEDGER_STAT_BUSY, LEDGER_STAT_DONE] s t)))

/-- Every step keeps the page store in its canonical form: its addresses rise strictly below 16 GiB, and no byte it lists is one that reads as 0
anyway. Where clauses of it rest on a reading or a choice of the model: notes/assumptions/7. -/
def Obligations.StepKeepsThePageStore : Prop := ∀ s t : State, MemOk s → step s = .next t → MemOk t

/-- Fuses only blow: no step takes back a revoked key index, changes the hash of an owner debug key once it is programmed, or lowers the count of
tamper causes, which stays at most 32. Where clauses of it rest on a reading or a choice of the model: notes/assumptions/41. -/
def Obligations.StepKeepsOtp : Prop :=
  ∀ s t : State, step s = .next t →
    (∀ i, bitOf s.otp.revoked i = true → i < 4 → bitOf t.otp.revoked i = true) ∧ (∀ h, s.otp.ownerHash = some h → t.otp.ownerHash = some h) ∧
    (s.otp.tampers ≤ 32 → s.otp.tampers ≤ t.otp.tampers ∧ t.otp.tampers ≤ 32)

/-- In the safe state, with STOP_FIRE latched or its ball low, no group's FIRE_EN is high; and a step that is not a release, an un-latching or a
reset leaves the safe state standing once it is entered: only the end of a release's self-test leaves it, and the resets do, the one held over a
takeover among them. Where clauses of it rest on a reading or a choice of the model: notes/assumptions/43, 60. -/
def Obligations.SafeStateHolds : Prop :=
  (∀ s : State, FireHeld s) ∧
  ∀ (s t : State) (c : Instr), s.on GOOSE_STATUS_SAFE = true → exec c s = .next t → t.on GOOSE_STATUS_SAFE = false →
    c = .safeRelSelftestDone true ∨ c = .powerCycle ∨ c = .vsafeLoss ∨ (∃ b, c = .resetN b) ∨ (∃ w b, c = .rstKey w b) ∨
    (∃ w a z, c = .configWrite w (.reg a) z (some 0xB007)) ∨ (∃ us ok, c = .takeoverComplete us ok)

/-- Right after reset: the state the spec gives. The page store is empty and in its canonical form, nothing waits, no cell is enabled, no page key
is held, the cores are in reset, device time is 0 and not valid, and no head may fire. Where clauses of it rest on a reading or a choice of the
model: notes/assumptions/1, 10, 11, 41. -/
def Obligations.ResetState : Prop :=
  MemOk State.reset ∧ State.reset.mem = [] ∧ State.reset.pending = [] ∧ State.reset.keys = [] ∧ State.reset.coop.coreReset = true ∧
  State.reset.timeNs = 0 ∧ State.reset.on TIME_STAT_VALID = false ∧ State.reset.on GOOSE_STATUS_SAFE = false ∧
  (∀ n, n < 64 → State.reset.cellState n = csOff ∧ State.reset.linkState n = lsOff) ∧ State.reset.rd GLOBAL_RST_CAUSE_CAUSE = 1 ∧
  State.reset.rd (VAULT_SLOT_STAT_OWNER 0) = 15 ∧ State.reset.rd (CELL_GEOM_NOZZLES 0) = 2048 ∧ (∀ g, State.reset.fireEn g = false)
end

