-- ==== Sys2Proof/Laws/Store.lean ====
section
/-!
SUPPORT. The laws of the canonical finite maps: a value read after a write, every other value unchanged, and the canonical form kept.
-/
namespace Sys2Proof.Machine.Store

variable {α : Type}

@[simp] theorem find?_ins_self (m : List (Nat × α)) (k : Nat) (v : α) : find? (ins m k v) k = some v := by
  induction m with
  | nil => simp [ins, find?]
  | cons e m ih =>
    obtain ⟨k', v'⟩ := e
    unfold ins
    split
    · simp [find?]
    · split
      · simp [find?]
      · rename_i h1 h2
        simp [find?, ih, Ne.symm h2]

theorem find?_ins_ne (m : List (Nat × α)) {k j : Nat} (v : α) (h : j ≠ k) : find? (ins m k v) j = find? m j := by
  induction m with
  | nil => simp [ins, find?, Ne.symm h]
  | cons e m ih =>
    obtain ⟨k', v'⟩ := e
    unfold ins
    split
    · simp [find?, Ne.symm h]
    · split
      · rename_i h1 h2
        subst h2
        simp [find?, Ne.symm h]
      · simp [find?, ih]

@[simp] theorem find?_del_self (m : List (Nat × α)) (k : Nat) : find? (del m k) k = none := by
  induction m with
  | nil => simp [del, find?]
  | cons e m ih =>
    obtain ⟨k', v'⟩ := e
    by_cases h : k' = k
    · subst h; simpa [del, List.filter_cons] using ih
    · have : del ((k', v') :: m) k = (k', v') :: del m k := by simp [del, h]
      rw [this]; simp [find?, h, ih]

theorem find?_del_ne (m : List (Nat × α)) {k j : Nat} (h : j ≠ k) : find? (del m k) j = find? m j := by
  induction m with
  | nil => simp [del, find?]
  | cons e m ih =>
    obtain ⟨k', v'⟩ := e
    by_cases hk : k' = k
    · subst hk
      have : del ((k', v') :: m) k' = del m k' := by simp [del]
      rw [this, ih]; simp [find?, Ne.symm h]
    · have : del ((k', v') :: m) k = (k', v') :: del m k := by simp [del, hk]
      rw [this]; simp [find?, ih]

/-- A value read after a write at its key. -/
@[simp] theorem get_put_self [DecidableEq α] (d : α) (m : List (Nat × α)) (k : Nat) (v : α) : get d (put d m k v) k = v := by
  unfold get put
  split
  · rename_i h; simp [h]
  · simp

/-- A write leaves every other key's value. -/
theorem get_put_ne [DecidableEq α] (d d' : α) (m : List (Nat × α)) {k j : Nat} (v : α) (h : j ≠ k) :
    get d' (put d m k v) j = get d' m j := by
  unfold get put
  split
  · rw [find?_del_ne m h]
  · rw [find?_ins_ne m v h]

/-! ## The canonical form -/

/-- Keys above a bound stay above it when a key above it is inserted. -/
theorem rising_ins (m : List (Nat × α)) (k : Nat) (v : α) (b : Option Nat) (hb : ∀ c, b = some c → c < k) (h : rising b m = true) :
    rising b (ins m k v) = true := by
  induction m generalizing b with
  | nil => cases b <;> simp_all [ins, rising]
  | cons e m ih =>
    obtain ⟨k', v'⟩ := e
    unfold ins
    split
    · cases b <;> simp_all [rising]
    · split
      · cases b <;> simp_all [rising]
      · have hlt : k' < k := by omega
        cases b with
        | none => exact ih (some k') (by intro c hc; cases hc; exact hlt) (by simpa [rising] using h)
        | some c =>
          simp only [rising, Bool.and_eq_true, decide_eq_true_eq] at h ⊢
          exact ⟨h.1, ih (some k') (by intro c hc; cases hc; exact hlt) h.2⟩

/-- A lower bound may be lowered. -/
theorem rising_weaken (m : List (Nat × α)) {b c : Nat} (hbc : b ≤ c) (h : rising (some c) m = true) : rising (some b) m = true := by
  cases m with
  | nil => simp [rising]
  | cons e m =>
    obtain ⟨k, v⟩ := e
    simp only [rising, Bool.and_eq_true, decide_eq_true_eq] at h ⊢
    exact ⟨by omega, h.2⟩

/-- Leaving out entries keeps the keys rising. -/
theorem rising_filter (m : List (Nat × α)) (p : Nat × α → Bool) (b : Option Nat) (h : rising b m = true) :
    rising b (m.filter p) = true := by
  induction m generalizing b with
  | nil => simpa using h
  | cons e m ih =>
    obtain ⟨k, v⟩ := e
    by_cases hp : p (k, v) = true
    · rw [List.filter_cons_of_pos hp]
      cases b with
      | none => exact ih (some k) (by simpa [rising] using h)
      | some c =>
        simp only [rising, Bool.and_eq_true, decide_eq_true_eq] at h ⊢
        exact ⟨h.1, ih (some k) h.2⟩
    · rw [List.filter_cons_of_neg hp]
      cases b with
      | none =>
        have := ih (some k) (by simpa [rising] using h)
        cases hm : m.filter p with
        | nil => simp [rising]
        | cons e' m' =>
          rw [hm] at this
          simp only [rising, Bool.and_eq_true] at this ⊢
          exact this.2
      | some c =>
        simp only [rising, Bool.and_eq_true, decide_eq_true_eq] at h
        exact rising_weaken _ (Nat.le_of_lt h.1) (ih (some k) h.2)

theorem mem_ins (m : List (Nat × α)) (k : Nat) (v : α) (e : Nat × α) (h : e ∈ ins m k v) : e = (k, v) ∨ e ∈ m := by
  induction m with
  | nil => simpa [ins] using h
  | cons x m ih =>
    obtain ⟨k', v'⟩ := x
    unfold ins at h
    split at h
    · simpa using h
    · split at h
      · rcases List.mem_cons.1 h with h | h
        · exact .inl h
        · exact .inr (List.mem_cons_of_mem _ h)
      · rcases List.mem_cons.1 h with h | h
        · exact .inr (by rw [h]; exact List.mem_cons_self)
        · rcases ih h with h | h
          · exact .inl h
          · exact .inr (List.mem_cons_of_mem _ h)

/-- A write keeps the canonical form. -/
theorem wf_put [DecidableEq α] (d : α) (m : List (Nat × α)) (k : Nat) (v : α) (h : wf d m = true) : wf d (put d m k v) = true := by
  simp only [wf, Bool.and_eq_true, List.all_eq_true, decide_eq_true_eq] at h ⊢
  unfold put
  split
  · refine ⟨rising_filter m _ none h.1, ?_⟩
    intro e he
    exact h.2 e (List.mem_filter.1 he).1
  · rename_i hv
    refine ⟨rising_ins m k v none (by simp) h.1, ?_⟩
    intro e he
    rcases mem_ins m k v e he with rfl | he
    · exact hv
    · exact h.2 e he

/-- The empty map is canonical. -/
@[simp] theorem wf_nil [DecidableEq α] (d : α) : wf d ([] : List (Nat × α)) = true := rfl

end Sys2Proof.Machine.Store
end

