-- ==== Sys2Proof/Laws/State.lean ====
section
/-!
SUPPORT. What each update of the state leaves: one lemma per field and update, so that no proof unfolds a record update; and what a register
field reads after a write.
-/
namespace Sys2Proof.Machine

open Sys2Proof

/-! ### wr -/

@[simp] theorem State.wr_pending (s : State) (f : Fld) (v : Nat) : (s.wr f v).pending = s.pending := rfl
@[simp] theorem State.wr_part (s : State) (f : Fld) (v : Nat) : (s.wr f v).part = s.part := rfl
@[simp] theorem State.wr_force (s : State) (f : Fld) (v : Nat) : (s.wr f v).force = s.force := rfl
@[simp] theorem State.wr_mem (s : State) (f : Fld) (v : Nat) : (s.wr f v).mem = s.mem := rfl
@[simp] theorem State.wr_badWords (s : State) (f : Fld) (v : Nat) : (s.wr f v).badWords = s.badWords := rfl
@[simp] theorem State.wr_timeNs (s : State) (f : Fld) (v : Nat) : (s.wr f v).timeNs = s.timeNs := rfl
@[simp] theorem State.wr_timeFrac (s : State) (f : Fld) (v : Nat) : (s.wr f v).timeFrac = s.timeFrac := rfl
@[simp] theorem State.wr_drawn (s : State) (f : Fld) (v : Nat) : (s.wr f v).drawn = s.drawn := rfl
@[simp] theorem State.wr_ctxs (s : State) (f : Fld) (v : Nat) : (s.wr f v).ctxs = s.ctxs := rfl
@[simp] theorem State.wr_rings (s : State) (f : Fld) (v : Nat) : (s.wr f v).rings = s.rings := rfl
@[simp] theorem State.wr_cells (s : State) (f : Fld) (v : Nat) : (s.wr f v).cells = s.cells := rfl
@[simp] theorem State.wr_nougat (s : State) (f : Fld) (v : Nat) : (s.wr f v).nougat = s.nougat := rfl
@[simp] theorem State.wr_reports (s : State) (f : Fld) (v : Nat) : (s.wr f v).reports = s.reports := rfl
@[simp] theorem State.wr_safeLine (s : State) (f : Fld) (v : Nat) : (s.wr f v).safeLine = s.safeLine := rfl
@[simp] theorem State.wr_stopFireN (s : State) (f : Fld) (v : Nat) : (s.wr f v).stopFireN = s.stopFireN := rfl
@[simp] theorem State.wr_stopFireLatch (s : State) (f : Fld) (v : Nat) : (s.wr f v).stopFireLatch = s.stopFireLatch := rfl
@[simp] theorem State.wr_bscan (s : State) (f : Fld) (v : Nat) : (s.wr f v).bscan = s.bscan := rfl
@[simp] theorem State.wr_links (s : State) (f : Fld) (v : Nat) : (s.wr f v).links = s.links := rfl
@[simp] theorem State.wr_drops (s : State) (f : Fld) (v : Nat) : (s.wr f v).drops = s.drops := rfl
@[simp] theorem State.wr_keys (s : State) (f : Fld) (v : Nat) : (s.wr f v).keys = s.keys := rfl
@[simp] theorem State.wr_otp (s : State) (f : Fld) (v : Nat) : (s.wr f v).otp = s.otp := rfl
@[simp] theorem State.wr_vault (s : State) (f : Fld) (v : Nat) : (s.wr f v).vault = s.vault := rfl
@[simp] theorem State.wr_gov (s : State) (f : Fld) (v : Nat) : (s.wr f v).gov = s.gov := rfl
@[simp] theorem State.wr_goose (s : State) (f : Fld) (v : Nat) : (s.wr f v).goose = s.goose := rfl
@[simp] theorem State.wr_yoke (s : State) (f : Fld) (v : Nat) : (s.wr f v).yoke = s.yoke := rfl
@[simp] theorem State.wr_coop (s : State) (f : Fld) (v : Nat) : (s.wr f v).coop = s.coop := rfl
@[simp] theorem State.wr_heldWrites (s : State) (f : Fld) (v : Nat) : (s.wr f v).heldWrites = s.heldWrites := rfl
@[simp] theorem State.wr_ledger (s : State) (f : Fld) (v : Nat) : (s.wr f v).ledger = s.ledger := rfl
@[simp] theorem State.wr_encs (s : State) (f : Fld) (v : Nat) : (s.wr f v).encs = s.encs := rfl
@[simp] theorem State.wr_pairs (s : State) (f : Fld) (v : Nat) : (s.wr f v).pairs = s.pairs := rfl
@[simp] theorem State.wr_virt (s : State) (f : Fld) (v : Nat) : (s.wr f v).virt = s.virt := rfl
@[simp] theorem State.wr_pipes (s : State) (f : Fld) (v : Nat) : (s.wr f v).pipes = s.pipes := rfl
@[simp] theorem State.wr_cciJobs (s : State) (f : Fld) (v : Nat) : (s.wr f v).cciJobs = s.cciJobs := rfl
@[simp] theorem State.wr_ladders (s : State) (f : Fld) (v : Nat) : (s.wr f v).ladders = s.ladders := rfl
@[simp] theorem State.wr_axes (s : State) (f : Fld) (v : Nat) : (s.wr f v).axes = s.axes := rfl
@[simp] theorem State.wr_slots (s : State) (f : Fld) (v : Nat) : (s.wr f v).slots = s.slots := rfl
@[simp] theorem State.wr_loopTick (s : State) (f : Fld) (v : Nat) : (s.wr f v).loopTick = s.loopTick := rfl
@[simp] theorem State.wr_ainFirst (s : State) (f : Fld) (v : Nat) : (s.wr f v).ainFirst = s.ainFirst := rfl
@[simp] theorem State.wr_auxHigh (s : State) (f : Fld) (v : Nat) : (s.wr f v).auxHigh = s.auxHigh := rfl
@[simp] theorem State.wr_time (s : State) (f : Fld) (v : Nat) : (s.wr f v).time = s.time := rfl
@[simp] theorem State.wr_nets (s : State) (f : Fld) (v : Nat) : (s.wr f v).nets = s.nets := rfl
@[simp] theorem State.wr_out (s : State) (f : Fld) (v : Nat) : (s.wr f v).out = s.out := rfl
@[simp] theorem State.wr_caps (s : State) (f : Fld) (v : Nat) : (s.wr f v).caps = s.caps := rfl
@[simp] theorem State.wr_l1Held (s : State) (f : Fld) (v : Nat) : (s.wr f v).l1Held = s.l1Held := rfl
@[simp] theorem State.wr_rdF (s : State) (f : Fld) (v : Nat) (x : Fld) : (s.wr f v).rdF x = s.rdF x := rfl
@[simp] theorem State.wr_cell (s : State) (f : Fld) (v : Nat) (x : Nat) : (s.wr f v).cell x = s.cell x := rfl
@[simp] theorem State.wr_ring (s : State) (f : Fld) (v : Nat) (x : Nat) : (s.wr f v).ring x = s.ring x := rfl
@[simp] theorem State.wr_ctx (s : State) (f : Fld) (v : Nat) (x : Nat) : (s.wr f v).ctx x = s.ctx x := rfl
@[simp] theorem State.wr_link (s : State) (f : Fld) (v : Nat) (x : Nat) : (s.wr f v).link x = s.link x := rfl
@[simp] theorem State.wr_pipe (s : State) (f : Fld) (v : Nat) (x : Nat) : (s.wr f v).pipe x = s.pipe x := rfl
@[simp] theorem State.wr_cci (s : State) (f : Fld) (v : Nat) (x : Nat) : (s.wr f v).cci x = s.cci x := rfl
@[simp] theorem State.wr_net (s : State) (f : Fld) (v : Nat) (x : Nat) : (s.wr f v).net x = s.net x := rfl
@[simp] theorem State.wr_enc (s : State) (f : Fld) (v : Nat) (x : Nat) : (s.wr f v).enc x = s.enc x := rfl
@[simp] theorem State.wr_pair (s : State) (f : Fld) (v : Nat) (x : Nat) : (s.wr f v).pair x = s.pair x := rfl
@[simp] theorem State.wr_axis (s : State) (f : Fld) (v : Nat) (x : Nat) : (s.wr f v).axis x = s.axis x := rfl
@[simp] theorem State.wr_slot (s : State) (f : Fld) (v : Nat) (x : Nat) : (s.wr f v).slot x = s.slot x := rfl

/-! ### wrForce -/

@[simp] theorem State.wrForce_pending (s : State) (f : Fld) (v : Nat) : (s.wrForce f v).pending = s.pending := rfl
@[simp] theorem State.wrForce_part (s : State) (f : Fld) (v : Nat) : (s.wrForce f v).part = s.part := rfl
@[simp] theorem State.wrForce_regs (s : State) (f : Fld) (v : Nat) : (s.wrForce f v).regs = s.regs := rfl
@[simp] theorem State.wrForce_mem (s : State) (f : Fld) (v : Nat) : (s.wrForce f v).mem = s.mem := rfl
@[simp] theorem State.wrForce_badWords (s : State) (f : Fld) (v : Nat) : (s.wrForce f v).badWords = s.badWords := rfl
@[simp] theorem State.wrForce_timeNs (s : State) (f : Fld) (v : Nat) : (s.wrForce f v).timeNs = s.timeNs := rfl
@[simp] theorem State.wrForce_timeFrac (s : State) (f : Fld) (v : Nat) : (s.wrForce f v).timeFrac = s.timeFrac := rfl
@[simp] theorem State.wrForce_drawn (s : State) (f : Fld) (v : Nat) : (s.wrForce f v).drawn = s.drawn := rfl
@[simp] theorem State.wrForce_ctxs (s : State) (f : Fld) (v : Nat) : (s.wrForce f v).ctxs = s.ctxs := rfl
@[simp] theorem State.wrForce_rings (s : State) (f : Fld) (v : Nat) : (s.wrForce f v).rings = s.rings := rfl
@[simp] theorem State.wrForce_cells (s : State) (f : Fld) (v : Nat) : (s.wrForce f v).cells = s.cells := rfl
@[simp] theorem State.wrForce_nougat (s : State) (f : Fld) (v : Nat) : (s.wrForce f v).nougat = s.nougat := rfl
@[simp] theorem State.wrForce_reports (s : State) (f : Fld) (v : Nat) : (s.wrForce f v).reports = s.reports := rfl
@[simp] theorem State.wrForce_safeLine (s : State) (f : Fld) (v : Nat) : (s.wrForce f v).safeLine = s.safeLine := rfl
@[simp] theorem State.wrForce_stopFireN (s : State) (f : Fld) (v : Nat) : (s.wrForce f v).stopFireN = s.stopFireN := rfl
@[simp] theorem State.wrForce_stopFireLatch (s : State) (f : Fld) (v : Nat) : (s.wrForce f v).stopFireLatch = s.stopFireLatch := rfl
@[simp] theorem State.wrForce_bscan (s : State) (f : Fld) (v : Nat) : (s.wrForce f v).bscan = s.bscan := rfl
@[simp] theorem State.wrForce_links (s : State) (f : Fld) (v : Nat) : (s.wrForce f v).links = s.links := rfl
@[simp] theorem State.wrForce_drops (s : State) (f : Fld) (v : Nat) : (s.wrForce f v).drops = s.drops := rfl
@[simp] theorem State.wrForce_keys (s : State) (f : Fld) (v : Nat) : (s.wrForce f v).keys = s.keys := rfl
@[simp] theorem State.wrForce_otp (s : State) (f : Fld) (v : Nat) : (s.wrForce f v).otp = s.otp := rfl
@[simp] theorem State.wrForce_vault (s : State) (f : Fld) (v : Nat) : (s.wrForce f v).vault = s.vault := rfl
@[simp] theorem State.wrForce_gov (s : State) (f : Fld) (v : Nat) : (s.wrForce f v).gov = s.gov := rfl
@[simp] theorem State.wrForce_goose (s : State) (f : Fld) (v : Nat) : (s.wrForce f v).goose = s.goose := rfl
@[simp] theorem State.wrForce_yoke (s : State) (f : Fld) (v : Nat) : (s.wrForce f v).yoke = s.yoke := rfl
@[simp] theorem State.wrForce_coop (s : State) (f : Fld) (v : Nat) : (s.wrForce f v).coop = s.coop := rfl
@[simp] theorem State.wrForce_heldWrites (s : State) (f : Fld) (v : Nat) : (s.wrForce f v).heldWrites = s.heldWrites := rfl
@[simp] theorem State.wrForce_ledger (s : State) (f : Fld) (v : Nat) : (s.wrForce f v).ledger = s.ledger := rfl
@[simp] theorem State.wrForce_encs (s : State) (f : Fld) (v : Nat) : (s.wrForce f v).encs = s.encs := rfl
@[simp] theorem State.wrForce_pairs (s : State) (f : Fld) (v : Nat) : (s.wrForce f v).pairs = s.pairs := rfl
@[simp] theorem State.wrForce_virt (s : State) (f : Fld) (v : Nat) : (s.wrForce f v).virt = s.virt := rfl
@[simp] theorem State.wrForce_pipes (s : State) (f : Fld) (v : Nat) : (s.wrForce f v).pipes = s.pipes := rfl
@[simp] theorem State.wrForce_cciJobs (s : State) (f : Fld) (v : Nat) : (s.wrForce f v).cciJobs = s.cciJobs := rfl
@[simp] theorem State.wrForce_ladders (s : State) (f : Fld) (v : Nat) : (s.wrForce f v).ladders = s.ladders := rfl
@[simp] theorem State.wrForce_axes (s : State) (f : Fld) (v : Nat) : (s.wrForce f v).axes = s.axes := rfl
@[simp] theorem State.wrForce_slots (s : State) (f : Fld) (v : Nat) : (s.wrForce f v).slots = s.slots := rfl
@[simp] theorem State.wrForce_loopTick (s : State) (f : Fld) (v : Nat) : (s.wrForce f v).loopTick = s.loopTick := rfl
@[simp] theorem State.wrForce_ainFirst (s : State) (f : Fld) (v : Nat) : (s.wrForce f v).ainFirst = s.ainFirst := rfl
@[simp] theorem State.wrForce_auxHigh (s : State) (f : Fld) (v : Nat) : (s.wrForce f v).auxHigh = s.auxHigh := rfl
@[simp] theorem State.wrForce_time (s : State) (f : Fld) (v : Nat) : (s.wrForce f v).time = s.time := rfl
@[simp] theorem State.wrForce_nets (s : State) (f : Fld) (v : Nat) : (s.wrForce f v).nets = s.nets := rfl
@[simp] theorem State.wrForce_out (s : State) (f : Fld) (v : Nat) : (s.wrForce f v).out = s.out := rfl
@[simp] theorem State.wrForce_caps (s : State) (f : Fld) (v : Nat) : (s.wrForce f v).caps = s.caps := rfl
@[simp] theorem State.wrForce_l1Held (s : State) (f : Fld) (v : Nat) : (s.wrForce f v).l1Held = s.l1Held := rfl
@[simp] theorem State.wrForce_rd (s : State) (f : Fld) (v : Nat) (x : Fld) : (s.wrForce f v).rd x = s.rd x := rfl
@[simp] theorem State.wrForce_on (s : State) (f : Fld) (v : Nat) (x : Fld) : (s.wrForce f v).on x = s.on x := rfl
@[simp] theorem State.wrForce_rdS (s : State) (f : Fld) (v : Nat) (x : Fld) : (s.wrForce f v).rdS x = s.rdS x := rfl
@[simp] theorem State.wrForce_cell (s : State) (f : Fld) (v : Nat) (x : Nat) : (s.wrForce f v).cell x = s.cell x := rfl
@[simp] theorem State.wrForce_ring (s : State) (f : Fld) (v : Nat) (x : Nat) : (s.wrForce f v).ring x = s.ring x := rfl
@[simp] theorem State.wrForce_ctx (s : State) (f : Fld) (v : Nat) (x : Nat) : (s.wrForce f v).ctx x = s.ctx x := rfl
@[simp] theorem State.wrForce_link (s : State) (f : Fld) (v : Nat) (x : Nat) : (s.wrForce f v).link x = s.link x := rfl
@[simp] theorem State.wrForce_pipe (s : State) (f : Fld) (v : Nat) (x : Nat) : (s.wrForce f v).pipe x = s.pipe x := rfl
@[simp] theorem State.wrForce_cci (s : State) (f : Fld) (v : Nat) (x : Nat) : (s.wrForce f v).cci x = s.cci x := rfl
@[simp] theorem State.wrForce_net (s : State) (f : Fld) (v : Nat) (x : Nat) : (s.wrForce f v).net x = s.net x := rfl
@[simp] theorem State.wrForce_enc (s : State) (f : Fld) (v : Nat) (x : Nat) : (s.wrForce f v).enc x = s.enc x := rfl
@[simp] theorem State.wrForce_pair (s : State) (f : Fld) (v : Nat) (x : Nat) : (s.wrForce f v).pair x = s.pair x := rfl
@[simp] theorem State.wrForce_axis (s : State) (f : Fld) (v : Nat) (x : Nat) : (s.wrForce f v).axis x = s.axis x := rfl
@[simp] theorem State.wrForce_slot (s : State) (f : Fld) (v : Nat) (x : Nat) : (s.wrForce f v).slot x = s.slot x := rfl

/-! ### enforce -/

@[simp] theorem State.enforce_pending (s : State) (f : Fld) : (s.enforce f).pending = s.pending := rfl
@[simp] theorem State.enforce_part (s : State) (f : Fld) : (s.enforce f).part = s.part := rfl
@[simp] theorem State.enforce_regs (s : State) (f : Fld) : (s.enforce f).regs = s.regs := rfl
@[simp] theorem State.enforce_mem (s : State) (f : Fld) : (s.enforce f).mem = s.mem := rfl
@[simp] theorem State.enforce_badWords (s : State) (f : Fld) : (s.enforce f).badWords = s.badWords := rfl
@[simp] theorem State.enforce_timeNs (s : State) (f : Fld) : (s.enforce f).timeNs = s.timeNs := rfl
@[simp] theorem State.enforce_timeFrac (s : State) (f : Fld) : (s.enforce f).timeFrac = s.timeFrac := rfl
@[simp] theorem State.enforce_drawn (s : State) (f : Fld) : (s.enforce f).drawn = s.drawn := rfl
@[simp] theorem State.enforce_ctxs (s : State) (f : Fld) : (s.enforce f).ctxs = s.ctxs := rfl
@[simp] theorem State.enforce_rings (s : State) (f : Fld) : (s.enforce f).rings = s.rings := rfl
@[simp] theorem State.enforce_cells (s : State) (f : Fld) : (s.enforce f).cells = s.cells := rfl
@[simp] theorem State.enforce_nougat (s : State) (f : Fld) : (s.enforce f).nougat = s.nougat := rfl
@[simp] theorem State.enforce_reports (s : State) (f : Fld) : (s.enforce f).reports = s.reports := rfl
@[simp] theorem State.enforce_safeLine (s : State) (f : Fld) : (s.enforce f).safeLine = s.safeLine := rfl
@[simp] theorem State.enforce_stopFireN (s : State) (f : Fld) : (s.enforce f).stopFireN = s.stopFireN := rfl
@[simp] theorem State.enforce_stopFireLatch (s : State) (f : Fld) : (s.enforce f).stopFireLatch = s.stopFireLatch := rfl
@[simp] theorem State.enforce_bscan (s : State) (f : Fld) : (s.enforce f).bscan = s.bscan := rfl
@[simp] theorem State.enforce_links (s : State) (f : Fld) : (s.enforce f).links = s.links := rfl
@[simp] theorem State.enforce_drops (s : State) (f : Fld) : (s.enforce f).drops = s.drops := rfl
@[simp] theorem State.enforce_keys (s : State) (f : Fld) : (s.enforce f).keys = s.keys := rfl
@[simp] theorem State.enforce_otp (s : State) (f : Fld) : (s.enforce f).otp = s.otp := rfl
@[simp] theorem State.enforce_vault (s : State) (f : Fld) : (s.enforce f).vault = s.vault := rfl
@[simp] theorem State.enforce_gov (s : State) (f : Fld) : (s.enforce f).gov = s.gov := rfl
@[simp] theorem State.enforce_goose (s : State) (f : Fld) : (s.enforce f).goose = s.goose := rfl
@[simp] theorem State.enforce_yoke (s : State) (f : Fld) : (s.enforce f).yoke = s.yoke := rfl
@[simp] theorem State.enforce_coop (s : State) (f : Fld) : (s.enforce f).coop = s.coop := rfl
@[simp] theorem State.enforce_heldWrites (s : State) (f : Fld) : (s.enforce f).heldWrites = s.heldWrites := rfl
@[simp] theorem State.enforce_ledger (s : State) (f : Fld) : (s.enforce f).ledger = s.ledger := rfl
@[simp] theorem State.enforce_encs (s : State) (f : Fld) : (s.enforce f).encs = s.encs := rfl
@[simp] theorem State.enforce_pairs (s : State) (f : Fld) : (s.enforce f).pairs = s.pairs := rfl
@[simp] theorem State.enforce_virt (s : State) (f : Fld) : (s.enforce f).virt = s.virt := rfl
@[simp] theorem State.enforce_pipes (s : State) (f : Fld) : (s.enforce f).pipes = s.pipes := rfl
@[simp] theorem State.enforce_cciJobs (s : State) (f : Fld) : (s.enforce f).cciJobs = s.cciJobs := rfl
@[simp] theorem State.enforce_ladders (s : State) (f : Fld) : (s.enforce f).ladders = s.ladders := rfl
@[simp] theorem State.enforce_axes (s : State) (f : Fld) : (s.enforce f).axes = s.axes := rfl
@[simp] theorem State.enforce_slots (s : State) (f : Fld) : (s.enforce f).slots = s.slots := rfl
@[simp] theorem State.enforce_loopTick (s : State) (f : Fld) : (s.enforce f).loopTick = s.loopTick := rfl
@[simp] theorem State.enforce_ainFirst (s : State) (f : Fld) : (s.enforce f).ainFirst = s.ainFirst := rfl
@[simp] theorem State.enforce_auxHigh (s : State) (f : Fld) : (s.enforce f).auxHigh = s.auxHigh := rfl
@[simp] theorem State.enforce_time (s : State) (f : Fld) : (s.enforce f).time = s.time := rfl
@[simp] theorem State.enforce_nets (s : State) (f : Fld) : (s.enforce f).nets = s.nets := rfl
@[simp] theorem State.enforce_out (s : State) (f : Fld) : (s.enforce f).out = s.out := rfl
@[simp] theorem State.enforce_caps (s : State) (f : Fld) : (s.enforce f).caps = s.caps := rfl
@[simp] theorem State.enforce_l1Held (s : State) (f : Fld) : (s.enforce f).l1Held = s.l1Held := rfl
@[simp] theorem State.enforce_rd (s : State) (f : Fld) (x : Fld) : (s.enforce f).rd x = s.rd x := rfl
@[simp] theorem State.enforce_on (s : State) (f : Fld) (x : Fld) : (s.enforce f).on x = s.on x := rfl
@[simp] theorem State.enforce_rdS (s : State) (f : Fld) (x : Fld) : (s.enforce f).rdS x = s.rdS x := rfl
@[simp] theorem State.enforce_cell (s : State) (f : Fld) (x : Nat) : (s.enforce f).cell x = s.cell x := rfl
@[simp] theorem State.enforce_ring (s : State) (f : Fld) (x : Nat) : (s.enforce f).ring x = s.ring x := rfl
@[simp] theorem State.enforce_ctx (s : State) (f : Fld) (x : Nat) : (s.enforce f).ctx x = s.ctx x := rfl
@[simp] theorem State.enforce_link (s : State) (f : Fld) (x : Nat) : (s.enforce f).link x = s.link x := rfl
@[simp] theorem State.enforce_pipe (s : State) (f : Fld) (x : Nat) : (s.enforce f).pipe x = s.pipe x := rfl
@[simp] theorem State.enforce_cci (s : State) (f : Fld) (x : Nat) : (s.enforce f).cci x = s.cci x := rfl
@[simp] theorem State.enforce_net (s : State) (f : Fld) (x : Nat) : (s.enforce f).net x = s.net x := rfl
@[simp] theorem State.enforce_enc (s : State) (f : Fld) (x : Nat) : (s.enforce f).enc x = s.enc x := rfl
@[simp] theorem State.enforce_pair (s : State) (f : Fld) (x : Nat) : (s.enforce f).pair x = s.pair x := rfl
@[simp] theorem State.enforce_axis (s : State) (f : Fld) (x : Nat) : (s.enforce f).axis x = s.axis x := rfl
@[simp] theorem State.enforce_slot (s : State) (f : Fld) (x : Nat) : (s.enforce f).slot x = s.slot x := rfl

/-! ### emit -/

@[simp] theorem State.emit_pending (s : State) (o : Out) : (s.emit o).pending = s.pending := rfl
@[simp] theorem State.emit_part (s : State) (o : Out) : (s.emit o).part = s.part := rfl
@[simp] theorem State.emit_regs (s : State) (o : Out) : (s.emit o).regs = s.regs := rfl
@[simp] theorem State.emit_force (s : State) (o : Out) : (s.emit o).force = s.force := rfl
@[simp] theorem State.emit_mem (s : State) (o : Out) : (s.emit o).mem = s.mem := rfl
@[simp] theorem State.emit_badWords (s : State) (o : Out) : (s.emit o).badWords = s.badWords := rfl
@[simp] theorem State.emit_timeNs (s : State) (o : Out) : (s.emit o).timeNs = s.timeNs := rfl
@[simp] theorem State.emit_timeFrac (s : State) (o : Out) : (s.emit o).timeFrac = s.timeFrac := rfl
@[simp] theorem State.emit_drawn (s : State) (o : Out) : (s.emit o).drawn = s.drawn := rfl
@[simp] theorem State.emit_ctxs (s : State) (o : Out) : (s.emit o).ctxs = s.ctxs := rfl
@[simp] theorem State.emit_rings (s : State) (o : Out) : (s.emit o).rings = s.rings := rfl
@[simp] theorem State.emit_cells (s : State) (o : Out) : (s.emit o).cells = s.cells := rfl
@[simp] theorem State.emit_nougat (s : State) (o : Out) : (s.emit o).nougat = s.nougat := rfl
@[simp] theorem State.emit_reports (s : State) (o : Out) : (s.emit o).reports = s.reports := rfl
@[simp] theorem State.emit_safeLine (s : State) (o : Out) : (s.emit o).safeLine = s.safeLine := rfl
@[simp] theorem State.emit_stopFireN (s : State) (o : Out) : (s.emit o).stopFireN = s.stopFireN := rfl
@[simp] theorem State.emit_stopFireLatch (s : State) (o : Out) : (s.emit o).stopFireLatch = s.stopFireLatch := rfl
@[simp] theorem State.emit_bscan (s : State) (o : Out) : (s.emit o).bscan = s.bscan := rfl
@[simp] theorem State.emit_links (s : State) (o : Out) : (s.emit o).links = s.links := rfl
@[simp] theorem State.emit_drops (s : State) (o : Out) : (s.emit o).drops = s.drops := rfl
@[simp] theorem State.emit_keys (s : State) (o : Out) : (s.emit o).keys = s.keys := rfl
@[simp] theorem State.emit_otp (s : State) (o : Out) : (s.emit o).otp = s.otp := rfl
@[simp] theorem State.emit_vault (s : State) (o : Out) : (s.emit o).vault = s.vault := rfl
@[simp] theorem State.emit_gov (s : State) (o : Out) : (s.emit o).gov = s.gov := rfl
@[simp] theorem State.emit_goose (s : State) (o : Out) : (s.emit o).goose = s.goose := rfl
@[simp] theorem State.emit_yoke (s : State) (o : Out) : (s.emit o).yoke = s.yoke := rfl
@[simp] theorem State.emit_coop (s : State) (o : Out) : (s.emit o).coop = s.coop := rfl
@[simp] theorem State.emit_heldWrites (s : State) (o : Out) : (s.emit o).heldWrites = s.heldWrites := rfl
@[simp] theorem State.emit_ledger (s : State) (o : Out) : (s.emit o).ledger = s.ledger := rfl
@[simp] theorem State.emit_encs (s : State) (o : Out) : (s.emit o).encs = s.encs := rfl
@[simp] theorem State.emit_pairs (s : State) (o : Out) : (s.emit o).pairs = s.pairs := rfl
@[simp] theorem State.emit_virt (s : State) (o : Out) : (s.emit o).virt = s.virt := rfl
@[simp] theorem State.emit_pipes (s : State) (o : Out) : (s.emit o).pipes = s.pipes := rfl
@[simp] theorem State.emit_cciJobs (s : State) (o : Out) : (s.emit o).cciJobs = s.cciJobs := rfl
@[simp] theorem State.emit_ladders (s : State) (o : Out) : (s.emit o).ladders = s.ladders := rfl
@[simp] theorem State.emit_axes (s : State) (o : Out) : (s.emit o).axes = s.axes := rfl
@[simp] theorem State.emit_slots (s : State) (o : Out) : (s.emit o).slots = s.slots := rfl
@[simp] theorem State.emit_loopTick (s : State) (o : Out) : (s.emit o).loopTick = s.loopTick := rfl
@[simp] theorem State.emit_ainFirst (s : State) (o : Out) : (s.emit o).ainFirst = s.ainFirst := rfl
@[simp] theorem State.emit_auxHigh (s : State) (o : Out) : (s.emit o).auxHigh = s.auxHigh := rfl
@[simp] theorem State.emit_time (s : State) (o : Out) : (s.emit o).time = s.time := rfl
@[simp] theorem State.emit_nets (s : State) (o : Out) : (s.emit o).nets = s.nets := rfl
@[simp] theorem State.emit_rd (s : State) (o : Out) (x : Fld) : (s.emit o).rd x = s.rd x := rfl
@[simp] theorem State.emit_on (s : State) (o : Out) (x : Fld) : (s.emit o).on x = s.on x := rfl
@[simp] theorem State.emit_rdS (s : State) (o : Out) (x : Fld) : (s.emit o).rdS x = s.rdS x := rfl
@[simp] theorem State.emit_rdF (s : State) (o : Out) (x : Fld) : (s.emit o).rdF x = s.rdF x := rfl
@[simp] theorem State.emit_cell (s : State) (o : Out) (x : Nat) : (s.emit o).cell x = s.cell x := rfl
@[simp] theorem State.emit_ring (s : State) (o : Out) (x : Nat) : (s.emit o).ring x = s.ring x := rfl
@[simp] theorem State.emit_ctx (s : State) (o : Out) (x : Nat) : (s.emit o).ctx x = s.ctx x := rfl
@[simp] theorem State.emit_link (s : State) (o : Out) (x : Nat) : (s.emit o).link x = s.link x := rfl
@[simp] theorem State.emit_pipe (s : State) (o : Out) (x : Nat) : (s.emit o).pipe x = s.pipe x := rfl
@[simp] theorem State.emit_cci (s : State) (o : Out) (x : Nat) : (s.emit o).cci x = s.cci x := rfl
@[simp] theorem State.emit_net (s : State) (o : Out) (x : Nat) : (s.emit o).net x = s.net x := rfl
@[simp] theorem State.emit_enc (s : State) (o : Out) (x : Nat) : (s.emit o).enc x = s.enc x := rfl
@[simp] theorem State.emit_pair (s : State) (o : Out) (x : Nat) : (s.emit o).pair x = s.pair x := rfl
@[simp] theorem State.emit_axis (s : State) (o : Out) (x : Nat) : (s.emit o).axis x = s.axis x := rfl
@[simp] theorem State.emit_slot (s : State) (o : Out) (x : Nat) : (s.emit o).slot x = s.slot x := rfl

/-! ### draw -/

@[simp] theorem State.draw_pending (s : State) : (s.draw).pending = s.pending := rfl
@[simp] theorem State.draw_part (s : State) : (s.draw).part = s.part := rfl
@[simp] theorem State.draw_regs (s : State) : (s.draw).regs = s.regs := rfl
@[simp] theorem State.draw_force (s : State) : (s.draw).force = s.force := rfl
@[simp] theorem State.draw_mem (s : State) : (s.draw).mem = s.mem := rfl
@[simp] theorem State.draw_badWords (s : State) : (s.draw).badWords = s.badWords := rfl
@[simp] theorem State.draw_timeNs (s : State) : (s.draw).timeNs = s.timeNs := rfl
@[simp] theorem State.draw_timeFrac (s : State) : (s.draw).timeFrac = s.timeFrac := rfl
@[simp] theorem State.draw_ctxs (s : State) : (s.draw).ctxs = s.ctxs := rfl
@[simp] theorem State.draw_rings (s : State) : (s.draw).rings = s.rings := rfl
@[simp] theorem State.draw_cells (s : State) : (s.draw).cells = s.cells := rfl
@[simp] theorem State.draw_nougat (s : State) : (s.draw).nougat = s.nougat := rfl
@[simp] theorem State.draw_reports (s : State) : (s.draw).reports = s.reports := rfl
@[simp] theorem State.draw_safeLine (s : State) : (s.draw).safeLine = s.safeLine := rfl
@[simp] theorem State.draw_stopFireN (s : State) : (s.draw).stopFireN = s.stopFireN := rfl
@[simp] theorem State.draw_stopFireLatch (s : State) : (s.draw).stopFireLatch = s.stopFireLatch := rfl
@[simp] theorem State.draw_bscan (s : State) : (s.draw).bscan = s.bscan := rfl
@[simp] theorem State.draw_links (s : State) : (s.draw).links = s.links := rfl
@[simp] theorem State.draw_drops (s : State) : (s.draw).drops = s.drops := rfl
@[simp] theorem State.draw_keys (s : State) : (s.draw).keys = s.keys := rfl
@[simp] theorem State.draw_otp (s : State) : (s.draw).otp = s.otp := rfl
@[simp] theorem State.draw_vault (s : State) : (s.draw).vault = s.vault := rfl
@[simp] theorem State.draw_gov (s : State) : (s.draw).gov = s.gov := rfl
@[simp] theorem State.draw_goose (s : State) : (s.draw).goose = s.goose := rfl
@[simp] theorem State.draw_yoke (s : State) : (s.draw).yoke = s.yoke := rfl
@[simp] theorem State.draw_coop (s : State) : (s.draw).coop = s.coop := rfl
@[simp] theorem State.draw_heldWrites (s : State) : (s.draw).heldWrites = s.heldWrites := rfl
@[simp] theorem State.draw_ledger (s : State) : (s.draw).ledger = s.ledger := rfl
@[simp] theorem State.draw_encs (s : State) : (s.draw).encs = s.encs := rfl
@[simp] theorem State.draw_pairs (s : State) : (s.draw).pairs = s.pairs := rfl
@[simp] theorem State.draw_virt (s : State) : (s.draw).virt = s.virt := rfl
@[simp] theorem State.draw_pipes (s : State) : (s.draw).pipes = s.pipes := rfl
@[simp] theorem State.draw_cciJobs (s : State) : (s.draw).cciJobs = s.cciJobs := rfl
@[simp] theorem State.draw_ladders (s : State) : (s.draw).ladders = s.ladders := rfl
@[simp] theorem State.draw_axes (s : State) : (s.draw).axes = s.axes := rfl
@[simp] theorem State.draw_slots (s : State) : (s.draw).slots = s.slots := rfl
@[simp] theorem State.draw_loopTick (s : State) : (s.draw).loopTick = s.loopTick := rfl
@[simp] theorem State.draw_ainFirst (s : State) : (s.draw).ainFirst = s.ainFirst := rfl
@[simp] theorem State.draw_auxHigh (s : State) : (s.draw).auxHigh = s.auxHigh := rfl
@[simp] theorem State.draw_time (s : State) : (s.draw).time = s.time := rfl
@[simp] theorem State.draw_nets (s : State) : (s.draw).nets = s.nets := rfl
@[simp] theorem State.draw_out (s : State) : (s.draw).out = s.out := rfl
@[simp] theorem State.draw_caps (s : State) : (s.draw).caps = s.caps := rfl
@[simp] theorem State.draw_l1Held (s : State) : (s.draw).l1Held = s.l1Held := rfl
@[simp] theorem State.draw_rd (s : State) (x : Fld) : (s.draw).rd x = s.rd x := rfl
@[simp] theorem State.draw_on (s : State) (x : Fld) : (s.draw).on x = s.on x := rfl
@[simp] theorem State.draw_rdS (s : State) (x : Fld) : (s.draw).rdS x = s.rdS x := rfl
@[simp] theorem State.draw_rdF (s : State) (x : Fld) : (s.draw).rdF x = s.rdF x := rfl
@[simp] theorem State.draw_cell (s : State) (x : Nat) : (s.draw).cell x = s.cell x := rfl
@[simp] theorem State.draw_ring (s : State) (x : Nat) : (s.draw).ring x = s.ring x := rfl
@[simp] theorem State.draw_ctx (s : State) (x : Nat) : (s.draw).ctx x = s.ctx x := rfl
@[simp] theorem State.draw_link (s : State) (x : Nat) : (s.draw).link x = s.link x := rfl
@[simp] theorem State.draw_pipe (s : State) (x : Nat) : (s.draw).pipe x = s.pipe x := rfl
@[simp] theorem State.draw_cci (s : State) (x : Nat) : (s.draw).cci x = s.cci x := rfl
@[simp] theorem State.draw_net (s : State) (x : Nat) : (s.draw).net x = s.net x := rfl
@[simp] theorem State.draw_enc (s : State) (x : Nat) : (s.draw).enc x = s.enc x := rfl
@[simp] theorem State.draw_pair (s : State) (x : Nat) : (s.draw).pair x = s.pair x := rfl
@[simp] theorem State.draw_axis (s : State) (x : Nat) : (s.draw).axis x = s.axis x := rfl
@[simp] theorem State.draw_slot (s : State) (x : Nat) : (s.draw).slot x = s.slot x := rfl

/-! ### report -/

@[simp] theorem State.report_pending (s : State) (a b c d e f g : Nat) : (s.report a b c d e f g).pending = s.pending := rfl
@[simp] theorem State.report_part (s : State) (a b c d e f g : Nat) : (s.report a b c d e f g).part = s.part := rfl
@[simp] theorem State.report_regs (s : State) (a b c d e f g : Nat) : (s.report a b c d e f g).regs = s.regs := rfl
@[simp] theorem State.report_force (s : State) (a b c d e f g : Nat) : (s.report a b c d e f g).force = s.force := rfl
@[simp] theorem State.report_mem (s : State) (a b c d e f g : Nat) : (s.report a b c d e f g).mem = s.mem := rfl
@[simp] theorem State.report_badWords (s : State) (a b c d e f g : Nat) : (s.report a b c d e f g).badWords = s.badWords := rfl
@[simp] theorem State.report_timeNs (s : State) (a b c d e f g : Nat) : (s.report a b c d e f g).timeNs = s.timeNs := rfl
@[simp] theorem State.report_timeFrac (s : State) (a b c d e f g : Nat) : (s.report a b c d e f g).timeFrac = s.timeFrac := rfl
@[simp] theorem State.report_drawn (s : State) (a b c d e f g : Nat) : (s.report a b c d e f g).drawn = s.drawn := rfl
@[simp] theorem State.report_ctxs (s : State) (a b c d e f g : Nat) : (s.report a b c d e f g).ctxs = s.ctxs := rfl
@[simp] theorem State.report_rings (s : State) (a b c d e f g : Nat) : (s.report a b c d e f g).rings = s.rings := rfl
@[simp] theorem State.report_cells (s : State) (a b c d e f g : Nat) : (s.report a b c d e f g).cells = s.cells := rfl
@[simp] theorem State.report_nougat (s : State) (a b c d e f g : Nat) : (s.report a b c d e f g).nougat = s.nougat := rfl
@[simp] theorem State.report_stopFireN (s : State) (a b c d e f g : Nat) : (s.report a b c d e f g).stopFireN = s.stopFireN := rfl
@[simp] theorem State.report_stopFireLatch (s : State) (a b c d e f g : Nat) : (s.report a b c d e f g).stopFireLatch = s.stopFireLatch := rfl
@[simp] theorem State.report_bscan (s : State) (a b c d e f g : Nat) : (s.report a b c d e f g).bscan = s.bscan := rfl
@[simp] theorem State.report_links (s : State) (a b c d e f g : Nat) : (s.report a b c d e f g).links = s.links := rfl
@[simp] theorem State.report_drops (s : State) (a b c d e f g : Nat) : (s.report a b c d e f g).drops = s.drops := rfl
@[simp] theorem State.report_keys (s : State) (a b c d e f g : Nat) : (s.report a b c d e f g).keys = s.keys := rfl
@[simp] theorem State.report_otp (s : State) (a b c d e f g : Nat) : (s.report a b c d e f g).otp = s.otp := rfl
@[simp] theorem State.report_vault (s : State) (a b c d e f g : Nat) : (s.report a b c d e f g).vault = s.vault := rfl
@[simp] theorem State.report_gov (s : State) (a b c d e f g : Nat) : (s.report a b c d e f g).gov = s.gov := rfl
@[simp] theorem State.report_goose (s : State) (a b c d e f g : Nat) : (s.report a b c d e f g).goose = s.goose := rfl
@[simp] theorem State.report_yoke (s : State) (a b c d e f g : Nat) : (s.report a b c d e f g).yoke = s.yoke := rfl
@[simp] theorem State.report_coop (s : State) (a b c d e f g : Nat) : (s.report a b c d e f g).coop = s.coop := rfl
@[simp] theorem State.report_heldWrites (s : State) (a b c d e f g : Nat) : (s.report a b c d e f g).heldWrites = s.heldWrites := rfl
@[simp] theorem State.report_ledger (s : State) (a b c d e f g : Nat) : (s.report a b c d e f g).ledger = s.ledger := rfl
@[simp] theorem State.report_encs (s : State) (a b c d e f g : Nat) : (s.report a b c d e f g).encs = s.encs := rfl
@[simp] theorem State.report_pairs (s : State) (a b c d e f g : Nat) : (s.report a b c d e f g).pairs = s.pairs := rfl
@[simp] theorem State.report_virt (s : State) (a b c d e f g : Nat) : (s.report a b c d e f g).virt = s.virt := rfl
@[simp] theorem State.report_pipes (s : State) (a b c d e f g : Nat) : (s.report a b c d e f g).pipes = s.pipes := rfl
@[simp] theorem State.report_cciJobs (s : State) (a b c d e f g : Nat) : (s.report a b c d e f g).cciJobs = s.cciJobs := rfl
@[simp] theorem State.report_ladders (s : State) (a b c d e f g : Nat) : (s.report a b c d e f g).ladders = s.ladders := rfl
@[simp] theorem State.report_axes (s : State) (a b c d e f g : Nat) : (s.report a b c d e f g).axes = s.axes := rfl
@[simp] theorem State.report_slots (s : State) (a b c d e f g : Nat) : (s.report a b c d e f g).slots = s.slots := rfl
@[simp] theorem State.report_loopTick (s : State) (a b c d e f g : Nat) : (s.report a b c d e f g).loopTick = s.loopTick := rfl
@[simp] theorem State.report_ainFirst (s : State) (a b c d e f g : Nat) : (s.report a b c d e f g).ainFirst = s.ainFirst := rfl
@[simp] theorem State.report_auxHigh (s : State) (a b c d e f g : Nat) : (s.report a b c d e f g).auxHigh = s.auxHigh := rfl
@[simp] theorem State.report_time (s : State) (a b c d e f g : Nat) : (s.report a b c d e f g).time = s.time := rfl
@[simp] theorem State.report_nets (s : State) (a b c d e f g : Nat) : (s.report a b c d e f g).nets = s.nets := rfl
@[simp] theorem State.report_out (s : State) (a b c d e f g : Nat) : (s.report a b c d e f g).out = s.out := rfl
@[simp] theorem State.report_caps (s : State) (a b c d e f g : Nat) : (s.report a b c d e f g).caps = s.caps := rfl
@[simp] theorem State.report_l1Held (s : State) (a b c d e f g : Nat) : (s.report a b c d e f g).l1Held = s.l1Held := rfl
@[simp] theorem State.report_rd (s : State) (a b c d e f g : Nat) (x : Fld) : (s.report a b c d e f g).rd x = s.rd x := rfl
@[simp] theorem State.report_on (s : State) (a b c d e f g : Nat) (x : Fld) : (s.report a b c d e f g).on x = s.on x := rfl
@[simp] theorem State.report_rdS (s : State) (a b c d e f g : Nat) (x : Fld) : (s.report a b c d e f g).rdS x = s.rdS x := rfl
@[simp] theorem State.report_rdF (s : State) (a b c d e f g : Nat) (x : Fld) : (s.report a b c d e f g).rdF x = s.rdF x := rfl
@[simp] theorem State.report_cell (s : State) (a b c d e f g : Nat) (x : Nat) : (s.report a b c d e f g).cell x = s.cell x := rfl
@[simp] theorem State.report_ring (s : State) (a b c d e f g : Nat) (x : Nat) : (s.report a b c d e f g).ring x = s.ring x := rfl
@[simp] theorem State.report_ctx (s : State) (a b c d e f g : Nat) (x : Nat) : (s.report a b c d e f g).ctx x = s.ctx x := rfl
@[simp] theorem State.report_link (s : State) (a b c d e f g : Nat) (x : Nat) : (s.report a b c d e f g).link x = s.link x := rfl
@[simp] theorem State.report_pipe (s : State) (a b c d e f g : Nat) (x : Nat) : (s.report a b c d e f g).pipe x = s.pipe x := rfl
@[simp] theorem State.report_cci (s : State) (a b c d e f g : Nat) (x : Nat) : (s.report a b c d e f g).cci x = s.cci x := rfl
@[simp] theorem State.report_net (s : State) (a b c d e f g : Nat) (x : Nat) : (s.report a b c d e f g).net x = s.net x := rfl
@[simp] theorem State.report_enc (s : State) (a b c d e f g : Nat) (x : Nat) : (s.report a b c d e f g).enc x = s.enc x := rfl
@[simp] theorem State.report_pair (s : State) (a b c d e f g : Nat) (x : Nat) : (s.report a b c d e f g).pair x = s.pair x := rfl
@[simp] theorem State.report_axis (s : State) (a b c d e f g : Nat) (x : Nat) : (s.report a b c d e f g).axis x = s.axis x := rfl
@[simp] theorem State.report_slot (s : State) (a b c d e f g : Nat) (x : Nat) : (s.report a b c d e f g).slot x = s.slot x := rfl

/-! ### setCell -/

@[simp] theorem State.setCell_pending (s : State) (n : Nat) (c : Cell) : (s.setCell n c).pending = s.pending := rfl
@[simp] theorem State.setCell_part (s : State) (n : Nat) (c : Cell) : (s.setCell n c).part = s.part := rfl
@[simp] theorem State.setCell_regs (s : State) (n : Nat) (c : Cell) : (s.setCell n c).regs = s.regs := rfl
@[simp] theorem State.setCell_force (s : State) (n : Nat) (c : Cell) : (s.setCell n c).force = s.force := rfl
@[simp] theorem State.setCell_mem (s : State) (n : Nat) (c : Cell) : (s.setCell n c).mem = s.mem := rfl
@[simp] theorem State.setCell_badWords (s : State) (n : Nat) (c : Cell) : (s.setCell n c).badWords = s.badWords := rfl
@[simp] theorem State.setCell_timeNs (s : State) (n : Nat) (c : Cell) : (s.setCell n c).timeNs = s.timeNs := rfl
@[simp] theorem State.setCell_timeFrac (s : State) (n : Nat) (c : Cell) : (s.setCell n c).timeFrac = s.timeFrac := rfl
@[simp] theorem State.setCell_drawn (s : State) (n : Nat) (c : Cell) : (s.setCell n c).drawn = s.drawn := rfl
@[simp] theorem State.setCell_ctxs (s : State) (n : Nat) (c : Cell) : (s.setCell n c).ctxs = s.ctxs := rfl
@[simp] theorem State.setCell_rings (s : State) (n : Nat) (c : Cell) : (s.setCell n c).rings = s.rings := rfl
@[simp] theorem State.setCell_nougat (s : State) (n : Nat) (c : Cell) : (s.setCell n c).nougat = s.nougat := rfl
@[simp] theorem State.setCell_reports (s : State) (n : Nat) (c : Cell) : (s.setCell n c).reports = s.reports := rfl
@[simp] theorem State.setCell_safeLine (s : State) (n : Nat) (c : Cell) : (s.setCell n c).safeLine = s.safeLine := rfl
@[simp] theorem State.setCell_stopFireN (s : State) (n : Nat) (c : Cell) : (s.setCell n c).stopFireN = s.stopFireN := rfl
@[simp] theorem State.setCell_stopFireLatch (s : State) (n : Nat) (c : Cell) : (s.setCell n c).stopFireLatch = s.stopFireLatch := rfl
@[simp] theorem State.setCell_bscan (s : State) (n : Nat) (c : Cell) : (s.setCell n c).bscan = s.bscan := rfl
@[simp] theorem State.setCell_links (s : State) (n : Nat) (c : Cell) : (s.setCell n c).links = s.links := rfl
@[simp] theorem State.setCell_drops (s : State) (n : Nat) (c : Cell) : (s.setCell n c).drops = s.drops := rfl
@[simp] theorem State.setCell_keys (s : State) (n : Nat) (c : Cell) : (s.setCell n c).keys = s.keys := rfl
@[simp] theorem State.setCell_otp (s : State) (n : Nat) (c : Cell) : (s.setCell n c).otp = s.otp := rfl
@[simp] theorem State.setCell_vault (s : State) (n : Nat) (c : Cell) : (s.setCell n c).vault = s.vault := rfl
@[simp] theorem State.setCell_gov (s : State) (n : Nat) (c : Cell) : (s.setCell n c).gov = s.gov := rfl
@[simp] theorem State.setCell_goose (s : State) (n : Nat) (c : Cell) : (s.setCell n c).goose = s.goose := rfl
@[simp] theorem State.setCell_yoke (s : State) (n : Nat) (c : Cell) : (s.setCell n c).yoke = s.yoke := rfl
@[simp] theorem State.setCell_coop (s : State) (n : Nat) (c : Cell) : (s.setCell n c).coop = s.coop := rfl
@[simp] theorem State.setCell_heldWrites (s : State) (n : Nat) (c : Cell) : (s.setCell n c).heldWrites = s.heldWrites := rfl
@[simp] theorem State.setCell_ledger (s : State) (n : Nat) (c : Cell) : (s.setCell n c).ledger = s.ledger := rfl
@[simp] theorem State.setCell_encs (s : State) (n : Nat) (c : Cell) : (s.setCell n c).encs = s.encs := rfl
@[simp] theorem State.setCell_pairs (s : State) (n : Nat) (c : Cell) : (s.setCell n c).pairs = s.pairs := rfl
@[simp] theorem State.setCell_virt (s : State) (n : Nat) (c : Cell) : (s.setCell n c).virt = s.virt := rfl
@[simp] theorem State.setCell_pipes (s : State) (n : Nat) (c : Cell) : (s.setCell n c).pipes = s.pipes := rfl
@[simp] theorem State.setCell_cciJobs (s : State) (n : Nat) (c : Cell) : (s.setCell n c).cciJobs = s.cciJobs := rfl
@[simp] theorem State.setCell_ladders (s : State) (n : Nat) (c : Cell) : (s.setCell n c).ladders = s.ladders := rfl
@[simp] theorem State.setCell_axes (s : State) (n : Nat) (c : Cell) : (s.setCell n c).axes = s.axes := rfl
@[simp] theorem State.setCell_slots (s : State) (n : Nat) (c : Cell) : (s.setCell n c).slots = s.slots := rfl
@[simp] theorem State.setCell_loopTick (s : State) (n : Nat) (c : Cell) : (s.setCell n c).loopTick = s.loopTick := rfl
@[simp] theorem State.setCell_ainFirst (s : State) (n : Nat) (c : Cell) : (s.setCell n c).ainFirst = s.ainFirst := rfl
@[simp] theorem State.setCell_auxHigh (s : State) (n : Nat) (c : Cell) : (s.setCell n c).auxHigh = s.auxHigh := rfl
@[simp] theorem State.setCell_time (s : State) (n : Nat) (c : Cell) : (s.setCell n c).time = s.time := rfl
@[simp] theorem State.setCell_nets (s : State) (n : Nat) (c : Cell) : (s.setCell n c).nets = s.nets := rfl
@[simp] theorem State.setCell_out (s : State) (n : Nat) (c : Cell) : (s.setCell n c).out = s.out := rfl
@[simp] theorem State.setCell_caps (s : State) (n : Nat) (c : Cell) : (s.setCell n c).caps = s.caps := rfl
@[simp] theorem State.setCell_l1Held (s : State) (n : Nat) (c : Cell) : (s.setCell n c).l1Held = s.l1Held := rfl
@[simp] theorem State.setCell_rd (s : State) (n : Nat) (c : Cell) (x : Fld) : (s.setCell n c).rd x = s.rd x := rfl
@[simp] theorem State.setCell_on (s : State) (n : Nat) (c : Cell) (x : Fld) : (s.setCell n c).on x = s.on x := rfl
@[simp] theorem State.setCell_rdS (s : State) (n : Nat) (c : Cell) (x : Fld) : (s.setCell n c).rdS x = s.rdS x := rfl
@[simp] theorem State.setCell_rdF (s : State) (n : Nat) (c : Cell) (x : Fld) : (s.setCell n c).rdF x = s.rdF x := rfl
@[simp] theorem State.setCell_ring (s : State) (n : Nat) (c : Cell) (x : Nat) : (s.setCell n c).ring x = s.ring x := rfl
@[simp] theorem State.setCell_ctx (s : State) (n : Nat) (c : Cell) (x : Nat) : (s.setCell n c).ctx x = s.ctx x := rfl
@[simp] theorem State.setCell_link (s : State) (n : Nat) (c : Cell) (x : Nat) : (s.setCell n c).link x = s.link x := rfl
@[simp] theorem State.setCell_pipe (s : State) (n : Nat) (c : Cell) (x : Nat) : (s.setCell n c).pipe x = s.pipe x := rfl
@[simp] theorem State.setCell_cci (s : State) (n : Nat) (c : Cell) (x : Nat) : (s.setCell n c).cci x = s.cci x := rfl
@[simp] theorem State.setCell_net (s : State) (n : Nat) (c : Cell) (x : Nat) : (s.setCell n c).net x = s.net x := rfl
@[simp] theorem State.setCell_enc (s : State) (n : Nat) (c : Cell) (x : Nat) : (s.setCell n c).enc x = s.enc x := rfl
@[simp] theorem State.setCell_pair (s : State) (n : Nat) (c : Cell) (x : Nat) : (s.setCell n c).pair x = s.pair x := rfl
@[simp] theorem State.setCell_axis (s : State) (n : Nat) (c : Cell) (x : Nat) : (s.setCell n c).axis x = s.axis x := rfl
@[simp] theorem State.setCell_slot (s : State) (n : Nat) (c : Cell) (x : Nat) : (s.setCell n c).slot x = s.slot x := rfl

/-! ### updCell -/

@[simp] theorem State.updCell_pending (s : State) (n : Nat) (f : Cell → Cell) : (s.updCell n f).pending = s.pending := rfl
@[simp] theorem State.updCell_part (s : State) (n : Nat) (f : Cell → Cell) : (s.updCell n f).part = s.part := rfl
@[simp] theorem State.updCell_regs (s : State) (n : Nat) (f : Cell → Cell) : (s.updCell n f).regs = s.regs := rfl
@[simp] theorem State.updCell_force (s : State) (n : Nat) (f : Cell → Cell) : (s.updCell n f).force = s.force := rfl
@[simp] theorem State.updCell_mem (s : State) (n : Nat) (f : Cell → Cell) : (s.updCell n f).mem = s.mem := rfl
@[simp] theorem State.updCell_badWords (s : State) (n : Nat) (f : Cell → Cell) : (s.updCell n f).badWords = s.badWords := rfl
@[simp] theorem State.updCell_timeNs (s : State) (n : Nat) (f : Cell → Cell) : (s.updCell n f).timeNs = s.timeNs := rfl
@[simp] theorem State.updCell_timeFrac (s : State) (n : Nat) (f : Cell → Cell) : (s.updCell n f).timeFrac = s.timeFrac := rfl
@[simp] theorem State.updCell_drawn (s : State) (n : Nat) (f : Cell → Cell) : (s.updCell n f).drawn = s.drawn := rfl
@[simp] theorem State.updCell_ctxs (s : State) (n : Nat) (f : Cell → Cell) : (s.updCell n f).ctxs = s.ctxs := rfl
@[simp] theorem State.updCell_rings (s : State) (n : Nat) (f : Cell → Cell) : (s.updCell n f).rings = s.rings := rfl
@[simp] theorem State.updCell_nougat (s : State) (n : Nat) (f : Cell → Cell) : (s.updCell n f).nougat = s.nougat := rfl
@[simp] theorem State.updCell_reports (s : State) (n : Nat) (f : Cell → Cell) : (s.updCell n f).reports = s.reports := rfl
@[simp] theorem State.updCell_safeLine (s : State) (n : Nat) (f : Cell → Cell) : (s.updCell n f).safeLine = s.safeLine := rfl
@[simp] theorem State.updCell_stopFireN (s : State) (n : Nat) (f : Cell → Cell) : (s.updCell n f).stopFireN = s.stopFireN := rfl
@[simp] theorem State.updCell_stopFireLatch (s : State) (n : Nat) (f : Cell → Cell) : (s.updCell n f).stopFireLatch = s.stopFireLatch := rfl
@[simp] theorem State.updCell_bscan (s : State) (n : Nat) (f : Cell → Cell) : (s.updCell n f).bscan = s.bscan := rfl
@[simp] theorem State.updCell_links (s : State) (n : Nat) (f : Cell → Cell) : (s.updCell n f).links = s.links := rfl
@[simp] theorem State.updCell_drops (s : State) (n : Nat) (f : Cell → Cell) : (s.updCell n f).drops = s.drops := rfl
@[simp] theorem State.updCell_keys (s : State) (n : Nat) (f : Cell → Cell) : (s.updCell n f).keys = s.keys := rfl
@[simp] theorem State.updCell_otp (s : State) (n : Nat) (f : Cell → Cell) : (s.updCell n f).otp = s.otp := rfl
@[simp] theorem State.updCell_vault (s : State) (n : Nat) (f : Cell → Cell) : (s.updCell n f).vault = s.vault := rfl
@[simp] theorem State.updCell_gov (s : State) (n : Nat) (f : Cell → Cell) : (s.updCell n f).gov = s.gov := rfl
@[simp] theorem State.updCell_goose (s : State) (n : Nat) (f : Cell → Cell) : (s.updCell n f).goose = s.goose := rfl
@[simp] theorem State.updCell_yoke (s : State) (n : Nat) (f : Cell → Cell) : (s.updCell n f).yoke = s.yoke := rfl
@[simp] theorem State.updCell_coop (s : State) (n : Nat) (f : Cell → Cell) : (s.updCell n f).coop = s.coop := rfl
@[simp] theorem State.updCell_heldWrites (s : State) (n : Nat) (f : Cell → Cell) : (s.updCell n f).heldWrites = s.heldWrites := rfl
@[simp] theorem State.updCell_ledger (s : State) (n : Nat) (f : Cell → Cell) : (s.updCell n f).ledger = s.ledger := rfl
@[simp] theorem State.updCell_encs (s : State) (n : Nat) (f : Cell → Cell) : (s.updCell n f).encs = s.encs := rfl
@[simp] theorem State.updCell_pairs (s : State) (n : Nat) (f : Cell → Cell) : (s.updCell n f).pairs = s.pairs := rfl
@[simp] theorem State.updCell_virt (s : State) (n : Nat) (f : Cell → Cell) : (s.updCell n f).virt = s.virt := rfl
@[simp] theorem State.updCell_pipes (s : State) (n : Nat) (f : Cell → Cell) : (s.updCell n f).pipes = s.pipes := rfl
@[simp] theorem State.updCell_cciJobs (s : State) (n : Nat) (f : Cell → Cell) : (s.updCell n f).cciJobs = s.cciJobs := rfl
@[simp] theorem State.updCell_ladders (s : State) (n : Nat) (f : Cell → Cell) : (s.updCell n f).ladders = s.ladders := rfl
@[simp] theorem State.updCell_axes (s : State) (n : Nat) (f : Cell → Cell) : (s.updCell n f).axes = s.axes := rfl
@[simp] theorem State.updCell_slots (s : State) (n : Nat) (f : Cell → Cell) : (s.updCell n f).slots = s.slots := rfl
@[simp] theorem State.updCell_loopTick (s : State) (n : Nat) (f : Cell → Cell) : (s.updCell n f).loopTick = s.loopTick := rfl
@[simp] theorem State.updCell_ainFirst (s : State) (n : Nat) (f : Cell → Cell) : (s.updCell n f).ainFirst = s.ainFirst := rfl
@[simp] theorem State.updCell_auxHigh (s : State) (n : Nat) (f : Cell → Cell) : (s.updCell n f).auxHigh = s.auxHigh := rfl
@[simp] theorem State.updCell_time (s : State) (n : Nat) (f : Cell → Cell) : (s.updCell n f).time = s.time := rfl
@[simp] theorem State.updCell_nets (s : State) (n : Nat) (f : Cell → Cell) : (s.updCell n f).nets = s.nets := rfl
@[simp] theorem State.updCell_out (s : State) (n : Nat) (f : Cell → Cell) : (s.updCell n f).out = s.out := rfl
@[simp] theorem State.updCell_caps (s : State) (n : Nat) (f : Cell → Cell) : (s.updCell n f).caps = s.caps := rfl
@[simp] theorem State.updCell_l1Held (s : State) (n : Nat) (f : Cell → Cell) : (s.updCell n f).l1Held = s.l1Held := rfl
@[simp] theorem State.updCell_rd (s : State) (n : Nat) (f : Cell → Cell) (x : Fld) : (s.updCell n f).rd x = s.rd x := rfl
@[simp] theorem State.updCell_on (s : State) (n : Nat) (f : Cell → Cell) (x : Fld) : (s.updCell n f).on x = s.on x := rfl
@[simp] theorem State.updCell_rdS (s : State) (n : Nat) (f : Cell → Cell) (x : Fld) : (s.updCell n f).rdS x = s.rdS x := rfl
@[simp] theorem State.updCell_rdF (s : State) (n : Nat) (f : Cell → Cell) (x : Fld) : (s.updCell n f).rdF x = s.rdF x := rfl
@[simp] theorem State.updCell_ring (s : State) (n : Nat) (f : Cell → Cell) (x : Nat) : (s.updCell n f).ring x = s.ring x := rfl
@[simp] theorem State.updCell_ctx (s : State) (n : Nat) (f : Cell → Cell) (x : Nat) : (s.updCell n f).ctx x = s.ctx x := rfl
@[simp] theorem State.updCell_link (s : State) (n : Nat) (f : Cell → Cell) (x : Nat) : (s.updCell n f).link x = s.link x := rfl
@[simp] theorem State.updCell_pipe (s : State) (n : Nat) (f : Cell → Cell) (x : Nat) : (s.updCell n f).pipe x = s.pipe x := rfl
@[simp] theorem State.updCell_cci (s : State) (n : Nat) (f : Cell → Cell) (x : Nat) : (s.updCell n f).cci x = s.cci x := rfl
@[simp] theorem State.updCell_net (s : State) (n : Nat) (f : Cell → Cell) (x : Nat) : (s.updCell n f).net x = s.net x := rfl
@[simp] theorem State.updCell_enc (s : State) (n : Nat) (f : Cell → Cell) (x : Nat) : (s.updCell n f).enc x = s.enc x := rfl
@[simp] theorem State.updCell_pair (s : State) (n : Nat) (f : Cell → Cell) (x : Nat) : (s.updCell n f).pair x = s.pair x := rfl
@[simp] theorem State.updCell_axis (s : State) (n : Nat) (f : Cell → Cell) (x : Nat) : (s.updCell n f).axis x = s.axis x := rfl
@[simp] theorem State.updCell_slot (s : State) (n : Nat) (f : Cell → Cell) (x : Nat) : (s.updCell n f).slot x = s.slot x := rfl

/-! ### setRing -/

@[simp] theorem State.setRing_pending (s : State) (n : Nat) (c : Ring) : (s.setRing n c).pending = s.pending := rfl
@[simp] theorem State.setRing_part (s : State) (n : Nat) (c : Ring) : (s.setRing n c).part = s.part := rfl
@[simp] theorem State.setRing_regs (s : State) (n : Nat) (c : Ring) : (s.setRing n c).regs = s.regs := rfl
@[simp] theorem State.setRing_force (s : State) (n : Nat) (c : Ring) : (s.setRing n c).force = s.force := rfl
@[simp] theorem State.setRing_mem (s : State) (n : Nat) (c : Ring) : (s.setRing n c).mem = s.mem := rfl
@[simp] theorem State.setRing_badWords (s : State) (n : Nat) (c : Ring) : (s.setRing n c).badWords = s.badWords := rfl
@[simp] theorem State.setRing_timeNs (s : State) (n : Nat) (c : Ring) : (s.setRing n c).timeNs = s.timeNs := rfl
@[simp] theorem State.setRing_timeFrac (s : State) (n : Nat) (c : Ring) : (s.setRing n c).timeFrac = s.timeFrac := rfl
@[simp] theorem State.setRing_drawn (s : State) (n : Nat) (c : Ring) : (s.setRing n c).drawn = s.drawn := rfl
@[simp] theorem State.setRing_ctxs (s : State) (n : Nat) (c : Ring) : (s.setRing n c).ctxs = s.ctxs := rfl
@[simp] theorem State.setRing_cells (s : State) (n : Nat) (c : Ring) : (s.setRing n c).cells = s.cells := rfl
@[simp] theorem State.setRing_nougat (s : State) (n : Nat) (c : Ring) : (s.setRing n c).nougat = s.nougat := rfl
@[simp] theorem State.setRing_reports (s : State) (n : Nat) (c : Ring) : (s.setRing n c).reports = s.reports := rfl
@[simp] theorem State.setRing_safeLine (s : State) (n : Nat) (c : Ring) : (s.setRing n c).safeLine = s.safeLine := rfl
@[simp] theorem State.setRing_stopFireN (s : State) (n : Nat) (c : Ring) : (s.setRing n c).stopFireN = s.stopFireN := rfl
@[simp] theorem State.setRing_stopFireLatch (s : State) (n : Nat) (c : Ring) : (s.setRing n c).stopFireLatch = s.stopFireLatch := rfl
@[simp] theorem State.setRing_bscan (s : State) (n : Nat) (c : Ring) : (s.setRing n c).bscan = s.bscan := rfl
@[simp] theorem State.setRing_links (s : State) (n : Nat) (c : Ring) : (s.setRing n c).links = s.links := rfl
@[simp] theorem State.setRing_drops (s : State) (n : Nat) (c : Ring) : (s.setRing n c).drops = s.drops := rfl
@[simp] theorem State.setRing_keys (s : State) (n : Nat) (c : Ring) : (s.setRing n c).keys = s.keys := rfl
@[simp] theorem State.setRing_otp (s : State) (n : Nat) (c : Ring) : (s.setRing n c).otp = s.otp := rfl
@[simp] theorem State.setRing_vault (s : State) (n : Nat) (c : Ring) : (s.setRing n c).vault = s.vault := rfl
@[simp] theorem State.setRing_gov (s : State) (n : Nat) (c : Ring) : (s.setRing n c).gov = s.gov := rfl
@[simp] theorem State.setRing_goose (s : State) (n : Nat) (c : Ring) : (s.setRing n c).goose = s.goose := rfl
@[simp] theorem State.setRing_yoke (s : State) (n : Nat) (c : Ring) : (s.setRing n c).yoke = s.yoke := rfl
@[simp] theorem State.setRing_coop (s : State) (n : Nat) (c : Ring) : (s.setRing n c).coop = s.coop := rfl
@[simp] theorem State.setRing_heldWrites (s : State) (n : Nat) (c : Ring) : (s.setRing n c).heldWrites = s.heldWrites := rfl
@[simp] theorem State.setRing_ledger (s : State) (n : Nat) (c : Ring) : (s.setRing n c).ledger = s.ledger := rfl
@[simp] theorem State.setRing_encs (s : State) (n : Nat) (c : Ring) : (s.setRing n c).encs = s.encs := rfl
@[simp] theorem State.setRing_pairs (s : State) (n : Nat) (c : Ring) : (s.setRing n c).pairs = s.pairs := rfl
@[simp] theorem State.setRing_virt (s : State) (n : Nat) (c : Ring) : (s.setRing n c).virt = s.virt := rfl
@[simp] theorem State.setRing_pipes (s : State) (n : Nat) (c : Ring) : (s.setRing n c).pipes = s.pipes := rfl
@[simp] theorem State.setRing_cciJobs (s : State) (n : Nat) (c : Ring) : (s.setRing n c).cciJobs = s.cciJobs := rfl
@[simp] theorem State.setRing_ladders (s : State) (n : Nat) (c : Ring) : (s.setRing n c).ladders = s.ladders := rfl
@[simp] theorem State.setRing_axes (s : State) (n : Nat) (c : Ring) : (s.setRing n c).axes = s.axes := rfl
@[simp] theorem State.setRing_slots (s : State) (n : Nat) (c : Ring) : (s.setRing n c).slots = s.slots := rfl
@[simp] theorem State.setRing_loopTick (s : State) (n : Nat) (c : Ring) : (s.setRing n c).loopTick = s.loopTick := rfl
@[simp] theorem State.setRing_ainFirst (s : State) (n : Nat) (c : Ring) : (s.setRing n c).ainFirst = s.ainFirst := rfl
@[simp] theorem State.setRing_auxHigh (s : State) (n : Nat) (c : Ring) : (s.setRing n c).auxHigh = s.auxHigh := rfl
@[simp] theorem State.setRing_time (s : State) (n : Nat) (c : Ring) : (s.setRing n c).time = s.time := rfl
@[simp] theorem State.setRing_nets (s : State) (n : Nat) (c : Ring) : (s.setRing n c).nets = s.nets := rfl
@[simp] theorem State.setRing_out (s : State) (n : Nat) (c : Ring) : (s.setRing n c).out = s.out := rfl
@[simp] theorem State.setRing_caps (s : State) (n : Nat) (c : Ring) : (s.setRing n c).caps = s.caps := rfl
@[simp] theorem State.setRing_l1Held (s : State) (n : Nat) (c : Ring) : (s.setRing n c).l1Held = s.l1Held := rfl
@[simp] theorem State.setRing_rd (s : State) (n : Nat) (c : Ring) (x : Fld) : (s.setRing n c).rd x = s.rd x := rfl
@[simp] theorem State.setRing_on (s : State) (n : Nat) (c : Ring) (x : Fld) : (s.setRing n c).on x = s.on x := rfl
@[simp] theorem State.setRing_rdS (s : State) (n : Nat) (c : Ring) (x : Fld) : (s.setRing n c).rdS x = s.rdS x := rfl
@[simp] theorem State.setRing_rdF (s : State) (n : Nat) (c : Ring) (x : Fld) : (s.setRing n c).rdF x = s.rdF x := rfl
@[simp] theorem State.setRing_cell (s : State) (n : Nat) (c : Ring) (x : Nat) : (s.setRing n c).cell x = s.cell x := rfl
@[simp] theorem State.setRing_ctx (s : State) (n : Nat) (c : Ring) (x : Nat) : (s.setRing n c).ctx x = s.ctx x := rfl
@[simp] theorem State.setRing_link (s : State) (n : Nat) (c : Ring) (x : Nat) : (s.setRing n c).link x = s.link x := rfl
@[simp] theorem State.setRing_pipe (s : State) (n : Nat) (c : Ring) (x : Nat) : (s.setRing n c).pipe x = s.pipe x := rfl
@[simp] theorem State.setRing_cci (s : State) (n : Nat) (c : Ring) (x : Nat) : (s.setRing n c).cci x = s.cci x := rfl
@[simp] theorem State.setRing_net (s : State) (n : Nat) (c : Ring) (x : Nat) : (s.setRing n c).net x = s.net x := rfl
@[simp] theorem State.setRing_enc (s : State) (n : Nat) (c : Ring) (x : Nat) : (s.setRing n c).enc x = s.enc x := rfl
@[simp] theorem State.setRing_pair (s : State) (n : Nat) (c : Ring) (x : Nat) : (s.setRing n c).pair x = s.pair x := rfl
@[simp] theorem State.setRing_axis (s : State) (n : Nat) (c : Ring) (x : Nat) : (s.setRing n c).axis x = s.axis x := rfl
@[simp] theorem State.setRing_slot (s : State) (n : Nat) (c : Ring) (x : Nat) : (s.setRing n c).slot x = s.slot x := rfl

/-! ### setCtx -/

@[simp] theorem State.setCtx_pending (s : State) (n : Nat) (c : Ctx) : (s.setCtx n c).pending = s.pending := rfl
@[simp] theorem State.setCtx_part (s : State) (n : Nat) (c : Ctx) : (s.setCtx n c).part = s.part := rfl
@[simp] theorem State.setCtx_regs (s : State) (n : Nat) (c : Ctx) : (s.setCtx n c).regs = s.regs := rfl
@[simp] theorem State.setCtx_force (s : State) (n : Nat) (c : Ctx) : (s.setCtx n c).force = s.force := rfl
@[simp] theorem State.setCtx_mem (s : State) (n : Nat) (c : Ctx) : (s.setCtx n c).mem = s.mem := rfl
@[simp] theorem State.setCtx_badWords (s : State) (n : Nat) (c : Ctx) : (s.setCtx n c).badWords = s.badWords := rfl
@[simp] theorem State.setCtx_timeNs (s : State) (n : Nat) (c : Ctx) : (s.setCtx n c).timeNs = s.timeNs := rfl
@[simp] theorem State.setCtx_timeFrac (s : State) (n : Nat) (c : Ctx) : (s.setCtx n c).timeFrac = s.timeFrac := rfl
@[simp] theorem State.setCtx_drawn (s : State) (n : Nat) (c : Ctx) : (s.setCtx n c).drawn = s.drawn := rfl
@[simp] theorem State.setCtx_rings (s : State) (n : Nat) (c : Ctx) : (s.setCtx n c).rings = s.rings := rfl
@[simp] theorem State.setCtx_cells (s : State) (n : Nat) (c : Ctx) : (s.setCtx n c).cells = s.cells := rfl
@[simp] theorem State.setCtx_nougat (s : State) (n : Nat) (c : Ctx) : (s.setCtx n c).nougat = s.nougat := rfl
@[simp] theorem State.setCtx_reports (s : State) (n : Nat) (c : Ctx) : (s.setCtx n c).reports = s.reports := rfl
@[simp] theorem State.setCtx_safeLine (s : State) (n : Nat) (c : Ctx) : (s.setCtx n c).safeLine = s.safeLine := rfl
@[simp] theorem State.setCtx_stopFireN (s : State) (n : Nat) (c : Ctx) : (s.setCtx n c).stopFireN = s.stopFireN := rfl
@[simp] theorem State.setCtx_stopFireLatch (s : State) (n : Nat) (c : Ctx) : (s.setCtx n c).stopFireLatch = s.stopFireLatch := rfl
@[simp] theorem State.setCtx_bscan (s : State) (n : Nat) (c : Ctx) : (s.setCtx n c).bscan = s.bscan := rfl
@[simp] theorem State.setCtx_links (s : State) (n : Nat) (c : Ctx) : (s.setCtx n c).links = s.links := rfl
@[simp] theorem State.setCtx_drops (s : State) (n : Nat) (c : Ctx) : (s.setCtx n c).drops = s.drops := rfl
@[simp] theorem State.setCtx_keys (s : State) (n : Nat) (c : Ctx) : (s.setCtx n c).keys = s.keys := rfl
@[simp] theorem State.setCtx_otp (s : State) (n : Nat) (c : Ctx) : (s.setCtx n c).otp = s.otp := rfl
@[simp] theorem State.setCtx_vault (s : State) (n : Nat) (c : Ctx) : (s.setCtx n c).vault = s.vault := rfl
@[simp] theorem State.setCtx_gov (s : State) (n : Nat) (c : Ctx) : (s.setCtx n c).gov = s.gov := rfl
@[simp] theorem State.setCtx_goose (s : State) (n : Nat) (c : Ctx) : (s.setCtx n c).goose = s.goose := rfl
@[simp] theorem State.setCtx_yoke (s : State) (n : Nat) (c : Ctx) : (s.setCtx n c).yoke = s.yoke := rfl
@[simp] theorem State.setCtx_coop (s : State) (n : Nat) (c : Ctx) : (s.setCtx n c).coop = s.coop := rfl
@[simp] theorem State.setCtx_heldWrites (s : State) (n : Nat) (c : Ctx) : (s.setCtx n c).heldWrites = s.heldWrites := rfl
@[simp] theorem State.setCtx_ledger (s : State) (n : Nat) (c : Ctx) : (s.setCtx n c).ledger = s.ledger := rfl
@[simp] theorem State.setCtx_encs (s : State) (n : Nat) (c : Ctx) : (s.setCtx n c).encs = s.encs := rfl
@[simp] theorem State.setCtx_pairs (s : State) (n : Nat) (c : Ctx) : (s.setCtx n c).pairs = s.pairs := rfl
@[simp] theorem State.setCtx_virt (s : State) (n : Nat) (c : Ctx) : (s.setCtx n c).virt = s.virt := rfl
@[simp] theorem State.setCtx_pipes (s : State) (n : Nat) (c : Ctx) : (s.setCtx n c).pipes = s.pipes := rfl
@[simp] theorem State.setCtx_cciJobs (s : State) (n : Nat) (c : Ctx) : (s.setCtx n c).cciJobs = s.cciJobs := rfl
@[simp] theorem State.setCtx_ladders (s : State) (n : Nat) (c : Ctx) : (s.setCtx n c).ladders = s.ladders := rfl
@[simp] theorem State.setCtx_axes (s : State) (n : Nat) (c : Ctx) : (s.setCtx n c).axes = s.axes := rfl
@[simp] theorem State.setCtx_slots (s : State) (n : Nat) (c : Ctx) : (s.setCtx n c).slots = s.slots := rfl
@[simp] theorem State.setCtx_loopTick (s : State) (n : Nat) (c : Ctx) : (s.setCtx n c).loopTick = s.loopTick := rfl
@[simp] theorem State.setCtx_ainFirst (s : State) (n : Nat) (c : Ctx) : (s.setCtx n c).ainFirst = s.ainFirst := rfl
@[simp] theorem State.setCtx_auxHigh (s : State) (n : Nat) (c : Ctx) : (s.setCtx n c).auxHigh = s.auxHigh := rfl
@[simp] theorem State.setCtx_time (s : State) (n : Nat) (c : Ctx) : (s.setCtx n c).time = s.time := rfl
@[simp] theorem State.setCtx_nets (s : State) (n : Nat) (c : Ctx) : (s.setCtx n c).nets = s.nets := rfl
@[simp] theorem State.setCtx_out (s : State) (n : Nat) (c : Ctx) : (s.setCtx n c).out = s.out := rfl
@[simp] theorem State.setCtx_caps (s : State) (n : Nat) (c : Ctx) : (s.setCtx n c).caps = s.caps := rfl
@[simp] theorem State.setCtx_l1Held (s : State) (n : Nat) (c : Ctx) : (s.setCtx n c).l1Held = s.l1Held := rfl
@[simp] theorem State.setCtx_rd (s : State) (n : Nat) (c : Ctx) (x : Fld) : (s.setCtx n c).rd x = s.rd x := rfl
@[simp] theorem State.setCtx_on (s : State) (n : Nat) (c : Ctx) (x : Fld) : (s.setCtx n c).on x = s.on x := rfl
@[simp] theorem State.setCtx_rdS (s : State) (n : Nat) (c : Ctx) (x : Fld) : (s.setCtx n c).rdS x = s.rdS x := rfl
@[simp] theorem State.setCtx_rdF (s : State) (n : Nat) (c : Ctx) (x : Fld) : (s.setCtx n c).rdF x = s.rdF x := rfl
@[simp] theorem State.setCtx_cell (s : State) (n : Nat) (c : Ctx) (x : Nat) : (s.setCtx n c).cell x = s.cell x := rfl
@[simp] theorem State.setCtx_ring (s : State) (n : Nat) (c : Ctx) (x : Nat) : (s.setCtx n c).ring x = s.ring x := rfl
@[simp] theorem State.setCtx_link (s : State) (n : Nat) (c : Ctx) (x : Nat) : (s.setCtx n c).link x = s.link x := rfl
@[simp] theorem State.setCtx_pipe (s : State) (n : Nat) (c : Ctx) (x : Nat) : (s.setCtx n c).pipe x = s.pipe x := rfl
@[simp] theorem State.setCtx_cci (s : State) (n : Nat) (c : Ctx) (x : Nat) : (s.setCtx n c).cci x = s.cci x := rfl
@[simp] theorem State.setCtx_net (s : State) (n : Nat) (c : Ctx) (x : Nat) : (s.setCtx n c).net x = s.net x := rfl
@[simp] theorem State.setCtx_enc (s : State) (n : Nat) (c : Ctx) (x : Nat) : (s.setCtx n c).enc x = s.enc x := rfl
@[simp] theorem State.setCtx_pair (s : State) (n : Nat) (c : Ctx) (x : Nat) : (s.setCtx n c).pair x = s.pair x := rfl
@[simp] theorem State.setCtx_axis (s : State) (n : Nat) (c : Ctx) (x : Nat) : (s.setCtx n c).axis x = s.axis x := rfl
@[simp] theorem State.setCtx_slot (s : State) (n : Nat) (c : Ctx) (x : Nat) : (s.setCtx n c).slot x = s.slot x := rfl

/-! ### updCtx -/

@[simp] theorem State.updCtx_pending (s : State) (n : Nat) (f : Ctx → Ctx) : (s.updCtx n f).pending = s.pending := rfl
@[simp] theorem State.updCtx_part (s : State) (n : Nat) (f : Ctx → Ctx) : (s.updCtx n f).part = s.part := rfl
@[simp] theorem State.updCtx_regs (s : State) (n : Nat) (f : Ctx → Ctx) : (s.updCtx n f).regs = s.regs := rfl
@[simp] theorem State.updCtx_force (s : State) (n : Nat) (f : Ctx → Ctx) : (s.updCtx n f).force = s.force := rfl
@[simp] theorem State.updCtx_mem (s : State) (n : Nat) (f : Ctx → Ctx) : (s.updCtx n f).mem = s.mem := rfl
@[simp] theorem State.updCtx_badWords (s : State) (n : Nat) (f : Ctx → Ctx) : (s.updCtx n f).badWords = s.badWords := rfl
@[simp] theorem State.updCtx_timeNs (s : State) (n : Nat) (f : Ctx → Ctx) : (s.updCtx n f).timeNs = s.timeNs := rfl
@[simp] theorem State.updCtx_timeFrac (s : State) (n : Nat) (f : Ctx → Ctx) : (s.updCtx n f).timeFrac = s.timeFrac := rfl
@[simp] theorem State.updCtx_drawn (s : State) (n : Nat) (f : Ctx → Ctx) : (s.updCtx n f).drawn = s.drawn := rfl
@[simp] theorem State.updCtx_rings (s : State) (n : Nat) (f : Ctx → Ctx) : (s.updCtx n f).rings = s.rings := rfl
@[simp] theorem State.updCtx_cells (s : State) (n : Nat) (f : Ctx → Ctx) : (s.updCtx n f).cells = s.cells := rfl
@[simp] theorem State.updCtx_nougat (s : State) (n : Nat) (f : Ctx → Ctx) : (s.updCtx n f).nougat = s.nougat := rfl
@[simp] theorem State.updCtx_reports (s : State) (n : Nat) (f : Ctx → Ctx) : (s.updCtx n f).reports = s.reports := rfl
@[simp] theorem State.updCtx_safeLine (s : State) (n : Nat) (f : Ctx → Ctx) : (s.updCtx n f).safeLine = s.safeLine := rfl
@[simp] theorem State.updCtx_stopFireN (s : State) (n : Nat) (f : Ctx → Ctx) : (s.updCtx n f).stopFireN = s.stopFireN := rfl
@[simp] theorem State.updCtx_stopFireLatch (s : State) (n : Nat) (f : Ctx → Ctx) : (s.updCtx n f).stopFireLatch = s.stopFireLatch := rfl
@[simp] theorem State.updCtx_bscan (s : State) (n : Nat) (f : Ctx → Ctx) : (s.updCtx n f).bscan = s.bscan := rfl
@[simp] theorem State.updCtx_links (s : State) (n : Nat) (f : Ctx → Ctx) : (s.updCtx n f).links = s.links := rfl
@[simp] theorem State.updCtx_drops (s : State) (n : Nat) (f : Ctx → Ctx) : (s.updCtx n f).drops = s.drops := rfl
@[simp] theorem State.updCtx_keys (s : State) (n : Nat) (f : Ctx → Ctx) : (s.updCtx n f).keys = s.keys := rfl
@[simp] theorem State.updCtx_otp (s : State) (n : Nat) (f : Ctx → Ctx) : (s.updCtx n f).otp = s.otp := rfl
@[simp] theorem State.updCtx_vault (s : State) (n : Nat) (f : Ctx → Ctx) : (s.updCtx n f).vault = s.vault := rfl
@[simp] theorem State.updCtx_gov (s : State) (n : Nat) (f : Ctx → Ctx) : (s.updCtx n f).gov = s.gov := rfl
@[simp] theorem State.updCtx_goose (s : State) (n : Nat) (f : Ctx → Ctx) : (s.updCtx n f).goose = s.goose := rfl
@[simp] theorem State.updCtx_yoke (s : State) (n : Nat) (f : Ctx → Ctx) : (s.updCtx n f).yoke = s.yoke := rfl
@[simp] theorem State.updCtx_coop (s : State) (n : Nat) (f : Ctx → Ctx) : (s.updCtx n f).coop = s.coop := rfl
@[simp] theorem State.updCtx_heldWrites (s : State) (n : Nat) (f : Ctx → Ctx) : (s.updCtx n f).heldWrites = s.heldWrites := rfl
@[simp] theorem State.updCtx_ledger (s : State) (n : Nat) (f : Ctx → Ctx) : (s.updCtx n f).ledger = s.ledger := rfl
@[simp] theorem State.updCtx_encs (s : State) (n : Nat) (f : Ctx → Ctx) : (s.updCtx n f).encs = s.encs := rfl
@[simp] theorem State.updCtx_pairs (s : State) (n : Nat) (f : Ctx → Ctx) : (s.updCtx n f).pairs = s.pairs := rfl
@[simp] theorem State.updCtx_virt (s : State) (n : Nat) (f : Ctx → Ctx) : (s.updCtx n f).virt = s.virt := rfl
@[simp] theorem State.updCtx_pipes (s : State) (n : Nat) (f : Ctx → Ctx) : (s.updCtx n f).pipes = s.pipes := rfl
@[simp] theorem State.updCtx_cciJobs (s : State) (n : Nat) (f : Ctx → Ctx) : (s.updCtx n f).cciJobs = s.cciJobs := rfl
@[simp] theorem State.updCtx_ladders (s : State) (n : Nat) (f : Ctx → Ctx) : (s.updCtx n f).ladders = s.ladders := rfl
@[simp] theorem State.updCtx_axes (s : State) (n : Nat) (f : Ctx → Ctx) : (s.updCtx n f).axes = s.axes := rfl
@[simp] theorem State.updCtx_slots (s : State) (n : Nat) (f : Ctx → Ctx) : (s.updCtx n f).slots = s.slots := rfl
@[simp] theorem State.updCtx_loopTick (s : State) (n : Nat) (f : Ctx → Ctx) : (s.updCtx n f).loopTick = s.loopTick := rfl
@[simp] theorem State.updCtx_ainFirst (s : State) (n : Nat) (f : Ctx → Ctx) : (s.updCtx n f).ainFirst = s.ainFirst := rfl
@[simp] theorem State.updCtx_auxHigh (s : State) (n : Nat) (f : Ctx → Ctx) : (s.updCtx n f).auxHigh = s.auxHigh := rfl
@[simp] theorem State.updCtx_time (s : State) (n : Nat) (f : Ctx → Ctx) : (s.updCtx n f).time = s.time := rfl
@[simp] theorem State.updCtx_nets (s : State) (n : Nat) (f : Ctx → Ctx) : (s.updCtx n f).nets = s.nets := rfl
@[simp] theorem State.updCtx_out (s : State) (n : Nat) (f : Ctx → Ctx) : (s.updCtx n f).out = s.out := rfl
@[simp] theorem State.updCtx_caps (s : State) (n : Nat) (f : Ctx → Ctx) : (s.updCtx n f).caps = s.caps := rfl
@[simp] theorem State.updCtx_l1Held (s : State) (n : Nat) (f : Ctx → Ctx) : (s.updCtx n f).l1Held = s.l1Held := rfl
@[simp] theorem State.updCtx_rd (s : State) (n : Nat) (f : Ctx → Ctx) (x : Fld) : (s.updCtx n f).rd x = s.rd x := rfl
@[simp] theorem State.updCtx_on (s : State) (n : Nat) (f : Ctx → Ctx) (x : Fld) : (s.updCtx n f).on x = s.on x := rfl
@[simp] theorem State.updCtx_rdS (s : State) (n : Nat) (f : Ctx → Ctx) (x : Fld) : (s.updCtx n f).rdS x = s.rdS x := rfl
@[simp] theorem State.updCtx_rdF (s : State) (n : Nat) (f : Ctx → Ctx) (x : Fld) : (s.updCtx n f).rdF x = s.rdF x := rfl
@[simp] theorem State.updCtx_cell (s : State) (n : Nat) (f : Ctx → Ctx) (x : Nat) : (s.updCtx n f).cell x = s.cell x := rfl
@[simp] theorem State.updCtx_ring (s : State) (n : Nat) (f : Ctx → Ctx) (x : Nat) : (s.updCtx n f).ring x = s.ring x := rfl
@[simp] theorem State.updCtx_link (s : State) (n : Nat) (f : Ctx → Ctx) (x : Nat) : (s.updCtx n f).link x = s.link x := rfl
@[simp] theorem State.updCtx_pipe (s : State) (n : Nat) (f : Ctx → Ctx) (x : Nat) : (s.updCtx n f).pipe x = s.pipe x := rfl
@[simp] theorem State.updCtx_cci (s : State) (n : Nat) (f : Ctx → Ctx) (x : Nat) : (s.updCtx n f).cci x = s.cci x := rfl
@[simp] theorem State.updCtx_net (s : State) (n : Nat) (f : Ctx → Ctx) (x : Nat) : (s.updCtx n f).net x = s.net x := rfl
@[simp] theorem State.updCtx_enc (s : State) (n : Nat) (f : Ctx → Ctx) (x : Nat) : (s.updCtx n f).enc x = s.enc x := rfl
@[simp] theorem State.updCtx_pair (s : State) (n : Nat) (f : Ctx → Ctx) (x : Nat) : (s.updCtx n f).pair x = s.pair x := rfl
@[simp] theorem State.updCtx_axis (s : State) (n : Nat) (f : Ctx → Ctx) (x : Nat) : (s.updCtx n f).axis x = s.axis x := rfl
@[simp] theorem State.updCtx_slot (s : State) (n : Nat) (f : Ctx → Ctx) (x : Nat) : (s.updCtx n f).slot x = s.slot x := rfl

/-! ### setLink -/

@[simp] theorem State.setLink_pending (s : State) (n : Nat) (c : Link) : (s.setLink n c).pending = s.pending := rfl
@[simp] theorem State.setLink_part (s : State) (n : Nat) (c : Link) : (s.setLink n c).part = s.part := rfl
@[simp] theorem State.setLink_regs (s : State) (n : Nat) (c : Link) : (s.setLink n c).regs = s.regs := rfl
@[simp] theorem State.setLink_force (s : State) (n : Nat) (c : Link) : (s.setLink n c).force = s.force := rfl
@[simp] theorem State.setLink_mem (s : State) (n : Nat) (c : Link) : (s.setLink n c).mem = s.mem := rfl
@[simp] theorem State.setLink_badWords (s : State) (n : Nat) (c : Link) : (s.setLink n c).badWords = s.badWords := rfl
@[simp] theorem State.setLink_timeNs (s : State) (n : Nat) (c : Link) : (s.setLink n c).timeNs = s.timeNs := rfl
@[simp] theorem State.setLink_timeFrac (s : State) (n : Nat) (c : Link) : (s.setLink n c).timeFrac = s.timeFrac := rfl
@[simp] theorem State.setLink_drawn (s : State) (n : Nat) (c : Link) : (s.setLink n c).drawn = s.drawn := rfl
@[simp] theorem State.setLink_ctxs (s : State) (n : Nat) (c : Link) : (s.setLink n c).ctxs = s.ctxs := rfl
@[simp] theorem State.setLink_rings (s : State) (n : Nat) (c : Link) : (s.setLink n c).rings = s.rings := rfl
@[simp] theorem State.setLink_cells (s : State) (n : Nat) (c : Link) : (s.setLink n c).cells = s.cells := rfl
@[simp] theorem State.setLink_nougat (s : State) (n : Nat) (c : Link) : (s.setLink n c).nougat = s.nougat := rfl
@[simp] theorem State.setLink_reports (s : State) (n : Nat) (c : Link) : (s.setLink n c).reports = s.reports := rfl
@[simp] theorem State.setLink_safeLine (s : State) (n : Nat) (c : Link) : (s.setLink n c).safeLine = s.safeLine := rfl
@[simp] theorem State.setLink_stopFireN (s : State) (n : Nat) (c : Link) : (s.setLink n c).stopFireN = s.stopFireN := rfl
@[simp] theorem State.setLink_stopFireLatch (s : State) (n : Nat) (c : Link) : (s.setLink n c).stopFireLatch = s.stopFireLatch := rfl
@[simp] theorem State.setLink_bscan (s : State) (n : Nat) (c : Link) : (s.setLink n c).bscan = s.bscan := rfl
@[simp] theorem State.setLink_drops (s : State) (n : Nat) (c : Link) : (s.setLink n c).drops = s.drops := rfl
@[simp] theorem State.setLink_keys (s : State) (n : Nat) (c : Link) : (s.setLink n c).keys = s.keys := rfl
@[simp] theorem State.setLink_otp (s : State) (n : Nat) (c : Link) : (s.setLink n c).otp = s.otp := rfl
@[simp] theorem State.setLink_vault (s : State) (n : Nat) (c : Link) : (s.setLink n c).vault = s.vault := rfl
@[simp] theorem State.setLink_gov (s : State) (n : Nat) (c : Link) : (s.setLink n c).gov = s.gov := rfl
@[simp] theorem State.setLink_goose (s : State) (n : Nat) (c : Link) : (s.setLink n c).goose = s.goose := rfl
@[simp] theorem State.setLink_yoke (s : State) (n : Nat) (c : Link) : (s.setLink n c).yoke = s.yoke := rfl
@[simp] theorem State.setLink_coop (s : State) (n : Nat) (c : Link) : (s.setLink n c).coop = s.coop := rfl
@[simp] theorem State.setLink_heldWrites (s : State) (n : Nat) (c : Link) : (s.setLink n c).heldWrites = s.heldWrites := rfl
@[simp] theorem State.setLink_ledger (s : State) (n : Nat) (c : Link) : (s.setLink n c).ledger = s.ledger := rfl
@[simp] theorem State.setLink_encs (s : State) (n : Nat) (c : Link) : (s.setLink n c).encs = s.encs := rfl
@[simp] theorem State.setLink_pairs (s : State) (n : Nat) (c : Link) : (s.setLink n c).pairs = s.pairs := rfl
@[simp] theorem State.setLink_virt (s : State) (n : Nat) (c : Link) : (s.setLink n c).virt = s.virt := rfl
@[simp] theorem State.setLink_pipes (s : State) (n : Nat) (c : Link) : (s.setLink n c).pipes = s.pipes := rfl
@[simp] theorem State.setLink_cciJobs (s : State) (n : Nat) (c : Link) : (s.setLink n c).cciJobs = s.cciJobs := rfl
@[simp] theorem State.setLink_ladders (s : State) (n : Nat) (c : Link) : (s.setLink n c).ladders = s.ladders := rfl
@[simp] theorem State.setLink_axes (s : State) (n : Nat) (c : Link) : (s.setLink n c).axes = s.axes := rfl
@[simp] theorem State.setLink_slots (s : State) (n : Nat) (c : Link) : (s.setLink n c).slots = s.slots := rfl
@[simp] theorem State.setLink_loopTick (s : State) (n : Nat) (c : Link) : (s.setLink n c).loopTick = s.loopTick := rfl
@[simp] theorem State.setLink_ainFirst (s : State) (n : Nat) (c : Link) : (s.setLink n c).ainFirst = s.ainFirst := rfl
@[simp] theorem State.setLink_auxHigh (s : State) (n : Nat) (c : Link) : (s.setLink n c).auxHigh = s.auxHigh := rfl
@[simp] theorem State.setLink_time (s : State) (n : Nat) (c : Link) : (s.setLink n c).time = s.time := rfl
@[simp] theorem State.setLink_nets (s : State) (n : Nat) (c : Link) : (s.setLink n c).nets = s.nets := rfl
@[simp] theorem State.setLink_out (s : State) (n : Nat) (c : Link) : (s.setLink n c).out = s.out := rfl
@[simp] theorem State.setLink_caps (s : State) (n : Nat) (c : Link) : (s.setLink n c).caps = s.caps := rfl
@[simp] theorem State.setLink_l1Held (s : State) (n : Nat) (c : Link) : (s.setLink n c).l1Held = s.l1Held := rfl
@[simp] theorem State.setLink_rd (s : State) (n : Nat) (c : Link) (x : Fld) : (s.setLink n c).rd x = s.rd x := rfl
@[simp] theorem State.setLink_on (s : State) (n : Nat) (c : Link) (x : Fld) : (s.setLink n c).on x = s.on x := rfl
@[simp] theorem State.setLink_rdS (s : State) (n : Nat) (c : Link) (x : Fld) : (s.setLink n c).rdS x = s.rdS x := rfl
@[simp] theorem State.setLink_rdF (s : State) (n : Nat) (c : Link) (x : Fld) : (s.setLink n c).rdF x = s.rdF x := rfl
@[simp] theorem State.setLink_cell (s : State) (n : Nat) (c : Link) (x : Nat) : (s.setLink n c).cell x = s.cell x := rfl
@[simp] theorem State.setLink_ring (s : State) (n : Nat) (c : Link) (x : Nat) : (s.setLink n c).ring x = s.ring x := rfl
@[simp] theorem State.setLink_ctx (s : State) (n : Nat) (c : Link) (x : Nat) : (s.setLink n c).ctx x = s.ctx x := rfl
@[simp] theorem State.setLink_pipe (s : State) (n : Nat) (c : Link) (x : Nat) : (s.setLink n c).pipe x = s.pipe x := rfl
@[simp] theorem State.setLink_cci (s : State) (n : Nat) (c : Link) (x : Nat) : (s.setLink n c).cci x = s.cci x := rfl
@[simp] theorem State.setLink_net (s : State) (n : Nat) (c : Link) (x : Nat) : (s.setLink n c).net x = s.net x := rfl
@[simp] theorem State.setLink_enc (s : State) (n : Nat) (c : Link) (x : Nat) : (s.setLink n c).enc x = s.enc x := rfl
@[simp] theorem State.setLink_pair (s : State) (n : Nat) (c : Link) (x : Nat) : (s.setLink n c).pair x = s.pair x := rfl
@[simp] theorem State.setLink_axis (s : State) (n : Nat) (c : Link) (x : Nat) : (s.setLink n c).axis x = s.axis x := rfl
@[simp] theorem State.setLink_slot (s : State) (n : Nat) (c : Link) (x : Nat) : (s.setLink n c).slot x = s.slot x := rfl

/-! ### updLink -/

@[simp] theorem State.updLink_pending (s : State) (n : Nat) (f : Link → Link) : (s.updLink n f).pending = s.pending := rfl
@[simp] theorem State.updLink_part (s : State) (n : Nat) (f : Link → Link) : (s.updLink n f).part = s.part := rfl
@[simp] theorem State.updLink_regs (s : State) (n : Nat) (f : Link → Link) : (s.updLink n f).regs = s.regs := rfl
@[simp] theorem State.updLink_force (s : State) (n : Nat) (f : Link → Link) : (s.updLink n f).force = s.force := rfl
@[simp] theorem State.updLink_mem (s : State) (n : Nat) (f : Link → Link) : (s.updLink n f).mem = s.mem := rfl
@[simp] theorem State.updLink_badWords (s : State) (n : Nat) (f : Link → Link) : (s.updLink n f).badWords = s.badWords := rfl
@[simp] theorem State.updLink_timeNs (s : State) (n : Nat) (f : Link → Link) : (s.updLink n f).timeNs = s.timeNs := rfl
@[simp] theorem State.updLink_timeFrac (s : State) (n : Nat) (f : Link → Link) : (s.updLink n f).timeFrac = s.timeFrac := rfl
@[simp] theorem State.updLink_drawn (s : State) (n : Nat) (f : Link → Link) : (s.updLink n f).drawn = s.drawn := rfl
@[simp] theorem State.updLink_ctxs (s : State) (n : Nat) (f : Link → Link) : (s.updLink n f).ctxs = s.ctxs := rfl
@[simp] theorem State.updLink_rings (s : State) (n : Nat) (f : Link → Link) : (s.updLink n f).rings = s.rings := rfl
@[simp] theorem State.updLink_cells (s : State) (n : Nat) (f : Link → Link) : (s.updLink n f).cells = s.cells := rfl
@[simp] theorem State.updLink_nougat (s : State) (n : Nat) (f : Link → Link) : (s.updLink n f).nougat = s.nougat := rfl
@[simp] theorem State.updLink_reports (s : State) (n : Nat) (f : Link → Link) : (s.updLink n f).reports = s.reports := rfl
@[simp] theorem State.updLink_safeLine (s : State) (n : Nat) (f : Link → Link) : (s.updLink n f).safeLine = s.safeLine := rfl
@[simp] theorem State.updLink_stopFireN (s : State) (n : Nat) (f : Link → Link) : (s.updLink n f).stopFireN = s.stopFireN := rfl
@[simp] theorem State.updLink_stopFireLatch (s : State) (n : Nat) (f : Link → Link) : (s.updLink n f).stopFireLatch = s.stopFireLatch := rfl
@[simp] theorem State.updLink_bscan (s : State) (n : Nat) (f : Link → Link) : (s.updLink n f).bscan = s.bscan := rfl
@[simp] theorem State.updLink_drops (s : State) (n : Nat) (f : Link → Link) : (s.updLink n f).drops = s.drops := rfl
@[simp] theorem State.updLink_keys (s : State) (n : Nat) (f : Link → Link) : (s.updLink n f).keys = s.keys := rfl
@[simp] theorem State.updLink_otp (s : State) (n : Nat) (f : Link → Link) : (s.updLink n f).otp = s.otp := rfl
@[simp] theorem State.updLink_vault (s : State) (n : Nat) (f : Link → Link) : (s.updLink n f).vault = s.vault := rfl
@[simp] theorem State.updLink_gov (s : State) (n : Nat) (f : Link → Link) : (s.updLink n f).gov = s.gov := rfl
@[simp] theorem State.updLink_goose (s : State) (n : Nat) (f : Link → Link) : (s.updLink n f).goose = s.goose := rfl
@[simp] theorem State.updLink_yoke (s : State) (n : Nat) (f : Link → Link) : (s.updLink n f).yoke = s.yoke := rfl
@[simp] theorem State.updLink_coop (s : State) (n : Nat) (f : Link → Link) : (s.updLink n f).coop = s.coop := rfl
@[simp] theorem State.updLink_heldWrites (s : State) (n : Nat) (f : Link → Link) : (s.updLink n f).heldWrites = s.heldWrites := rfl
@[simp] theorem State.updLink_ledger (s : State) (n : Nat) (f : Link → Link) : (s.updLink n f).ledger = s.ledger := rfl
@[simp] theorem State.updLink_encs (s : State) (n : Nat) (f : Link → Link) : (s.updLink n f).encs = s.encs := rfl
@[simp] theorem State.updLink_pairs (s : State) (n : Nat) (f : Link → Link) : (s.updLink n f).pairs = s.pairs := rfl
@[simp] theorem State.updLink_virt (s : State) (n : Nat) (f : Link → Link) : (s.updLink n f).virt = s.virt := rfl
@[simp] theorem State.updLink_pipes (s : State) (n : Nat) (f : Link → Link) : (s.updLink n f).pipes = s.pipes := rfl
@[simp] theorem State.updLink_cciJobs (s : State) (n : Nat) (f : Link → Link) : (s.updLink n f).cciJobs = s.cciJobs := rfl
@[simp] theorem State.updLink_ladders (s : State) (n : Nat) (f : Link → Link) : (s.updLink n f).ladders = s.ladders := rfl
@[simp] theorem State.updLink_axes (s : State) (n : Nat) (f : Link → Link) : (s.updLink n f).axes = s.axes := rfl
@[simp] theorem State.updLink_slots (s : State) (n : Nat) (f : Link → Link) : (s.updLink n f).slots = s.slots := rfl
@[simp] theorem State.updLink_loopTick (s : State) (n : Nat) (f : Link → Link) : (s.updLink n f).loopTick = s.loopTick := rfl
@[simp] theorem State.updLink_ainFirst (s : State) (n : Nat) (f : Link → Link) : (s.updLink n f).ainFirst = s.ainFirst := rfl
@[simp] theorem State.updLink_auxHigh (s : State) (n : Nat) (f : Link → Link) : (s.updLink n f).auxHigh = s.auxHigh := rfl
@[simp] theorem State.updLink_time (s : State) (n : Nat) (f : Link → Link) : (s.updLink n f).time = s.time := rfl
@[simp] theorem State.updLink_nets (s : State) (n : Nat) (f : Link → Link) : (s.updLink n f).nets = s.nets := rfl
@[simp] theorem State.updLink_out (s : State) (n : Nat) (f : Link → Link) : (s.updLink n f).out = s.out := rfl
@[simp] theorem State.updLink_caps (s : State) (n : Nat) (f : Link → Link) : (s.updLink n f).caps = s.caps := rfl
@[simp] theorem State.updLink_l1Held (s : State) (n : Nat) (f : Link → Link) : (s.updLink n f).l1Held = s.l1Held := rfl
@[simp] theorem State.updLink_rd (s : State) (n : Nat) (f : Link → Link) (x : Fld) : (s.updLink n f).rd x = s.rd x := rfl
@[simp] theorem State.updLink_on (s : State) (n : Nat) (f : Link → Link) (x : Fld) : (s.updLink n f).on x = s.on x := rfl
@[simp] theorem State.updLink_rdS (s : State) (n : Nat) (f : Link → Link) (x : Fld) : (s.updLink n f).rdS x = s.rdS x := rfl
@[simp] theorem State.updLink_rdF (s : State) (n : Nat) (f : Link → Link) (x : Fld) : (s.updLink n f).rdF x = s.rdF x := rfl
@[simp] theorem State.updLink_cell (s : State) (n : Nat) (f : Link → Link) (x : Nat) : (s.updLink n f).cell x = s.cell x := rfl
@[simp] theorem State.updLink_ring (s : State) (n : Nat) (f : Link → Link) (x : Nat) : (s.updLink n f).ring x = s.ring x := rfl
@[simp] theorem State.updLink_ctx (s : State) (n : Nat) (f : Link → Link) (x : Nat) : (s.updLink n f).ctx x = s.ctx x := rfl
@[simp] theorem State.updLink_pipe (s : State) (n : Nat) (f : Link → Link) (x : Nat) : (s.updLink n f).pipe x = s.pipe x := rfl
@[simp] theorem State.updLink_cci (s : State) (n : Nat) (f : Link → Link) (x : Nat) : (s.updLink n f).cci x = s.cci x := rfl
@[simp] theorem State.updLink_net (s : State) (n : Nat) (f : Link → Link) (x : Nat) : (s.updLink n f).net x = s.net x := rfl
@[simp] theorem State.updLink_enc (s : State) (n : Nat) (f : Link → Link) (x : Nat) : (s.updLink n f).enc x = s.enc x := rfl
@[simp] theorem State.updLink_pair (s : State) (n : Nat) (f : Link → Link) (x : Nat) : (s.updLink n f).pair x = s.pair x := rfl
@[simp] theorem State.updLink_axis (s : State) (n : Nat) (f : Link → Link) (x : Nat) : (s.updLink n f).axis x = s.axis x := rfl
@[simp] theorem State.updLink_slot (s : State) (n : Nat) (f : Link → Link) (x : Nat) : (s.updLink n f).slot x = s.slot x := rfl

/-! ### setPipe -/

@[simp] theorem State.setPipe_pending (s : State) (n : Nat) (c : Pipe) : (s.setPipe n c).pending = s.pending := rfl
@[simp] theorem State.setPipe_part (s : State) (n : Nat) (c : Pipe) : (s.setPipe n c).part = s.part := rfl
@[simp] theorem State.setPipe_regs (s : State) (n : Nat) (c : Pipe) : (s.setPipe n c).regs = s.regs := rfl
@[simp] theorem State.setPipe_force (s : State) (n : Nat) (c : Pipe) : (s.setPipe n c).force = s.force := rfl
@[simp] theorem State.setPipe_mem (s : State) (n : Nat) (c : Pipe) : (s.setPipe n c).mem = s.mem := rfl
@[simp] theorem State.setPipe_badWords (s : State) (n : Nat) (c : Pipe) : (s.setPipe n c).badWords = s.badWords := rfl
@[simp] theorem State.setPipe_timeNs (s : State) (n : Nat) (c : Pipe) : (s.setPipe n c).timeNs = s.timeNs := rfl
@[simp] theorem State.setPipe_timeFrac (s : State) (n : Nat) (c : Pipe) : (s.setPipe n c).timeFrac = s.timeFrac := rfl
@[simp] theorem State.setPipe_drawn (s : State) (n : Nat) (c : Pipe) : (s.setPipe n c).drawn = s.drawn := rfl
@[simp] theorem State.setPipe_ctxs (s : State) (n : Nat) (c : Pipe) : (s.setPipe n c).ctxs = s.ctxs := rfl
@[simp] theorem State.setPipe_rings (s : State) (n : Nat) (c : Pipe) : (s.setPipe n c).rings = s.rings := rfl
@[simp] theorem State.setPipe_cells (s : State) (n : Nat) (c : Pipe) : (s.setPipe n c).cells = s.cells := rfl
@[simp] theorem State.setPipe_nougat (s : State) (n : Nat) (c : Pipe) : (s.setPipe n c).nougat = s.nougat := rfl
@[simp] theorem State.setPipe_reports (s : State) (n : Nat) (c : Pipe) : (s.setPipe n c).reports = s.reports := rfl
@[simp] theorem State.setPipe_safeLine (s : State) (n : Nat) (c : Pipe) : (s.setPipe n c).safeLine = s.safeLine := rfl
@[simp] theorem State.setPipe_stopFireN (s : State) (n : Nat) (c : Pipe) : (s.setPipe n c).stopFireN = s.stopFireN := rfl
@[simp] theorem State.setPipe_stopFireLatch (s : State) (n : Nat) (c : Pipe) : (s.setPipe n c).stopFireLatch = s.stopFireLatch := rfl
@[simp] theorem State.setPipe_bscan (s : State) (n : Nat) (c : Pipe) : (s.setPipe n c).bscan = s.bscan := rfl
@[simp] theorem State.setPipe_links (s : State) (n : Nat) (c : Pipe) : (s.setPipe n c).links = s.links := rfl
@[simp] theorem State.setPipe_drops (s : State) (n : Nat) (c : Pipe) : (s.setPipe n c).drops = s.drops := rfl
@[simp] theorem State.setPipe_keys (s : State) (n : Nat) (c : Pipe) : (s.setPipe n c).keys = s.keys := rfl
@[simp] theorem State.setPipe_otp (s : State) (n : Nat) (c : Pipe) : (s.setPipe n c).otp = s.otp := rfl
@[simp] theorem State.setPipe_vault (s : State) (n : Nat) (c : Pipe) : (s.setPipe n c).vault = s.vault := rfl
@[simp] theorem State.setPipe_gov (s : State) (n : Nat) (c : Pipe) : (s.setPipe n c).gov = s.gov := rfl
@[simp] theorem State.setPipe_goose (s : State) (n : Nat) (c : Pipe) : (s.setPipe n c).goose = s.goose := rfl
@[simp] theorem State.setPipe_yoke (s : State) (n : Nat) (c : Pipe) : (s.setPipe n c).yoke = s.yoke := rfl
@[simp] theorem State.setPipe_coop (s : State) (n : Nat) (c : Pipe) : (s.setPipe n c).coop = s.coop := rfl
@[simp] theorem State.setPipe_heldWrites (s : State) (n : Nat) (c : Pipe) : (s.setPipe n c).heldWrites = s.heldWrites := rfl
@[simp] theorem State.setPipe_ledger (s : State) (n : Nat) (c : Pipe) : (s.setPipe n c).ledger = s.ledger := rfl
@[simp] theorem State.setPipe_encs (s : State) (n : Nat) (c : Pipe) : (s.setPipe n c).encs = s.encs := rfl
@[simp] theorem State.setPipe_pairs (s : State) (n : Nat) (c : Pipe) : (s.setPipe n c).pairs = s.pairs := rfl
@[simp] theorem State.setPipe_virt (s : State) (n : Nat) (c : Pipe) : (s.setPipe n c).virt = s.virt := rfl
@[simp] theorem State.setPipe_cciJobs (s : State) (n : Nat) (c : Pipe) : (s.setPipe n c).cciJobs = s.cciJobs := rfl
@[simp] theorem State.setPipe_ladders (s : State) (n : Nat) (c : Pipe) : (s.setPipe n c).ladders = s.ladders := rfl
@[simp] theorem State.setPipe_axes (s : State) (n : Nat) (c : Pipe) : (s.setPipe n c).axes = s.axes := rfl
@[simp] theorem State.setPipe_slots (s : State) (n : Nat) (c : Pipe) : (s.setPipe n c).slots = s.slots := rfl
@[simp] theorem State.setPipe_loopTick (s : State) (n : Nat) (c : Pipe) : (s.setPipe n c).loopTick = s.loopTick := rfl
@[simp] theorem State.setPipe_ainFirst (s : State) (n : Nat) (c : Pipe) : (s.setPipe n c).ainFirst = s.ainFirst := rfl
@[simp] theorem State.setPipe_auxHigh (s : State) (n : Nat) (c : Pipe) : (s.setPipe n c).auxHigh = s.auxHigh := rfl
@[simp] theorem State.setPipe_time (s : State) (n : Nat) (c : Pipe) : (s.setPipe n c).time = s.time := rfl
@[simp] theorem State.setPipe_nets (s : State) (n : Nat) (c : Pipe) : (s.setPipe n c).nets = s.nets := rfl
@[simp] theorem State.setPipe_out (s : State) (n : Nat) (c : Pipe) : (s.setPipe n c).out = s.out := rfl
@[simp] theorem State.setPipe_caps (s : State) (n : Nat) (c : Pipe) : (s.setPipe n c).caps = s.caps := rfl
@[simp] theorem State.setPipe_l1Held (s : State) (n : Nat) (c : Pipe) : (s.setPipe n c).l1Held = s.l1Held := rfl
@[simp] theorem State.setPipe_rd (s : State) (n : Nat) (c : Pipe) (x : Fld) : (s.setPipe n c).rd x = s.rd x := rfl
@[simp] theorem State.setPipe_on (s : State) (n : Nat) (c : Pipe) (x : Fld) : (s.setPipe n c).on x = s.on x := rfl
@[simp] theorem State.setPipe_rdS (s : State) (n : Nat) (c : Pipe) (x : Fld) : (s.setPipe n c).rdS x = s.rdS x := rfl
@[simp] theorem State.setPipe_rdF (s : State) (n : Nat) (c : Pipe) (x : Fld) : (s.setPipe n c).rdF x = s.rdF x := rfl
@[simp] theorem State.setPipe_cell (s : State) (n : Nat) (c : Pipe) (x : Nat) : (s.setPipe n c).cell x = s.cell x := rfl
@[simp] theorem State.setPipe_ring (s : State) (n : Nat) (c : Pipe) (x : Nat) : (s.setPipe n c).ring x = s.ring x := rfl
@[simp] theorem State.setPipe_ctx (s : State) (n : Nat) (c : Pipe) (x : Nat) : (s.setPipe n c).ctx x = s.ctx x := rfl
@[simp] theorem State.setPipe_link (s : State) (n : Nat) (c : Pipe) (x : Nat) : (s.setPipe n c).link x = s.link x := rfl
@[simp] theorem State.setPipe_cci (s : State) (n : Nat) (c : Pipe) (x : Nat) : (s.setPipe n c).cci x = s.cci x := rfl
@[simp] theorem State.setPipe_net (s : State) (n : Nat) (c : Pipe) (x : Nat) : (s.setPipe n c).net x = s.net x := rfl
@[simp] theorem State.setPipe_enc (s : State) (n : Nat) (c : Pipe) (x : Nat) : (s.setPipe n c).enc x = s.enc x := rfl
@[simp] theorem State.setPipe_pair (s : State) (n : Nat) (c : Pipe) (x : Nat) : (s.setPipe n c).pair x = s.pair x := rfl
@[simp] theorem State.setPipe_axis (s : State) (n : Nat) (c : Pipe) (x : Nat) : (s.setPipe n c).axis x = s.axis x := rfl
@[simp] theorem State.setPipe_slot (s : State) (n : Nat) (c : Pipe) (x : Nat) : (s.setPipe n c).slot x = s.slot x := rfl

/-! ### updPipe -/

@[simp] theorem State.updPipe_pending (s : State) (n : Nat) (f : Pipe → Pipe) : (s.updPipe n f).pending = s.pending := rfl
@[simp] theorem State.updPipe_part (s : State) (n : Nat) (f : Pipe → Pipe) : (s.updPipe n f).part = s.part := rfl
@[simp] theorem State.updPipe_regs (s : State) (n : Nat) (f : Pipe → Pipe) : (s.updPipe n f).regs = s.regs := rfl
@[simp] theorem State.updPipe_force (s : State) (n : Nat) (f : Pipe → Pipe) : (s.updPipe n f).force = s.force := rfl
@[simp] theorem State.updPipe_mem (s : State) (n : Nat) (f : Pipe → Pipe) : (s.updPipe n f).mem = s.mem := rfl
@[simp] theorem State.updPipe_badWords (s : State) (n : Nat) (f : Pipe → Pipe) : (s.updPipe n f).badWords = s.badWords := rfl
@[simp] theorem State.updPipe_timeNs (s : State) (n : Nat) (f : Pipe → Pipe) : (s.updPipe n f).timeNs = s.timeNs := rfl
@[simp] theorem State.updPipe_timeFrac (s : State) (n : Nat) (f : Pipe → Pipe) : (s.updPipe n f).timeFrac = s.timeFrac := rfl
@[simp] theorem State.updPipe_drawn (s : State) (n : Nat) (f : Pipe → Pipe) : (s.updPipe n f).drawn = s.drawn := rfl
@[simp] theorem State.updPipe_ctxs (s : State) (n : Nat) (f : Pipe → Pipe) : (s.updPipe n f).ctxs = s.ctxs := rfl
@[simp] theorem State.updPipe_rings (s : State) (n : Nat) (f : Pipe → Pipe) : (s.updPipe n f).rings = s.rings := rfl
@[simp] theorem State.updPipe_cells (s : State) (n : Nat) (f : Pipe → Pipe) : (s.updPipe n f).cells = s.cells := rfl
@[simp] theorem State.updPipe_nougat (s : State) (n : Nat) (f : Pipe → Pipe) : (s.updPipe n f).nougat = s.nougat := rfl
@[simp] theorem State.updPipe_reports (s : State) (n : Nat) (f : Pipe → Pipe) : (s.updPipe n f).reports = s.reports := rfl
@[simp] theorem State.updPipe_safeLine (s : State) (n : Nat) (f : Pipe → Pipe) : (s.updPipe n f).safeLine = s.safeLine := rfl
@[simp] theorem State.updPipe_stopFireN (s : State) (n : Nat) (f : Pipe → Pipe) : (s.updPipe n f).stopFireN = s.stopFireN := rfl
@[simp] theorem State.updPipe_stopFireLatch (s : State) (n : Nat) (f : Pipe → Pipe) : (s.updPipe n f).stopFireLatch = s.stopFireLatch := rfl
@[simp] theorem State.updPipe_bscan (s : State) (n : Nat) (f : Pipe → Pipe) : (s.updPipe n f).bscan = s.bscan := rfl
@[simp] theorem State.updPipe_links (s : State) (n : Nat) (f : Pipe → Pipe) : (s.updPipe n f).links = s.links := rfl
@[simp] theorem State.updPipe_drops (s : State) (n : Nat) (f : Pipe → Pipe) : (s.updPipe n f).drops = s.drops := rfl
@[simp] theorem State.updPipe_keys (s : State) (n : Nat) (f : Pipe → Pipe) : (s.updPipe n f).keys = s.keys := rfl
@[simp] theorem State.updPipe_otp (s : State) (n : Nat) (f : Pipe → Pipe) : (s.updPipe n f).otp = s.otp := rfl
@[simp] theorem State.updPipe_vault (s : State) (n : Nat) (f : Pipe → Pipe) : (s.updPipe n f).vault = s.vault := rfl
@[simp] theorem State.updPipe_gov (s : State) (n : Nat) (f : Pipe → Pipe) : (s.updPipe n f).gov = s.gov := rfl
@[simp] theorem State.updPipe_goose (s : State) (n : Nat) (f : Pipe → Pipe) : (s.updPipe n f).goose = s.goose := rfl
@[simp] theorem State.updPipe_yoke (s : State) (n : Nat) (f : Pipe → Pipe) : (s.updPipe n f).yoke = s.yoke := rfl
@[simp] theorem State.updPipe_coop (s : State) (n : Nat) (f : Pipe → Pipe) : (s.updPipe n f).coop = s.coop := rfl
@[simp] theorem State.updPipe_heldWrites (s : State) (n : Nat) (f : Pipe → Pipe) : (s.updPipe n f).heldWrites = s.heldWrites := rfl
@[simp] theorem State.updPipe_ledger (s : State) (n : Nat) (f : Pipe → Pipe) : (s.updPipe n f).ledger = s.ledger := rfl
@[simp] theorem State.updPipe_encs (s : State) (n : Nat) (f : Pipe → Pipe) : (s.updPipe n f).encs = s.encs := rfl
@[simp] theorem State.updPipe_pairs (s : State) (n : Nat) (f : Pipe → Pipe) : (s.updPipe n f).pairs = s.pairs := rfl
@[simp] theorem State.updPipe_virt (s : State) (n : Nat) (f : Pipe → Pipe) : (s.updPipe n f).virt = s.virt := rfl
@[simp] theorem State.updPipe_cciJobs (s : State) (n : Nat) (f : Pipe → Pipe) : (s.updPipe n f).cciJobs = s.cciJobs := rfl
@[simp] theorem State.updPipe_ladders (s : State) (n : Nat) (f : Pipe → Pipe) : (s.updPipe n f).ladders = s.ladders := rfl
@[simp] theorem State.updPipe_axes (s : State) (n : Nat) (f : Pipe → Pipe) : (s.updPipe n f).axes = s.axes := rfl
@[simp] theorem State.updPipe_slots (s : State) (n : Nat) (f : Pipe → Pipe) : (s.updPipe n f).slots = s.slots := rfl
@[simp] theorem State.updPipe_loopTick (s : State) (n : Nat) (f : Pipe → Pipe) : (s.updPipe n f).loopTick = s.loopTick := rfl
@[simp] theorem State.updPipe_ainFirst (s : State) (n : Nat) (f : Pipe → Pipe) : (s.updPipe n f).ainFirst = s.ainFirst := rfl
@[simp] theorem State.updPipe_auxHigh (s : State) (n : Nat) (f : Pipe → Pipe) : (s.updPipe n f).auxHigh = s.auxHigh := rfl
@[simp] theorem State.updPipe_time (s : State) (n : Nat) (f : Pipe → Pipe) : (s.updPipe n f).time = s.time := rfl
@[simp] theorem State.updPipe_nets (s : State) (n : Nat) (f : Pipe → Pipe) : (s.updPipe n f).nets = s.nets := rfl
@[simp] theorem State.updPipe_out (s : State) (n : Nat) (f : Pipe → Pipe) : (s.updPipe n f).out = s.out := rfl
@[simp] theorem State.updPipe_caps (s : State) (n : Nat) (f : Pipe → Pipe) : (s.updPipe n f).caps = s.caps := rfl
@[simp] theorem State.updPipe_l1Held (s : State) (n : Nat) (f : Pipe → Pipe) : (s.updPipe n f).l1Held = s.l1Held := rfl
@[simp] theorem State.updPipe_rd (s : State) (n : Nat) (f : Pipe → Pipe) (x : Fld) : (s.updPipe n f).rd x = s.rd x := rfl
@[simp] theorem State.updPipe_on (s : State) (n : Nat) (f : Pipe → Pipe) (x : Fld) : (s.updPipe n f).on x = s.on x := rfl
@[simp] theorem State.updPipe_rdS (s : State) (n : Nat) (f : Pipe → Pipe) (x : Fld) : (s.updPipe n f).rdS x = s.rdS x := rfl
@[simp] theorem State.updPipe_rdF (s : State) (n : Nat) (f : Pipe → Pipe) (x : Fld) : (s.updPipe n f).rdF x = s.rdF x := rfl
@[simp] theorem State.updPipe_cell (s : State) (n : Nat) (f : Pipe → Pipe) (x : Nat) : (s.updPipe n f).cell x = s.cell x := rfl
@[simp] theorem State.updPipe_ring (s : State) (n : Nat) (f : Pipe → Pipe) (x : Nat) : (s.updPipe n f).ring x = s.ring x := rfl
@[simp] theorem State.updPipe_ctx (s : State) (n : Nat) (f : Pipe → Pipe) (x : Nat) : (s.updPipe n f).ctx x = s.ctx x := rfl
@[simp] theorem State.updPipe_link (s : State) (n : Nat) (f : Pipe → Pipe) (x : Nat) : (s.updPipe n f).link x = s.link x := rfl
@[simp] theorem State.updPipe_cci (s : State) (n : Nat) (f : Pipe → Pipe) (x : Nat) : (s.updPipe n f).cci x = s.cci x := rfl
@[simp] theorem State.updPipe_net (s : State) (n : Nat) (f : Pipe → Pipe) (x : Nat) : (s.updPipe n f).net x = s.net x := rfl
@[simp] theorem State.updPipe_enc (s : State) (n : Nat) (f : Pipe → Pipe) (x : Nat) : (s.updPipe n f).enc x = s.enc x := rfl
@[simp] theorem State.updPipe_pair (s : State) (n : Nat) (f : Pipe → Pipe) (x : Nat) : (s.updPipe n f).pair x = s.pair x := rfl
@[simp] theorem State.updPipe_axis (s : State) (n : Nat) (f : Pipe → Pipe) (x : Nat) : (s.updPipe n f).axis x = s.axis x := rfl
@[simp] theorem State.updPipe_slot (s : State) (n : Nat) (f : Pipe → Pipe) (x : Nat) : (s.updPipe n f).slot x = s.slot x := rfl

/-! ### setCci -/

@[simp] theorem State.setCci_pending (s : State) (n : Nat) (c : List CciJob) : (s.setCci n c).pending = s.pending := rfl
@[simp] theorem State.setCci_part (s : State) (n : Nat) (c : List CciJob) : (s.setCci n c).part = s.part := rfl
@[simp] theorem State.setCci_regs (s : State) (n : Nat) (c : List CciJob) : (s.setCci n c).regs = s.regs := rfl
@[simp] theorem State.setCci_force (s : State) (n : Nat) (c : List CciJob) : (s.setCci n c).force = s.force := rfl
@[simp] theorem State.setCci_mem (s : State) (n : Nat) (c : List CciJob) : (s.setCci n c).mem = s.mem := rfl
@[simp] theorem State.setCci_badWords (s : State) (n : Nat) (c : List CciJob) : (s.setCci n c).badWords = s.badWords := rfl
@[simp] theorem State.setCci_timeNs (s : State) (n : Nat) (c : List CciJob) : (s.setCci n c).timeNs = s.timeNs := rfl
@[simp] theorem State.setCci_timeFrac (s : State) (n : Nat) (c : List CciJob) : (s.setCci n c).timeFrac = s.timeFrac := rfl
@[simp] theorem State.setCci_drawn (s : State) (n : Nat) (c : List CciJob) : (s.setCci n c).drawn = s.drawn := rfl
@[simp] theorem State.setCci_ctxs (s : State) (n : Nat) (c : List CciJob) : (s.setCci n c).ctxs = s.ctxs := rfl
@[simp] theorem State.setCci_rings (s : State) (n : Nat) (c : List CciJob) : (s.setCci n c).rings = s.rings := rfl
@[simp] theorem State.setCci_cells (s : State) (n : Nat) (c : List CciJob) : (s.setCci n c).cells = s.cells := rfl
@[simp] theorem State.setCci_nougat (s : State) (n : Nat) (c : List CciJob) : (s.setCci n c).nougat = s.nougat := rfl
@[simp] theorem State.setCci_reports (s : State) (n : Nat) (c : List CciJob) : (s.setCci n c).reports = s.reports := rfl
@[simp] theorem State.setCci_safeLine (s : State) (n : Nat) (c : List CciJob) : (s.setCci n c).safeLine = s.safeLine := rfl
@[simp] theorem State.setCci_stopFireN (s : State) (n : Nat) (c : List CciJob) : (s.setCci n c).stopFireN = s.stopFireN := rfl
@[simp] theorem State.setCci_stopFireLatch (s : State) (n : Nat) (c : List CciJob) : (s.setCci n c).stopFireLatch = s.stopFireLatch := rfl
@[simp] theorem State.setCci_bscan (s : State) (n : Nat) (c : List CciJob) : (s.setCci n c).bscan = s.bscan := rfl
@[simp] theorem State.setCci_links (s : State) (n : Nat) (c : List CciJob) : (s.setCci n c).links = s.links := rfl
@[simp] theorem State.setCci_drops (s : State) (n : Nat) (c : List CciJob) : (s.setCci n c).drops = s.drops := rfl
@[simp] theorem State.setCci_keys (s : State) (n : Nat) (c : List CciJob) : (s.setCci n c).keys = s.keys := rfl
@[simp] theorem State.setCci_otp (s : State) (n : Nat) (c : List CciJob) : (s.setCci n c).otp = s.otp := rfl
@[simp] theorem State.setCci_vault (s : State) (n : Nat) (c : List CciJob) : (s.setCci n c).vault = s.vault := rfl
@[simp] theorem State.setCci_gov (s : State) (n : Nat) (c : List CciJob) : (s.setCci n c).gov = s.gov := rfl
@[simp] theorem State.setCci_goose (s : State) (n : Nat) (c : List CciJob) : (s.setCci n c).goose = s.goose := rfl
@[simp] theorem State.setCci_yoke (s : State) (n : Nat) (c : List CciJob) : (s.setCci n c).yoke = s.yoke := rfl
@[simp] theorem State.setCci_coop (s : State) (n : Nat) (c : List CciJob) : (s.setCci n c).coop = s.coop := rfl
@[simp] theorem State.setCci_heldWrites (s : State) (n : Nat) (c : List CciJob) : (s.setCci n c).heldWrites = s.heldWrites := rfl
@[simp] theorem State.setCci_ledger (s : State) (n : Nat) (c : List CciJob) : (s.setCci n c).ledger = s.ledger := rfl
@[simp] theorem State.setCci_encs (s : State) (n : Nat) (c : List CciJob) : (s.setCci n c).encs = s.encs := rfl
@[simp] theorem State.setCci_pairs (s : State) (n : Nat) (c : List CciJob) : (s.setCci n c).pairs = s.pairs := rfl
@[simp] theorem State.setCci_virt (s : State) (n : Nat) (c : List CciJob) : (s.setCci n c).virt = s.virt := rfl
@[simp] theorem State.setCci_pipes (s : State) (n : Nat) (c : List CciJob) : (s.setCci n c).pipes = s.pipes := rfl
@[simp] theorem State.setCci_ladders (s : State) (n : Nat) (c : List CciJob) : (s.setCci n c).ladders = s.ladders := rfl
@[simp] theorem State.setCci_axes (s : State) (n : Nat) (c : List CciJob) : (s.setCci n c).axes = s.axes := rfl
@[simp] theorem State.setCci_slots (s : State) (n : Nat) (c : List CciJob) : (s.setCci n c).slots = s.slots := rfl
@[simp] theorem State.setCci_loopTick (s : State) (n : Nat) (c : List CciJob) : (s.setCci n c).loopTick = s.loopTick := rfl
@[simp] theorem State.setCci_ainFirst (s : State) (n : Nat) (c : List CciJob) : (s.setCci n c).ainFirst = s.ainFirst := rfl
@[simp] theorem State.setCci_auxHigh (s : State) (n : Nat) (c : List CciJob) : (s.setCci n c).auxHigh = s.auxHigh := rfl
@[simp] theorem State.setCci_time (s : State) (n : Nat) (c : List CciJob) : (s.setCci n c).time = s.time := rfl
@[simp] theorem State.setCci_nets (s : State) (n : Nat) (c : List CciJob) : (s.setCci n c).nets = s.nets := rfl
@[simp] theorem State.setCci_out (s : State) (n : Nat) (c : List CciJob) : (s.setCci n c).out = s.out := rfl
@[simp] theorem State.setCci_caps (s : State) (n : Nat) (c : List CciJob) : (s.setCci n c).caps = s.caps := rfl
@[simp] theorem State.setCci_l1Held (s : State) (n : Nat) (c : List CciJob) : (s.setCci n c).l1Held = s.l1Held := rfl
@[simp] theorem State.setCci_rd (s : State) (n : Nat) (c : List CciJob) (x : Fld) : (s.setCci n c).rd x = s.rd x := rfl
@[simp] theorem State.setCci_on (s : State) (n : Nat) (c : List CciJob) (x : Fld) : (s.setCci n c).on x = s.on x := rfl
@[simp] theorem State.setCci_rdS (s : State) (n : Nat) (c : List CciJob) (x : Fld) : (s.setCci n c).rdS x = s.rdS x := rfl
@[simp] theorem State.setCci_rdF (s : State) (n : Nat) (c : List CciJob) (x : Fld) : (s.setCci n c).rdF x = s.rdF x := rfl
@[simp] theorem State.setCci_cell (s : State) (n : Nat) (c : List CciJob) (x : Nat) : (s.setCci n c).cell x = s.cell x := rfl
@[simp] theorem State.setCci_ring (s : State) (n : Nat) (c : List CciJob) (x : Nat) : (s.setCci n c).ring x = s.ring x := rfl
@[simp] theorem State.setCci_ctx (s : State) (n : Nat) (c : List CciJob) (x : Nat) : (s.setCci n c).ctx x = s.ctx x := rfl
@[simp] theorem State.setCci_link (s : State) (n : Nat) (c : List CciJob) (x : Nat) : (s.setCci n c).link x = s.link x := rfl
@[simp] theorem State.setCci_pipe (s : State) (n : Nat) (c : List CciJob) (x : Nat) : (s.setCci n c).pipe x = s.pipe x := rfl
@[simp] theorem State.setCci_net (s : State) (n : Nat) (c : List CciJob) (x : Nat) : (s.setCci n c).net x = s.net x := rfl
@[simp] theorem State.setCci_enc (s : State) (n : Nat) (c : List CciJob) (x : Nat) : (s.setCci n c).enc x = s.enc x := rfl
@[simp] theorem State.setCci_pair (s : State) (n : Nat) (c : List CciJob) (x : Nat) : (s.setCci n c).pair x = s.pair x := rfl
@[simp] theorem State.setCci_axis (s : State) (n : Nat) (c : List CciJob) (x : Nat) : (s.setCci n c).axis x = s.axis x := rfl
@[simp] theorem State.setCci_slot (s : State) (n : Nat) (c : List CciJob) (x : Nat) : (s.setCci n c).slot x = s.slot x := rfl

/-! ### updNet -/

@[simp] theorem State.updNet_pending (s : State) (n : Nat) (f : NetPort → NetPort) : (s.updNet n f).pending = s.pending := rfl
@[simp] theorem State.updNet_part (s : State) (n : Nat) (f : NetPort → NetPort) : (s.updNet n f).part = s.part := rfl
@[simp] theorem State.updNet_regs (s : State) (n : Nat) (f : NetPort → NetPort) : (s.updNet n f).regs = s.regs := rfl
@[simp] theorem State.updNet_force (s : State) (n : Nat) (f : NetPort → NetPort) : (s.updNet n f).force = s.force := rfl
@[simp] theorem State.updNet_mem (s : State) (n : Nat) (f : NetPort → NetPort) : (s.updNet n f).mem = s.mem := rfl
@[simp] theorem State.updNet_badWords (s : State) (n : Nat) (f : NetPort → NetPort) : (s.updNet n f).badWords = s.badWords := rfl
@[simp] theorem State.updNet_timeNs (s : State) (n : Nat) (f : NetPort → NetPort) : (s.updNet n f).timeNs = s.timeNs := rfl
@[simp] theorem State.updNet_timeFrac (s : State) (n : Nat) (f : NetPort → NetPort) : (s.updNet n f).timeFrac = s.timeFrac := rfl
@[simp] theorem State.updNet_drawn (s : State) (n : Nat) (f : NetPort → NetPort) : (s.updNet n f).drawn = s.drawn := rfl
@[simp] theorem State.updNet_ctxs (s : State) (n : Nat) (f : NetPort → NetPort) : (s.updNet n f).ctxs = s.ctxs := rfl
@[simp] theorem State.updNet_rings (s : State) (n : Nat) (f : NetPort → NetPort) : (s.updNet n f).rings = s.rings := rfl
@[simp] theorem State.updNet_cells (s : State) (n : Nat) (f : NetPort → NetPort) : (s.updNet n f).cells = s.cells := rfl
@[simp] theorem State.updNet_nougat (s : State) (n : Nat) (f : NetPort → NetPort) : (s.updNet n f).nougat = s.nougat := rfl
@[simp] theorem State.updNet_reports (s : State) (n : Nat) (f : NetPort → NetPort) : (s.updNet n f).reports = s.reports := rfl
@[simp] theorem State.updNet_safeLine (s : State) (n : Nat) (f : NetPort → NetPort) : (s.updNet n f).safeLine = s.safeLine := rfl
@[simp] theorem State.updNet_stopFireN (s : State) (n : Nat) (f : NetPort → NetPort) : (s.updNet n f).stopFireN = s.stopFireN := rfl
@[simp] theorem State.updNet_stopFireLatch (s : State) (n : Nat) (f : NetPort → NetPort) : (s.updNet n f).stopFireLatch = s.stopFireLatch := rfl
@[simp] theorem State.updNet_bscan (s : State) (n : Nat) (f : NetPort → NetPort) : (s.updNet n f).bscan = s.bscan := rfl
@[simp] theorem State.updNet_links (s : State) (n : Nat) (f : NetPort → NetPort) : (s.updNet n f).links = s.links := rfl
@[simp] theorem State.updNet_drops (s : State) (n : Nat) (f : NetPort → NetPort) : (s.updNet n f).drops = s.drops := rfl
@[simp] theorem State.updNet_keys (s : State) (n : Nat) (f : NetPort → NetPort) : (s.updNet n f).keys = s.keys := rfl
@[simp] theorem State.updNet_otp (s : State) (n : Nat) (f : NetPort → NetPort) : (s.updNet n f).otp = s.otp := rfl
@[simp] theorem State.updNet_vault (s : State) (n : Nat) (f : NetPort → NetPort) : (s.updNet n f).vault = s.vault := rfl
@[simp] theorem State.updNet_gov (s : State) (n : Nat) (f : NetPort → NetPort) : (s.updNet n f).gov = s.gov := rfl
@[simp] theorem State.updNet_goose (s : State) (n : Nat) (f : NetPort → NetPort) : (s.updNet n f).goose = s.goose := rfl
@[simp] theorem State.updNet_yoke (s : State) (n : Nat) (f : NetPort → NetPort) : (s.updNet n f).yoke = s.yoke := rfl
@[simp] theorem State.updNet_coop (s : State) (n : Nat) (f : NetPort → NetPort) : (s.updNet n f).coop = s.coop := rfl
@[simp] theorem State.updNet_heldWrites (s : State) (n : Nat) (f : NetPort → NetPort) : (s.updNet n f).heldWrites = s.heldWrites := rfl
@[simp] theorem State.updNet_ledger (s : State) (n : Nat) (f : NetPort → NetPort) : (s.updNet n f).ledger = s.ledger := rfl
@[simp] theorem State.updNet_encs (s : State) (n : Nat) (f : NetPort → NetPort) : (s.updNet n f).encs = s.encs := rfl
@[simp] theorem State.updNet_pairs (s : State) (n : Nat) (f : NetPort → NetPort) : (s.updNet n f).pairs = s.pairs := rfl
@[simp] theorem State.updNet_virt (s : State) (n : Nat) (f : NetPort → NetPort) : (s.updNet n f).virt = s.virt := rfl
@[simp] theorem State.updNet_pipes (s : State) (n : Nat) (f : NetPort → NetPort) : (s.updNet n f).pipes = s.pipes := rfl
@[simp] theorem State.updNet_cciJobs (s : State) (n : Nat) (f : NetPort → NetPort) : (s.updNet n f).cciJobs = s.cciJobs := rfl
@[simp] theorem State.updNet_ladders (s : State) (n : Nat) (f : NetPort → NetPort) : (s.updNet n f).ladders = s.ladders := rfl
@[simp] theorem State.updNet_axes (s : State) (n : Nat) (f : NetPort → NetPort) : (s.updNet n f).axes = s.axes := rfl
@[simp] theorem State.updNet_slots (s : State) (n : Nat) (f : NetPort → NetPort) : (s.updNet n f).slots = s.slots := rfl
@[simp] theorem State.updNet_loopTick (s : State) (n : Nat) (f : NetPort → NetPort) : (s.updNet n f).loopTick = s.loopTick := rfl
@[simp] theorem State.updNet_ainFirst (s : State) (n : Nat) (f : NetPort → NetPort) : (s.updNet n f).ainFirst = s.ainFirst := rfl
@[simp] theorem State.updNet_auxHigh (s : State) (n : Nat) (f : NetPort → NetPort) : (s.updNet n f).auxHigh = s.auxHigh := rfl
@[simp] theorem State.updNet_time (s : State) (n : Nat) (f : NetPort → NetPort) : (s.updNet n f).time = s.time := rfl
@[simp] theorem State.updNet_out (s : State) (n : Nat) (f : NetPort → NetPort) : (s.updNet n f).out = s.out := rfl
@[simp] theorem State.updNet_caps (s : State) (n : Nat) (f : NetPort → NetPort) : (s.updNet n f).caps = s.caps := rfl
@[simp] theorem State.updNet_l1Held (s : State) (n : Nat) (f : NetPort → NetPort) : (s.updNet n f).l1Held = s.l1Held := rfl
@[simp] theorem State.updNet_rd (s : State) (n : Nat) (f : NetPort → NetPort) (x : Fld) : (s.updNet n f).rd x = s.rd x := rfl
@[simp] theorem State.updNet_on (s : State) (n : Nat) (f : NetPort → NetPort) (x : Fld) : (s.updNet n f).on x = s.on x := rfl
@[simp] theorem State.updNet_rdS (s : State) (n : Nat) (f : NetPort → NetPort) (x : Fld) : (s.updNet n f).rdS x = s.rdS x := rfl
@[simp] theorem State.updNet_rdF (s : State) (n : Nat) (f : NetPort → NetPort) (x : Fld) : (s.updNet n f).rdF x = s.rdF x := rfl
@[simp] theorem State.updNet_cell (s : State) (n : Nat) (f : NetPort → NetPort) (x : Nat) : (s.updNet n f).cell x = s.cell x := rfl
@[simp] theorem State.updNet_ring (s : State) (n : Nat) (f : NetPort → NetPort) (x : Nat) : (s.updNet n f).ring x = s.ring x := rfl
@[simp] theorem State.updNet_ctx (s : State) (n : Nat) (f : NetPort → NetPort) (x : Nat) : (s.updNet n f).ctx x = s.ctx x := rfl
@[simp] theorem State.updNet_link (s : State) (n : Nat) (f : NetPort → NetPort) (x : Nat) : (s.updNet n f).link x = s.link x := rfl
@[simp] theorem State.updNet_pipe (s : State) (n : Nat) (f : NetPort → NetPort) (x : Nat) : (s.updNet n f).pipe x = s.pipe x := rfl
@[simp] theorem State.updNet_cci (s : State) (n : Nat) (f : NetPort → NetPort) (x : Nat) : (s.updNet n f).cci x = s.cci x := rfl
@[simp] theorem State.updNet_enc (s : State) (n : Nat) (f : NetPort → NetPort) (x : Nat) : (s.updNet n f).enc x = s.enc x := rfl
@[simp] theorem State.updNet_pair (s : State) (n : Nat) (f : NetPort → NetPort) (x : Nat) : (s.updNet n f).pair x = s.pair x := rfl
@[simp] theorem State.updNet_axis (s : State) (n : Nat) (f : NetPort → NetPort) (x : Nat) : (s.updNet n f).axis x = s.axis x := rfl
@[simp] theorem State.updNet_slot (s : State) (n : Nat) (f : NetPort → NetPort) (x : Nat) : (s.updNet n f).slot x = s.slot x := rfl

/-! ### setEnc -/

@[simp] theorem State.setEnc_pending (s : State) (n : Nat) (c : Enc) : (s.setEnc n c).pending = s.pending := rfl
@[simp] theorem State.setEnc_part (s : State) (n : Nat) (c : Enc) : (s.setEnc n c).part = s.part := rfl
@[simp] theorem State.setEnc_regs (s : State) (n : Nat) (c : Enc) : (s.setEnc n c).regs = s.regs := rfl
@[simp] theorem State.setEnc_force (s : State) (n : Nat) (c : Enc) : (s.setEnc n c).force = s.force := rfl
@[simp] theorem State.setEnc_mem (s : State) (n : Nat) (c : Enc) : (s.setEnc n c).mem = s.mem := rfl
@[simp] theorem State.setEnc_badWords (s : State) (n : Nat) (c : Enc) : (s.setEnc n c).badWords = s.badWords := rfl
@[simp] theorem State.setEnc_timeNs (s : State) (n : Nat) (c : Enc) : (s.setEnc n c).timeNs = s.timeNs := rfl
@[simp] theorem State.setEnc_timeFrac (s : State) (n : Nat) (c : Enc) : (s.setEnc n c).timeFrac = s.timeFrac := rfl
@[simp] theorem State.setEnc_drawn (s : State) (n : Nat) (c : Enc) : (s.setEnc n c).drawn = s.drawn := rfl
@[simp] theorem State.setEnc_ctxs (s : State) (n : Nat) (c : Enc) : (s.setEnc n c).ctxs = s.ctxs := rfl
@[simp] theorem State.setEnc_rings (s : State) (n : Nat) (c : Enc) : (s.setEnc n c).rings = s.rings := rfl
@[simp] theorem State.setEnc_cells (s : State) (n : Nat) (c : Enc) : (s.setEnc n c).cells = s.cells := rfl
@[simp] theorem State.setEnc_nougat (s : State) (n : Nat) (c : Enc) : (s.setEnc n c).nougat = s.nougat := rfl
@[simp] theorem State.setEnc_reports (s : State) (n : Nat) (c : Enc) : (s.setEnc n c).reports = s.reports := rfl
@[simp] theorem State.setEnc_safeLine (s : State) (n : Nat) (c : Enc) : (s.setEnc n c).safeLine = s.safeLine := rfl
@[simp] theorem State.setEnc_stopFireN (s : State) (n : Nat) (c : Enc) : (s.setEnc n c).stopFireN = s.stopFireN := rfl
@[simp] theorem State.setEnc_stopFireLatch (s : State) (n : Nat) (c : Enc) : (s.setEnc n c).stopFireLatch = s.stopFireLatch := rfl
@[simp] theorem State.setEnc_bscan (s : State) (n : Nat) (c : Enc) : (s.setEnc n c).bscan = s.bscan := rfl
@[simp] theorem State.setEnc_links (s : State) (n : Nat) (c : Enc) : (s.setEnc n c).links = s.links := rfl
@[simp] theorem State.setEnc_drops (s : State) (n : Nat) (c : Enc) : (s.setEnc n c).drops = s.drops := rfl
@[simp] theorem State.setEnc_keys (s : State) (n : Nat) (c : Enc) : (s.setEnc n c).keys = s.keys := rfl
@[simp] theorem State.setEnc_otp (s : State) (n : Nat) (c : Enc) : (s.setEnc n c).otp = s.otp := rfl
@[simp] theorem State.setEnc_vault (s : State) (n : Nat) (c : Enc) : (s.setEnc n c).vault = s.vault := rfl
@[simp] theorem State.setEnc_gov (s : State) (n : Nat) (c : Enc) : (s.setEnc n c).gov = s.gov := rfl
@[simp] theorem State.setEnc_goose (s : State) (n : Nat) (c : Enc) : (s.setEnc n c).goose = s.goose := rfl
@[simp] theorem State.setEnc_yoke (s : State) (n : Nat) (c : Enc) : (s.setEnc n c).yoke = s.yoke := rfl
@[simp] theorem State.setEnc_coop (s : State) (n : Nat) (c : Enc) : (s.setEnc n c).coop = s.coop := rfl
@[simp] theorem State.setEnc_heldWrites (s : State) (n : Nat) (c : Enc) : (s.setEnc n c).heldWrites = s.heldWrites := rfl
@[simp] theorem State.setEnc_ledger (s : State) (n : Nat) (c : Enc) : (s.setEnc n c).ledger = s.ledger := rfl
@[simp] theorem State.setEnc_pairs (s : State) (n : Nat) (c : Enc) : (s.setEnc n c).pairs = s.pairs := rfl
@[simp] theorem State.setEnc_virt (s : State) (n : Nat) (c : Enc) : (s.setEnc n c).virt = s.virt := rfl
@[simp] theorem State.setEnc_pipes (s : State) (n : Nat) (c : Enc) : (s.setEnc n c).pipes = s.pipes := rfl
@[simp] theorem State.setEnc_cciJobs (s : State) (n : Nat) (c : Enc) : (s.setEnc n c).cciJobs = s.cciJobs := rfl
@[simp] theorem State.setEnc_ladders (s : State) (n : Nat) (c : Enc) : (s.setEnc n c).ladders = s.ladders := rfl
@[simp] theorem State.setEnc_axes (s : State) (n : Nat) (c : Enc) : (s.setEnc n c).axes = s.axes := rfl
@[simp] theorem State.setEnc_slots (s : State) (n : Nat) (c : Enc) : (s.setEnc n c).slots = s.slots := rfl
@[simp] theorem State.setEnc_loopTick (s : State) (n : Nat) (c : Enc) : (s.setEnc n c).loopTick = s.loopTick := rfl
@[simp] theorem State.setEnc_ainFirst (s : State) (n : Nat) (c : Enc) : (s.setEnc n c).ainFirst = s.ainFirst := rfl
@[simp] theorem State.setEnc_auxHigh (s : State) (n : Nat) (c : Enc) : (s.setEnc n c).auxHigh = s.auxHigh := rfl
@[simp] theorem State.setEnc_time (s : State) (n : Nat) (c : Enc) : (s.setEnc n c).time = s.time := rfl
@[simp] theorem State.setEnc_nets (s : State) (n : Nat) (c : Enc) : (s.setEnc n c).nets = s.nets := rfl
@[simp] theorem State.setEnc_out (s : State) (n : Nat) (c : Enc) : (s.setEnc n c).out = s.out := rfl
@[simp] theorem State.setEnc_caps (s : State) (n : Nat) (c : Enc) : (s.setEnc n c).caps = s.caps := rfl
@[simp] theorem State.setEnc_l1Held (s : State) (n : Nat) (c : Enc) : (s.setEnc n c).l1Held = s.l1Held := rfl
@[simp] theorem State.setEnc_rd (s : State) (n : Nat) (c : Enc) (x : Fld) : (s.setEnc n c).rd x = s.rd x := rfl
@[simp] theorem State.setEnc_on (s : State) (n : Nat) (c : Enc) (x : Fld) : (s.setEnc n c).on x = s.on x := rfl
@[simp] theorem State.setEnc_rdS (s : State) (n : Nat) (c : Enc) (x : Fld) : (s.setEnc n c).rdS x = s.rdS x := rfl
@[simp] theorem State.setEnc_rdF (s : State) (n : Nat) (c : Enc) (x : Fld) : (s.setEnc n c).rdF x = s.rdF x := rfl
@[simp] theorem State.setEnc_cell (s : State) (n : Nat) (c : Enc) (x : Nat) : (s.setEnc n c).cell x = s.cell x := rfl
@[simp] theorem State.setEnc_ring (s : State) (n : Nat) (c : Enc) (x : Nat) : (s.setEnc n c).ring x = s.ring x := rfl
@[simp] theorem State.setEnc_ctx (s : State) (n : Nat) (c : Enc) (x : Nat) : (s.setEnc n c).ctx x = s.ctx x := rfl
@[simp] theorem State.setEnc_link (s : State) (n : Nat) (c : Enc) (x : Nat) : (s.setEnc n c).link x = s.link x := rfl
@[simp] theorem State.setEnc_pipe (s : State) (n : Nat) (c : Enc) (x : Nat) : (s.setEnc n c).pipe x = s.pipe x := rfl
@[simp] theorem State.setEnc_cci (s : State) (n : Nat) (c : Enc) (x : Nat) : (s.setEnc n c).cci x = s.cci x := rfl
@[simp] theorem State.setEnc_net (s : State) (n : Nat) (c : Enc) (x : Nat) : (s.setEnc n c).net x = s.net x := rfl
@[simp] theorem State.setEnc_pair (s : State) (n : Nat) (c : Enc) (x : Nat) : (s.setEnc n c).pair x = s.pair x := rfl
@[simp] theorem State.setEnc_axis (s : State) (n : Nat) (c : Enc) (x : Nat) : (s.setEnc n c).axis x = s.axis x := rfl
@[simp] theorem State.setEnc_slot (s : State) (n : Nat) (c : Enc) (x : Nat) : (s.setEnc n c).slot x = s.slot x := rfl

/-! ### updEnc -/

@[simp] theorem State.updEnc_pending (s : State) (n : Nat) (f : Enc → Enc) : (s.updEnc n f).pending = s.pending := rfl
@[simp] theorem State.updEnc_part (s : State) (n : Nat) (f : Enc → Enc) : (s.updEnc n f).part = s.part := rfl
@[simp] theorem State.updEnc_regs (s : State) (n : Nat) (f : Enc → Enc) : (s.updEnc n f).regs = s.regs := rfl
@[simp] theorem State.updEnc_force (s : State) (n : Nat) (f : Enc → Enc) : (s.updEnc n f).force = s.force := rfl
@[simp] theorem State.updEnc_mem (s : State) (n : Nat) (f : Enc → Enc) : (s.updEnc n f).mem = s.mem := rfl
@[simp] theorem State.updEnc_badWords (s : State) (n : Nat) (f : Enc → Enc) : (s.updEnc n f).badWords = s.badWords := rfl
@[simp] theorem State.updEnc_timeNs (s : State) (n : Nat) (f : Enc → Enc) : (s.updEnc n f).timeNs = s.timeNs := rfl
@[simp] theorem State.updEnc_timeFrac (s : State) (n : Nat) (f : Enc → Enc) : (s.updEnc n f).timeFrac = s.timeFrac := rfl
@[simp] theorem State.updEnc_drawn (s : State) (n : Nat) (f : Enc → Enc) : (s.updEnc n f).drawn = s.drawn := rfl
@[simp] theorem State.updEnc_ctxs (s : State) (n : Nat) (f : Enc → Enc) : (s.updEnc n f).ctxs = s.ctxs := rfl
@[simp] theorem State.updEnc_rings (s : State) (n : Nat) (f : Enc → Enc) : (s.updEnc n f).rings = s.rings := rfl
@[simp] theorem State.updEnc_cells (s : State) (n : Nat) (f : Enc → Enc) : (s.updEnc n f).cells = s.cells := rfl
@[simp] theorem State.updEnc_nougat (s : State) (n : Nat) (f : Enc → Enc) : (s.updEnc n f).nougat = s.nougat := rfl
@[simp] theorem State.updEnc_reports (s : State) (n : Nat) (f : Enc → Enc) : (s.updEnc n f).reports = s.reports := rfl
@[simp] theorem State.updEnc_safeLine (s : State) (n : Nat) (f : Enc → Enc) : (s.updEnc n f).safeLine = s.safeLine := rfl
@[simp] theorem State.updEnc_stopFireN (s : State) (n : Nat) (f : Enc → Enc) : (s.updEnc n f).stopFireN = s.stopFireN := rfl
@[simp] theorem State.updEnc_stopFireLatch (s : State) (n : Nat) (f : Enc → Enc) : (s.updEnc n f).stopFireLatch = s.stopFireLatch := rfl
@[simp] theorem State.updEnc_bscan (s : State) (n : Nat) (f : Enc → Enc) : (s.updEnc n f).bscan = s.bscan := rfl
@[simp] theorem State.updEnc_links (s : State) (n : Nat) (f : Enc → Enc) : (s.updEnc n f).links = s.links := rfl
@[simp] theorem State.updEnc_drops (s : State) (n : Nat) (f : Enc → Enc) : (s.updEnc n f).drops = s.drops := rfl
@[simp] theorem State.updEnc_keys (s : State) (n : Nat) (f : Enc → Enc) : (s.updEnc n f).keys = s.keys := rfl
@[simp] theorem State.updEnc_otp (s : State) (n : Nat) (f : Enc → Enc) : (s.updEnc n f).otp = s.otp := rfl
@[simp] theorem State.updEnc_vault (s : State) (n : Nat) (f : Enc → Enc) : (s.updEnc n f).vault = s.vault := rfl
@[simp] theorem State.updEnc_gov (s : State) (n : Nat) (f : Enc → Enc) : (s.updEnc n f).gov = s.gov := rfl
@[simp] theorem State.updEnc_goose (s : State) (n : Nat) (f : Enc → Enc) : (s.updEnc n f).goose = s.goose := rfl
@[simp] theorem State.updEnc_yoke (s : State) (n : Nat) (f : Enc → Enc) : (s.updEnc n f).yoke = s.yoke := rfl
@[simp] theorem State.updEnc_coop (s : State) (n : Nat) (f : Enc → Enc) : (s.updEnc n f).coop = s.coop := rfl
@[simp] theorem State.updEnc_heldWrites (s : State) (n : Nat) (f : Enc → Enc) : (s.updEnc n f).heldWrites = s.heldWrites := rfl
@[simp] theorem State.updEnc_ledger (s : State) (n : Nat) (f : Enc → Enc) : (s.updEnc n f).ledger = s.ledger := rfl
@[simp] theorem State.updEnc_pairs (s : State) (n : Nat) (f : Enc → Enc) : (s.updEnc n f).pairs = s.pairs := rfl
@[simp] theorem State.updEnc_virt (s : State) (n : Nat) (f : Enc → Enc) : (s.updEnc n f).virt = s.virt := rfl
@[simp] theorem State.updEnc_pipes (s : State) (n : Nat) (f : Enc → Enc) : (s.updEnc n f).pipes = s.pipes := rfl
@[simp] theorem State.updEnc_cciJobs (s : State) (n : Nat) (f : Enc → Enc) : (s.updEnc n f).cciJobs = s.cciJobs := rfl
@[simp] theorem State.updEnc_ladders (s : State) (n : Nat) (f : Enc → Enc) : (s.updEnc n f).ladders = s.ladders := rfl
@[simp] theorem State.updEnc_axes (s : State) (n : Nat) (f : Enc → Enc) : (s.updEnc n f).axes = s.axes := rfl
@[simp] theorem State.updEnc_slots (s : State) (n : Nat) (f : Enc → Enc) : (s.updEnc n f).slots = s.slots := rfl
@[simp] theorem State.updEnc_loopTick (s : State) (n : Nat) (f : Enc → Enc) : (s.updEnc n f).loopTick = s.loopTick := rfl
@[simp] theorem State.updEnc_ainFirst (s : State) (n : Nat) (f : Enc → Enc) : (s.updEnc n f).ainFirst = s.ainFirst := rfl
@[simp] theorem State.updEnc_auxHigh (s : State) (n : Nat) (f : Enc → Enc) : (s.updEnc n f).auxHigh = s.auxHigh := rfl
@[simp] theorem State.updEnc_time (s : State) (n : Nat) (f : Enc → Enc) : (s.updEnc n f).time = s.time := rfl
@[simp] theorem State.updEnc_nets (s : State) (n : Nat) (f : Enc → Enc) : (s.updEnc n f).nets = s.nets := rfl
@[simp] theorem State.updEnc_out (s : State) (n : Nat) (f : Enc → Enc) : (s.updEnc n f).out = s.out := rfl
@[simp] theorem State.updEnc_caps (s : State) (n : Nat) (f : Enc → Enc) : (s.updEnc n f).caps = s.caps := rfl
@[simp] theorem State.updEnc_l1Held (s : State) (n : Nat) (f : Enc → Enc) : (s.updEnc n f).l1Held = s.l1Held := rfl
@[simp] theorem State.updEnc_rd (s : State) (n : Nat) (f : Enc → Enc) (x : Fld) : (s.updEnc n f).rd x = s.rd x := rfl
@[simp] theorem State.updEnc_on (s : State) (n : Nat) (f : Enc → Enc) (x : Fld) : (s.updEnc n f).on x = s.on x := rfl
@[simp] theorem State.updEnc_rdS (s : State) (n : Nat) (f : Enc → Enc) (x : Fld) : (s.updEnc n f).rdS x = s.rdS x := rfl
@[simp] theorem State.updEnc_rdF (s : State) (n : Nat) (f : Enc → Enc) (x : Fld) : (s.updEnc n f).rdF x = s.rdF x := rfl
@[simp] theorem State.updEnc_cell (s : State) (n : Nat) (f : Enc → Enc) (x : Nat) : (s.updEnc n f).cell x = s.cell x := rfl
@[simp] theorem State.updEnc_ring (s : State) (n : Nat) (f : Enc → Enc) (x : Nat) : (s.updEnc n f).ring x = s.ring x := rfl
@[simp] theorem State.updEnc_ctx (s : State) (n : Nat) (f : Enc → Enc) (x : Nat) : (s.updEnc n f).ctx x = s.ctx x := rfl
@[simp] theorem State.updEnc_link (s : State) (n : Nat) (f : Enc → Enc) (x : Nat) : (s.updEnc n f).link x = s.link x := rfl
@[simp] theorem State.updEnc_pipe (s : State) (n : Nat) (f : Enc → Enc) (x : Nat) : (s.updEnc n f).pipe x = s.pipe x := rfl
@[simp] theorem State.updEnc_cci (s : State) (n : Nat) (f : Enc → Enc) (x : Nat) : (s.updEnc n f).cci x = s.cci x := rfl
@[simp] theorem State.updEnc_net (s : State) (n : Nat) (f : Enc → Enc) (x : Nat) : (s.updEnc n f).net x = s.net x := rfl
@[simp] theorem State.updEnc_pair (s : State) (n : Nat) (f : Enc → Enc) (x : Nat) : (s.updEnc n f).pair x = s.pair x := rfl
@[simp] theorem State.updEnc_axis (s : State) (n : Nat) (f : Enc → Enc) (x : Nat) : (s.updEnc n f).axis x = s.axis x := rfl
@[simp] theorem State.updEnc_slot (s : State) (n : Nat) (f : Enc → Enc) (x : Nat) : (s.updEnc n f).slot x = s.slot x := rfl

/-! ### setPair -/

@[simp] theorem State.setPair_pending (s : State) (n : Nat) (c : Pair) : (s.setPair n c).pending = s.pending := rfl
@[simp] theorem State.setPair_part (s : State) (n : Nat) (c : Pair) : (s.setPair n c).part = s.part := rfl
@[simp] theorem State.setPair_regs (s : State) (n : Nat) (c : Pair) : (s.setPair n c).regs = s.regs := rfl
@[simp] theorem State.setPair_force (s : State) (n : Nat) (c : Pair) : (s.setPair n c).force = s.force := rfl
@[simp] theorem State.setPair_mem (s : State) (n : Nat) (c : Pair) : (s.setPair n c).mem = s.mem := rfl
@[simp] theorem State.setPair_badWords (s : State) (n : Nat) (c : Pair) : (s.setPair n c).badWords = s.badWords := rfl
@[simp] theorem State.setPair_timeNs (s : State) (n : Nat) (c : Pair) : (s.setPair n c).timeNs = s.timeNs := rfl
@[simp] theorem State.setPair_timeFrac (s : State) (n : Nat) (c : Pair) : (s.setPair n c).timeFrac = s.timeFrac := rfl
@[simp] theorem State.setPair_drawn (s : State) (n : Nat) (c : Pair) : (s.setPair n c).drawn = s.drawn := rfl
@[simp] theorem State.setPair_ctxs (s : State) (n : Nat) (c : Pair) : (s.setPair n c).ctxs = s.ctxs := rfl
@[simp] theorem State.setPair_rings (s : State) (n : Nat) (c : Pair) : (s.setPair n c).rings = s.rings := rfl
@[simp] theorem State.setPair_cells (s : State) (n : Nat) (c : Pair) : (s.setPair n c).cells = s.cells := rfl
@[simp] theorem State.setPair_nougat (s : State) (n : Nat) (c : Pair) : (s.setPair n c).nougat = s.nougat := rfl
@[simp] theorem State.setPair_reports (s : State) (n : Nat) (c : Pair) : (s.setPair n c).reports = s.reports := rfl
@[simp] theorem State.setPair_safeLine (s : State) (n : Nat) (c : Pair) : (s.setPair n c).safeLine = s.safeLine := rfl
@[simp] theorem State.setPair_stopFireN (s : State) (n : Nat) (c : Pair) : (s.setPair n c).stopFireN = s.stopFireN := rfl
@[simp] theorem State.setPair_stopFireLatch (s : State) (n : Nat) (c : Pair) : (s.setPair n c).stopFireLatch = s.stopFireLatch := rfl
@[simp] theorem State.setPair_bscan (s : State) (n : Nat) (c : Pair) : (s.setPair n c).bscan = s.bscan := rfl
@[simp] theorem State.setPair_links (s : State) (n : Nat) (c : Pair) : (s.setPair n c).links = s.links := rfl
@[simp] theorem State.setPair_drops (s : State) (n : Nat) (c : Pair) : (s.setPair n c).drops = s.drops := rfl
@[simp] theorem State.setPair_keys (s : State) (n : Nat) (c : Pair) : (s.setPair n c).keys = s.keys := rfl
@[simp] theorem State.setPair_otp (s : State) (n : Nat) (c : Pair) : (s.setPair n c).otp = s.otp := rfl
@[simp] theorem State.setPair_vault (s : State) (n : Nat) (c : Pair) : (s.setPair n c).vault = s.vault := rfl
@[simp] theorem State.setPair_gov (s : State) (n : Nat) (c : Pair) : (s.setPair n c).gov = s.gov := rfl
@[simp] theorem State.setPair_goose (s : State) (n : Nat) (c : Pair) : (s.setPair n c).goose = s.goose := rfl
@[simp] theorem State.setPair_yoke (s : State) (n : Nat) (c : Pair) : (s.setPair n c).yoke = s.yoke := rfl
@[simp] theorem State.setPair_coop (s : State) (n : Nat) (c : Pair) : (s.setPair n c).coop = s.coop := rfl
@[simp] theorem State.setPair_heldWrites (s : State) (n : Nat) (c : Pair) : (s.setPair n c).heldWrites = s.heldWrites := rfl
@[simp] theorem State.setPair_ledger (s : State) (n : Nat) (c : Pair) : (s.setPair n c).ledger = s.ledger := rfl
@[simp] theorem State.setPair_encs (s : State) (n : Nat) (c : Pair) : (s.setPair n c).encs = s.encs := rfl
@[simp] theorem State.setPair_virt (s : State) (n : Nat) (c : Pair) : (s.setPair n c).virt = s.virt := rfl
@[simp] theorem State.setPair_pipes (s : State) (n : Nat) (c : Pair) : (s.setPair n c).pipes = s.pipes := rfl
@[simp] theorem State.setPair_cciJobs (s : State) (n : Nat) (c : Pair) : (s.setPair n c).cciJobs = s.cciJobs := rfl
@[simp] theorem State.setPair_ladders (s : State) (n : Nat) (c : Pair) : (s.setPair n c).ladders = s.ladders := rfl
@[simp] theorem State.setPair_axes (s : State) (n : Nat) (c : Pair) : (s.setPair n c).axes = s.axes := rfl
@[simp] theorem State.setPair_slots (s : State) (n : Nat) (c : Pair) : (s.setPair n c).slots = s.slots := rfl
@[simp] theorem State.setPair_loopTick (s : State) (n : Nat) (c : Pair) : (s.setPair n c).loopTick = s.loopTick := rfl
@[simp] theorem State.setPair_ainFirst (s : State) (n : Nat) (c : Pair) : (s.setPair n c).ainFirst = s.ainFirst := rfl
@[simp] theorem State.setPair_auxHigh (s : State) (n : Nat) (c : Pair) : (s.setPair n c).auxHigh = s.auxHigh := rfl
@[simp] theorem State.setPair_time (s : State) (n : Nat) (c : Pair) : (s.setPair n c).time = s.time := rfl
@[simp] theorem State.setPair_nets (s : State) (n : Nat) (c : Pair) : (s.setPair n c).nets = s.nets := rfl
@[simp] theorem State.setPair_out (s : State) (n : Nat) (c : Pair) : (s.setPair n c).out = s.out := rfl
@[simp] theorem State.setPair_caps (s : State) (n : Nat) (c : Pair) : (s.setPair n c).caps = s.caps := rfl
@[simp] theorem State.setPair_l1Held (s : State) (n : Nat) (c : Pair) : (s.setPair n c).l1Held = s.l1Held := rfl
@[simp] theorem State.setPair_rd (s : State) (n : Nat) (c : Pair) (x : Fld) : (s.setPair n c).rd x = s.rd x := rfl
@[simp] theorem State.setPair_on (s : State) (n : Nat) (c : Pair) (x : Fld) : (s.setPair n c).on x = s.on x := rfl
@[simp] theorem State.setPair_rdS (s : State) (n : Nat) (c : Pair) (x : Fld) : (s.setPair n c).rdS x = s.rdS x := rfl
@[simp] theorem State.setPair_rdF (s : State) (n : Nat) (c : Pair) (x : Fld) : (s.setPair n c).rdF x = s.rdF x := rfl
@[simp] theorem State.setPair_cell (s : State) (n : Nat) (c : Pair) (x : Nat) : (s.setPair n c).cell x = s.cell x := rfl
@[simp] theorem State.setPair_ring (s : State) (n : Nat) (c : Pair) (x : Nat) : (s.setPair n c).ring x = s.ring x := rfl
@[simp] theorem State.setPair_ctx (s : State) (n : Nat) (c : Pair) (x : Nat) : (s.setPair n c).ctx x = s.ctx x := rfl
@[simp] theorem State.setPair_link (s : State) (n : Nat) (c : Pair) (x : Nat) : (s.setPair n c).link x = s.link x := rfl
@[simp] theorem State.setPair_pipe (s : State) (n : Nat) (c : Pair) (x : Nat) : (s.setPair n c).pipe x = s.pipe x := rfl
@[simp] theorem State.setPair_cci (s : State) (n : Nat) (c : Pair) (x : Nat) : (s.setPair n c).cci x = s.cci x := rfl
@[simp] theorem State.setPair_net (s : State) (n : Nat) (c : Pair) (x : Nat) : (s.setPair n c).net x = s.net x := rfl
@[simp] theorem State.setPair_enc (s : State) (n : Nat) (c : Pair) (x : Nat) : (s.setPair n c).enc x = s.enc x := rfl
@[simp] theorem State.setPair_axis (s : State) (n : Nat) (c : Pair) (x : Nat) : (s.setPair n c).axis x = s.axis x := rfl
@[simp] theorem State.setPair_slot (s : State) (n : Nat) (c : Pair) (x : Nat) : (s.setPair n c).slot x = s.slot x := rfl

/-! ### updPair -/

@[simp] theorem State.updPair_pending (s : State) (n : Nat) (f : Pair → Pair) : (s.updPair n f).pending = s.pending := rfl
@[simp] theorem State.updPair_part (s : State) (n : Nat) (f : Pair → Pair) : (s.updPair n f).part = s.part := rfl
@[simp] theorem State.updPair_regs (s : State) (n : Nat) (f : Pair → Pair) : (s.updPair n f).regs = s.regs := rfl
@[simp] theorem State.updPair_force (s : State) (n : Nat) (f : Pair → Pair) : (s.updPair n f).force = s.force := rfl
@[simp] theorem State.updPair_mem (s : State) (n : Nat) (f : Pair → Pair) : (s.updPair n f).mem = s.mem := rfl
@[simp] theorem State.updPair_badWords (s : State) (n : Nat) (f : Pair → Pair) : (s.updPair n f).badWords = s.badWords := rfl
@[simp] theorem State.updPair_timeNs (s : State) (n : Nat) (f : Pair → Pair) : (s.updPair n f).timeNs = s.timeNs := rfl
@[simp] theorem State.updPair_timeFrac (s : State) (n : Nat) (f : Pair → Pair) : (s.updPair n f).timeFrac = s.timeFrac := rfl
@[simp] theorem State.updPair_drawn (s : State) (n : Nat) (f : Pair → Pair) : (s.updPair n f).drawn = s.drawn := rfl
@[simp] theorem State.updPair_ctxs (s : State) (n : Nat) (f : Pair → Pair) : (s.updPair n f).ctxs = s.ctxs := rfl
@[simp] theorem State.updPair_rings (s : State) (n : Nat) (f : Pair → Pair) : (s.updPair n f).rings = s.rings := rfl
@[simp] theorem State.updPair_cells (s : State) (n : Nat) (f : Pair → Pair) : (s.updPair n f).cells = s.cells := rfl
@[simp] theorem State.updPair_nougat (s : State) (n : Nat) (f : Pair → Pair) : (s.updPair n f).nougat = s.nougat := rfl
@[simp] theorem State.updPair_reports (s : State) (n : Nat) (f : Pair → Pair) : (s.updPair n f).reports = s.reports := rfl
@[simp] theorem State.updPair_safeLine (s : State) (n : Nat) (f : Pair → Pair) : (s.updPair n f).safeLine = s.safeLine := rfl
@[simp] theorem State.updPair_stopFireN (s : State) (n : Nat) (f : Pair → Pair) : (s.updPair n f).stopFireN = s.stopFireN := rfl
@[simp] theorem State.updPair_stopFireLatch (s : State) (n : Nat) (f : Pair → Pair) : (s.updPair n f).stopFireLatch = s.stopFireLatch := rfl
@[simp] theorem State.updPair_bscan (s : State) (n : Nat) (f : Pair → Pair) : (s.updPair n f).bscan = s.bscan := rfl
@[simp] theorem State.updPair_links (s : State) (n : Nat) (f : Pair → Pair) : (s.updPair n f).links = s.links := rfl
@[simp] theorem State.updPair_drops (s : State) (n : Nat) (f : Pair → Pair) : (s.updPair n f).drops = s.drops := rfl
@[simp] theorem State.updPair_keys (s : State) (n : Nat) (f : Pair → Pair) : (s.updPair n f).keys = s.keys := rfl
@[simp] theorem State.updPair_otp (s : State) (n : Nat) (f : Pair → Pair) : (s.updPair n f).otp = s.otp := rfl
@[simp] theorem State.updPair_vault (s : State) (n : Nat) (f : Pair → Pair) : (s.updPair n f).vault = s.vault := rfl
@[simp] theorem State.updPair_gov (s : State) (n : Nat) (f : Pair → Pair) : (s.updPair n f).gov = s.gov := rfl
@[simp] theorem State.updPair_goose (s : State) (n : Nat) (f : Pair → Pair) : (s.updPair n f).goose = s.goose := rfl
@[simp] theorem State.updPair_yoke (s : State) (n : Nat) (f : Pair → Pair) : (s.updPair n f).yoke = s.yoke := rfl
@[simp] theorem State.updPair_coop (s : State) (n : Nat) (f : Pair → Pair) : (s.updPair n f).coop = s.coop := rfl
@[simp] theorem State.updPair_heldWrites (s : State) (n : Nat) (f : Pair → Pair) : (s.updPair n f).heldWrites = s.heldWrites := rfl
@[simp] theorem State.updPair_ledger (s : State) (n : Nat) (f : Pair → Pair) : (s.updPair n f).ledger = s.ledger := rfl
@[simp] theorem State.updPair_encs (s : State) (n : Nat) (f : Pair → Pair) : (s.updPair n f).encs = s.encs := rfl
@[simp] theorem State.updPair_virt (s : State) (n : Nat) (f : Pair → Pair) : (s.updPair n f).virt = s.virt := rfl
@[simp] theorem State.updPair_pipes (s : State) (n : Nat) (f : Pair → Pair) : (s.updPair n f).pipes = s.pipes := rfl
@[simp] theorem State.updPair_cciJobs (s : State) (n : Nat) (f : Pair → Pair) : (s.updPair n f).cciJobs = s.cciJobs := rfl
@[simp] theorem State.updPair_ladders (s : State) (n : Nat) (f : Pair → Pair) : (s.updPair n f).ladders = s.ladders := rfl
@[simp] theorem State.updPair_axes (s : State) (n : Nat) (f : Pair → Pair) : (s.updPair n f).axes = s.axes := rfl
@[simp] theorem State.updPair_slots (s : State) (n : Nat) (f : Pair → Pair) : (s.updPair n f).slots = s.slots := rfl
@[simp] theorem State.updPair_loopTick (s : State) (n : Nat) (f : Pair → Pair) : (s.updPair n f).loopTick = s.loopTick := rfl
@[simp] theorem State.updPair_ainFirst (s : State) (n : Nat) (f : Pair → Pair) : (s.updPair n f).ainFirst = s.ainFirst := rfl
@[simp] theorem State.updPair_auxHigh (s : State) (n : Nat) (f : Pair → Pair) : (s.updPair n f).auxHigh = s.auxHigh := rfl
@[simp] theorem State.updPair_time (s : State) (n : Nat) (f : Pair → Pair) : (s.updPair n f).time = s.time := rfl
@[simp] theorem State.updPair_nets (s : State) (n : Nat) (f : Pair → Pair) : (s.updPair n f).nets = s.nets := rfl
@[simp] theorem State.updPair_out (s : State) (n : Nat) (f : Pair → Pair) : (s.updPair n f).out = s.out := rfl
@[simp] theorem State.updPair_caps (s : State) (n : Nat) (f : Pair → Pair) : (s.updPair n f).caps = s.caps := rfl
@[simp] theorem State.updPair_l1Held (s : State) (n : Nat) (f : Pair → Pair) : (s.updPair n f).l1Held = s.l1Held := rfl
@[simp] theorem State.updPair_rd (s : State) (n : Nat) (f : Pair → Pair) (x : Fld) : (s.updPair n f).rd x = s.rd x := rfl
@[simp] theorem State.updPair_on (s : State) (n : Nat) (f : Pair → Pair) (x : Fld) : (s.updPair n f).on x = s.on x := rfl
@[simp] theorem State.updPair_rdS (s : State) (n : Nat) (f : Pair → Pair) (x : Fld) : (s.updPair n f).rdS x = s.rdS x := rfl
@[simp] theorem State.updPair_rdF (s : State) (n : Nat) (f : Pair → Pair) (x : Fld) : (s.updPair n f).rdF x = s.rdF x := rfl
@[simp] theorem State.updPair_cell (s : State) (n : Nat) (f : Pair → Pair) (x : Nat) : (s.updPair n f).cell x = s.cell x := rfl
@[simp] theorem State.updPair_ring (s : State) (n : Nat) (f : Pair → Pair) (x : Nat) : (s.updPair n f).ring x = s.ring x := rfl
@[simp] theorem State.updPair_ctx (s : State) (n : Nat) (f : Pair → Pair) (x : Nat) : (s.updPair n f).ctx x = s.ctx x := rfl
@[simp] theorem State.updPair_link (s : State) (n : Nat) (f : Pair → Pair) (x : Nat) : (s.updPair n f).link x = s.link x := rfl
@[simp] theorem State.updPair_pipe (s : State) (n : Nat) (f : Pair → Pair) (x : Nat) : (s.updPair n f).pipe x = s.pipe x := rfl
@[simp] theorem State.updPair_cci (s : State) (n : Nat) (f : Pair → Pair) (x : Nat) : (s.updPair n f).cci x = s.cci x := rfl
@[simp] theorem State.updPair_net (s : State) (n : Nat) (f : Pair → Pair) (x : Nat) : (s.updPair n f).net x = s.net x := rfl
@[simp] theorem State.updPair_enc (s : State) (n : Nat) (f : Pair → Pair) (x : Nat) : (s.updPair n f).enc x = s.enc x := rfl
@[simp] theorem State.updPair_axis (s : State) (n : Nat) (f : Pair → Pair) (x : Nat) : (s.updPair n f).axis x = s.axis x := rfl
@[simp] theorem State.updPair_slot (s : State) (n : Nat) (f : Pair → Pair) (x : Nat) : (s.updPair n f).slot x = s.slot x := rfl

/-! ### setAxis -/

@[simp] theorem State.setAxis_pending (s : State) (n : Nat) (c : Axis) : (s.setAxis n c).pending = s.pending := rfl
@[simp] theorem State.setAxis_part (s : State) (n : Nat) (c : Axis) : (s.setAxis n c).part = s.part := rfl
@[simp] theorem State.setAxis_regs (s : State) (n : Nat) (c : Axis) : (s.setAxis n c).regs = s.regs := rfl
@[simp] theorem State.setAxis_force (s : State) (n : Nat) (c : Axis) : (s.setAxis n c).force = s.force := rfl
@[simp] theorem State.setAxis_mem (s : State) (n : Nat) (c : Axis) : (s.setAxis n c).mem = s.mem := rfl
@[simp] theorem State.setAxis_badWords (s : State) (n : Nat) (c : Axis) : (s.setAxis n c).badWords = s.badWords := rfl
@[simp] theorem State.setAxis_timeNs (s : State) (n : Nat) (c : Axis) : (s.setAxis n c).timeNs = s.timeNs := rfl
@[simp] theorem State.setAxis_timeFrac (s : State) (n : Nat) (c : Axis) : (s.setAxis n c).timeFrac = s.timeFrac := rfl
@[simp] theorem State.setAxis_drawn (s : State) (n : Nat) (c : Axis) : (s.setAxis n c).drawn = s.drawn := rfl
@[simp] theorem State.setAxis_ctxs (s : State) (n : Nat) (c : Axis) : (s.setAxis n c).ctxs = s.ctxs := rfl
@[simp] theorem State.setAxis_rings (s : State) (n : Nat) (c : Axis) : (s.setAxis n c).rings = s.rings := rfl
@[simp] theorem State.setAxis_cells (s : State) (n : Nat) (c : Axis) : (s.setAxis n c).cells = s.cells := rfl
@[simp] theorem State.setAxis_nougat (s : State) (n : Nat) (c : Axis) : (s.setAxis n c).nougat = s.nougat := rfl
@[simp] theorem State.setAxis_reports (s : State) (n : Nat) (c : Axis) : (s.setAxis n c).reports = s.reports := rfl
@[simp] theorem State.setAxis_safeLine (s : State) (n : Nat) (c : Axis) : (s.setAxis n c).safeLine = s.safeLine := rfl
@[simp] theorem State.setAxis_stopFireN (s : State) (n : Nat) (c : Axis) : (s.setAxis n c).stopFireN = s.stopFireN := rfl
@[simp] theorem State.setAxis_stopFireLatch (s : State) (n : Nat) (c : Axis) : (s.setAxis n c).stopFireLatch = s.stopFireLatch := rfl
@[simp] theorem State.setAxis_bscan (s : State) (n : Nat) (c : Axis) : (s.setAxis n c).bscan = s.bscan := rfl
@[simp] theorem State.setAxis_links (s : State) (n : Nat) (c : Axis) : (s.setAxis n c).links = s.links := rfl
@[simp] theorem State.setAxis_drops (s : State) (n : Nat) (c : Axis) : (s.setAxis n c).drops = s.drops := rfl
@[simp] theorem State.setAxis_keys (s : State) (n : Nat) (c : Axis) : (s.setAxis n c).keys = s.keys := rfl
@[simp] theorem State.setAxis_otp (s : State) (n : Nat) (c : Axis) : (s.setAxis n c).otp = s.otp := rfl
@[simp] theorem State.setAxis_vault (s : State) (n : Nat) (c : Axis) : (s.setAxis n c).vault = s.vault := rfl
@[simp] theorem State.setAxis_gov (s : State) (n : Nat) (c : Axis) : (s.setAxis n c).gov = s.gov := rfl
@[simp] theorem State.setAxis_goose (s : State) (n : Nat) (c : Axis) : (s.setAxis n c).goose = s.goose := rfl
@[simp] theorem State.setAxis_yoke (s : State) (n : Nat) (c : Axis) : (s.setAxis n c).yoke = s.yoke := rfl
@[simp] theorem State.setAxis_coop (s : State) (n : Nat) (c : Axis) : (s.setAxis n c).coop = s.coop := rfl
@[simp] theorem State.setAxis_heldWrites (s : State) (n : Nat) (c : Axis) : (s.setAxis n c).heldWrites = s.heldWrites := rfl
@[simp] theorem State.setAxis_ledger (s : State) (n : Nat) (c : Axis) : (s.setAxis n c).ledger = s.ledger := rfl
@[simp] theorem State.setAxis_encs (s : State) (n : Nat) (c : Axis) : (s.setAxis n c).encs = s.encs := rfl
@[simp] theorem State.setAxis_pairs (s : State) (n : Nat) (c : Axis) : (s.setAxis n c).pairs = s.pairs := rfl
@[simp] theorem State.setAxis_virt (s : State) (n : Nat) (c : Axis) : (s.setAxis n c).virt = s.virt := rfl
@[simp] theorem State.setAxis_pipes (s : State) (n : Nat) (c : Axis) : (s.setAxis n c).pipes = s.pipes := rfl
@[simp] theorem State.setAxis_cciJobs (s : State) (n : Nat) (c : Axis) : (s.setAxis n c).cciJobs = s.cciJobs := rfl
@[simp] theorem State.setAxis_ladders (s : State) (n : Nat) (c : Axis) : (s.setAxis n c).ladders = s.ladders := rfl
@[simp] theorem State.setAxis_slots (s : State) (n : Nat) (c : Axis) : (s.setAxis n c).slots = s.slots := rfl
@[simp] theorem State.setAxis_loopTick (s : State) (n : Nat) (c : Axis) : (s.setAxis n c).loopTick = s.loopTick := rfl
@[simp] theorem State.setAxis_ainFirst (s : State) (n : Nat) (c : Axis) : (s.setAxis n c).ainFirst = s.ainFirst := rfl
@[simp] theorem State.setAxis_auxHigh (s : State) (n : Nat) (c : Axis) : (s.setAxis n c).auxHigh = s.auxHigh := rfl
@[simp] theorem State.setAxis_time (s : State) (n : Nat) (c : Axis) : (s.setAxis n c).time = s.time := rfl
@[simp] theorem State.setAxis_nets (s : State) (n : Nat) (c : Axis) : (s.setAxis n c).nets = s.nets := rfl
@[simp] theorem State.setAxis_out (s : State) (n : Nat) (c : Axis) : (s.setAxis n c).out = s.out := rfl
@[simp] theorem State.setAxis_caps (s : State) (n : Nat) (c : Axis) : (s.setAxis n c).caps = s.caps := rfl
@[simp] theorem State.setAxis_l1Held (s : State) (n : Nat) (c : Axis) : (s.setAxis n c).l1Held = s.l1Held := rfl
@[simp] theorem State.setAxis_rd (s : State) (n : Nat) (c : Axis) (x : Fld) : (s.setAxis n c).rd x = s.rd x := rfl
@[simp] theorem State.setAxis_on (s : State) (n : Nat) (c : Axis) (x : Fld) : (s.setAxis n c).on x = s.on x := rfl
@[simp] theorem State.setAxis_rdS (s : State) (n : Nat) (c : Axis) (x : Fld) : (s.setAxis n c).rdS x = s.rdS x := rfl
@[simp] theorem State.setAxis_rdF (s : State) (n : Nat) (c : Axis) (x : Fld) : (s.setAxis n c).rdF x = s.rdF x := rfl
@[simp] theorem State.setAxis_cell (s : State) (n : Nat) (c : Axis) (x : Nat) : (s.setAxis n c).cell x = s.cell x := rfl
@[simp] theorem State.setAxis_ring (s : State) (n : Nat) (c : Axis) (x : Nat) : (s.setAxis n c).ring x = s.ring x := rfl
@[simp] theorem State.setAxis_ctx (s : State) (n : Nat) (c : Axis) (x : Nat) : (s.setAxis n c).ctx x = s.ctx x := rfl
@[simp] theorem State.setAxis_link (s : State) (n : Nat) (c : Axis) (x : Nat) : (s.setAxis n c).link x = s.link x := rfl
@[simp] theorem State.setAxis_pipe (s : State) (n : Nat) (c : Axis) (x : Nat) : (s.setAxis n c).pipe x = s.pipe x := rfl
@[simp] theorem State.setAxis_cci (s : State) (n : Nat) (c : Axis) (x : Nat) : (s.setAxis n c).cci x = s.cci x := rfl
@[simp] theorem State.setAxis_net (s : State) (n : Nat) (c : Axis) (x : Nat) : (s.setAxis n c).net x = s.net x := rfl
@[simp] theorem State.setAxis_enc (s : State) (n : Nat) (c : Axis) (x : Nat) : (s.setAxis n c).enc x = s.enc x := rfl
@[simp] theorem State.setAxis_pair (s : State) (n : Nat) (c : Axis) (x : Nat) : (s.setAxis n c).pair x = s.pair x := rfl
@[simp] theorem State.setAxis_slot (s : State) (n : Nat) (c : Axis) (x : Nat) : (s.setAxis n c).slot x = s.slot x := rfl

/-! ### updAxis -/

@[simp] theorem State.updAxis_pending (s : State) (n : Nat) (f : Axis → Axis) : (s.updAxis n f).pending = s.pending := rfl
@[simp] theorem State.updAxis_part (s : State) (n : Nat) (f : Axis → Axis) : (s.updAxis n f).part = s.part := rfl
@[simp] theorem State.updAxis_regs (s : State) (n : Nat) (f : Axis → Axis) : (s.updAxis n f).regs = s.regs := rfl
@[simp] theorem State.updAxis_force (s : State) (n : Nat) (f : Axis → Axis) : (s.updAxis n f).force = s.force := rfl
@[simp] theorem State.updAxis_mem (s : State) (n : Nat) (f : Axis → Axis) : (s.updAxis n f).mem = s.mem := rfl
@[simp] theorem State.updAxis_badWords (s : State) (n : Nat) (f : Axis → Axis) : (s.updAxis n f).badWords = s.badWords := rfl
@[simp] theorem State.updAxis_timeNs (s : State) (n : Nat) (f : Axis → Axis) : (s.updAxis n f).timeNs = s.timeNs := rfl
@[simp] theorem State.updAxis_timeFrac (s : State) (n : Nat) (f : Axis → Axis) : (s.updAxis n f).timeFrac = s.timeFrac := rfl
@[simp] theorem State.updAxis_drawn (s : State) (n : Nat) (f : Axis → Axis) : (s.updAxis n f).drawn = s.drawn := rfl
@[simp] theorem State.updAxis_ctxs (s : State) (n : Nat) (f : Axis → Axis) : (s.updAxis n f).ctxs = s.ctxs := rfl
@[simp] theorem State.updAxis_rings (s : State) (n : Nat) (f : Axis → Axis) : (s.updAxis n f).rings = s.rings := rfl
@[simp] theorem State.updAxis_cells (s : State) (n : Nat) (f : Axis → Axis) : (s.updAxis n f).cells = s.cells := rfl
@[simp] theorem State.updAxis_nougat (s : State) (n : Nat) (f : Axis → Axis) : (s.updAxis n f).nougat = s.nougat := rfl
@[simp] theorem State.updAxis_reports (s : State) (n : Nat) (f : Axis → Axis) : (s.updAxis n f).reports = s.reports := rfl
@[simp] theorem State.updAxis_safeLine (s : State) (n : Nat) (f : Axis → Axis) : (s.updAxis n f).safeLine = s.safeLine := rfl
@[simp] theorem State.updAxis_stopFireN (s : State) (n : Nat) (f : Axis → Axis) : (s.updAxis n f).stopFireN = s.stopFireN := rfl
@[simp] theorem State.updAxis_stopFireLatch (s : State) (n : Nat) (f : Axis → Axis) : (s.updAxis n f).stopFireLatch = s.stopFireLatch := rfl
@[simp] theorem State.updAxis_bscan (s : State) (n : Nat) (f : Axis → Axis) : (s.updAxis n f).bscan = s.bscan := rfl
@[simp] theorem State.updAxis_links (s : State) (n : Nat) (f : Axis → Axis) : (s.updAxis n f).links = s.links := rfl
@[simp] theorem State.updAxis_drops (s : State) (n : Nat) (f : Axis → Axis) : (s.updAxis n f).drops = s.drops := rfl
@[simp] theorem State.updAxis_keys (s : State) (n : Nat) (f : Axis → Axis) : (s.updAxis n f).keys = s.keys := rfl
@[simp] theorem State.updAxis_otp (s : State) (n : Nat) (f : Axis → Axis) : (s.updAxis n f).otp = s.otp := rfl
@[simp] theorem State.updAxis_vault (s : State) (n : Nat) (f : Axis → Axis) : (s.updAxis n f).vault = s.vault := rfl
@[simp] theorem State.updAxis_gov (s : State) (n : Nat) (f : Axis → Axis) : (s.updAxis n f).gov = s.gov := rfl
@[simp] theorem State.updAxis_goose (s : State) (n : Nat) (f : Axis → Axis) : (s.updAxis n f).goose = s.goose := rfl
@[simp] theorem State.updAxis_yoke (s : State) (n : Nat) (f : Axis → Axis) : (s.updAxis n f).yoke = s.yoke := rfl
@[simp] theorem State.updAxis_coop (s : State) (n : Nat) (f : Axis → Axis) : (s.updAxis n f).coop = s.coop := rfl
@[simp] theorem State.updAxis_heldWrites (s : State) (n : Nat) (f : Axis → Axis) : (s.updAxis n f).heldWrites = s.heldWrites := rfl
@[simp] theorem State.updAxis_ledger (s : State) (n : Nat) (f : Axis → Axis) : (s.updAxis n f).ledger = s.ledger := rfl
@[simp] theorem State.updAxis_encs (s : State) (n : Nat) (f : Axis → Axis) : (s.updAxis n f).encs = s.encs := rfl
@[simp] theorem State.updAxis_pairs (s : State) (n : Nat) (f : Axis → Axis) : (s.updAxis n f).pairs = s.pairs := rfl
@[simp] theorem State.updAxis_virt (s : State) (n : Nat) (f : Axis → Axis) : (s.updAxis n f).virt = s.virt := rfl
@[simp] theorem State.updAxis_pipes (s : State) (n : Nat) (f : Axis → Axis) : (s.updAxis n f).pipes = s.pipes := rfl
@[simp] theorem State.updAxis_cciJobs (s : State) (n : Nat) (f : Axis → Axis) : (s.updAxis n f).cciJobs = s.cciJobs := rfl
@[simp] theorem State.updAxis_ladders (s : State) (n : Nat) (f : Axis → Axis) : (s.updAxis n f).ladders = s.ladders := rfl
@[simp] theorem State.updAxis_slots (s : State) (n : Nat) (f : Axis → Axis) : (s.updAxis n f).slots = s.slots := rfl
@[simp] theorem State.updAxis_loopTick (s : State) (n : Nat) (f : Axis → Axis) : (s.updAxis n f).loopTick = s.loopTick := rfl
@[simp] theorem State.updAxis_ainFirst (s : State) (n : Nat) (f : Axis → Axis) : (s.updAxis n f).ainFirst = s.ainFirst := rfl
@[simp] theorem State.updAxis_auxHigh (s : State) (n : Nat) (f : Axis → Axis) : (s.updAxis n f).auxHigh = s.auxHigh := rfl
@[simp] theorem State.updAxis_time (s : State) (n : Nat) (f : Axis → Axis) : (s.updAxis n f).time = s.time := rfl
@[simp] theorem State.updAxis_nets (s : State) (n : Nat) (f : Axis → Axis) : (s.updAxis n f).nets = s.nets := rfl
@[simp] theorem State.updAxis_out (s : State) (n : Nat) (f : Axis → Axis) : (s.updAxis n f).out = s.out := rfl
@[simp] theorem State.updAxis_caps (s : State) (n : Nat) (f : Axis → Axis) : (s.updAxis n f).caps = s.caps := rfl
@[simp] theorem State.updAxis_l1Held (s : State) (n : Nat) (f : Axis → Axis) : (s.updAxis n f).l1Held = s.l1Held := rfl
@[simp] theorem State.updAxis_rd (s : State) (n : Nat) (f : Axis → Axis) (x : Fld) : (s.updAxis n f).rd x = s.rd x := rfl
@[simp] theorem State.updAxis_on (s : State) (n : Nat) (f : Axis → Axis) (x : Fld) : (s.updAxis n f).on x = s.on x := rfl
@[simp] theorem State.updAxis_rdS (s : State) (n : Nat) (f : Axis → Axis) (x : Fld) : (s.updAxis n f).rdS x = s.rdS x := rfl
@[simp] theorem State.updAxis_rdF (s : State) (n : Nat) (f : Axis → Axis) (x : Fld) : (s.updAxis n f).rdF x = s.rdF x := rfl
@[simp] theorem State.updAxis_cell (s : State) (n : Nat) (f : Axis → Axis) (x : Nat) : (s.updAxis n f).cell x = s.cell x := rfl
@[simp] theorem State.updAxis_ring (s : State) (n : Nat) (f : Axis → Axis) (x : Nat) : (s.updAxis n f).ring x = s.ring x := rfl
@[simp] theorem State.updAxis_ctx (s : State) (n : Nat) (f : Axis → Axis) (x : Nat) : (s.updAxis n f).ctx x = s.ctx x := rfl
@[simp] theorem State.updAxis_link (s : State) (n : Nat) (f : Axis → Axis) (x : Nat) : (s.updAxis n f).link x = s.link x := rfl
@[simp] theorem State.updAxis_pipe (s : State) (n : Nat) (f : Axis → Axis) (x : Nat) : (s.updAxis n f).pipe x = s.pipe x := rfl
@[simp] theorem State.updAxis_cci (s : State) (n : Nat) (f : Axis → Axis) (x : Nat) : (s.updAxis n f).cci x = s.cci x := rfl
@[simp] theorem State.updAxis_net (s : State) (n : Nat) (f : Axis → Axis) (x : Nat) : (s.updAxis n f).net x = s.net x := rfl
@[simp] theorem State.updAxis_enc (s : State) (n : Nat) (f : Axis → Axis) (x : Nat) : (s.updAxis n f).enc x = s.enc x := rfl
@[simp] theorem State.updAxis_pair (s : State) (n : Nat) (f : Axis → Axis) (x : Nat) : (s.updAxis n f).pair x = s.pair x := rfl
@[simp] theorem State.updAxis_slot (s : State) (n : Nat) (f : Axis → Axis) (x : Nat) : (s.updAxis n f).slot x = s.slot x := rfl

/-! ### updSlot -/

@[simp] theorem State.updSlot_pending (s : State) (n : Nat) (f : Slot → Slot) : (s.updSlot n f).pending = s.pending := rfl
@[simp] theorem State.updSlot_part (s : State) (n : Nat) (f : Slot → Slot) : (s.updSlot n f).part = s.part := rfl
@[simp] theorem State.updSlot_regs (s : State) (n : Nat) (f : Slot → Slot) : (s.updSlot n f).regs = s.regs := rfl
@[simp] theorem State.updSlot_force (s : State) (n : Nat) (f : Slot → Slot) : (s.updSlot n f).force = s.force := rfl
@[simp] theorem State.updSlot_mem (s : State) (n : Nat) (f : Slot → Slot) : (s.updSlot n f).mem = s.mem := rfl
@[simp] theorem State.updSlot_badWords (s : State) (n : Nat) (f : Slot → Slot) : (s.updSlot n f).badWords = s.badWords := rfl
@[simp] theorem State.updSlot_timeNs (s : State) (n : Nat) (f : Slot → Slot) : (s.updSlot n f).timeNs = s.timeNs := rfl
@[simp] theorem State.updSlot_timeFrac (s : State) (n : Nat) (f : Slot → Slot) : (s.updSlot n f).timeFrac = s.timeFrac := rfl
@[simp] theorem State.updSlot_drawn (s : State) (n : Nat) (f : Slot → Slot) : (s.updSlot n f).drawn = s.drawn := rfl
@[simp] theorem State.updSlot_ctxs (s : State) (n : Nat) (f : Slot → Slot) : (s.updSlot n f).ctxs = s.ctxs := rfl
@[simp] theorem State.updSlot_rings (s : State) (n : Nat) (f : Slot → Slot) : (s.updSlot n f).rings = s.rings := rfl
@[simp] theorem State.updSlot_cells (s : State) (n : Nat) (f : Slot → Slot) : (s.updSlot n f).cells = s.cells := rfl
@[simp] theorem State.updSlot_nougat (s : State) (n : Nat) (f : Slot → Slot) : (s.updSlot n f).nougat = s.nougat := rfl
@[simp] theorem State.updSlot_reports (s : State) (n : Nat) (f : Slot → Slot) : (s.updSlot n f).reports = s.reports := rfl
@[simp] theorem State.updSlot_safeLine (s : State) (n : Nat) (f : Slot → Slot) : (s.updSlot n f).safeLine = s.safeLine := rfl
@[simp] theorem State.updSlot_stopFireN (s : State) (n : Nat) (f : Slot → Slot) : (s.updSlot n f).stopFireN = s.stopFireN := rfl
@[simp] theorem State.updSlot_stopFireLatch (s : State) (n : Nat) (f : Slot → Slot) : (s.updSlot n f).stopFireLatch = s.stopFireLatch := rfl
@[simp] theorem State.updSlot_bscan (s : State) (n : Nat) (f : Slot → Slot) : (s.updSlot n f).bscan = s.bscan := rfl
@[simp] theorem State.updSlot_links (s : State) (n : Nat) (f : Slot → Slot) : (s.updSlot n f).links = s.links := rfl
@[simp] theorem State.updSlot_drops (s : State) (n : Nat) (f : Slot → Slot) : (s.updSlot n f).drops = s.drops := rfl
@[simp] theorem State.updSlot_keys (s : State) (n : Nat) (f : Slot → Slot) : (s.updSlot n f).keys = s.keys := rfl
@[simp] theorem State.updSlot_otp (s : State) (n : Nat) (f : Slot → Slot) : (s.updSlot n f).otp = s.otp := rfl
@[simp] theorem State.updSlot_vault (s : State) (n : Nat) (f : Slot → Slot) : (s.updSlot n f).vault = s.vault := rfl
@[simp] theorem State.updSlot_gov (s : State) (n : Nat) (f : Slot → Slot) : (s.updSlot n f).gov = s.gov := rfl
@[simp] theorem State.updSlot_goose (s : State) (n : Nat) (f : Slot → Slot) : (s.updSlot n f).goose = s.goose := rfl
@[simp] theorem State.updSlot_yoke (s : State) (n : Nat) (f : Slot → Slot) : (s.updSlot n f).yoke = s.yoke := rfl
@[simp] theorem State.updSlot_coop (s : State) (n : Nat) (f : Slot → Slot) : (s.updSlot n f).coop = s.coop := rfl
@[simp] theorem State.updSlot_heldWrites (s : State) (n : Nat) (f : Slot → Slot) : (s.updSlot n f).heldWrites = s.heldWrites := rfl
@[simp] theorem State.updSlot_ledger (s : State) (n : Nat) (f : Slot → Slot) : (s.updSlot n f).ledger = s.ledger := rfl
@[simp] theorem State.updSlot_encs (s : State) (n : Nat) (f : Slot → Slot) : (s.updSlot n f).encs = s.encs := rfl
@[simp] theorem State.updSlot_pairs (s : State) (n : Nat) (f : Slot → Slot) : (s.updSlot n f).pairs = s.pairs := rfl
@[simp] theorem State.updSlot_virt (s : State) (n : Nat) (f : Slot → Slot) : (s.updSlot n f).virt = s.virt := rfl
@[simp] theorem State.updSlot_pipes (s : State) (n : Nat) (f : Slot → Slot) : (s.updSlot n f).pipes = s.pipes := rfl
@[simp] theorem State.updSlot_cciJobs (s : State) (n : Nat) (f : Slot → Slot) : (s.updSlot n f).cciJobs = s.cciJobs := rfl
@[simp] theorem State.updSlot_ladders (s : State) (n : Nat) (f : Slot → Slot) : (s.updSlot n f).ladders = s.ladders := rfl
@[simp] theorem State.updSlot_axes (s : State) (n : Nat) (f : Slot → Slot) : (s.updSlot n f).axes = s.axes := rfl
@[simp] theorem State.updSlot_loopTick (s : State) (n : Nat) (f : Slot → Slot) : (s.updSlot n f).loopTick = s.loopTick := rfl
@[simp] theorem State.updSlot_ainFirst (s : State) (n : Nat) (f : Slot → Slot) : (s.updSlot n f).ainFirst = s.ainFirst := rfl
@[simp] theorem State.updSlot_auxHigh (s : State) (n : Nat) (f : Slot → Slot) : (s.updSlot n f).auxHigh = s.auxHigh := rfl
@[simp] theorem State.updSlot_time (s : State) (n : Nat) (f : Slot → Slot) : (s.updSlot n f).time = s.time := rfl
@[simp] theorem State.updSlot_nets (s : State) (n : Nat) (f : Slot → Slot) : (s.updSlot n f).nets = s.nets := rfl
@[simp] theorem State.updSlot_out (s : State) (n : Nat) (f : Slot → Slot) : (s.updSlot n f).out = s.out := rfl
@[simp] theorem State.updSlot_caps (s : State) (n : Nat) (f : Slot → Slot) : (s.updSlot n f).caps = s.caps := rfl
@[simp] theorem State.updSlot_l1Held (s : State) (n : Nat) (f : Slot → Slot) : (s.updSlot n f).l1Held = s.l1Held := rfl
@[simp] theorem State.updSlot_rd (s : State) (n : Nat) (f : Slot → Slot) (x : Fld) : (s.updSlot n f).rd x = s.rd x := rfl
@[simp] theorem State.updSlot_on (s : State) (n : Nat) (f : Slot → Slot) (x : Fld) : (s.updSlot n f).on x = s.on x := rfl
@[simp] theorem State.updSlot_rdS (s : State) (n : Nat) (f : Slot → Slot) (x : Fld) : (s.updSlot n f).rdS x = s.rdS x := rfl
@[simp] theorem State.updSlot_rdF (s : State) (n : Nat) (f : Slot → Slot) (x : Fld) : (s.updSlot n f).rdF x = s.rdF x := rfl
@[simp] theorem State.updSlot_cell (s : State) (n : Nat) (f : Slot → Slot) (x : Nat) : (s.updSlot n f).cell x = s.cell x := rfl
@[simp] theorem State.updSlot_ring (s : State) (n : Nat) (f : Slot → Slot) (x : Nat) : (s.updSlot n f).ring x = s.ring x := rfl
@[simp] theorem State.updSlot_ctx (s : State) (n : Nat) (f : Slot → Slot) (x : Nat) : (s.updSlot n f).ctx x = s.ctx x := rfl
@[simp] theorem State.updSlot_link (s : State) (n : Nat) (f : Slot → Slot) (x : Nat) : (s.updSlot n f).link x = s.link x := rfl
@[simp] theorem State.updSlot_pipe (s : State) (n : Nat) (f : Slot → Slot) (x : Nat) : (s.updSlot n f).pipe x = s.pipe x := rfl
@[simp] theorem State.updSlot_cci (s : State) (n : Nat) (f : Slot → Slot) (x : Nat) : (s.updSlot n f).cci x = s.cci x := rfl
@[simp] theorem State.updSlot_net (s : State) (n : Nat) (f : Slot → Slot) (x : Nat) : (s.updSlot n f).net x = s.net x := rfl
@[simp] theorem State.updSlot_enc (s : State) (n : Nat) (f : Slot → Slot) (x : Nat) : (s.updSlot n f).enc x = s.enc x := rfl
@[simp] theorem State.updSlot_pair (s : State) (n : Nat) (f : Slot → Slot) (x : Nat) : (s.updSlot n f).pair x = s.pair x := rfl
@[simp] theorem State.updSlot_axis (s : State) (n : Nat) (f : Slot → Slot) (x : Nat) : (s.updSlot n f).axis x = s.axis x := rfl

/-! ### updCoop -/

@[simp] theorem State.updCoop_pending (s : State) (f : Coop → Coop) : (s.updCoop f).pending = s.pending := rfl
@[simp] theorem State.updCoop_part (s : State) (f : Coop → Coop) : (s.updCoop f).part = s.part := rfl
@[simp] theorem State.updCoop_regs (s : State) (f : Coop → Coop) : (s.updCoop f).regs = s.regs := rfl
@[simp] theorem State.updCoop_force (s : State) (f : Coop → Coop) : (s.updCoop f).force = s.force := rfl
@[simp] theorem State.updCoop_mem (s : State) (f : Coop → Coop) : (s.updCoop f).mem = s.mem := rfl
@[simp] theorem State.updCoop_badWords (s : State) (f : Coop → Coop) : (s.updCoop f).badWords = s.badWords := rfl
@[simp] theorem State.updCoop_timeNs (s : State) (f : Coop → Coop) : (s.updCoop f).timeNs = s.timeNs := rfl
@[simp] theorem State.updCoop_timeFrac (s : State) (f : Coop → Coop) : (s.updCoop f).timeFrac = s.timeFrac := rfl
@[simp] theorem State.updCoop_drawn (s : State) (f : Coop → Coop) : (s.updCoop f).drawn = s.drawn := rfl
@[simp] theorem State.updCoop_ctxs (s : State) (f : Coop → Coop) : (s.updCoop f).ctxs = s.ctxs := rfl
@[simp] theorem State.updCoop_rings (s : State) (f : Coop → Coop) : (s.updCoop f).rings = s.rings := rfl
@[simp] theorem State.updCoop_cells (s : State) (f : Coop → Coop) : (s.updCoop f).cells = s.cells := rfl
@[simp] theorem State.updCoop_nougat (s : State) (f : Coop → Coop) : (s.updCoop f).nougat = s.nougat := rfl
@[simp] theorem State.updCoop_reports (s : State) (f : Coop → Coop) : (s.updCoop f).reports = s.reports := rfl
@[simp] theorem State.updCoop_safeLine (s : State) (f : Coop → Coop) : (s.updCoop f).safeLine = s.safeLine := rfl
@[simp] theorem State.updCoop_stopFireN (s : State) (f : Coop → Coop) : (s.updCoop f).stopFireN = s.stopFireN := rfl
@[simp] theorem State.updCoop_stopFireLatch (s : State) (f : Coop → Coop) : (s.updCoop f).stopFireLatch = s.stopFireLatch := rfl
@[simp] theorem State.updCoop_bscan (s : State) (f : Coop → Coop) : (s.updCoop f).bscan = s.bscan := rfl
@[simp] theorem State.updCoop_links (s : State) (f : Coop → Coop) : (s.updCoop f).links = s.links := rfl
@[simp] theorem State.updCoop_drops (s : State) (f : Coop → Coop) : (s.updCoop f).drops = s.drops := rfl
@[simp] theorem State.updCoop_keys (s : State) (f : Coop → Coop) : (s.updCoop f).keys = s.keys := rfl
@[simp] theorem State.updCoop_otp (s : State) (f : Coop → Coop) : (s.updCoop f).otp = s.otp := rfl
@[simp] theorem State.updCoop_vault (s : State) (f : Coop → Coop) : (s.updCoop f).vault = s.vault := rfl
@[simp] theorem State.updCoop_gov (s : State) (f : Coop → Coop) : (s.updCoop f).gov = s.gov := rfl
@[simp] theorem State.updCoop_goose (s : State) (f : Coop → Coop) : (s.updCoop f).goose = s.goose := rfl
@[simp] theorem State.updCoop_yoke (s : State) (f : Coop → Coop) : (s.updCoop f).yoke = s.yoke := rfl
@[simp] theorem State.updCoop_heldWrites (s : State) (f : Coop → Coop) : (s.updCoop f).heldWrites = s.heldWrites := rfl
@[simp] theorem State.updCoop_ledger (s : State) (f : Coop → Coop) : (s.updCoop f).ledger = s.ledger := rfl
@[simp] theorem State.updCoop_encs (s : State) (f : Coop → Coop) : (s.updCoop f).encs = s.encs := rfl
@[simp] theorem State.updCoop_pairs (s : State) (f : Coop → Coop) : (s.updCoop f).pairs = s.pairs := rfl
@[simp] theorem State.updCoop_virt (s : State) (f : Coop → Coop) : (s.updCoop f).virt = s.virt := rfl
@[simp] theorem State.updCoop_pipes (s : State) (f : Coop → Coop) : (s.updCoop f).pipes = s.pipes := rfl
@[simp] theorem State.updCoop_cciJobs (s : State) (f : Coop → Coop) : (s.updCoop f).cciJobs = s.cciJobs := rfl
@[simp] theorem State.updCoop_ladders (s : State) (f : Coop → Coop) : (s.updCoop f).ladders = s.ladders := rfl
@[simp] theorem State.updCoop_axes (s : State) (f : Coop → Coop) : (s.updCoop f).axes = s.axes := rfl
@[simp] theorem State.updCoop_slots (s : State) (f : Coop → Coop) : (s.updCoop f).slots = s.slots := rfl
@[simp] theorem State.updCoop_loopTick (s : State) (f : Coop → Coop) : (s.updCoop f).loopTick = s.loopTick := rfl
@[simp] theorem State.updCoop_ainFirst (s : State) (f : Coop → Coop) : (s.updCoop f).ainFirst = s.ainFirst := rfl
@[simp] theorem State.updCoop_auxHigh (s : State) (f : Coop → Coop) : (s.updCoop f).auxHigh = s.auxHigh := rfl
@[simp] theorem State.updCoop_time (s : State) (f : Coop → Coop) : (s.updCoop f).time = s.time := rfl
@[simp] theorem State.updCoop_nets (s : State) (f : Coop → Coop) : (s.updCoop f).nets = s.nets := rfl
@[simp] theorem State.updCoop_out (s : State) (f : Coop → Coop) : (s.updCoop f).out = s.out := rfl
@[simp] theorem State.updCoop_caps (s : State) (f : Coop → Coop) : (s.updCoop f).caps = s.caps := rfl
@[simp] theorem State.updCoop_l1Held (s : State) (f : Coop → Coop) : (s.updCoop f).l1Held = s.l1Held := rfl
@[simp] theorem State.updCoop_rd (s : State) (f : Coop → Coop) (x : Fld) : (s.updCoop f).rd x = s.rd x := rfl
@[simp] theorem State.updCoop_on (s : State) (f : Coop → Coop) (x : Fld) : (s.updCoop f).on x = s.on x := rfl
@[simp] theorem State.updCoop_rdS (s : State) (f : Coop → Coop) (x : Fld) : (s.updCoop f).rdS x = s.rdS x := rfl
@[simp] theorem State.updCoop_rdF (s : State) (f : Coop → Coop) (x : Fld) : (s.updCoop f).rdF x = s.rdF x := rfl
@[simp] theorem State.updCoop_cell (s : State) (f : Coop → Coop) (x : Nat) : (s.updCoop f).cell x = s.cell x := rfl
@[simp] theorem State.updCoop_ring (s : State) (f : Coop → Coop) (x : Nat) : (s.updCoop f).ring x = s.ring x := rfl
@[simp] theorem State.updCoop_ctx (s : State) (f : Coop → Coop) (x : Nat) : (s.updCoop f).ctx x = s.ctx x := rfl
@[simp] theorem State.updCoop_link (s : State) (f : Coop → Coop) (x : Nat) : (s.updCoop f).link x = s.link x := rfl
@[simp] theorem State.updCoop_pipe (s : State) (f : Coop → Coop) (x : Nat) : (s.updCoop f).pipe x = s.pipe x := rfl
@[simp] theorem State.updCoop_cci (s : State) (f : Coop → Coop) (x : Nat) : (s.updCoop f).cci x = s.cci x := rfl
@[simp] theorem State.updCoop_net (s : State) (f : Coop → Coop) (x : Nat) : (s.updCoop f).net x = s.net x := rfl
@[simp] theorem State.updCoop_enc (s : State) (f : Coop → Coop) (x : Nat) : (s.updCoop f).enc x = s.enc x := rfl
@[simp] theorem State.updCoop_pair (s : State) (f : Coop → Coop) (x : Nat) : (s.updCoop f).pair x = s.pair x := rfl
@[simp] theorem State.updCoop_axis (s : State) (f : Coop → Coop) (x : Nat) : (s.updCoop f).axis x = s.axis x := rfl
@[simp] theorem State.updCoop_slot (s : State) (f : Coop → Coop) (x : Nat) : (s.updCoop f).slot x = s.slot x := rfl

/-! ### updGoose -/

@[simp] theorem State.updGoose_pending (s : State) (f : Goose → Goose) : (s.updGoose f).pending = s.pending := rfl
@[simp] theorem State.updGoose_part (s : State) (f : Goose → Goose) : (s.updGoose f).part = s.part := rfl
@[simp] theorem State.updGoose_regs (s : State) (f : Goose → Goose) : (s.updGoose f).regs = s.regs := rfl
@[simp] theorem State.updGoose_force (s : State) (f : Goose → Goose) : (s.updGoose f).force = s.force := rfl
@[simp] theorem State.updGoose_mem (s : State) (f : Goose → Goose) : (s.updGoose f).mem = s.mem := rfl
@[simp] theorem State.updGoose_badWords (s : State) (f : Goose → Goose) : (s.updGoose f).badWords = s.badWords := rfl
@[simp] theorem State.updGoose_timeNs (s : State) (f : Goose → Goose) : (s.updGoose f).timeNs = s.timeNs := rfl
@[simp] theorem State.updGoose_timeFrac (s : State) (f : Goose → Goose) : (s.updGoose f).timeFrac = s.timeFrac := rfl
@[simp] theorem State.updGoose_drawn (s : State) (f : Goose → Goose) : (s.updGoose f).drawn = s.drawn := rfl
@[simp] theorem State.updGoose_ctxs (s : State) (f : Goose → Goose) : (s.updGoose f).ctxs = s.ctxs := rfl
@[simp] theorem State.updGoose_rings (s : State) (f : Goose → Goose) : (s.updGoose f).rings = s.rings := rfl
@[simp] theorem State.updGoose_cells (s : State) (f : Goose → Goose) : (s.updGoose f).cells = s.cells := rfl
@[simp] theorem State.updGoose_nougat (s : State) (f : Goose → Goose) : (s.updGoose f).nougat = s.nougat := rfl
@[simp] theorem State.updGoose_reports (s : State) (f : Goose → Goose) : (s.updGoose f).reports = s.reports := rfl
@[simp] theorem State.updGoose_safeLine (s : State) (f : Goose → Goose) : (s.updGoose f).safeLine = s.safeLine := rfl
@[simp] theorem State.updGoose_stopFireN (s : State) (f : Goose → Goose) : (s.updGoose f).stopFireN = s.stopFireN := rfl
@[simp] theorem State.updGoose_stopFireLatch (s : State) (f : Goose → Goose) : (s.updGoose f).stopFireLatch = s.stopFireLatch := rfl
@[simp] theorem State.updGoose_bscan (s : State) (f : Goose → Goose) : (s.updGoose f).bscan = s.bscan := rfl
@[simp] theorem State.updGoose_links (s : State) (f : Goose → Goose) : (s.updGoose f).links = s.links := rfl
@[simp] theorem State.updGoose_drops (s : State) (f : Goose → Goose) : (s.updGoose f).drops = s.drops := rfl
@[simp] theorem State.updGoose_keys (s : State) (f : Goose → Goose) : (s.updGoose f).keys = s.keys := rfl
@[simp] theorem State.updGoose_otp (s : State) (f : Goose → Goose) : (s.updGoose f).otp = s.otp := rfl
@[simp] theorem State.updGoose_vault (s : State) (f : Goose → Goose) : (s.updGoose f).vault = s.vault := rfl
@[simp] theorem State.updGoose_gov (s : State) (f : Goose → Goose) : (s.updGoose f).gov = s.gov := rfl
@[simp] theorem State.updGoose_yoke (s : State) (f : Goose → Goose) : (s.updGoose f).yoke = s.yoke := rfl
@[simp] theorem State.updGoose_coop (s : State) (f : Goose → Goose) : (s.updGoose f).coop = s.coop := rfl
@[simp] theorem State.updGoose_heldWrites (s : State) (f : Goose → Goose) : (s.updGoose f).heldWrites = s.heldWrites := rfl
@[simp] theorem State.updGoose_ledger (s : State) (f : Goose → Goose) : (s.updGoose f).ledger = s.ledger := rfl
@[simp] theorem State.updGoose_encs (s : State) (f : Goose → Goose) : (s.updGoose f).encs = s.encs := rfl
@[simp] theorem State.updGoose_pairs (s : State) (f : Goose → Goose) : (s.updGoose f).pairs = s.pairs := rfl
@[simp] theorem State.updGoose_virt (s : State) (f : Goose → Goose) : (s.updGoose f).virt = s.virt := rfl
@[simp] theorem State.updGoose_pipes (s : State) (f : Goose → Goose) : (s.updGoose f).pipes = s.pipes := rfl
@[simp] theorem State.updGoose_cciJobs (s : State) (f : Goose → Goose) : (s.updGoose f).cciJobs = s.cciJobs := rfl
@[simp] theorem State.updGoose_ladders (s : State) (f : Goose → Goose) : (s.updGoose f).ladders = s.ladders := rfl
@[simp] theorem State.updGoose_axes (s : State) (f : Goose → Goose) : (s.updGoose f).axes = s.axes := rfl
@[simp] theorem State.updGoose_slots (s : State) (f : Goose → Goose) : (s.updGoose f).slots = s.slots := rfl
@[simp] theorem State.updGoose_loopTick (s : State) (f : Goose → Goose) : (s.updGoose f).loopTick = s.loopTick := rfl
@[simp] theorem State.updGoose_ainFirst (s : State) (f : Goose → Goose) : (s.updGoose f).ainFirst = s.ainFirst := rfl
@[simp] theorem State.updGoose_auxHigh (s : State) (f : Goose → Goose) : (s.updGoose f).auxHigh = s.auxHigh := rfl
@[simp] theorem State.updGoose_time (s : State) (f : Goose → Goose) : (s.updGoose f).time = s.time := rfl
@[simp] theorem State.updGoose_nets (s : State) (f : Goose → Goose) : (s.updGoose f).nets = s.nets := rfl
@[simp] theorem State.updGoose_out (s : State) (f : Goose → Goose) : (s.updGoose f).out = s.out := rfl
@[simp] theorem State.updGoose_caps (s : State) (f : Goose → Goose) : (s.updGoose f).caps = s.caps := rfl
@[simp] theorem State.updGoose_l1Held (s : State) (f : Goose → Goose) : (s.updGoose f).l1Held = s.l1Held := rfl
@[simp] theorem State.updGoose_rd (s : State) (f : Goose → Goose) (x : Fld) : (s.updGoose f).rd x = s.rd x := rfl
@[simp] theorem State.updGoose_on (s : State) (f : Goose → Goose) (x : Fld) : (s.updGoose f).on x = s.on x := rfl
@[simp] theorem State.updGoose_rdS (s : State) (f : Goose → Goose) (x : Fld) : (s.updGoose f).rdS x = s.rdS x := rfl
@[simp] theorem State.updGoose_rdF (s : State) (f : Goose → Goose) (x : Fld) : (s.updGoose f).rdF x = s.rdF x := rfl
@[simp] theorem State.updGoose_cell (s : State) (f : Goose → Goose) (x : Nat) : (s.updGoose f).cell x = s.cell x := rfl
@[simp] theorem State.updGoose_ring (s : State) (f : Goose → Goose) (x : Nat) : (s.updGoose f).ring x = s.ring x := rfl
@[simp] theorem State.updGoose_ctx (s : State) (f : Goose → Goose) (x : Nat) : (s.updGoose f).ctx x = s.ctx x := rfl
@[simp] theorem State.updGoose_link (s : State) (f : Goose → Goose) (x : Nat) : (s.updGoose f).link x = s.link x := rfl
@[simp] theorem State.updGoose_pipe (s : State) (f : Goose → Goose) (x : Nat) : (s.updGoose f).pipe x = s.pipe x := rfl
@[simp] theorem State.updGoose_cci (s : State) (f : Goose → Goose) (x : Nat) : (s.updGoose f).cci x = s.cci x := rfl
@[simp] theorem State.updGoose_net (s : State) (f : Goose → Goose) (x : Nat) : (s.updGoose f).net x = s.net x := rfl
@[simp] theorem State.updGoose_enc (s : State) (f : Goose → Goose) (x : Nat) : (s.updGoose f).enc x = s.enc x := rfl
@[simp] theorem State.updGoose_pair (s : State) (f : Goose → Goose) (x : Nat) : (s.updGoose f).pair x = s.pair x := rfl
@[simp] theorem State.updGoose_axis (s : State) (f : Goose → Goose) (x : Nat) : (s.updGoose f).axis x = s.axis x := rfl
@[simp] theorem State.updGoose_slot (s : State) (f : Goose → Goose) (x : Nat) : (s.updGoose f).slot x = s.slot x := rfl

/-! ### updLedger -/

@[simp] theorem State.updLedger_pending (s : State) (f : Ledger → Ledger) : (s.updLedger f).pending = s.pending := rfl
@[simp] theorem State.updLedger_part (s : State) (f : Ledger → Ledger) : (s.updLedger f).part = s.part := rfl
@[simp] theorem State.updLedger_regs (s : State) (f : Ledger → Ledger) : (s.updLedger f).regs = s.regs := rfl
@[simp] theorem State.updLedger_force (s : State) (f : Ledger → Ledger) : (s.updLedger f).force = s.force := rfl
@[simp] theorem State.updLedger_mem (s : State) (f : Ledger → Ledger) : (s.updLedger f).mem = s.mem := rfl
@[simp] theorem State.updLedger_badWords (s : State) (f : Ledger → Ledger) : (s.updLedger f).badWords = s.badWords := rfl
@[simp] theorem State.updLedger_timeNs (s : State) (f : Ledger → Ledger) : (s.updLedger f).timeNs = s.timeNs := rfl
@[simp] theorem State.updLedger_timeFrac (s : State) (f : Ledger → Ledger) : (s.updLedger f).timeFrac = s.timeFrac := rfl
@[simp] theorem State.updLedger_drawn (s : State) (f : Ledger → Ledger) : (s.updLedger f).drawn = s.drawn := rfl
@[simp] theorem State.updLedger_ctxs (s : State) (f : Ledger → Ledger) : (s.updLedger f).ctxs = s.ctxs := rfl
@[simp] theorem State.updLedger_rings (s : State) (f : Ledger → Ledger) : (s.updLedger f).rings = s.rings := rfl
@[simp] theorem State.updLedger_cells (s : State) (f : Ledger → Ledger) : (s.updLedger f).cells = s.cells := rfl
@[simp] theorem State.updLedger_nougat (s : State) (f : Ledger → Ledger) : (s.updLedger f).nougat = s.nougat := rfl
@[simp] theorem State.updLedger_reports (s : State) (f : Ledger → Ledger) : (s.updLedger f).reports = s.reports := rfl
@[simp] theorem State.updLedger_safeLine (s : State) (f : Ledger → Ledger) : (s.updLedger f).safeLine = s.safeLine := rfl
@[simp] theorem State.updLedger_stopFireN (s : State) (f : Ledger → Ledger) : (s.updLedger f).stopFireN = s.stopFireN := rfl
@[simp] theorem State.updLedger_stopFireLatch (s : State) (f : Ledger → Ledger) : (s.updLedger f).stopFireLatch = s.stopFireLatch := rfl
@[simp] theorem State.updLedger_bscan (s : State) (f : Ledger → Ledger) : (s.updLedger f).bscan = s.bscan := rfl
@[simp] theorem State.updLedger_links (s : State) (f : Ledger → Ledger) : (s.updLedger f).links = s.links := rfl
@[simp] theorem State.updLedger_drops (s : State) (f : Ledger → Ledger) : (s.updLedger f).drops = s.drops := rfl
@[simp] theorem State.updLedger_keys (s : State) (f : Ledger → Ledger) : (s.updLedger f).keys = s.keys := rfl
@[simp] theorem State.updLedger_otp (s : State) (f : Ledger → Ledger) : (s.updLedger f).otp = s.otp := rfl
@[simp] theorem State.updLedger_vault (s : State) (f : Ledger → Ledger) : (s.updLedger f).vault = s.vault := rfl
@[simp] theorem State.updLedger_gov (s : State) (f : Ledger → Ledger) : (s.updLedger f).gov = s.gov := rfl
@[simp] theorem State.updLedger_goose (s : State) (f : Ledger → Ledger) : (s.updLedger f).goose = s.goose := rfl
@[simp] theorem State.updLedger_yoke (s : State) (f : Ledger → Ledger) : (s.updLedger f).yoke = s.yoke := rfl
@[simp] theorem State.updLedger_coop (s : State) (f : Ledger → Ledger) : (s.updLedger f).coop = s.coop := rfl
@[simp] theorem State.updLedger_heldWrites (s : State) (f : Ledger → Ledger) : (s.updLedger f).heldWrites = s.heldWrites := rfl
@[simp] theorem State.updLedger_encs (s : State) (f : Ledger → Ledger) : (s.updLedger f).encs = s.encs := rfl
@[simp] theorem State.updLedger_pairs (s : State) (f : Ledger → Ledger) : (s.updLedger f).pairs = s.pairs := rfl
@[simp] theorem State.updLedger_virt (s : State) (f : Ledger → Ledger) : (s.updLedger f).virt = s.virt := rfl
@[simp] theorem State.updLedger_pipes (s : State) (f : Ledger → Ledger) : (s.updLedger f).pipes = s.pipes := rfl
@[simp] theorem State.updLedger_cciJobs (s : State) (f : Ledger → Ledger) : (s.updLedger f).cciJobs = s.cciJobs := rfl
@[simp] theorem State.updLedger_ladders (s : State) (f : Ledger → Ledger) : (s.updLedger f).ladders = s.ladders := rfl
@[simp] theorem State.updLedger_axes (s : State) (f : Ledger → Ledger) : (s.updLedger f).axes = s.axes := rfl
@[simp] theorem State.updLedger_slots (s : State) (f : Ledger → Ledger) : (s.updLedger f).slots = s.slots := rfl
@[simp] theorem State.updLedger_loopTick (s : State) (f : Ledger → Ledger) : (s.updLedger f).loopTick = s.loopTick := rfl
@[simp] theorem State.updLedger_ainFirst (s : State) (f : Ledger → Ledger) : (s.updLedger f).ainFirst = s.ainFirst := rfl
@[simp] theorem State.updLedger_auxHigh (s : State) (f : Ledger → Ledger) : (s.updLedger f).auxHigh = s.auxHigh := rfl
@[simp] theorem State.updLedger_time (s : State) (f : Ledger → Ledger) : (s.updLedger f).time = s.time := rfl
@[simp] theorem State.updLedger_nets (s : State) (f : Ledger → Ledger) : (s.updLedger f).nets = s.nets := rfl
@[simp] theorem State.updLedger_out (s : State) (f : Ledger → Ledger) : (s.updLedger f).out = s.out := rfl
@[simp] theorem State.updLedger_caps (s : State) (f : Ledger → Ledger) : (s.updLedger f).caps = s.caps := rfl
@[simp] theorem State.updLedger_l1Held (s : State) (f : Ledger → Ledger) : (s.updLedger f).l1Held = s.l1Held := rfl
@[simp] theorem State.updLedger_rd (s : State) (f : Ledger → Ledger) (x : Fld) : (s.updLedger f).rd x = s.rd x := rfl
@[simp] theorem State.updLedger_on (s : State) (f : Ledger → Ledger) (x : Fld) : (s.updLedger f).on x = s.on x := rfl
@[simp] theorem State.updLedger_rdS (s : State) (f : Ledger → Ledger) (x : Fld) : (s.updLedger f).rdS x = s.rdS x := rfl
@[simp] theorem State.updLedger_rdF (s : State) (f : Ledger → Ledger) (x : Fld) : (s.updLedger f).rdF x = s.rdF x := rfl
@[simp] theorem State.updLedger_cell (s : State) (f : Ledger → Ledger) (x : Nat) : (s.updLedger f).cell x = s.cell x := rfl
@[simp] theorem State.updLedger_ring (s : State) (f : Ledger → Ledger) (x : Nat) : (s.updLedger f).ring x = s.ring x := rfl
@[simp] theorem State.updLedger_ctx (s : State) (f : Ledger → Ledger) (x : Nat) : (s.updLedger f).ctx x = s.ctx x := rfl
@[simp] theorem State.updLedger_link (s : State) (f : Ledger → Ledger) (x : Nat) : (s.updLedger f).link x = s.link x := rfl
@[simp] theorem State.updLedger_pipe (s : State) (f : Ledger → Ledger) (x : Nat) : (s.updLedger f).pipe x = s.pipe x := rfl
@[simp] theorem State.updLedger_cci (s : State) (f : Ledger → Ledger) (x : Nat) : (s.updLedger f).cci x = s.cci x := rfl
@[simp] theorem State.updLedger_net (s : State) (f : Ledger → Ledger) (x : Nat) : (s.updLedger f).net x = s.net x := rfl
@[simp] theorem State.updLedger_enc (s : State) (f : Ledger → Ledger) (x : Nat) : (s.updLedger f).enc x = s.enc x := rfl
@[simp] theorem State.updLedger_pair (s : State) (f : Ledger → Ledger) (x : Nat) : (s.updLedger f).pair x = s.pair x := rfl
@[simp] theorem State.updLedger_axis (s : State) (f : Ledger → Ledger) (x : Nat) : (s.updLedger f).axis x = s.axis x := rfl
@[simp] theorem State.updLedger_slot (s : State) (f : Ledger → Ledger) (x : Nat) : (s.updLedger f).slot x = s.slot x := rfl

/-! ### updNougat -/

@[simp] theorem State.updNougat_pending (s : State) (f : Nougat → Nougat) : (s.updNougat f).pending = s.pending := rfl
@[simp] theorem State.updNougat_part (s : State) (f : Nougat → Nougat) : (s.updNougat f).part = s.part := rfl
@[simp] theorem State.updNougat_regs (s : State) (f : Nougat → Nougat) : (s.updNougat f).regs = s.regs := rfl
@[simp] theorem State.updNougat_force (s : State) (f : Nougat → Nougat) : (s.updNougat f).force = s.force := rfl
@[simp] theorem State.updNougat_mem (s : State) (f : Nougat → Nougat) : (s.updNougat f).mem = s.mem := rfl
@[simp] theorem State.updNougat_badWords (s : State) (f : Nougat → Nougat) : (s.updNougat f).badWords = s.badWords := rfl
@[simp] theorem State.updNougat_timeNs (s : State) (f : Nougat → Nougat) : (s.updNougat f).timeNs = s.timeNs := rfl
@[simp] theorem State.updNougat_timeFrac (s : State) (f : Nougat → Nougat) : (s.updNougat f).timeFrac = s.timeFrac := rfl
@[simp] theorem State.updNougat_drawn (s : State) (f : Nougat → Nougat) : (s.updNougat f).drawn = s.drawn := rfl
@[simp] theorem State.updNougat_ctxs (s : State) (f : Nougat → Nougat) : (s.updNougat f).ctxs = s.ctxs := rfl
@[simp] theorem State.updNougat_rings (s : State) (f : Nougat → Nougat) : (s.updNougat f).rings = s.rings := rfl
@[simp] theorem State.updNougat_cells (s : State) (f : Nougat → Nougat) : (s.updNougat f).cells = s.cells := rfl
@[simp] theorem State.updNougat_reports (s : State) (f : Nougat → Nougat) : (s.updNougat f).reports = s.reports := rfl
@[simp] theorem State.updNougat_safeLine (s : State) (f : Nougat → Nougat) : (s.updNougat f).safeLine = s.safeLine := rfl
@[simp] theorem State.updNougat_stopFireN (s : State) (f : Nougat → Nougat) : (s.updNougat f).stopFireN = s.stopFireN := rfl
@[simp] theorem State.updNougat_stopFireLatch (s : State) (f : Nougat → Nougat) : (s.updNougat f).stopFireLatch = s.stopFireLatch := rfl
@[simp] theorem State.updNougat_bscan (s : State) (f : Nougat → Nougat) : (s.updNougat f).bscan = s.bscan := rfl
@[simp] theorem State.updNougat_links (s : State) (f : Nougat → Nougat) : (s.updNougat f).links = s.links := rfl
@[simp] theorem State.updNougat_drops (s : State) (f : Nougat → Nougat) : (s.updNougat f).drops = s.drops := rfl
@[simp] theorem State.updNougat_keys (s : State) (f : Nougat → Nougat) : (s.updNougat f).keys = s.keys := rfl
@[simp] theorem State.updNougat_otp (s : State) (f : Nougat → Nougat) : (s.updNougat f).otp = s.otp := rfl
@[simp] theorem State.updNougat_vault (s : State) (f : Nougat → Nougat) : (s.updNougat f).vault = s.vault := rfl
@[simp] theorem State.updNougat_gov (s : State) (f : Nougat → Nougat) : (s.updNougat f).gov = s.gov := rfl
@[simp] theorem State.updNougat_goose (s : State) (f : Nougat → Nougat) : (s.updNougat f).goose = s.goose := rfl
@[simp] theorem State.updNougat_yoke (s : State) (f : Nougat → Nougat) : (s.updNougat f).yoke = s.yoke := rfl
@[simp] theorem State.updNougat_coop (s : State) (f : Nougat → Nougat) : (s.updNougat f).coop = s.coop := rfl
@[simp] theorem State.updNougat_heldWrites (s : State) (f : Nougat → Nougat) : (s.updNougat f).heldWrites = s.heldWrites := rfl
@[simp] theorem State.updNougat_ledger (s : State) (f : Nougat → Nougat) : (s.updNougat f).ledger = s.ledger := rfl
@[simp] theorem State.updNougat_encs (s : State) (f : Nougat → Nougat) : (s.updNougat f).encs = s.encs := rfl
@[simp] theorem State.updNougat_pairs (s : State) (f : Nougat → Nougat) : (s.updNougat f).pairs = s.pairs := rfl
@[simp] theorem State.updNougat_virt (s : State) (f : Nougat → Nougat) : (s.updNougat f).virt = s.virt := rfl
@[simp] theorem State.updNougat_pipes (s : State) (f : Nougat → Nougat) : (s.updNougat f).pipes = s.pipes := rfl
@[simp] theorem State.updNougat_cciJobs (s : State) (f : Nougat → Nougat) : (s.updNougat f).cciJobs = s.cciJobs := rfl
@[simp] theorem State.updNougat_ladders (s : State) (f : Nougat → Nougat) : (s.updNougat f).ladders = s.ladders := rfl
@[simp] theorem State.updNougat_axes (s : State) (f : Nougat → Nougat) : (s.updNougat f).axes = s.axes := rfl
@[simp] theorem State.updNougat_slots (s : State) (f : Nougat → Nougat) : (s.updNougat f).slots = s.slots := rfl
@[simp] theorem State.updNougat_loopTick (s : State) (f : Nougat → Nougat) : (s.updNougat f).loopTick = s.loopTick := rfl
@[simp] theorem State.updNougat_ainFirst (s : State) (f : Nougat → Nougat) : (s.updNougat f).ainFirst = s.ainFirst := rfl
@[simp] theorem State.updNougat_auxHigh (s : State) (f : Nougat → Nougat) : (s.updNougat f).auxHigh = s.auxHigh := rfl
@[simp] theorem State.updNougat_time (s : State) (f : Nougat → Nougat) : (s.updNougat f).time = s.time := rfl
@[simp] theorem State.updNougat_nets (s : State) (f : Nougat → Nougat) : (s.updNougat f).nets = s.nets := rfl
@[simp] theorem State.updNougat_out (s : State) (f : Nougat → Nougat) : (s.updNougat f).out = s.out := rfl
@[simp] theorem State.updNougat_caps (s : State) (f : Nougat → Nougat) : (s.updNougat f).caps = s.caps := rfl
@[simp] theorem State.updNougat_l1Held (s : State) (f : Nougat → Nougat) : (s.updNougat f).l1Held = s.l1Held := rfl
@[simp] theorem State.updNougat_rd (s : State) (f : Nougat → Nougat) (x : Fld) : (s.updNougat f).rd x = s.rd x := rfl
@[simp] theorem State.updNougat_on (s : State) (f : Nougat → Nougat) (x : Fld) : (s.updNougat f).on x = s.on x := rfl
@[simp] theorem State.updNougat_rdS (s : State) (f : Nougat → Nougat) (x : Fld) : (s.updNougat f).rdS x = s.rdS x := rfl
@[simp] theorem State.updNougat_rdF (s : State) (f : Nougat → Nougat) (x : Fld) : (s.updNougat f).rdF x = s.rdF x := rfl
@[simp] theorem State.updNougat_cell (s : State) (f : Nougat → Nougat) (x : Nat) : (s.updNougat f).cell x = s.cell x := rfl
@[simp] theorem State.updNougat_ring (s : State) (f : Nougat → Nougat) (x : Nat) : (s.updNougat f).ring x = s.ring x := rfl
@[simp] theorem State.updNougat_ctx (s : State) (f : Nougat → Nougat) (x : Nat) : (s.updNougat f).ctx x = s.ctx x := rfl
@[simp] theorem State.updNougat_link (s : State) (f : Nougat → Nougat) (x : Nat) : (s.updNougat f).link x = s.link x := rfl
@[simp] theorem State.updNougat_pipe (s : State) (f : Nougat → Nougat) (x : Nat) : (s.updNougat f).pipe x = s.pipe x := rfl
@[simp] theorem State.updNougat_cci (s : State) (f : Nougat → Nougat) (x : Nat) : (s.updNougat f).cci x = s.cci x := rfl
@[simp] theorem State.updNougat_net (s : State) (f : Nougat → Nougat) (x : Nat) : (s.updNougat f).net x = s.net x := rfl
@[simp] theorem State.updNougat_enc (s : State) (f : Nougat → Nougat) (x : Nat) : (s.updNougat f).enc x = s.enc x := rfl
@[simp] theorem State.updNougat_pair (s : State) (f : Nougat → Nougat) (x : Nat) : (s.updNougat f).pair x = s.pair x := rfl
@[simp] theorem State.updNougat_axis (s : State) (f : Nougat → Nougat) (x : Nat) : (s.updNougat f).axis x = s.axis x := rfl
@[simp] theorem State.updNougat_slot (s : State) (f : Nougat → Nougat) (x : Nat) : (s.updNougat f).slot x = s.slot x := rfl

/-! ### updVault -/

@[simp] theorem State.updVault_pending (s : State) (f : Vault → Vault) : (s.updVault f).pending = s.pending := rfl
@[simp] theorem State.updVault_part (s : State) (f : Vault → Vault) : (s.updVault f).part = s.part := rfl
@[simp] theorem State.updVault_regs (s : State) (f : Vault → Vault) : (s.updVault f).regs = s.regs := rfl
@[simp] theorem State.updVault_force (s : State) (f : Vault → Vault) : (s.updVault f).force = s.force := rfl
@[simp] theorem State.updVault_mem (s : State) (f : Vault → Vault) : (s.updVault f).mem = s.mem := rfl
@[simp] theorem State.updVault_badWords (s : State) (f : Vault → Vault) : (s.updVault f).badWords = s.badWords := rfl
@[simp] theorem State.updVault_timeNs (s : State) (f : Vault → Vault) : (s.updVault f).timeNs = s.timeNs := rfl
@[simp] theorem State.updVault_timeFrac (s : State) (f : Vault → Vault) : (s.updVault f).timeFrac = s.timeFrac := rfl
@[simp] theorem State.updVault_drawn (s : State) (f : Vault → Vault) : (s.updVault f).drawn = s.drawn := rfl
@[simp] theorem State.updVault_ctxs (s : State) (f : Vault → Vault) : (s.updVault f).ctxs = s.ctxs := rfl
@[simp] theorem State.updVault_rings (s : State) (f : Vault → Vault) : (s.updVault f).rings = s.rings := rfl
@[simp] theorem State.updVault_cells (s : State) (f : Vault → Vault) : (s.updVault f).cells = s.cells := rfl
@[simp] theorem State.updVault_nougat (s : State) (f : Vault → Vault) : (s.updVault f).nougat = s.nougat := rfl
@[simp] theorem State.updVault_reports (s : State) (f : Vault → Vault) : (s.updVault f).reports = s.reports := rfl
@[simp] theorem State.updVault_safeLine (s : State) (f : Vault → Vault) : (s.updVault f).safeLine = s.safeLine := rfl
@[simp] theorem State.updVault_stopFireN (s : State) (f : Vault → Vault) : (s.updVault f).stopFireN = s.stopFireN := rfl
@[simp] theorem State.updVault_stopFireLatch (s : State) (f : Vault → Vault) : (s.updVault f).stopFireLatch = s.stopFireLatch := rfl
@[simp] theorem State.updVault_bscan (s : State) (f : Vault → Vault) : (s.updVault f).bscan = s.bscan := rfl
@[simp] theorem State.updVault_links (s : State) (f : Vault → Vault) : (s.updVault f).links = s.links := rfl
@[simp] theorem State.updVault_drops (s : State) (f : Vault → Vault) : (s.updVault f).drops = s.drops := rfl
@[simp] theorem State.updVault_keys (s : State) (f : Vault → Vault) : (s.updVault f).keys = s.keys := rfl
@[simp] theorem State.updVault_otp (s : State) (f : Vault → Vault) : (s.updVault f).otp = s.otp := rfl
@[simp] theorem State.updVault_gov (s : State) (f : Vault → Vault) : (s.updVault f).gov = s.gov := rfl
@[simp] theorem State.updVault_goose (s : State) (f : Vault → Vault) : (s.updVault f).goose = s.goose := rfl
@[simp] theorem State.updVault_yoke (s : State) (f : Vault → Vault) : (s.updVault f).yoke = s.yoke := rfl
@[simp] theorem State.updVault_coop (s : State) (f : Vault → Vault) : (s.updVault f).coop = s.coop := rfl
@[simp] theorem State.updVault_heldWrites (s : State) (f : Vault → Vault) : (s.updVault f).heldWrites = s.heldWrites := rfl
@[simp] theorem State.updVault_ledger (s : State) (f : Vault → Vault) : (s.updVault f).ledger = s.ledger := rfl
@[simp] theorem State.updVault_encs (s : State) (f : Vault → Vault) : (s.updVault f).encs = s.encs := rfl
@[simp] theorem State.updVault_pairs (s : State) (f : Vault → Vault) : (s.updVault f).pairs = s.pairs := rfl
@[simp] theorem State.updVault_virt (s : State) (f : Vault → Vault) : (s.updVault f).virt = s.virt := rfl
@[simp] theorem State.updVault_pipes (s : State) (f : Vault → Vault) : (s.updVault f).pipes = s.pipes := rfl
@[simp] theorem State.updVault_cciJobs (s : State) (f : Vault → Vault) : (s.updVault f).cciJobs = s.cciJobs := rfl
@[simp] theorem State.updVault_ladders (s : State) (f : Vault → Vault) : (s.updVault f).ladders = s.ladders := rfl
@[simp] theorem State.updVault_axes (s : State) (f : Vault → Vault) : (s.updVault f).axes = s.axes := rfl
@[simp] theorem State.updVault_slots (s : State) (f : Vault → Vault) : (s.updVault f).slots = s.slots := rfl
@[simp] theorem State.updVault_loopTick (s : State) (f : Vault → Vault) : (s.updVault f).loopTick = s.loopTick := rfl
@[simp] theorem State.updVault_ainFirst (s : State) (f : Vault → Vault) : (s.updVault f).ainFirst = s.ainFirst := rfl
@[simp] theorem State.updVault_auxHigh (s : State) (f : Vault → Vault) : (s.updVault f).auxHigh = s.auxHigh := rfl
@[simp] theorem State.updVault_time (s : State) (f : Vault → Vault) : (s.updVault f).time = s.time := rfl
@[simp] theorem State.updVault_nets (s : State) (f : Vault → Vault) : (s.updVault f).nets = s.nets := rfl
@[simp] theorem State.updVault_out (s : State) (f : Vault → Vault) : (s.updVault f).out = s.out := rfl
@[simp] theorem State.updVault_caps (s : State) (f : Vault → Vault) : (s.updVault f).caps = s.caps := rfl
@[simp] theorem State.updVault_l1Held (s : State) (f : Vault → Vault) : (s.updVault f).l1Held = s.l1Held := rfl
@[simp] theorem State.updVault_rd (s : State) (f : Vault → Vault) (x : Fld) : (s.updVault f).rd x = s.rd x := rfl
@[simp] theorem State.updVault_on (s : State) (f : Vault → Vault) (x : Fld) : (s.updVault f).on x = s.on x := rfl
@[simp] theorem State.updVault_rdS (s : State) (f : Vault → Vault) (x : Fld) : (s.updVault f).rdS x = s.rdS x := rfl
@[simp] theorem State.updVault_rdF (s : State) (f : Vault → Vault) (x : Fld) : (s.updVault f).rdF x = s.rdF x := rfl
@[simp] theorem State.updVault_cell (s : State) (f : Vault → Vault) (x : Nat) : (s.updVault f).cell x = s.cell x := rfl
@[simp] theorem State.updVault_ring (s : State) (f : Vault → Vault) (x : Nat) : (s.updVault f).ring x = s.ring x := rfl
@[simp] theorem State.updVault_ctx (s : State) (f : Vault → Vault) (x : Nat) : (s.updVault f).ctx x = s.ctx x := rfl
@[simp] theorem State.updVault_link (s : State) (f : Vault → Vault) (x : Nat) : (s.updVault f).link x = s.link x := rfl
@[simp] theorem State.updVault_pipe (s : State) (f : Vault → Vault) (x : Nat) : (s.updVault f).pipe x = s.pipe x := rfl
@[simp] theorem State.updVault_cci (s : State) (f : Vault → Vault) (x : Nat) : (s.updVault f).cci x = s.cci x := rfl
@[simp] theorem State.updVault_net (s : State) (f : Vault → Vault) (x : Nat) : (s.updVault f).net x = s.net x := rfl
@[simp] theorem State.updVault_enc (s : State) (f : Vault → Vault) (x : Nat) : (s.updVault f).enc x = s.enc x := rfl
@[simp] theorem State.updVault_pair (s : State) (f : Vault → Vault) (x : Nat) : (s.updVault f).pair x = s.pair x := rfl
@[simp] theorem State.updVault_axis (s : State) (f : Vault → Vault) (x : Nat) : (s.updVault f).axis x = s.axis x := rfl
@[simp] theorem State.updVault_slot (s : State) (f : Vault → Vault) (x : Nat) : (s.updVault f).slot x = s.slot x := rfl

/-! ### updYoke -/

@[simp] theorem State.updYoke_pending (s : State) (f : Yoke → Yoke) : (s.updYoke f).pending = s.pending := rfl
@[simp] theorem State.updYoke_part (s : State) (f : Yoke → Yoke) : (s.updYoke f).part = s.part := rfl
@[simp] theorem State.updYoke_regs (s : State) (f : Yoke → Yoke) : (s.updYoke f).regs = s.regs := rfl
@[simp] theorem State.updYoke_force (s : State) (f : Yoke → Yoke) : (s.updYoke f).force = s.force := rfl
@[simp] theorem State.updYoke_mem (s : State) (f : Yoke → Yoke) : (s.updYoke f).mem = s.mem := rfl
@[simp] theorem State.updYoke_badWords (s : State) (f : Yoke → Yoke) : (s.updYoke f).badWords = s.badWords := rfl
@[simp] theorem State.updYoke_timeNs (s : State) (f : Yoke → Yoke) : (s.updYoke f).timeNs = s.timeNs := rfl
@[simp] theorem State.updYoke_timeFrac (s : State) (f : Yoke → Yoke) : (s.updYoke f).timeFrac = s.timeFrac := rfl
@[simp] theorem State.updYoke_drawn (s : State) (f : Yoke → Yoke) : (s.updYoke f).drawn = s.drawn := rfl
@[simp] theorem State.updYoke_ctxs (s : State) (f : Yoke → Yoke) : (s.updYoke f).ctxs = s.ctxs := rfl
@[simp] theorem State.updYoke_rings (s : State) (f : Yoke → Yoke) : (s.updYoke f).rings = s.rings := rfl
@[simp] theorem State.updYoke_cells (s : State) (f : Yoke → Yoke) : (s.updYoke f).cells = s.cells := rfl
@[simp] theorem State.updYoke_nougat (s : State) (f : Yoke → Yoke) : (s.updYoke f).nougat = s.nougat := rfl
@[simp] theorem State.updYoke_reports (s : State) (f : Yoke → Yoke) : (s.updYoke f).reports = s.reports := rfl
@[simp] theorem State.updYoke_safeLine (s : State) (f : Yoke → Yoke) : (s.updYoke f).safeLine = s.safeLine := rfl
@[simp] theorem State.updYoke_stopFireN (s : State) (f : Yoke → Yoke) : (s.updYoke f).stopFireN = s.stopFireN := rfl
@[simp] theorem State.updYoke_stopFireLatch (s : State) (f : Yoke → Yoke) : (s.updYoke f).stopFireLatch = s.stopFireLatch := rfl
@[simp] theorem State.updYoke_bscan (s : State) (f : Yoke → Yoke) : (s.updYoke f).bscan = s.bscan := rfl
@[simp] theorem State.updYoke_links (s : State) (f : Yoke → Yoke) : (s.updYoke f).links = s.links := rfl
@[simp] theorem State.updYoke_drops (s : State) (f : Yoke → Yoke) : (s.updYoke f).drops = s.drops := rfl
@[simp] theorem State.updYoke_keys (s : State) (f : Yoke → Yoke) : (s.updYoke f).keys = s.keys := rfl
@[simp] theorem State.updYoke_otp (s : State) (f : Yoke → Yoke) : (s.updYoke f).otp = s.otp := rfl
@[simp] theorem State.updYoke_vault (s : State) (f : Yoke → Yoke) : (s.updYoke f).vault = s.vault := rfl
@[simp] theorem State.updYoke_gov (s : State) (f : Yoke → Yoke) : (s.updYoke f).gov = s.gov := rfl
@[simp] theorem State.updYoke_goose (s : State) (f : Yoke → Yoke) : (s.updYoke f).goose = s.goose := rfl
@[simp] theorem State.updYoke_coop (s : State) (f : Yoke → Yoke) : (s.updYoke f).coop = s.coop := rfl
@[simp] theorem State.updYoke_heldWrites (s : State) (f : Yoke → Yoke) : (s.updYoke f).heldWrites = s.heldWrites := rfl
@[simp] theorem State.updYoke_ledger (s : State) (f : Yoke → Yoke) : (s.updYoke f).ledger = s.ledger := rfl
@[simp] theorem State.updYoke_encs (s : State) (f : Yoke → Yoke) : (s.updYoke f).encs = s.encs := rfl
@[simp] theorem State.updYoke_pairs (s : State) (f : Yoke → Yoke) : (s.updYoke f).pairs = s.pairs := rfl
@[simp] theorem State.updYoke_virt (s : State) (f : Yoke → Yoke) : (s.updYoke f).virt = s.virt := rfl
@[simp] theorem State.updYoke_pipes (s : State) (f : Yoke → Yoke) : (s.updYoke f).pipes = s.pipes := rfl
@[simp] theorem State.updYoke_cciJobs (s : State) (f : Yoke → Yoke) : (s.updYoke f).cciJobs = s.cciJobs := rfl
@[simp] theorem State.updYoke_ladders (s : State) (f : Yoke → Yoke) : (s.updYoke f).ladders = s.ladders := rfl
@[simp] theorem State.updYoke_axes (s : State) (f : Yoke → Yoke) : (s.updYoke f).axes = s.axes := rfl
@[simp] theorem State.updYoke_slots (s : State) (f : Yoke → Yoke) : (s.updYoke f).slots = s.slots := rfl
@[simp] theorem State.updYoke_loopTick (s : State) (f : Yoke → Yoke) : (s.updYoke f).loopTick = s.loopTick := rfl
@[simp] theorem State.updYoke_ainFirst (s : State) (f : Yoke → Yoke) : (s.updYoke f).ainFirst = s.ainFirst := rfl
@[simp] theorem State.updYoke_auxHigh (s : State) (f : Yoke → Yoke) : (s.updYoke f).auxHigh = s.auxHigh := rfl
@[simp] theorem State.updYoke_time (s : State) (f : Yoke → Yoke) : (s.updYoke f).time = s.time := rfl
@[simp] theorem State.updYoke_nets (s : State) (f : Yoke → Yoke) : (s.updYoke f).nets = s.nets := rfl
@[simp] theorem State.updYoke_out (s : State) (f : Yoke → Yoke) : (s.updYoke f).out = s.out := rfl
@[simp] theorem State.updYoke_caps (s : State) (f : Yoke → Yoke) : (s.updYoke f).caps = s.caps := rfl
@[simp] theorem State.updYoke_l1Held (s : State) (f : Yoke → Yoke) : (s.updYoke f).l1Held = s.l1Held := rfl
@[simp] theorem State.updYoke_rd (s : State) (f : Yoke → Yoke) (x : Fld) : (s.updYoke f).rd x = s.rd x := rfl
@[simp] theorem State.updYoke_on (s : State) (f : Yoke → Yoke) (x : Fld) : (s.updYoke f).on x = s.on x := rfl
@[simp] theorem State.updYoke_rdS (s : State) (f : Yoke → Yoke) (x : Fld) : (s.updYoke f).rdS x = s.rdS x := rfl
@[simp] theorem State.updYoke_rdF (s : State) (f : Yoke → Yoke) (x : Fld) : (s.updYoke f).rdF x = s.rdF x := rfl
@[simp] theorem State.updYoke_cell (s : State) (f : Yoke → Yoke) (x : Nat) : (s.updYoke f).cell x = s.cell x := rfl
@[simp] theorem State.updYoke_ring (s : State) (f : Yoke → Yoke) (x : Nat) : (s.updYoke f).ring x = s.ring x := rfl
@[simp] theorem State.updYoke_ctx (s : State) (f : Yoke → Yoke) (x : Nat) : (s.updYoke f).ctx x = s.ctx x := rfl
@[simp] theorem State.updYoke_link (s : State) (f : Yoke → Yoke) (x : Nat) : (s.updYoke f).link x = s.link x := rfl
@[simp] theorem State.updYoke_pipe (s : State) (f : Yoke → Yoke) (x : Nat) : (s.updYoke f).pipe x = s.pipe x := rfl
@[simp] theorem State.updYoke_cci (s : State) (f : Yoke → Yoke) (x : Nat) : (s.updYoke f).cci x = s.cci x := rfl
@[simp] theorem State.updYoke_net (s : State) (f : Yoke → Yoke) (x : Nat) : (s.updYoke f).net x = s.net x := rfl
@[simp] theorem State.updYoke_enc (s : State) (f : Yoke → Yoke) (x : Nat) : (s.updYoke f).enc x = s.enc x := rfl
@[simp] theorem State.updYoke_pair (s : State) (f : Yoke → Yoke) (x : Nat) : (s.updYoke f).pair x = s.pair x := rfl
@[simp] theorem State.updYoke_axis (s : State) (f : Yoke → Yoke) (x : Nat) : (s.updYoke f).axis x = s.axis x := rfl
@[simp] theorem State.updYoke_slot (s : State) (f : Yoke → Yoke) (x : Nat) : (s.updYoke f).slot x = s.slot x := rfl

/-! ### wrB -/

@[simp] theorem State.wrB_pending (s : State) (f : Fld) (b : Bool) : (s.wrB f b).pending = s.pending := rfl
@[simp] theorem State.wrB_part (s : State) (f : Fld) (b : Bool) : (s.wrB f b).part = s.part := rfl
@[simp] theorem State.wrB_force (s : State) (f : Fld) (b : Bool) : (s.wrB f b).force = s.force := rfl
@[simp] theorem State.wrB_mem (s : State) (f : Fld) (b : Bool) : (s.wrB f b).mem = s.mem := rfl
@[simp] theorem State.wrB_badWords (s : State) (f : Fld) (b : Bool) : (s.wrB f b).badWords = s.badWords := rfl
@[simp] theorem State.wrB_timeNs (s : State) (f : Fld) (b : Bool) : (s.wrB f b).timeNs = s.timeNs := rfl
@[simp] theorem State.wrB_timeFrac (s : State) (f : Fld) (b : Bool) : (s.wrB f b).timeFrac = s.timeFrac := rfl
@[simp] theorem State.wrB_drawn (s : State) (f : Fld) (b : Bool) : (s.wrB f b).drawn = s.drawn := rfl
@[simp] theorem State.wrB_ctxs (s : State) (f : Fld) (b : Bool) : (s.wrB f b).ctxs = s.ctxs := rfl
@[simp] theorem State.wrB_rings (s : State) (f : Fld) (b : Bool) : (s.wrB f b).rings = s.rings := rfl
@[simp] theorem State.wrB_cells (s : State) (f : Fld) (b : Bool) : (s.wrB f b).cells = s.cells := rfl
@[simp] theorem State.wrB_nougat (s : State) (f : Fld) (b : Bool) : (s.wrB f b).nougat = s.nougat := rfl
@[simp] theorem State.wrB_reports (s : State) (f : Fld) (b : Bool) : (s.wrB f b).reports = s.reports := rfl
@[simp] theorem State.wrB_safeLine (s : State) (f : Fld) (b : Bool) : (s.wrB f b).safeLine = s.safeLine := rfl
@[simp] theorem State.wrB_stopFireN (s : State) (f : Fld) (b : Bool) : (s.wrB f b).stopFireN = s.stopFireN := rfl
@[simp] theorem State.wrB_stopFireLatch (s : State) (f : Fld) (b : Bool) : (s.wrB f b).stopFireLatch = s.stopFireLatch := rfl
@[simp] theorem State.wrB_bscan (s : State) (f : Fld) (b : Bool) : (s.wrB f b).bscan = s.bscan := rfl
@[simp] theorem State.wrB_links (s : State) (f : Fld) (b : Bool) : (s.wrB f b).links = s.links := rfl
@[simp] theorem State.wrB_drops (s : State) (f : Fld) (b : Bool) : (s.wrB f b).drops = s.drops := rfl
@[simp] theorem State.wrB_keys (s : State) (f : Fld) (b : Bool) : (s.wrB f b).keys = s.keys := rfl
@[simp] theorem State.wrB_otp (s : State) (f : Fld) (b : Bool) : (s.wrB f b).otp = s.otp := rfl
@[simp] theorem State.wrB_vault (s : State) (f : Fld) (b : Bool) : (s.wrB f b).vault = s.vault := rfl
@[simp] theorem State.wrB_gov (s : State) (f : Fld) (b : Bool) : (s.wrB f b).gov = s.gov := rfl
@[simp] theorem State.wrB_goose (s : State) (f : Fld) (b : Bool) : (s.wrB f b).goose = s.goose := rfl
@[simp] theorem State.wrB_yoke (s : State) (f : Fld) (b : Bool) : (s.wrB f b).yoke = s.yoke := rfl
@[simp] theorem State.wrB_coop (s : State) (f : Fld) (b : Bool) : (s.wrB f b).coop = s.coop := rfl
@[simp] theorem State.wrB_heldWrites (s : State) (f : Fld) (b : Bool) : (s.wrB f b).heldWrites = s.heldWrites := rfl
@[simp] theorem State.wrB_ledger (s : State) (f : Fld) (b : Bool) : (s.wrB f b).ledger = s.ledger := rfl
@[simp] theorem State.wrB_encs (s : State) (f : Fld) (b : Bool) : (s.wrB f b).encs = s.encs := rfl
@[simp] theorem State.wrB_pairs (s : State) (f : Fld) (b : Bool) : (s.wrB f b).pairs = s.pairs := rfl
@[simp] theorem State.wrB_virt (s : State) (f : Fld) (b : Bool) : (s.wrB f b).virt = s.virt := rfl
@[simp] theorem State.wrB_pipes (s : State) (f : Fld) (b : Bool) : (s.wrB f b).pipes = s.pipes := rfl
@[simp] theorem State.wrB_cciJobs (s : State) (f : Fld) (b : Bool) : (s.wrB f b).cciJobs = s.cciJobs := rfl
@[simp] theorem State.wrB_ladders (s : State) (f : Fld) (b : Bool) : (s.wrB f b).ladders = s.ladders := rfl
@[simp] theorem State.wrB_axes (s : State) (f : Fld) (b : Bool) : (s.wrB f b).axes = s.axes := rfl
@[simp] theorem State.wrB_slots (s : State) (f : Fld) (b : Bool) : (s.wrB f b).slots = s.slots := rfl
@[simp] theorem State.wrB_loopTick (s : State) (f : Fld) (b : Bool) : (s.wrB f b).loopTick = s.loopTick := rfl
@[simp] theorem State.wrB_ainFirst (s : State) (f : Fld) (b : Bool) : (s.wrB f b).ainFirst = s.ainFirst := rfl
@[simp] theorem State.wrB_auxHigh (s : State) (f : Fld) (b : Bool) : (s.wrB f b).auxHigh = s.auxHigh := rfl
@[simp] theorem State.wrB_time (s : State) (f : Fld) (b : Bool) : (s.wrB f b).time = s.time := rfl
@[simp] theorem State.wrB_nets (s : State) (f : Fld) (b : Bool) : (s.wrB f b).nets = s.nets := rfl
@[simp] theorem State.wrB_out (s : State) (f : Fld) (b : Bool) : (s.wrB f b).out = s.out := rfl
@[simp] theorem State.wrB_caps (s : State) (f : Fld) (b : Bool) : (s.wrB f b).caps = s.caps := rfl
@[simp] theorem State.wrB_l1Held (s : State) (f : Fld) (b : Bool) : (s.wrB f b).l1Held = s.l1Held := rfl
@[simp] theorem State.wrB_rdF (s : State) (f : Fld) (b : Bool) (x : Fld) : (s.wrB f b).rdF x = s.rdF x := rfl
@[simp] theorem State.wrB_cell (s : State) (f : Fld) (b : Bool) (x : Nat) : (s.wrB f b).cell x = s.cell x := rfl
@[simp] theorem State.wrB_ring (s : State) (f : Fld) (b : Bool) (x : Nat) : (s.wrB f b).ring x = s.ring x := rfl
@[simp] theorem State.wrB_ctx (s : State) (f : Fld) (b : Bool) (x : Nat) : (s.wrB f b).ctx x = s.ctx x := rfl
@[simp] theorem State.wrB_link (s : State) (f : Fld) (b : Bool) (x : Nat) : (s.wrB f b).link x = s.link x := rfl
@[simp] theorem State.wrB_pipe (s : State) (f : Fld) (b : Bool) (x : Nat) : (s.wrB f b).pipe x = s.pipe x := rfl
@[simp] theorem State.wrB_cci (s : State) (f : Fld) (b : Bool) (x : Nat) : (s.wrB f b).cci x = s.cci x := rfl
@[simp] theorem State.wrB_net (s : State) (f : Fld) (b : Bool) (x : Nat) : (s.wrB f b).net x = s.net x := rfl
@[simp] theorem State.wrB_enc (s : State) (f : Fld) (b : Bool) (x : Nat) : (s.wrB f b).enc x = s.enc x := rfl
@[simp] theorem State.wrB_pair (s : State) (f : Fld) (b : Bool) (x : Nat) : (s.wrB f b).pair x = s.pair x := rfl
@[simp] theorem State.wrB_axis (s : State) (f : Fld) (b : Bool) (x : Nat) : (s.wrB f b).axis x = s.axis x := rfl
@[simp] theorem State.wrB_slot (s : State) (f : Fld) (b : Bool) (x : Nat) : (s.wrB f b).slot x = s.slot x := rfl

/-! ### wrS -/

@[simp] theorem State.wrS_pending (s : State) (f : Fld) (v : Int) : (s.wrS f v).pending = s.pending := rfl
@[simp] theorem State.wrS_part (s : State) (f : Fld) (v : Int) : (s.wrS f v).part = s.part := rfl
@[simp] theorem State.wrS_force (s : State) (f : Fld) (v : Int) : (s.wrS f v).force = s.force := rfl
@[simp] theorem State.wrS_mem (s : State) (f : Fld) (v : Int) : (s.wrS f v).mem = s.mem := rfl
@[simp] theorem State.wrS_badWords (s : State) (f : Fld) (v : Int) : (s.wrS f v).badWords = s.badWords := rfl
@[simp] theorem State.wrS_timeNs (s : State) (f : Fld) (v : Int) : (s.wrS f v).timeNs = s.timeNs := rfl
@[simp] theorem State.wrS_timeFrac (s : State) (f : Fld) (v : Int) : (s.wrS f v).timeFrac = s.timeFrac := rfl
@[simp] theorem State.wrS_drawn (s : State) (f : Fld) (v : Int) : (s.wrS f v).drawn = s.drawn := rfl
@[simp] theorem State.wrS_ctxs (s : State) (f : Fld) (v : Int) : (s.wrS f v).ctxs = s.ctxs := rfl
@[simp] theorem State.wrS_rings (s : State) (f : Fld) (v : Int) : (s.wrS f v).rings = s.rings := rfl
@[simp] theorem State.wrS_cells (s : State) (f : Fld) (v : Int) : (s.wrS f v).cells = s.cells := rfl
@[simp] theorem State.wrS_nougat (s : State) (f : Fld) (v : Int) : (s.wrS f v).nougat = s.nougat := rfl
@[simp] theorem State.wrS_reports (s : State) (f : Fld) (v : Int) : (s.wrS f v).reports = s.reports := rfl
@[simp] theorem State.wrS_safeLine (s : State) (f : Fld) (v : Int) : (s.wrS f v).safeLine = s.safeLine := rfl
@[simp] theorem State.wrS_stopFireN (s : State) (f : Fld) (v : Int) : (s.wrS f v).stopFireN = s.stopFireN := rfl
@[simp] theorem State.wrS_stopFireLatch (s : State) (f : Fld) (v : Int) : (s.wrS f v).stopFireLatch = s.stopFireLatch := rfl
@[simp] theorem State.wrS_bscan (s : State) (f : Fld) (v : Int) : (s.wrS f v).bscan = s.bscan := rfl
@[simp] theorem State.wrS_links (s : State) (f : Fld) (v : Int) : (s.wrS f v).links = s.links := rfl
@[simp] theorem State.wrS_drops (s : State) (f : Fld) (v : Int) : (s.wrS f v).drops = s.drops := rfl
@[simp] theorem State.wrS_keys (s : State) (f : Fld) (v : Int) : (s.wrS f v).keys = s.keys := rfl
@[simp] theorem State.wrS_otp (s : State) (f : Fld) (v : Int) : (s.wrS f v).otp = s.otp := rfl
@[simp] theorem State.wrS_vault (s : State) (f : Fld) (v : Int) : (s.wrS f v).vault = s.vault := rfl
@[simp] theorem State.wrS_gov (s : State) (f : Fld) (v : Int) : (s.wrS f v).gov = s.gov := rfl
@[simp] theorem State.wrS_goose (s : State) (f : Fld) (v : Int) : (s.wrS f v).goose = s.goose := rfl
@[simp] theorem State.wrS_yoke (s : State) (f : Fld) (v : Int) : (s.wrS f v).yoke = s.yoke := rfl
@[simp] theorem State.wrS_coop (s : State) (f : Fld) (v : Int) : (s.wrS f v).coop = s.coop := rfl
@[simp] theorem State.wrS_heldWrites (s : State) (f : Fld) (v : Int) : (s.wrS f v).heldWrites = s.heldWrites := rfl
@[simp] theorem State.wrS_ledger (s : State) (f : Fld) (v : Int) : (s.wrS f v).ledger = s.ledger := rfl
@[simp] theorem State.wrS_encs (s : State) (f : Fld) (v : Int) : (s.wrS f v).encs = s.encs := rfl
@[simp] theorem State.wrS_pairs (s : State) (f : Fld) (v : Int) : (s.wrS f v).pairs = s.pairs := rfl
@[simp] theorem State.wrS_virt (s : State) (f : Fld) (v : Int) : (s.wrS f v).virt = s.virt := rfl
@[simp] theorem State.wrS_pipes (s : State) (f : Fld) (v : Int) : (s.wrS f v).pipes = s.pipes := rfl
@[simp] theorem State.wrS_cciJobs (s : State) (f : Fld) (v : Int) : (s.wrS f v).cciJobs = s.cciJobs := rfl
@[simp] theorem State.wrS_ladders (s : State) (f : Fld) (v : Int) : (s.wrS f v).ladders = s.ladders := rfl
@[simp] theorem State.wrS_axes (s : State) (f : Fld) (v : Int) : (s.wrS f v).axes = s.axes := rfl
@[simp] theorem State.wrS_slots (s : State) (f : Fld) (v : Int) : (s.wrS f v).slots = s.slots := rfl
@[simp] theorem State.wrS_loopTick (s : State) (f : Fld) (v : Int) : (s.wrS f v).loopTick = s.loopTick := rfl
@[simp] theorem State.wrS_ainFirst (s : State) (f : Fld) (v : Int) : (s.wrS f v).ainFirst = s.ainFirst := rfl
@[simp] theorem State.wrS_auxHigh (s : State) (f : Fld) (v : Int) : (s.wrS f v).auxHigh = s.auxHigh := rfl
@[simp] theorem State.wrS_time (s : State) (f : Fld) (v : Int) : (s.wrS f v).time = s.time := rfl
@[simp] theorem State.wrS_nets (s : State) (f : Fld) (v : Int) : (s.wrS f v).nets = s.nets := rfl
@[simp] theorem State.wrS_out (s : State) (f : Fld) (v : Int) : (s.wrS f v).out = s.out := rfl
@[simp] theorem State.wrS_caps (s : State) (f : Fld) (v : Int) : (s.wrS f v).caps = s.caps := rfl
@[simp] theorem State.wrS_l1Held (s : State) (f : Fld) (v : Int) : (s.wrS f v).l1Held = s.l1Held := rfl
@[simp] theorem State.wrS_rdF (s : State) (f : Fld) (v : Int) (x : Fld) : (s.wrS f v).rdF x = s.rdF x := rfl
@[simp] theorem State.wrS_cell (s : State) (f : Fld) (v : Int) (x : Nat) : (s.wrS f v).cell x = s.cell x := rfl
@[simp] theorem State.wrS_ring (s : State) (f : Fld) (v : Int) (x : Nat) : (s.wrS f v).ring x = s.ring x := rfl
@[simp] theorem State.wrS_ctx (s : State) (f : Fld) (v : Int) (x : Nat) : (s.wrS f v).ctx x = s.ctx x := rfl
@[simp] theorem State.wrS_link (s : State) (f : Fld) (v : Int) (x : Nat) : (s.wrS f v).link x = s.link x := rfl
@[simp] theorem State.wrS_pipe (s : State) (f : Fld) (v : Int) (x : Nat) : (s.wrS f v).pipe x = s.pipe x := rfl
@[simp] theorem State.wrS_cci (s : State) (f : Fld) (v : Int) (x : Nat) : (s.wrS f v).cci x = s.cci x := rfl
@[simp] theorem State.wrS_net (s : State) (f : Fld) (v : Int) (x : Nat) : (s.wrS f v).net x = s.net x := rfl
@[simp] theorem State.wrS_enc (s : State) (f : Fld) (v : Int) (x : Nat) : (s.wrS f v).enc x = s.enc x := rfl
@[simp] theorem State.wrS_pair (s : State) (f : Fld) (v : Int) (x : Nat) : (s.wrS f v).pair x = s.pair x := rfl
@[simp] theorem State.wrS_axis (s : State) (f : Fld) (v : Int) (x : Nat) : (s.wrS f v).axis x = s.axis x := rfl
@[simp] theorem State.wrS_slot (s : State) (f : Fld) (v : Int) (x : Nat) : (s.wrS f v).slot x = s.slot x := rfl

/-! ### wrSat -/

@[simp] theorem State.wrSat_pending (s : State) (f : Fld) (v : Int) : (s.wrSat f v).pending = s.pending := rfl
@[simp] theorem State.wrSat_part (s : State) (f : Fld) (v : Int) : (s.wrSat f v).part = s.part := rfl
@[simp] theorem State.wrSat_force (s : State) (f : Fld) (v : Int) : (s.wrSat f v).force = s.force := rfl
@[simp] theorem State.wrSat_mem (s : State) (f : Fld) (v : Int) : (s.wrSat f v).mem = s.mem := rfl
@[simp] theorem State.wrSat_badWords (s : State) (f : Fld) (v : Int) : (s.wrSat f v).badWords = s.badWords := rfl
@[simp] theorem State.wrSat_timeNs (s : State) (f : Fld) (v : Int) : (s.wrSat f v).timeNs = s.timeNs := rfl
@[simp] theorem State.wrSat_timeFrac (s : State) (f : Fld) (v : Int) : (s.wrSat f v).timeFrac = s.timeFrac := rfl
@[simp] theorem State.wrSat_drawn (s : State) (f : Fld) (v : Int) : (s.wrSat f v).drawn = s.drawn := rfl
@[simp] theorem State.wrSat_ctxs (s : State) (f : Fld) (v : Int) : (s.wrSat f v).ctxs = s.ctxs := rfl
@[simp] theorem State.wrSat_rings (s : State) (f : Fld) (v : Int) : (s.wrSat f v).rings = s.rings := rfl
@[simp] theorem State.wrSat_cells (s : State) (f : Fld) (v : Int) : (s.wrSat f v).cells = s.cells := rfl
@[simp] theorem State.wrSat_nougat (s : State) (f : Fld) (v : Int) : (s.wrSat f v).nougat = s.nougat := rfl
@[simp] theorem State.wrSat_reports (s : State) (f : Fld) (v : Int) : (s.wrSat f v).reports = s.reports := rfl
@[simp] theorem State.wrSat_safeLine (s : State) (f : Fld) (v : Int) : (s.wrSat f v).safeLine = s.safeLine := rfl
@[simp] theorem State.wrSat_stopFireN (s : State) (f : Fld) (v : Int) : (s.wrSat f v).stopFireN = s.stopFireN := rfl
@[simp] theorem State.wrSat_stopFireLatch (s : State) (f : Fld) (v : Int) : (s.wrSat f v).stopFireLatch = s.stopFireLatch := rfl
@[simp] theorem State.wrSat_bscan (s : State) (f : Fld) (v : Int) : (s.wrSat f v).bscan = s.bscan := rfl
@[simp] theorem State.wrSat_links (s : State) (f : Fld) (v : Int) : (s.wrSat f v).links = s.links := rfl
@[simp] theorem State.wrSat_drops (s : State) (f : Fld) (v : Int) : (s.wrSat f v).drops = s.drops := rfl
@[simp] theorem State.wrSat_keys (s : State) (f : Fld) (v : Int) : (s.wrSat f v).keys = s.keys := rfl
@[simp] theorem State.wrSat_otp (s : State) (f : Fld) (v : Int) : (s.wrSat f v).otp = s.otp := rfl
@[simp] theorem State.wrSat_vault (s : State) (f : Fld) (v : Int) : (s.wrSat f v).vault = s.vault := rfl
@[simp] theorem State.wrSat_gov (s : State) (f : Fld) (v : Int) : (s.wrSat f v).gov = s.gov := rfl
@[simp] theorem State.wrSat_goose (s : State) (f : Fld) (v : Int) : (s.wrSat f v).goose = s.goose := rfl
@[simp] theorem State.wrSat_yoke (s : State) (f : Fld) (v : Int) : (s.wrSat f v).yoke = s.yoke := rfl
@[simp] theorem State.wrSat_coop (s : State) (f : Fld) (v : Int) : (s.wrSat f v).coop = s.coop := rfl
@[simp] theorem State.wrSat_heldWrites (s : State) (f : Fld) (v : Int) : (s.wrSat f v).heldWrites = s.heldWrites := rfl
@[simp] theorem State.wrSat_ledger (s : State) (f : Fld) (v : Int) : (s.wrSat f v).ledger = s.ledger := rfl
@[simp] theorem State.wrSat_encs (s : State) (f : Fld) (v : Int) : (s.wrSat f v).encs = s.encs := rfl
@[simp] theorem State.wrSat_pairs (s : State) (f : Fld) (v : Int) : (s.wrSat f v).pairs = s.pairs := rfl
@[simp] theorem State.wrSat_virt (s : State) (f : Fld) (v : Int) : (s.wrSat f v).virt = s.virt := rfl
@[simp] theorem State.wrSat_pipes (s : State) (f : Fld) (v : Int) : (s.wrSat f v).pipes = s.pipes := rfl
@[simp] theorem State.wrSat_cciJobs (s : State) (f : Fld) (v : Int) : (s.wrSat f v).cciJobs = s.cciJobs := rfl
@[simp] theorem State.wrSat_ladders (s : State) (f : Fld) (v : Int) : (s.wrSat f v).ladders = s.ladders := rfl
@[simp] theorem State.wrSat_axes (s : State) (f : Fld) (v : Int) : (s.wrSat f v).axes = s.axes := rfl
@[simp] theorem State.wrSat_slots (s : State) (f : Fld) (v : Int) : (s.wrSat f v).slots = s.slots := rfl
@[simp] theorem State.wrSat_loopTick (s : State) (f : Fld) (v : Int) : (s.wrSat f v).loopTick = s.loopTick := rfl
@[simp] theorem State.wrSat_ainFirst (s : State) (f : Fld) (v : Int) : (s.wrSat f v).ainFirst = s.ainFirst := rfl
@[simp] theorem State.wrSat_auxHigh (s : State) (f : Fld) (v : Int) : (s.wrSat f v).auxHigh = s.auxHigh := rfl
@[simp] theorem State.wrSat_time (s : State) (f : Fld) (v : Int) : (s.wrSat f v).time = s.time := rfl
@[simp] theorem State.wrSat_nets (s : State) (f : Fld) (v : Int) : (s.wrSat f v).nets = s.nets := rfl
@[simp] theorem State.wrSat_out (s : State) (f : Fld) (v : Int) : (s.wrSat f v).out = s.out := rfl
@[simp] theorem State.wrSat_caps (s : State) (f : Fld) (v : Int) : (s.wrSat f v).caps = s.caps := rfl
@[simp] theorem State.wrSat_l1Held (s : State) (f : Fld) (v : Int) : (s.wrSat f v).l1Held = s.l1Held := rfl
@[simp] theorem State.wrSat_rdF (s : State) (f : Fld) (v : Int) (x : Fld) : (s.wrSat f v).rdF x = s.rdF x := rfl
@[simp] theorem State.wrSat_cell (s : State) (f : Fld) (v : Int) (x : Nat) : (s.wrSat f v).cell x = s.cell x := rfl
@[simp] theorem State.wrSat_ring (s : State) (f : Fld) (v : Int) (x : Nat) : (s.wrSat f v).ring x = s.ring x := rfl
@[simp] theorem State.wrSat_ctx (s : State) (f : Fld) (v : Int) (x : Nat) : (s.wrSat f v).ctx x = s.ctx x := rfl
@[simp] theorem State.wrSat_link (s : State) (f : Fld) (v : Int) (x : Nat) : (s.wrSat f v).link x = s.link x := rfl
@[simp] theorem State.wrSat_pipe (s : State) (f : Fld) (v : Int) (x : Nat) : (s.wrSat f v).pipe x = s.pipe x := rfl
@[simp] theorem State.wrSat_cci (s : State) (f : Fld) (v : Int) (x : Nat) : (s.wrSat f v).cci x = s.cci x := rfl
@[simp] theorem State.wrSat_net (s : State) (f : Fld) (v : Int) (x : Nat) : (s.wrSat f v).net x = s.net x := rfl
@[simp] theorem State.wrSat_enc (s : State) (f : Fld) (v : Int) (x : Nat) : (s.wrSat f v).enc x = s.enc x := rfl
@[simp] theorem State.wrSat_pair (s : State) (f : Fld) (v : Int) (x : Nat) : (s.wrSat f v).pair x = s.pair x := rfl
@[simp] theorem State.wrSat_axis (s : State) (f : Fld) (v : Int) (x : Nat) : (s.wrSat f v).axis x = s.axis x := rfl
@[simp] theorem State.wrSat_slot (s : State) (f : Fld) (v : Int) (x : Nat) : (s.wrSat f v).slot x = s.slot x := rfl

/-! ### bumpBy -/

@[simp] theorem State.bumpBy_pending (s : State) (f : Fld) (n : Nat) : (s.bumpBy f n).pending = s.pending := rfl
@[simp] theorem State.bumpBy_part (s : State) (f : Fld) (n : Nat) : (s.bumpBy f n).part = s.part := rfl
@[simp] theorem State.bumpBy_force (s : State) (f : Fld) (n : Nat) : (s.bumpBy f n).force = s.force := rfl
@[simp] theorem State.bumpBy_mem (s : State) (f : Fld) (n : Nat) : (s.bumpBy f n).mem = s.mem := rfl
@[simp] theorem State.bumpBy_badWords (s : State) (f : Fld) (n : Nat) : (s.bumpBy f n).badWords = s.badWords := rfl
@[simp] theorem State.bumpBy_timeNs (s : State) (f : Fld) (n : Nat) : (s.bumpBy f n).timeNs = s.timeNs := rfl
@[simp] theorem State.bumpBy_timeFrac (s : State) (f : Fld) (n : Nat) : (s.bumpBy f n).timeFrac = s.timeFrac := rfl
@[simp] theorem State.bumpBy_drawn (s : State) (f : Fld) (n : Nat) : (s.bumpBy f n).drawn = s.drawn := rfl
@[simp] theorem State.bumpBy_ctxs (s : State) (f : Fld) (n : Nat) : (s.bumpBy f n).ctxs = s.ctxs := rfl
@[simp] theorem State.bumpBy_rings (s : State) (f : Fld) (n : Nat) : (s.bumpBy f n).rings = s.rings := rfl
@[simp] theorem State.bumpBy_cells (s : State) (f : Fld) (n : Nat) : (s.bumpBy f n).cells = s.cells := rfl
@[simp] theorem State.bumpBy_nougat (s : State) (f : Fld) (n : Nat) : (s.bumpBy f n).nougat = s.nougat := rfl
@[simp] theorem State.bumpBy_reports (s : State) (f : Fld) (n : Nat) : (s.bumpBy f n).reports = s.reports := rfl
@[simp] theorem State.bumpBy_safeLine (s : State) (f : Fld) (n : Nat) : (s.bumpBy f n).safeLine = s.safeLine := rfl
@[simp] theorem State.bumpBy_stopFireN (s : State) (f : Fld) (n : Nat) : (s.bumpBy f n).stopFireN = s.stopFireN := rfl
@[simp] theorem State.bumpBy_stopFireLatch (s : State) (f : Fld) (n : Nat) : (s.bumpBy f n).stopFireLatch = s.stopFireLatch := rfl
@[simp] theorem State.bumpBy_bscan (s : State) (f : Fld) (n : Nat) : (s.bumpBy f n).bscan = s.bscan := rfl
@[simp] theorem State.bumpBy_links (s : State) (f : Fld) (n : Nat) : (s.bumpBy f n).links = s.links := rfl
@[simp] theorem State.bumpBy_drops (s : State) (f : Fld) (n : Nat) : (s.bumpBy f n).drops = s.drops := rfl
@[simp] theorem State.bumpBy_keys (s : State) (f : Fld) (n : Nat) : (s.bumpBy f n).keys = s.keys := rfl
@[simp] theorem State.bumpBy_otp (s : State) (f : Fld) (n : Nat) : (s.bumpBy f n).otp = s.otp := rfl
@[simp] theorem State.bumpBy_vault (s : State) (f : Fld) (n : Nat) : (s.bumpBy f n).vault = s.vault := rfl
@[simp] theorem State.bumpBy_gov (s : State) (f : Fld) (n : Nat) : (s.bumpBy f n).gov = s.gov := rfl
@[simp] theorem State.bumpBy_goose (s : State) (f : Fld) (n : Nat) : (s.bumpBy f n).goose = s.goose := rfl
@[simp] theorem State.bumpBy_yoke (s : State) (f : Fld) (n : Nat) : (s.bumpBy f n).yoke = s.yoke := rfl
@[simp] theorem State.bumpBy_coop (s : State) (f : Fld) (n : Nat) : (s.bumpBy f n).coop = s.coop := rfl
@[simp] theorem State.bumpBy_heldWrites (s : State) (f : Fld) (n : Nat) : (s.bumpBy f n).heldWrites = s.heldWrites := rfl
@[simp] theorem State.bumpBy_ledger (s : State) (f : Fld) (n : Nat) : (s.bumpBy f n).ledger = s.ledger := rfl
@[simp] theorem State.bumpBy_encs (s : State) (f : Fld) (n : Nat) : (s.bumpBy f n).encs = s.encs := rfl
@[simp] theorem State.bumpBy_pairs (s : State) (f : Fld) (n : Nat) : (s.bumpBy f n).pairs = s.pairs := rfl
@[simp] theorem State.bumpBy_virt (s : State) (f : Fld) (n : Nat) : (s.bumpBy f n).virt = s.virt := rfl
@[simp] theorem State.bumpBy_pipes (s : State) (f : Fld) (n : Nat) : (s.bumpBy f n).pipes = s.pipes := rfl
@[simp] theorem State.bumpBy_cciJobs (s : State) (f : Fld) (n : Nat) : (s.bumpBy f n).cciJobs = s.cciJobs := rfl
@[simp] theorem State.bumpBy_ladders (s : State) (f : Fld) (n : Nat) : (s.bumpBy f n).ladders = s.ladders := rfl
@[simp] theorem State.bumpBy_axes (s : State) (f : Fld) (n : Nat) : (s.bumpBy f n).axes = s.axes := rfl
@[simp] theorem State.bumpBy_slots (s : State) (f : Fld) (n : Nat) : (s.bumpBy f n).slots = s.slots := rfl
@[simp] theorem State.bumpBy_loopTick (s : State) (f : Fld) (n : Nat) : (s.bumpBy f n).loopTick = s.loopTick := rfl
@[simp] theorem State.bumpBy_ainFirst (s : State) (f : Fld) (n : Nat) : (s.bumpBy f n).ainFirst = s.ainFirst := rfl
@[simp] theorem State.bumpBy_auxHigh (s : State) (f : Fld) (n : Nat) : (s.bumpBy f n).auxHigh = s.auxHigh := rfl
@[simp] theorem State.bumpBy_time (s : State) (f : Fld) (n : Nat) : (s.bumpBy f n).time = s.time := rfl
@[simp] theorem State.bumpBy_nets (s : State) (f : Fld) (n : Nat) : (s.bumpBy f n).nets = s.nets := rfl
@[simp] theorem State.bumpBy_out (s : State) (f : Fld) (n : Nat) : (s.bumpBy f n).out = s.out := rfl
@[simp] theorem State.bumpBy_caps (s : State) (f : Fld) (n : Nat) : (s.bumpBy f n).caps = s.caps := rfl
@[simp] theorem State.bumpBy_l1Held (s : State) (f : Fld) (n : Nat) : (s.bumpBy f n).l1Held = s.l1Held := rfl
@[simp] theorem State.bumpBy_rdF (s : State) (f : Fld) (n : Nat) (x : Fld) : (s.bumpBy f n).rdF x = s.rdF x := rfl
@[simp] theorem State.bumpBy_cell (s : State) (f : Fld) (n : Nat) (x : Nat) : (s.bumpBy f n).cell x = s.cell x := rfl
@[simp] theorem State.bumpBy_ring (s : State) (f : Fld) (n : Nat) (x : Nat) : (s.bumpBy f n).ring x = s.ring x := rfl
@[simp] theorem State.bumpBy_ctx (s : State) (f : Fld) (n : Nat) (x : Nat) : (s.bumpBy f n).ctx x = s.ctx x := rfl
@[simp] theorem State.bumpBy_link (s : State) (f : Fld) (n : Nat) (x : Nat) : (s.bumpBy f n).link x = s.link x := rfl
@[simp] theorem State.bumpBy_pipe (s : State) (f : Fld) (n : Nat) (x : Nat) : (s.bumpBy f n).pipe x = s.pipe x := rfl
@[simp] theorem State.bumpBy_cci (s : State) (f : Fld) (n : Nat) (x : Nat) : (s.bumpBy f n).cci x = s.cci x := rfl
@[simp] theorem State.bumpBy_net (s : State) (f : Fld) (n : Nat) (x : Nat) : (s.bumpBy f n).net x = s.net x := rfl
@[simp] theorem State.bumpBy_enc (s : State) (f : Fld) (n : Nat) (x : Nat) : (s.bumpBy f n).enc x = s.enc x := rfl
@[simp] theorem State.bumpBy_pair (s : State) (f : Fld) (n : Nat) (x : Nat) : (s.bumpBy f n).pair x = s.pair x := rfl
@[simp] theorem State.bumpBy_axis (s : State) (f : Fld) (n : Nat) (x : Nat) : (s.bumpBy f n).axis x = s.axis x := rfl
@[simp] theorem State.bumpBy_slot (s : State) (f : Fld) (n : Nat) (x : Nat) : (s.bumpBy f n).slot x = s.slot x := rfl

/-! ### bump -/

@[simp] theorem State.bump_pending (s : State) (f : Fld) : (s.bump f).pending = s.pending := rfl
@[simp] theorem State.bump_part (s : State) (f : Fld) : (s.bump f).part = s.part := rfl
@[simp] theorem State.bump_force (s : State) (f : Fld) : (s.bump f).force = s.force := rfl
@[simp] theorem State.bump_mem (s : State) (f : Fld) : (s.bump f).mem = s.mem := rfl
@[simp] theorem State.bump_badWords (s : State) (f : Fld) : (s.bump f).badWords = s.badWords := rfl
@[simp] theorem State.bump_timeNs (s : State) (f : Fld) : (s.bump f).timeNs = s.timeNs := rfl
@[simp] theorem State.bump_timeFrac (s : State) (f : Fld) : (s.bump f).timeFrac = s.timeFrac := rfl
@[simp] theorem State.bump_drawn (s : State) (f : Fld) : (s.bump f).drawn = s.drawn := rfl
@[simp] theorem State.bump_ctxs (s : State) (f : Fld) : (s.bump f).ctxs = s.ctxs := rfl
@[simp] theorem State.bump_rings (s : State) (f : Fld) : (s.bump f).rings = s.rings := rfl
@[simp] theorem State.bump_cells (s : State) (f : Fld) : (s.bump f).cells = s.cells := rfl
@[simp] theorem State.bump_nougat (s : State) (f : Fld) : (s.bump f).nougat = s.nougat := rfl
@[simp] theorem State.bump_reports (s : State) (f : Fld) : (s.bump f).reports = s.reports := rfl
@[simp] theorem State.bump_safeLine (s : State) (f : Fld) : (s.bump f).safeLine = s.safeLine := rfl
@[simp] theorem State.bump_stopFireN (s : State) (f : Fld) : (s.bump f).stopFireN = s.stopFireN := rfl
@[simp] theorem State.bump_stopFireLatch (s : State) (f : Fld) : (s.bump f).stopFireLatch = s.stopFireLatch := rfl
@[simp] theorem State.bump_bscan (s : State) (f : Fld) : (s.bump f).bscan = s.bscan := rfl
@[simp] theorem State.bump_links (s : State) (f : Fld) : (s.bump f).links = s.links := rfl
@[simp] theorem State.bump_drops (s : State) (f : Fld) : (s.bump f).drops = s.drops := rfl
@[simp] theorem State.bump_keys (s : State) (f : Fld) : (s.bump f).keys = s.keys := rfl
@[simp] theorem State.bump_otp (s : State) (f : Fld) : (s.bump f).otp = s.otp := rfl
@[simp] theorem State.bump_vault (s : State) (f : Fld) : (s.bump f).vault = s.vault := rfl
@[simp] theorem State.bump_gov (s : State) (f : Fld) : (s.bump f).gov = s.gov := rfl
@[simp] theorem State.bump_goose (s : State) (f : Fld) : (s.bump f).goose = s.goose := rfl
@[simp] theorem State.bump_yoke (s : State) (f : Fld) : (s.bump f).yoke = s.yoke := rfl
@[simp] theorem State.bump_coop (s : State) (f : Fld) : (s.bump f).coop = s.coop := rfl
@[simp] theorem State.bump_heldWrites (s : State) (f : Fld) : (s.bump f).heldWrites = s.heldWrites := rfl
@[simp] theorem State.bump_ledger (s : State) (f : Fld) : (s.bump f).ledger = s.ledger := rfl
@[simp] theorem State.bump_encs (s : State) (f : Fld) : (s.bump f).encs = s.encs := rfl
@[simp] theorem State.bump_pairs (s : State) (f : Fld) : (s.bump f).pairs = s.pairs := rfl
@[simp] theorem State.bump_virt (s : State) (f : Fld) : (s.bump f).virt = s.virt := rfl
@[simp] theorem State.bump_pipes (s : State) (f : Fld) : (s.bump f).pipes = s.pipes := rfl
@[simp] theorem State.bump_cciJobs (s : State) (f : Fld) : (s.bump f).cciJobs = s.cciJobs := rfl
@[simp] theorem State.bump_ladders (s : State) (f : Fld) : (s.bump f).ladders = s.ladders := rfl
@[simp] theorem State.bump_axes (s : State) (f : Fld) : (s.bump f).axes = s.axes := rfl
@[simp] theorem State.bump_slots (s : State) (f : Fld) : (s.bump f).slots = s.slots := rfl
@[simp] theorem State.bump_loopTick (s : State) (f : Fld) : (s.bump f).loopTick = s.loopTick := rfl
@[simp] theorem State.bump_ainFirst (s : State) (f : Fld) : (s.bump f).ainFirst = s.ainFirst := rfl
@[simp] theorem State.bump_auxHigh (s : State) (f : Fld) : (s.bump f).auxHigh = s.auxHigh := rfl
@[simp] theorem State.bump_time (s : State) (f : Fld) : (s.bump f).time = s.time := rfl
@[simp] theorem State.bump_nets (s : State) (f : Fld) : (s.bump f).nets = s.nets := rfl
@[simp] theorem State.bump_out (s : State) (f : Fld) : (s.bump f).out = s.out := rfl
@[simp] theorem State.bump_caps (s : State) (f : Fld) : (s.bump f).caps = s.caps := rfl
@[simp] theorem State.bump_l1Held (s : State) (f : Fld) : (s.bump f).l1Held = s.l1Held := rfl
@[simp] theorem State.bump_rdF (s : State) (f : Fld) (x : Fld) : (s.bump f).rdF x = s.rdF x := rfl
@[simp] theorem State.bump_cell (s : State) (f : Fld) (x : Nat) : (s.bump f).cell x = s.cell x := rfl
@[simp] theorem State.bump_ring (s : State) (f : Fld) (x : Nat) : (s.bump f).ring x = s.ring x := rfl
@[simp] theorem State.bump_ctx (s : State) (f : Fld) (x : Nat) : (s.bump f).ctx x = s.ctx x := rfl
@[simp] theorem State.bump_link (s : State) (f : Fld) (x : Nat) : (s.bump f).link x = s.link x := rfl
@[simp] theorem State.bump_pipe (s : State) (f : Fld) (x : Nat) : (s.bump f).pipe x = s.pipe x := rfl
@[simp] theorem State.bump_cci (s : State) (f : Fld) (x : Nat) : (s.bump f).cci x = s.cci x := rfl
@[simp] theorem State.bump_net (s : State) (f : Fld) (x : Nat) : (s.bump f).net x = s.net x := rfl
@[simp] theorem State.bump_enc (s : State) (f : Fld) (x : Nat) : (s.bump f).enc x = s.enc x := rfl
@[simp] theorem State.bump_pair (s : State) (f : Fld) (x : Nat) : (s.bump f).pair x = s.pair x := rfl
@[simp] theorem State.bump_axis (s : State) (f : Fld) (x : Nat) : (s.bump f).axis x = s.axis x := rfl
@[simp] theorem State.bump_slot (s : State) (f : Fld) (x : Nat) : (s.bump f).slot x = s.slot x := rfl

/-! ### bumpMod -/

@[simp] theorem State.bumpMod_pending (s : State) (f : Fld) : (s.bumpMod f).pending = s.pending := rfl
@[simp] theorem State.bumpMod_part (s : State) (f : Fld) : (s.bumpMod f).part = s.part := rfl
@[simp] theorem State.bumpMod_force (s : State) (f : Fld) : (s.bumpMod f).force = s.force := rfl
@[simp] theorem State.bumpMod_mem (s : State) (f : Fld) : (s.bumpMod f).mem = s.mem := rfl
@[simp] theorem State.bumpMod_badWords (s : State) (f : Fld) : (s.bumpMod f).badWords = s.badWords := rfl
@[simp] theorem State.bumpMod_timeNs (s : State) (f : Fld) : (s.bumpMod f).timeNs = s.timeNs := rfl
@[simp] theorem State.bumpMod_timeFrac (s : State) (f : Fld) : (s.bumpMod f).timeFrac = s.timeFrac := rfl
@[simp] theorem State.bumpMod_drawn (s : State) (f : Fld) : (s.bumpMod f).drawn = s.drawn := rfl
@[simp] theorem State.bumpMod_ctxs (s : State) (f : Fld) : (s.bumpMod f).ctxs = s.ctxs := rfl
@[simp] theorem State.bumpMod_rings (s : State) (f : Fld) : (s.bumpMod f).rings = s.rings := rfl
@[simp] theorem State.bumpMod_cells (s : State) (f : Fld) : (s.bumpMod f).cells = s.cells := rfl
@[simp] theorem State.bumpMod_nougat (s : State) (f : Fld) : (s.bumpMod f).nougat = s.nougat := rfl
@[simp] theorem State.bumpMod_reports (s : State) (f : Fld) : (s.bumpMod f).reports = s.reports := rfl
@[simp] theorem State.bumpMod_safeLine (s : State) (f : Fld) : (s.bumpMod f).safeLine = s.safeLine := rfl
@[simp] theorem State.bumpMod_stopFireN (s : State) (f : Fld) : (s.bumpMod f).stopFireN = s.stopFireN := rfl
@[simp] theorem State.bumpMod_stopFireLatch (s : State) (f : Fld) : (s.bumpMod f).stopFireLatch = s.stopFireLatch := rfl
@[simp] theorem State.bumpMod_bscan (s : State) (f : Fld) : (s.bumpMod f).bscan = s.bscan := rfl
@[simp] theorem State.bumpMod_links (s : State) (f : Fld) : (s.bumpMod f).links = s.links := rfl
@[simp] theorem State.bumpMod_drops (s : State) (f : Fld) : (s.bumpMod f).drops = s.drops := rfl
@[simp] theorem State.bumpMod_keys (s : State) (f : Fld) : (s.bumpMod f).keys = s.keys := rfl
@[simp] theorem State.bumpMod_otp (s : State) (f : Fld) : (s.bumpMod f).otp = s.otp := rfl
@[simp] theorem State.bumpMod_vault (s : State) (f : Fld) : (s.bumpMod f).vault = s.vault := rfl
@[simp] theorem State.bumpMod_gov (s : State) (f : Fld) : (s.bumpMod f).gov = s.gov := rfl
@[simp] theorem State.bumpMod_goose (s : State) (f : Fld) : (s.bumpMod f).goose = s.goose := rfl
@[simp] theorem State.bumpMod_yoke (s : State) (f : Fld) : (s.bumpMod f).yoke = s.yoke := rfl
@[simp] theorem State.bumpMod_coop (s : State) (f : Fld) : (s.bumpMod f).coop = s.coop := rfl
@[simp] theorem State.bumpMod_heldWrites (s : State) (f : Fld) : (s.bumpMod f).heldWrites = s.heldWrites := rfl
@[simp] theorem State.bumpMod_ledger (s : State) (f : Fld) : (s.bumpMod f).ledger = s.ledger := rfl
@[simp] theorem State.bumpMod_encs (s : State) (f : Fld) : (s.bumpMod f).encs = s.encs := rfl
@[simp] theorem State.bumpMod_pairs (s : State) (f : Fld) : (s.bumpMod f).pairs = s.pairs := rfl
@[simp] theorem State.bumpMod_virt (s : State) (f : Fld) : (s.bumpMod f).virt = s.virt := rfl
@[simp] theorem State.bumpMod_pipes (s : State) (f : Fld) : (s.bumpMod f).pipes = s.pipes := rfl
@[simp] theorem State.bumpMod_cciJobs (s : State) (f : Fld) : (s.bumpMod f).cciJobs = s.cciJobs := rfl
@[simp] theorem State.bumpMod_ladders (s : State) (f : Fld) : (s.bumpMod f).ladders = s.ladders := rfl
@[simp] theorem State.bumpMod_axes (s : State) (f : Fld) : (s.bumpMod f).axes = s.axes := rfl
@[simp] theorem State.bumpMod_slots (s : State) (f : Fld) : (s.bumpMod f).slots = s.slots := rfl
@[simp] theorem State.bumpMod_loopTick (s : State) (f : Fld) : (s.bumpMod f).loopTick = s.loopTick := rfl
@[simp] theorem State.bumpMod_ainFirst (s : State) (f : Fld) : (s.bumpMod f).ainFirst = s.ainFirst := rfl
@[simp] theorem State.bumpMod_auxHigh (s : State) (f : Fld) : (s.bumpMod f).auxHigh = s.auxHigh := rfl
@[simp] theorem State.bumpMod_time (s : State) (f : Fld) : (s.bumpMod f).time = s.time := rfl
@[simp] theorem State.bumpMod_nets (s : State) (f : Fld) : (s.bumpMod f).nets = s.nets := rfl
@[simp] theorem State.bumpMod_out (s : State) (f : Fld) : (s.bumpMod f).out = s.out := rfl
@[simp] theorem State.bumpMod_caps (s : State) (f : Fld) : (s.bumpMod f).caps = s.caps := rfl
@[simp] theorem State.bumpMod_l1Held (s : State) (f : Fld) : (s.bumpMod f).l1Held = s.l1Held := rfl
@[simp] theorem State.bumpMod_rdF (s : State) (f : Fld) (x : Fld) : (s.bumpMod f).rdF x = s.rdF x := rfl
@[simp] theorem State.bumpMod_cell (s : State) (f : Fld) (x : Nat) : (s.bumpMod f).cell x = s.cell x := rfl
@[simp] theorem State.bumpMod_ring (s : State) (f : Fld) (x : Nat) : (s.bumpMod f).ring x = s.ring x := rfl
@[simp] theorem State.bumpMod_ctx (s : State) (f : Fld) (x : Nat) : (s.bumpMod f).ctx x = s.ctx x := rfl
@[simp] theorem State.bumpMod_link (s : State) (f : Fld) (x : Nat) : (s.bumpMod f).link x = s.link x := rfl
@[simp] theorem State.bumpMod_pipe (s : State) (f : Fld) (x : Nat) : (s.bumpMod f).pipe x = s.pipe x := rfl
@[simp] theorem State.bumpMod_cci (s : State) (f : Fld) (x : Nat) : (s.bumpMod f).cci x = s.cci x := rfl
@[simp] theorem State.bumpMod_net (s : State) (f : Fld) (x : Nat) : (s.bumpMod f).net x = s.net x := rfl
@[simp] theorem State.bumpMod_enc (s : State) (f : Fld) (x : Nat) : (s.bumpMod f).enc x = s.enc x := rfl
@[simp] theorem State.bumpMod_pair (s : State) (f : Fld) (x : Nat) : (s.bumpMod f).pair x = s.pair x := rfl
@[simp] theorem State.bumpMod_axis (s : State) (f : Fld) (x : Nat) : (s.bumpMod f).axis x = s.axis x := rfl
@[simp] theorem State.bumpMod_slot (s : State) (f : Fld) (x : Nat) : (s.bumpMod f).slot x = s.slot x := rfl

/-! ### wr2 -/

@[simp] theorem State.wr2_pending (s : State) (f g : Fld) (v : Nat) : (s.wr2 f g v).pending = s.pending := rfl
@[simp] theorem State.wr2_part (s : State) (f g : Fld) (v : Nat) : (s.wr2 f g v).part = s.part := rfl
@[simp] theorem State.wr2_force (s : State) (f g : Fld) (v : Nat) : (s.wr2 f g v).force = s.force := rfl
@[simp] theorem State.wr2_mem (s : State) (f g : Fld) (v : Nat) : (s.wr2 f g v).mem = s.mem := rfl
@[simp] theorem State.wr2_badWords (s : State) (f g : Fld) (v : Nat) : (s.wr2 f g v).badWords = s.badWords := rfl
@[simp] theorem State.wr2_timeNs (s : State) (f g : Fld) (v : Nat) : (s.wr2 f g v).timeNs = s.timeNs := rfl
@[simp] theorem State.wr2_timeFrac (s : State) (f g : Fld) (v : Nat) : (s.wr2 f g v).timeFrac = s.timeFrac := rfl
@[simp] theorem State.wr2_drawn (s : State) (f g : Fld) (v : Nat) : (s.wr2 f g v).drawn = s.drawn := rfl
@[simp] theorem State.wr2_ctxs (s : State) (f g : Fld) (v : Nat) : (s.wr2 f g v).ctxs = s.ctxs := rfl
@[simp] theorem State.wr2_rings (s : State) (f g : Fld) (v : Nat) : (s.wr2 f g v).rings = s.rings := rfl
@[simp] theorem State.wr2_cells (s : State) (f g : Fld) (v : Nat) : (s.wr2 f g v).cells = s.cells := rfl
@[simp] theorem State.wr2_nougat (s : State) (f g : Fld) (v : Nat) : (s.wr2 f g v).nougat = s.nougat := rfl
@[simp] theorem State.wr2_reports (s : State) (f g : Fld) (v : Nat) : (s.wr2 f g v).reports = s.reports := rfl
@[simp] theorem State.wr2_safeLine (s : State) (f g : Fld) (v : Nat) : (s.wr2 f g v).safeLine = s.safeLine := rfl
@[simp] theorem State.wr2_stopFireN (s : State) (f g : Fld) (v : Nat) : (s.wr2 f g v).stopFireN = s.stopFireN := rfl
@[simp] theorem State.wr2_stopFireLatch (s : State) (f g : Fld) (v : Nat) : (s.wr2 f g v).stopFireLatch = s.stopFireLatch := rfl
@[simp] theorem State.wr2_bscan (s : State) (f g : Fld) (v : Nat) : (s.wr2 f g v).bscan = s.bscan := rfl
@[simp] theorem State.wr2_links (s : State) (f g : Fld) (v : Nat) : (s.wr2 f g v).links = s.links := rfl
@[simp] theorem State.wr2_drops (s : State) (f g : Fld) (v : Nat) : (s.wr2 f g v).drops = s.drops := rfl
@[simp] theorem State.wr2_keys (s : State) (f g : Fld) (v : Nat) : (s.wr2 f g v).keys = s.keys := rfl
@[simp] theorem State.wr2_otp (s : State) (f g : Fld) (v : Nat) : (s.wr2 f g v).otp = s.otp := rfl
@[simp] theorem State.wr2_vault (s : State) (f g : Fld) (v : Nat) : (s.wr2 f g v).vault = s.vault := rfl
@[simp] theorem State.wr2_gov (s : State) (f g : Fld) (v : Nat) : (s.wr2 f g v).gov = s.gov := rfl
@[simp] theorem State.wr2_goose (s : State) (f g : Fld) (v : Nat) : (s.wr2 f g v).goose = s.goose := rfl
@[simp] theorem State.wr2_yoke (s : State) (f g : Fld) (v : Nat) : (s.wr2 f g v).yoke = s.yoke := rfl
@[simp] theorem State.wr2_coop (s : State) (f g : Fld) (v : Nat) : (s.wr2 f g v).coop = s.coop := rfl
@[simp] theorem State.wr2_heldWrites (s : State) (f g : Fld) (v : Nat) : (s.wr2 f g v).heldWrites = s.heldWrites := rfl
@[simp] theorem State.wr2_ledger (s : State) (f g : Fld) (v : Nat) : (s.wr2 f g v).ledger = s.ledger := rfl
@[simp] theorem State.wr2_encs (s : State) (f g : Fld) (v : Nat) : (s.wr2 f g v).encs = s.encs := rfl
@[simp] theorem State.wr2_pairs (s : State) (f g : Fld) (v : Nat) : (s.wr2 f g v).pairs = s.pairs := rfl
@[simp] theorem State.wr2_virt (s : State) (f g : Fld) (v : Nat) : (s.wr2 f g v).virt = s.virt := rfl
@[simp] theorem State.wr2_pipes (s : State) (f g : Fld) (v : Nat) : (s.wr2 f g v).pipes = s.pipes := rfl
@[simp] theorem State.wr2_cciJobs (s : State) (f g : Fld) (v : Nat) : (s.wr2 f g v).cciJobs = s.cciJobs := rfl
@[simp] theorem State.wr2_ladders (s : State) (f g : Fld) (v : Nat) : (s.wr2 f g v).ladders = s.ladders := rfl
@[simp] theorem State.wr2_axes (s : State) (f g : Fld) (v : Nat) : (s.wr2 f g v).axes = s.axes := rfl
@[simp] theorem State.wr2_slots (s : State) (f g : Fld) (v : Nat) : (s.wr2 f g v).slots = s.slots := rfl
@[simp] theorem State.wr2_loopTick (s : State) (f g : Fld) (v : Nat) : (s.wr2 f g v).loopTick = s.loopTick := rfl
@[simp] theorem State.wr2_ainFirst (s : State) (f g : Fld) (v : Nat) : (s.wr2 f g v).ainFirst = s.ainFirst := rfl
@[simp] theorem State.wr2_auxHigh (s : State) (f g : Fld) (v : Nat) : (s.wr2 f g v).auxHigh = s.auxHigh := rfl
@[simp] theorem State.wr2_time (s : State) (f g : Fld) (v : Nat) : (s.wr2 f g v).time = s.time := rfl
@[simp] theorem State.wr2_nets (s : State) (f g : Fld) (v : Nat) : (s.wr2 f g v).nets = s.nets := rfl
@[simp] theorem State.wr2_out (s : State) (f g : Fld) (v : Nat) : (s.wr2 f g v).out = s.out := rfl
@[simp] theorem State.wr2_caps (s : State) (f g : Fld) (v : Nat) : (s.wr2 f g v).caps = s.caps := rfl
@[simp] theorem State.wr2_l1Held (s : State) (f g : Fld) (v : Nat) : (s.wr2 f g v).l1Held = s.l1Held := rfl
@[simp] theorem State.wr2_rdF (s : State) (f g : Fld) (v : Nat) (x : Fld) : (s.wr2 f g v).rdF x = s.rdF x := rfl
@[simp] theorem State.wr2_cell (s : State) (f g : Fld) (v : Nat) (x : Nat) : (s.wr2 f g v).cell x = s.cell x := rfl
@[simp] theorem State.wr2_ring (s : State) (f g : Fld) (v : Nat) (x : Nat) : (s.wr2 f g v).ring x = s.ring x := rfl
@[simp] theorem State.wr2_ctx (s : State) (f g : Fld) (v : Nat) (x : Nat) : (s.wr2 f g v).ctx x = s.ctx x := rfl
@[simp] theorem State.wr2_link (s : State) (f g : Fld) (v : Nat) (x : Nat) : (s.wr2 f g v).link x = s.link x := rfl
@[simp] theorem State.wr2_pipe (s : State) (f g : Fld) (v : Nat) (x : Nat) : (s.wr2 f g v).pipe x = s.pipe x := rfl
@[simp] theorem State.wr2_cci (s : State) (f g : Fld) (v : Nat) (x : Nat) : (s.wr2 f g v).cci x = s.cci x := rfl
@[simp] theorem State.wr2_net (s : State) (f g : Fld) (v : Nat) (x : Nat) : (s.wr2 f g v).net x = s.net x := rfl
@[simp] theorem State.wr2_enc (s : State) (f g : Fld) (v : Nat) (x : Nat) : (s.wr2 f g v).enc x = s.enc x := rfl
@[simp] theorem State.wr2_pair (s : State) (f g : Fld) (v : Nat) (x : Nat) : (s.wr2 f g v).pair x = s.pair x := rfl
@[simp] theorem State.wr2_axis (s : State) (f g : Fld) (v : Nat) (x : Nat) : (s.wr2 f g v).axis x = s.axis x := rfl
@[simp] theorem State.wr2_slot (s : State) (f g : Fld) (v : Nat) (x : Nat) : (s.wr2 f g v).slot x = s.slot x := rfl

/-! ### wrBit -/

@[simp] theorem State.wrBit_pending (s : State) (f : Fld) (i : Nat) (b : Bool) : (s.wrBit f i b).pending = s.pending := rfl
@[simp] theorem State.wrBit_part (s : State) (f : Fld) (i : Nat) (b : Bool) : (s.wrBit f i b).part = s.part := rfl
@[simp] theorem State.wrBit_force (s : State) (f : Fld) (i : Nat) (b : Bool) : (s.wrBit f i b).force = s.force := rfl
@[simp] theorem State.wrBit_mem (s : State) (f : Fld) (i : Nat) (b : Bool) : (s.wrBit f i b).mem = s.mem := rfl
@[simp] theorem State.wrBit_badWords (s : State) (f : Fld) (i : Nat) (b : Bool) : (s.wrBit f i b).badWords = s.badWords := rfl
@[simp] theorem State.wrBit_timeNs (s : State) (f : Fld) (i : Nat) (b : Bool) : (s.wrBit f i b).timeNs = s.timeNs := rfl
@[simp] theorem State.wrBit_timeFrac (s : State) (f : Fld) (i : Nat) (b : Bool) : (s.wrBit f i b).timeFrac = s.timeFrac := rfl
@[simp] theorem State.wrBit_drawn (s : State) (f : Fld) (i : Nat) (b : Bool) : (s.wrBit f i b).drawn = s.drawn := rfl
@[simp] theorem State.wrBit_ctxs (s : State) (f : Fld) (i : Nat) (b : Bool) : (s.wrBit f i b).ctxs = s.ctxs := rfl
@[simp] theorem State.wrBit_rings (s : State) (f : Fld) (i : Nat) (b : Bool) : (s.wrBit f i b).rings = s.rings := rfl
@[simp] theorem State.wrBit_cells (s : State) (f : Fld) (i : Nat) (b : Bool) : (s.wrBit f i b).cells = s.cells := rfl
@[simp] theorem State.wrBit_nougat (s : State) (f : Fld) (i : Nat) (b : Bool) : (s.wrBit f i b).nougat = s.nougat := rfl
@[simp] theorem State.wrBit_reports (s : State) (f : Fld) (i : Nat) (b : Bool) : (s.wrBit f i b).reports = s.reports := rfl
@[simp] theorem State.wrBit_safeLine (s : State) (f : Fld) (i : Nat) (b : Bool) : (s.wrBit f i b).safeLine = s.safeLine := rfl
@[simp] theorem State.wrBit_stopFireN (s : State) (f : Fld) (i : Nat) (b : Bool) : (s.wrBit f i b).stopFireN = s.stopFireN := rfl
@[simp] theorem State.wrBit_stopFireLatch (s : State) (f : Fld) (i : Nat) (b : Bool) : (s.wrBit f i b).stopFireLatch = s.stopFireLatch := rfl
@[simp] theorem State.wrBit_bscan (s : State) (f : Fld) (i : Nat) (b : Bool) : (s.wrBit f i b).bscan = s.bscan := rfl
@[simp] theorem State.wrBit_links (s : State) (f : Fld) (i : Nat) (b : Bool) : (s.wrBit f i b).links = s.links := rfl
@[simp] theorem State.wrBit_drops (s : State) (f : Fld) (i : Nat) (b : Bool) : (s.wrBit f i b).drops = s.drops := rfl
@[simp] theorem State.wrBit_keys (s : State) (f : Fld) (i : Nat) (b : Bool) : (s.wrBit f i b).keys = s.keys := rfl
@[simp] theorem State.wrBit_otp (s : State) (f : Fld) (i : Nat) (b : Bool) : (s.wrBit f i b).otp = s.otp := rfl
@[simp] theorem State.wrBit_vault (s : State) (f : Fld) (i : Nat) (b : Bool) : (s.wrBit f i b).vault = s.vault := rfl
@[simp] theorem State.wrBit_gov (s : State) (f : Fld) (i : Nat) (b : Bool) : (s.wrBit f i b).gov = s.gov := rfl
@[simp] theorem State.wrBit_goose (s : State) (f : Fld) (i : Nat) (b : Bool) : (s.wrBit f i b).goose = s.goose := rfl
@[simp] theorem State.wrBit_yoke (s : State) (f : Fld) (i : Nat) (b : Bool) : (s.wrBit f i b).yoke = s.yoke := rfl
@[simp] theorem State.wrBit_coop (s : State) (f : Fld) (i : Nat) (b : Bool) : (s.wrBit f i b).coop = s.coop := rfl
@[simp] theorem State.wrBit_heldWrites (s : State) (f : Fld) (i : Nat) (b : Bool) : (s.wrBit f i b).heldWrites = s.heldWrites := rfl
@[simp] theorem State.wrBit_ledger (s : State) (f : Fld) (i : Nat) (b : Bool) : (s.wrBit f i b).ledger = s.ledger := rfl
@[simp] theorem State.wrBit_encs (s : State) (f : Fld) (i : Nat) (b : Bool) : (s.wrBit f i b).encs = s.encs := rfl
@[simp] theorem State.wrBit_pairs (s : State) (f : Fld) (i : Nat) (b : Bool) : (s.wrBit f i b).pairs = s.pairs := rfl
@[simp] theorem State.wrBit_virt (s : State) (f : Fld) (i : Nat) (b : Bool) : (s.wrBit f i b).virt = s.virt := rfl
@[simp] theorem State.wrBit_pipes (s : State) (f : Fld) (i : Nat) (b : Bool) : (s.wrBit f i b).pipes = s.pipes := rfl
@[simp] theorem State.wrBit_cciJobs (s : State) (f : Fld) (i : Nat) (b : Bool) : (s.wrBit f i b).cciJobs = s.cciJobs := rfl
@[simp] theorem State.wrBit_ladders (s : State) (f : Fld) (i : Nat) (b : Bool) : (s.wrBit f i b).ladders = s.ladders := rfl
@[simp] theorem State.wrBit_axes (s : State) (f : Fld) (i : Nat) (b : Bool) : (s.wrBit f i b).axes = s.axes := rfl
@[simp] theorem State.wrBit_slots (s : State) (f : Fld) (i : Nat) (b : Bool) : (s.wrBit f i b).slots = s.slots := rfl
@[simp] theorem State.wrBit_loopTick (s : State) (f : Fld) (i : Nat) (b : Bool) : (s.wrBit f i b).loopTick = s.loopTick := rfl
@[simp] theorem State.wrBit_ainFirst (s : State) (f : Fld) (i : Nat) (b : Bool) : (s.wrBit f i b).ainFirst = s.ainFirst := rfl
@[simp] theorem State.wrBit_auxHigh (s : State) (f : Fld) (i : Nat) (b : Bool) : (s.wrBit f i b).auxHigh = s.auxHigh := rfl
@[simp] theorem State.wrBit_time (s : State) (f : Fld) (i : Nat) (b : Bool) : (s.wrBit f i b).time = s.time := rfl
@[simp] theorem State.wrBit_nets (s : State) (f : Fld) (i : Nat) (b : Bool) : (s.wrBit f i b).nets = s.nets := rfl
@[simp] theorem State.wrBit_out (s : State) (f : Fld) (i : Nat) (b : Bool) : (s.wrBit f i b).out = s.out := rfl
@[simp] theorem State.wrBit_caps (s : State) (f : Fld) (i : Nat) (b : Bool) : (s.wrBit f i b).caps = s.caps := rfl
@[simp] theorem State.wrBit_l1Held (s : State) (f : Fld) (i : Nat) (b : Bool) : (s.wrBit f i b).l1Held = s.l1Held := rfl
@[simp] theorem State.wrBit_rdF (s : State) (f : Fld) (i : Nat) (b : Bool) (x : Fld) : (s.wrBit f i b).rdF x = s.rdF x := rfl
@[simp] theorem State.wrBit_cell (s : State) (f : Fld) (i : Nat) (b : Bool) (x : Nat) : (s.wrBit f i b).cell x = s.cell x := rfl
@[simp] theorem State.wrBit_ring (s : State) (f : Fld) (i : Nat) (b : Bool) (x : Nat) : (s.wrBit f i b).ring x = s.ring x := rfl
@[simp] theorem State.wrBit_ctx (s : State) (f : Fld) (i : Nat) (b : Bool) (x : Nat) : (s.wrBit f i b).ctx x = s.ctx x := rfl
@[simp] theorem State.wrBit_link (s : State) (f : Fld) (i : Nat) (b : Bool) (x : Nat) : (s.wrBit f i b).link x = s.link x := rfl
@[simp] theorem State.wrBit_pipe (s : State) (f : Fld) (i : Nat) (b : Bool) (x : Nat) : (s.wrBit f i b).pipe x = s.pipe x := rfl
@[simp] theorem State.wrBit_cci (s : State) (f : Fld) (i : Nat) (b : Bool) (x : Nat) : (s.wrBit f i b).cci x = s.cci x := rfl
@[simp] theorem State.wrBit_net (s : State) (f : Fld) (i : Nat) (b : Bool) (x : Nat) : (s.wrBit f i b).net x = s.net x := rfl
@[simp] theorem State.wrBit_enc (s : State) (f : Fld) (i : Nat) (b : Bool) (x : Nat) : (s.wrBit f i b).enc x = s.enc x := rfl
@[simp] theorem State.wrBit_pair (s : State) (f : Fld) (i : Nat) (b : Bool) (x : Nat) : (s.wrBit f i b).pair x = s.pair x := rfl
@[simp] theorem State.wrBit_axis (s : State) (f : Fld) (i : Nat) (b : Bool) (x : Nat) : (s.wrBit f i b).axis x = s.axis x := rfl
@[simp] theorem State.wrBit_slot (s : State) (f : Fld) (i : Nat) (b : Bool) (x : Nat) : (s.wrBit f i b).slot x = s.slot x := rfl

/-! ### wrMaskBit -/

@[simp] theorem State.wrMaskBit_pending (s : State) (f g : Fld) (i : Nat) (b : Bool) : (s.wrMaskBit f g i b).pending = s.pending := by unfold State.wrMaskBit; split <;> rfl
@[simp] theorem State.wrMaskBit_part (s : State) (f g : Fld) (i : Nat) (b : Bool) : (s.wrMaskBit f g i b).part = s.part := by unfold State.wrMaskBit; split <;> rfl
@[simp] theorem State.wrMaskBit_force (s : State) (f g : Fld) (i : Nat) (b : Bool) : (s.wrMaskBit f g i b).force = s.force := by unfold State.wrMaskBit; split <;> rfl
@[simp] theorem State.wrMaskBit_mem (s : State) (f g : Fld) (i : Nat) (b : Bool) : (s.wrMaskBit f g i b).mem = s.mem := by unfold State.wrMaskBit; split <;> rfl
@[simp] theorem State.wrMaskBit_badWords (s : State) (f g : Fld) (i : Nat) (b : Bool) : (s.wrMaskBit f g i b).badWords = s.badWords := by unfold State.wrMaskBit; split <;> rfl
@[simp] theorem State.wrMaskBit_timeNs (s : State) (f g : Fld) (i : Nat) (b : Bool) : (s.wrMaskBit f g i b).timeNs = s.timeNs := by unfold State.wrMaskBit; split <;> rfl
@[simp] theorem State.wrMaskBit_timeFrac (s : State) (f g : Fld) (i : Nat) (b : Bool) : (s.wrMaskBit f g i b).timeFrac = s.timeFrac := by unfold State.wrMaskBit; split <;> rfl
@[simp] theorem State.wrMaskBit_drawn (s : State) (f g : Fld) (i : Nat) (b : Bool) : (s.wrMaskBit f g i b).drawn = s.drawn := by unfold State.wrMaskBit; split <;> rfl
@[simp] theorem State.wrMaskBit_ctxs (s : State) (f g : Fld) (i : Nat) (b : Bool) : (s.wrMaskBit f g i b).ctxs = s.ctxs := by unfold State.wrMaskBit; split <;> rfl
@[simp] theorem State.wrMaskBit_rings (s : State) (f g : Fld) (i : Nat) (b : Bool) : (s.wrMaskBit f g i b).rings = s.rings := by unfold State.wrMaskBit; split <;> rfl
@[simp] theorem State.wrMaskBit_cells (s : State) (f g : Fld) (i : Nat) (b : Bool) : (s.wrMaskBit f g i b).cells = s.cells := by unfold State.wrMaskBit; split <;> rfl
@[simp] theorem State.wrMaskBit_nougat (s : State) (f g : Fld) (i : Nat) (b : Bool) : (s.wrMaskBit f g i b).nougat = s.nougat := by unfold State.wrMaskBit; split <;> rfl
@[simp] theorem State.wrMaskBit_reports (s : State) (f g : Fld) (i : Nat) (b : Bool) : (s.wrMaskBit f g i b).reports = s.reports := by unfold State.wrMaskBit; split <;> rfl
@[simp] theorem State.wrMaskBit_safeLine (s : State) (f g : Fld) (i : Nat) (b : Bool) : (s.wrMaskBit f g i b).safeLine = s.safeLine := by unfold State.wrMaskBit; split <;> rfl
@[simp] theorem State.wrMaskBit_stopFireN (s : State) (f g : Fld) (i : Nat) (b : Bool) : (s.wrMaskBit f g i b).stopFireN = s.stopFireN := by unfold State.wrMaskBit; split <;> rfl
@[simp] theorem State.wrMaskBit_stopFireLatch (s : State) (f g : Fld) (i : Nat) (b : Bool) : (s.wrMaskBit f g i b).stopFireLatch = s.stopFireLatch := by unfold State.wrMaskBit; split <;> rfl
@[simp] theorem State.wrMaskBit_bscan (s : State) (f g : Fld) (i : Nat) (b : Bool) : (s.wrMaskBit f g i b).bscan = s.bscan := by unfold State.wrMaskBit; split <;> rfl
@[simp] theorem State.wrMaskBit_links (s : State) (f g : Fld) (i : Nat) (b : Bool) : (s.wrMaskBit f g i b).links = s.links := by unfold State.wrMaskBit; split <;> rfl
@[simp] theorem State.wrMaskBit_drops (s : State) (f g : Fld) (i : Nat) (b : Bool) : (s.wrMaskBit f g i b).drops = s.drops := by unfold State.wrMaskBit; split <;> rfl
@[simp] theorem State.wrMaskBit_keys (s : State) (f g : Fld) (i : Nat) (b : Bool) : (s.wrMaskBit f g i b).keys = s.keys := by unfold State.wrMaskBit; split <;> rfl
@[simp] theorem State.wrMaskBit_otp (s : State) (f g : Fld) (i : Nat) (b : Bool) : (s.wrMaskBit f g i b).otp = s.otp := by unfold State.wrMaskBit; split <;> rfl
@[simp] theorem State.wrMaskBit_vault (s : State) (f g : Fld) (i : Nat) (b : Bool) : (s.wrMaskBit f g i b).vault = s.vault := by unfold State.wrMaskBit; split <;> rfl
@[simp] theorem State.wrMaskBit_gov (s : State) (f g : Fld) (i : Nat) (b : Bool) : (s.wrMaskBit f g i b).gov = s.gov := by unfold State.wrMaskBit; split <;> rfl
@[simp] theorem State.wrMaskBit_goose (s : State) (f g : Fld) (i : Nat) (b : Bool) : (s.wrMaskBit f g i b).goose = s.goose := by unfold State.wrMaskBit; split <;> rfl
@[simp] theorem State.wrMaskBit_yoke (s : State) (f g : Fld) (i : Nat) (b : Bool) : (s.wrMaskBit f g i b).yoke = s.yoke := by unfold State.wrMaskBit; split <;> rfl
@[simp] theorem State.wrMaskBit_coop (s : State) (f g : Fld) (i : Nat) (b : Bool) : (s.wrMaskBit f g i b).coop = s.coop := by unfold State.wrMaskBit; split <;> rfl
@[simp] theorem State.wrMaskBit_heldWrites (s : State) (f g : Fld) (i : Nat) (b : Bool) : (s.wrMaskBit f g i b).heldWrites = s.heldWrites := by unfold State.wrMaskBit; split <;> rfl
@[simp] theorem State.wrMaskBit_ledger (s : State) (f g : Fld) (i : Nat) (b : Bool) : (s.wrMaskBit f g i b).ledger = s.ledger := by unfold State.wrMaskBit; split <;> rfl
@[simp] theorem State.wrMaskBit_encs (s : State) (f g : Fld) (i : Nat) (b : Bool) : (s.wrMaskBit f g i b).encs = s.encs := by unfold State.wrMaskBit; split <;> rfl
@[simp] theorem State.wrMaskBit_pairs (s : State) (f g : Fld) (i : Nat) (b : Bool) : (s.wrMaskBit f g i b).pairs = s.pairs := by unfold State.wrMaskBit; split <;> rfl
@[simp] theorem State.wrMaskBit_virt (s : State) (f g : Fld) (i : Nat) (b : Bool) : (s.wrMaskBit f g i b).virt = s.virt := by unfold State.wrMaskBit; split <;> rfl
@[simp] theorem State.wrMaskBit_pipes (s : State) (f g : Fld) (i : Nat) (b : Bool) : (s.wrMaskBit f g i b).pipes = s.pipes := by unfold State.wrMaskBit; split <;> rfl
@[simp] theorem State.wrMaskBit_cciJobs (s : State) (f g : Fld) (i : Nat) (b : Bool) : (s.wrMaskBit f g i b).cciJobs = s.cciJobs := by unfold State.wrMaskBit; split <;> rfl
@[simp] theorem State.wrMaskBit_ladders (s : State) (f g : Fld) (i : Nat) (b : Bool) : (s.wrMaskBit f g i b).ladders = s.ladders := by unfold State.wrMaskBit; split <;> rfl
@[simp] theorem State.wrMaskBit_axes (s : State) (f g : Fld) (i : Nat) (b : Bool) : (s.wrMaskBit f g i b).axes = s.axes := by unfold State.wrMaskBit; split <;> rfl
@[simp] theorem State.wrMaskBit_slots (s : State) (f g : Fld) (i : Nat) (b : Bool) : (s.wrMaskBit f g i b).slots = s.slots := by unfold State.wrMaskBit; split <;> rfl
@[simp] theorem State.wrMaskBit_loopTick (s : State) (f g : Fld) (i : Nat) (b : Bool) : (s.wrMaskBit f g i b).loopTick = s.loopTick := by unfold State.wrMaskBit; split <;> rfl
@[simp] theorem State.wrMaskBit_ainFirst (s : State) (f g : Fld) (i : Nat) (b : Bool) : (s.wrMaskBit f g i b).ainFirst = s.ainFirst := by unfold State.wrMaskBit; split <;> rfl
@[simp] theorem State.wrMaskBit_auxHigh (s : State) (f g : Fld) (i : Nat) (b : Bool) : (s.wrMaskBit f g i b).auxHigh = s.auxHigh := by unfold State.wrMaskBit; split <;> rfl
@[simp] theorem State.wrMaskBit_time (s : State) (f g : Fld) (i : Nat) (b : Bool) : (s.wrMaskBit f g i b).time = s.time := by unfold State.wrMaskBit; split <;> rfl
@[simp] theorem State.wrMaskBit_nets (s : State) (f g : Fld) (i : Nat) (b : Bool) : (s.wrMaskBit f g i b).nets = s.nets := by unfold State.wrMaskBit; split <;> rfl
@[simp] theorem State.wrMaskBit_out (s : State) (f g : Fld) (i : Nat) (b : Bool) : (s.wrMaskBit f g i b).out = s.out := by unfold State.wrMaskBit; split <;> rfl
@[simp] theorem State.wrMaskBit_caps (s : State) (f g : Fld) (i : Nat) (b : Bool) : (s.wrMaskBit f g i b).caps = s.caps := by unfold State.wrMaskBit; split <;> rfl
@[simp] theorem State.wrMaskBit_l1Held (s : State) (f g : Fld) (i : Nat) (b : Bool) : (s.wrMaskBit f g i b).l1Held = s.l1Held := by unfold State.wrMaskBit; split <;> rfl
@[simp] theorem State.wrMaskBit_rdF (s : State) (f g : Fld) (i : Nat) (b : Bool) (x : Fld) : (s.wrMaskBit f g i b).rdF x = s.rdF x := by unfold State.wrMaskBit; split <;> rfl
@[simp] theorem State.wrMaskBit_cell (s : State) (f g : Fld) (i : Nat) (b : Bool) (x : Nat) : (s.wrMaskBit f g i b).cell x = s.cell x := by unfold State.wrMaskBit; split <;> rfl
@[simp] theorem State.wrMaskBit_ring (s : State) (f g : Fld) (i : Nat) (b : Bool) (x : Nat) : (s.wrMaskBit f g i b).ring x = s.ring x := by unfold State.wrMaskBit; split <;> rfl
@[simp] theorem State.wrMaskBit_ctx (s : State) (f g : Fld) (i : Nat) (b : Bool) (x : Nat) : (s.wrMaskBit f g i b).ctx x = s.ctx x := by unfold State.wrMaskBit; split <;> rfl
@[simp] theorem State.wrMaskBit_link (s : State) (f g : Fld) (i : Nat) (b : Bool) (x : Nat) : (s.wrMaskBit f g i b).link x = s.link x := by unfold State.wrMaskBit; split <;> rfl
@[simp] theorem State.wrMaskBit_pipe (s : State) (f g : Fld) (i : Nat) (b : Bool) (x : Nat) : (s.wrMaskBit f g i b).pipe x = s.pipe x := by unfold State.wrMaskBit; split <;> rfl
@[simp] theorem State.wrMaskBit_cci (s : State) (f g : Fld) (i : Nat) (b : Bool) (x : Nat) : (s.wrMaskBit f g i b).cci x = s.cci x := by unfold State.wrMaskBit; split <;> rfl
@[simp] theorem State.wrMaskBit_net (s : State) (f g : Fld) (i : Nat) (b : Bool) (x : Nat) : (s.wrMaskBit f g i b).net x = s.net x := by unfold State.wrMaskBit; split <;> rfl
@[simp] theorem State.wrMaskBit_enc (s : State) (f g : Fld) (i : Nat) (b : Bool) (x : Nat) : (s.wrMaskBit f g i b).enc x = s.enc x := by unfold State.wrMaskBit; split <;> rfl
@[simp] theorem State.wrMaskBit_pair (s : State) (f g : Fld) (i : Nat) (b : Bool) (x : Nat) : (s.wrMaskBit f g i b).pair x = s.pair x := by unfold State.wrMaskBit; split <;> rfl
@[simp] theorem State.wrMaskBit_axis (s : State) (f g : Fld) (i : Nat) (b : Bool) (x : Nat) : (s.wrMaskBit f g i b).axis x = s.axis x := by unfold State.wrMaskBit; split <;> rfl
@[simp] theorem State.wrMaskBit_slot (s : State) (f g : Fld) (i : Nat) (b : Bool) (x : Nat) : (s.wrMaskBit f g i b).slot x = s.slot x := by unfold State.wrMaskBit; split <;> rfl

/-! ### clearAll -/

@[simp] theorem State.clearAll_pending (s : State) (fs : List Fld) : (s.clearAll fs).pending = s.pending := by unfold State.clearAll; induction fs generalizing s with
  | nil => rfl
  | cons f fs ih => exact ih _
@[simp] theorem State.clearAll_part (s : State) (fs : List Fld) : (s.clearAll fs).part = s.part := by unfold State.clearAll; induction fs generalizing s with
  | nil => rfl
  | cons f fs ih => exact ih _
@[simp] theorem State.clearAll_force (s : State) (fs : List Fld) : (s.clearAll fs).force = s.force := by unfold State.clearAll; induction fs generalizing s with
  | nil => rfl
  | cons f fs ih => exact ih _
@[simp] theorem State.clearAll_mem (s : State) (fs : List Fld) : (s.clearAll fs).mem = s.mem := by unfold State.clearAll; induction fs generalizing s with
  | nil => rfl
  | cons f fs ih => exact ih _
@[simp] theorem State.clearAll_badWords (s : State) (fs : List Fld) : (s.clearAll fs).badWords = s.badWords := by unfold State.clearAll; induction fs generalizing s with
  | nil => rfl
  | cons f fs ih => exact ih _
@[simp] theorem State.clearAll_timeNs (s : State) (fs : List Fld) : (s.clearAll fs).timeNs = s.timeNs := by unfold State.clearAll; induction fs generalizing s with
  | nil => rfl
  | cons f fs ih => exact ih _
@[simp] theorem State.clearAll_timeFrac (s : State) (fs : List Fld) : (s.clearAll fs).timeFrac = s.timeFrac := by unfold State.clearAll; induction fs generalizing s with
  | nil => rfl
  | cons f fs ih => exact ih _
@[simp] theorem State.clearAll_drawn (s : State) (fs : List Fld) : (s.clearAll fs).drawn = s.drawn := by unfold State.clearAll; induction fs generalizing s with
  | nil => rfl
  | cons f fs ih => exact ih _
@[simp] theorem State.clearAll_ctxs (s : State) (fs : List Fld) : (s.clearAll fs).ctxs = s.ctxs := by unfold State.clearAll; induction fs generalizing s with
  | nil => rfl
  | cons f fs ih => exact ih _
@[simp] theorem State.clearAll_rings (s : State) (fs : List Fld) : (s.clearAll fs).rings = s.rings := by unfold State.clearAll; induction fs generalizing s with
  | nil => rfl
  | cons f fs ih => exact ih _
@[simp] theorem State.clearAll_cells (s : State) (fs : List Fld) : (s.clearAll fs).cells = s.cells := by unfold State.clearAll; induction fs generalizing s with
  | nil => rfl
  | cons f fs ih => exact ih _
@[simp] theorem State.clearAll_nougat (s : State) (fs : List Fld) : (s.clearAll fs).nougat = s.nougat := by unfold State.clearAll; induction fs generalizing s with
  | nil => rfl
  | cons f fs ih => exact ih _
@[simp] theorem State.clearAll_reports (s : State) (fs : List Fld) : (s.clearAll fs).reports = s.reports := by unfold State.clearAll; induction fs generalizing s with
  | nil => rfl
  | cons f fs ih => exact ih _
@[simp] theorem State.clearAll_safeLine (s : State) (fs : List Fld) : (s.clearAll fs).safeLine = s.safeLine := by unfold State.clearAll; induction fs generalizing s with
  | nil => rfl
  | cons f fs ih => exact ih _
@[simp] theorem State.clearAll_stopFireN (s : State) (fs : List Fld) : (s.clearAll fs).stopFireN = s.stopFireN := by unfold State.clearAll; induction fs generalizing s with
  | nil => rfl
  | cons f fs ih => exact ih _
@[simp] theorem State.clearAll_stopFireLatch (s : State) (fs : List Fld) : (s.clearAll fs).stopFireLatch = s.stopFireLatch := by unfold State.clearAll; induction fs generalizing s with
  | nil => rfl
  | cons f fs ih => exact ih _
@[simp] theorem State.clearAll_bscan (s : State) (fs : List Fld) : (s.clearAll fs).bscan = s.bscan := by unfold State.clearAll; induction fs generalizing s with
  | nil => rfl
  | cons f fs ih => exact ih _
@[simp] theorem State.clearAll_links (s : State) (fs : List Fld) : (s.clearAll fs).links = s.links := by unfold State.clearAll; induction fs generalizing s with
  | nil => rfl
  | cons f fs ih => exact ih _
@[simp] theorem State.clearAll_drops (s : State) (fs : List Fld) : (s.clearAll fs).drops = s.drops := by unfold State.clearAll; induction fs generalizing s with
  | nil => rfl
  | cons f fs ih => exact ih _
@[simp] theorem State.clearAll_keys (s : State) (fs : List Fld) : (s.clearAll fs).keys = s.keys := by unfold State.clearAll; induction fs generalizing s with
  | nil => rfl
  | cons f fs ih => exact ih _
@[simp] theorem State.clearAll_otp (s : State) (fs : List Fld) : (s.clearAll fs).otp = s.otp := by unfold State.clearAll; induction fs generalizing s with
  | nil => rfl
  | cons f fs ih => exact ih _
@[simp] theorem State.clearAll_vault (s : State) (fs : List Fld) : (s.clearAll fs).vault = s.vault := by unfold State.clearAll; induction fs generalizing s with
  | nil => rfl
  | cons f fs ih => exact ih _
@[simp] theorem State.clearAll_gov (s : State) (fs : List Fld) : (s.clearAll fs).gov = s.gov := by unfold State.clearAll; induction fs generalizing s with
  | nil => rfl
  | cons f fs ih => exact ih _
@[simp] theorem State.clearAll_goose (s : State) (fs : List Fld) : (s.clearAll fs).goose = s.goose := by unfold State.clearAll; induction fs generalizing s with
  | nil => rfl
  | cons f fs ih => exact ih _
@[simp] theorem State.clearAll_yoke (s : State) (fs : List Fld) : (s.clearAll fs).yoke = s.yoke := by unfold State.clearAll; induction fs generalizing s with
  | nil => rfl
  | cons f fs ih => exact ih _
@[simp] theorem State.clearAll_coop (s : State) (fs : List Fld) : (s.clearAll fs).coop = s.coop := by unfold State.clearAll; induction fs generalizing s with
  | nil => rfl
  | cons f fs ih => exact ih _
@[simp] theorem State.clearAll_heldWrites (s : State) (fs : List Fld) : (s.clearAll fs).heldWrites = s.heldWrites := by unfold State.clearAll; induction fs generalizing s with
  | nil => rfl
  | cons f fs ih => exact ih _
@[simp] theorem State.clearAll_ledger (s : State) (fs : List Fld) : (s.clearAll fs).ledger = s.ledger := by unfold State.clearAll; induction fs generalizing s with
  | nil => rfl
  | cons f fs ih => exact ih _
@[simp] theorem State.clearAll_encs (s : State) (fs : List Fld) : (s.clearAll fs).encs = s.encs := by unfold State.clearAll; induction fs generalizing s with
  | nil => rfl
  | cons f fs ih => exact ih _
@[simp] theorem State.clearAll_pairs (s : State) (fs : List Fld) : (s.clearAll fs).pairs = s.pairs := by unfold State.clearAll; induction fs generalizing s with
  | nil => rfl
  | cons f fs ih => exact ih _
@[simp] theorem State.clearAll_virt (s : State) (fs : List Fld) : (s.clearAll fs).virt = s.virt := by unfold State.clearAll; induction fs generalizing s with
  | nil => rfl
  | cons f fs ih => exact ih _
@[simp] theorem State.clearAll_pipes (s : State) (fs : List Fld) : (s.clearAll fs).pipes = s.pipes := by unfold State.clearAll; induction fs generalizing s with
  | nil => rfl
  | cons f fs ih => exact ih _
@[simp] theorem State.clearAll_cciJobs (s : State) (fs : List Fld) : (s.clearAll fs).cciJobs = s.cciJobs := by unfold State.clearAll; induction fs generalizing s with
  | nil => rfl
  | cons f fs ih => exact ih _
@[simp] theorem State.clearAll_ladders (s : State) (fs : List Fld) : (s.clearAll fs).ladders = s.ladders := by unfold State.clearAll; induction fs generalizing s with
  | nil => rfl
  | cons f fs ih => exact ih _
@[simp] theorem State.clearAll_axes (s : State) (fs : List Fld) : (s.clearAll fs).axes = s.axes := by unfold State.clearAll; induction fs generalizing s with
  | nil => rfl
  | cons f fs ih => exact ih _
@[simp] theorem State.clearAll_slots (s : State) (fs : List Fld) : (s.clearAll fs).slots = s.slots := by unfold State.clearAll; induction fs generalizing s with
  | nil => rfl
  | cons f fs ih => exact ih _
@[simp] theorem State.clearAll_loopTick (s : State) (fs : List Fld) : (s.clearAll fs).loopTick = s.loopTick := by unfold State.clearAll; induction fs generalizing s with
  | nil => rfl
  | cons f fs ih => exact ih _
@[simp] theorem State.clearAll_ainFirst (s : State) (fs : List Fld) : (s.clearAll fs).ainFirst = s.ainFirst := by unfold State.clearAll; induction fs generalizing s with
  | nil => rfl
  | cons f fs ih => exact ih _
@[simp] theorem State.clearAll_auxHigh (s : State) (fs : List Fld) : (s.clearAll fs).auxHigh = s.auxHigh := by unfold State.clearAll; induction fs generalizing s with
  | nil => rfl
  | cons f fs ih => exact ih _
@[simp] theorem State.clearAll_time (s : State) (fs : List Fld) : (s.clearAll fs).time = s.time := by unfold State.clearAll; induction fs generalizing s with
  | nil => rfl
  | cons f fs ih => exact ih _
@[simp] theorem State.clearAll_nets (s : State) (fs : List Fld) : (s.clearAll fs).nets = s.nets := by unfold State.clearAll; induction fs generalizing s with
  | nil => rfl
  | cons f fs ih => exact ih _
@[simp] theorem State.clearAll_out (s : State) (fs : List Fld) : (s.clearAll fs).out = s.out := by unfold State.clearAll; induction fs generalizing s with
  | nil => rfl
  | cons f fs ih => exact ih _
@[simp] theorem State.clearAll_caps (s : State) (fs : List Fld) : (s.clearAll fs).caps = s.caps := by unfold State.clearAll; induction fs generalizing s with
  | nil => rfl
  | cons f fs ih => exact ih _
@[simp] theorem State.clearAll_l1Held (s : State) (fs : List Fld) : (s.clearAll fs).l1Held = s.l1Held := by unfold State.clearAll; induction fs generalizing s with
  | nil => rfl
  | cons f fs ih => exact ih _

/-! ### Register fields -/

/-- A field reads what was written, cut to its width. -/
@[simp] theorem State.rd_wr_self (s : State) (f : Fld) (v : Nat) : (s.wr f v).rd f = v % 2 ^ f.width := by
  simp [State.rd, State.wr]

/-- A write leaves every other field. -/
theorem State.rd_wr_ne (s : State) {f g : Fld} (v : Nat) (h : g.key ≠ f.key) : (s.wr f v).rd g = s.rd g := by
  simp [State.rd, State.wr, Store.get_put_ne _ _ _ _ h]

/-- A one-bit field written 1 is on. -/
theorem State.on_wr_one (s : State) (f : Fld) (h : f.width = 1) : (s.wr f 1).on f = true := by
  simp [State.on, h]

/-- A field written 0 is off. -/
theorem State.on_wr_zero (s : State) (f : Fld) : (s.wr f 0).on f = false := by
  simp [State.on]

theorem State.on_wr_ne (s : State) {f g : Fld} (v : Nat) (h : g.key ≠ f.key) : (s.wr f v).on g = s.on g := by
  simp [State.on, State.rd_wr_ne s v h]

@[simp] theorem State.rd_wrB_self (s : State) (f : Fld) (b : Bool) : (s.wrB f b).rd f = b2n b % 2 ^ f.width := by
  simp [State.wrB]
theorem State.on_wrB_self (s : State) (f : Fld) (b : Bool) (h : f.width = 1) : (s.wrB f b).on f = b := by
  cases b <;> simp [State.on, State.wrB, h, b2n]
theorem State.rd_wrB_ne (s : State) {f g : Fld} (b : Bool) (h : g.key ≠ f.key) : (s.wrB f b).rd g = s.rd g := State.rd_wr_ne s _ h
@[simp] theorem State.rd_bumpBy_self (s : State) (f : Fld) (n : Nat) : (s.bumpBy f n).rd f = satNat f.width (s.rd f + n) := by
  have : satNat f.width (s.rd f + n) < 2 ^ f.width := by
    have := Nat.two_pow_pos f.width
    simp only [satNat]; omega
  simp [State.bumpBy, Nat.mod_eq_of_lt this]
theorem State.rd_bumpBy_ne (s : State) {f g : Fld} (n : Nat) (h : g.key ≠ f.key) : (s.bumpBy f n).rd g = s.rd g := State.rd_wr_ne s _ h
@[simp] theorem State.rd_bump_self (s : State) (f : Fld) : (s.bump f).rd f = satNat f.width (s.rd f + 1) := State.rd_bumpBy_self s f 1
theorem State.rd_bump_ne (s : State) {f g : Fld} (h : g.key ≠ f.key) : (s.bump f).rd g = s.rd g := State.rd_wr_ne s _ h
theorem State.rd_wr2_ne (s : State) {f g x : Fld} (v : Nat) (hf : x.key ≠ f.key) (hg : x.key ≠ g.key) : (s.wr2 f g v).rd x = s.rd x := by
  rw [State.wr2, State.rd_wr_ne _ _ hg, State.rd_wr_ne _ _ hf]

/-- Clearing fields leaves every other field. -/
theorem State.rd_clearAll_ne (s : State) (fs : List Fld) (g : Fld) (h : ∀ f ∈ fs, g.key ≠ f.key) : (s.clearAll fs).rd g = s.rd g := by
  unfold State.clearAll
  induction fs generalizing s with
  | nil => rfl
  | cons f fs ih =>
    simp only [List.foldl_cons]
    rw [ih (s.wr f 0) (fun f' hf => h f' (List.mem_cons_of_mem _ hf))]
    exact State.rd_wr_ne s 0 (h f List.mem_cons_self)

/-- The value in force after the shadow came into force. -/
@[simp] theorem State.rdF_enforce_self (s : State) (f : Fld) : (s.enforce f).rdF f = s.rd f := by
  simp [State.rdF, State.enforce]

theorem State.rdF_enforce_ne (s : State) {f g : Fld} (h : g.key ≠ f.key) : (s.enforce f).rdF g = s.rdF g := by
  simp [State.rdF, State.enforce, Store.get_put_ne _ _ _ _ h]

/-! ### Units -/

@[simp] theorem State.cell_setCell_self (s : State) (n : Nat) (c : Cell) : (s.setCell n c).cell n = c := by
  simp [State.cell, State.setCell]
theorem State.cell_setCell_ne (s : State) {n m : Nat} (c : Cell) (h : m ≠ n) : (s.setCell n c).cell m = s.cell m := by
  simp [State.cell, State.setCell, Store.get_put_ne _ _ _ _ h]
@[simp] theorem State.cell_updCell_self (s : State) (n : Nat) (f : Cell → Cell) : (s.updCell n f).cell n = f (s.cell n) := by
  simp [State.updCell]
@[simp] theorem State.ring_setRing_self (s : State) (n : Nat) (c : Ring) : (s.setRing n c).ring n = c := by
  simp [State.ring, State.setRing]
theorem State.ring_setRing_ne (s : State) {n m : Nat} (c : Ring) (h : m ≠ n) : (s.setRing n c).ring m = s.ring m := by
  simp [State.ring, State.setRing, Store.get_put_ne _ _ _ _ h]
@[simp] theorem State.ctx_setCtx_self (s : State) (n : Nat) (c : Ctx) : (s.setCtx n c).ctx n = c := by
  simp [State.ctx, State.setCtx]
@[simp] theorem State.ctx_updCtx_self (s : State) (n : Nat) (f : Ctx → Ctx) : (s.updCtx n f).ctx n = f (s.ctx n) := by
  simp [State.updCtx]
@[simp] theorem State.link_setLink_self (s : State) (n : Nat) (c : Link) : (s.setLink n c).link n = c := by
  simp [State.link, State.setLink]
@[simp] theorem State.link_updLink_self (s : State) (n : Nat) (f : Link → Link) : (s.updLink n f).link n = f (s.link n) := by
  simp [State.updLink]
@[simp] theorem State.pipe_setPipe_self (s : State) (n : Nat) (c : Pipe) : (s.setPipe n c).pipe n = c := by
  simp [State.pipe, State.setPipe]
@[simp] theorem State.pipe_updPipe_self (s : State) (n : Nat) (f : Pipe → Pipe) : (s.updPipe n f).pipe n = f (s.pipe n) := by
  simp [State.updPipe]
@[simp] theorem State.cci_setCci_self (s : State) (n : Nat) (c : List CciJob) : (s.setCci n c).cci n = c := by
  simp [State.cci, State.setCci]
@[simp] theorem State.net_updNet_self (s : State) (n : Nat) (f : NetPort → NetPort) : (s.updNet n f).net n = f (s.net n) := by
  simp [State.net, State.updNet]
@[simp] theorem State.enc_setEnc_self (s : State) (n : Nat) (c : Enc) : (s.setEnc n c).enc n = c := by
  simp [State.enc, State.setEnc]
@[simp] theorem State.enc_updEnc_self (s : State) (n : Nat) (f : Enc → Enc) : (s.updEnc n f).enc n = f (s.enc n) := by
  simp [State.updEnc]
@[simp] theorem State.pair_setPair_self (s : State) (n : Nat) (c : Pair) : (s.setPair n c).pair n = c := by
  simp [State.pair, State.setPair]
@[simp] theorem State.pair_updPair_self (s : State) (n : Nat) (f : Pair → Pair) : (s.updPair n f).pair n = f (s.pair n) := by
  simp [State.updPair]
@[simp] theorem State.axis_setAxis_self (s : State) (n : Nat) (c : Axis) : (s.setAxis n c).axis n = c := by
  simp [State.axis, State.setAxis]
@[simp] theorem State.axis_updAxis_self (s : State) (n : Nat) (f : Axis → Axis) : (s.updAxis n f).axis n = f (s.axis n) := by
  simp [State.updAxis]
@[simp] theorem State.slot_updSlot_self (s : State) (n : Nat) (f : Slot → Slot) : (s.updSlot n f).slot n = f (s.slot n) := by
  simp [State.slot, State.updSlot]

/-! ### Memory -/

/-- One byte read after bytes are put: outside them, what it was. -/
theorem memPut_byte_outside (bs : List Byte) (m : List Host.Cell) (off a : Nat)
    (h : ∀ i, i < bs.length → a ≠ (off + i) % 2 ^ 34) : Store.get 0 (memPut m off bs) a = Store.get 0 m a := by
  induction bs generalizing m off with
  | nil => rfl
  | cons b bs ih =>
    simp only [memPut]
    rw [ih _ (off + 1) (by intro i hi; have := h (i + 1) (by simpa using hi); rwa [show off + (i + 1) = off + 1 + i by omega] at this)]
    exact Store.get_put_ne _ _ _ _ (by simpa using h 0 (by simp))

/-- Every write of the page store keeps its canonical form. -/
theorem memPut_wf (bs : List Byte) (m : List Host.Cell) (off : Nat) (h : Memory.wf m = true) : Memory.wf (memPut m off bs) = true := by
  induction bs generalizing m off with
  | nil => exact h
  | cons b bs ih =>
    simp only [memPut]
    apply ih
    simp only [Memory.wf, Bool.and_eq_true, List.all_eq_true, decide_eq_true_eq] at h ⊢
    refine ⟨Store.wf_put _ _ _ _ h.1, ?_⟩
    intro e he
    unfold Store.put at he
    split at he
    · exact h.2 e (List.mem_filter.1 he).1
    · rcases Store.mem_ins _ _ _ _ he with rfl | he
      · exact Nat.mod_lt _ (by decide)
      · exact h.2 e he

/-- A write on behalf of an initiator keeps the canonical form, made or not (R497). -/
theorem State.memWrite_wf (s : State) (t n off : Nat) (bs : List Byte) (h : Memory.wf s.mem = true) :
    Memory.wf (s.memWrite t n off bs).1.mem = true := by
  unfold State.memWrite
  simp only
  split
  · simpa using h
  · exact memPut_wf bs s.mem off h

@[simp] theorem State.toHost_mem (s : State) (k : Nat) (o : Out) : (s.toHost k o).mem = s.mem := by
  unfold State.toHost
  split
  · rfl
  · split <;> rfl
@[simp] theorem State.toHost_regs (s : State) (k : Nat) (o : Out) : (s.toHost k o).regs = s.regs := by
  unfold State.toHost
  split
  · rfl
  · split <;> rfl

/-- A write at an address of a descriptor keeps the canonical form. -/
theorem State.dmaWrite_wf (s : State) (k t n a : Nat) (bs : List Byte) (h : Memory.wf s.mem = true) :
    Memory.wf (s.dmaWrite k t n a bs).1.mem = true := by
  unfold State.dmaWrite
  split
  · exact State.memWrite_wf s t n _ bs h
  · split
    · exact h
    · simpa using h

end Sys2Proof.Machine
end

