-- ==== Sys2Proof/Laws/Frame.lean ====
section
/-!
SUPPORT. How the frame predicates of Sys2Proof.Safety compose: an update of a listed field keeps them.
-/
namespace Sys2Proof.Safety

open Sys2Proof Sys2Proof.Machine

theorem SameRegs.refl (fs : List Fld) (s : State) : SameRegs fs s s := fun _ _ => rfl

theorem SameRegs.trans {fs : List Fld} {s t u : State} (h : SameRegs fs s t) (g : SameRegs fs t u) : SameRegs fs s u :=
  fun f hf => (g f hf).trans (h f hf)

/-- A write of a listed field. -/
theorem SameRegs.wr {fs : List Fld} {s t : State} (h : SameRegs fs s t) {f : Fld} (v : Nat) (hf : f ∈ fs) : SameRegs fs s (t.wr f v) := by
  intro g hg
  rw [State.rd_wr_ne]
  · exact h g hg
  · intro e
    exact hg (List.mem_map.2 ⟨f, hf, e.symm⟩)

/-- Anything that leaves the registers. -/
theorem SameRegs.of_regs {fs : List Fld} {s t u : State} (h : SameRegs fs s t) (hr : u.regs = t.regs) : SameRegs fs s u := by
  intro g hg
  rw [← h g hg, State.rd, State.rd, hr]

theorem OnlyRegs.refl (fs : List Fld) (s : State) : OnlyRegs fs s s := ⟨SameRegs.refl fs s, rfl⟩

/-- A write of a listed field. -/
theorem OnlyRegs.wr {fs : List Fld} {s t : State} (h : OnlyRegs fs s t) {f : Fld} (v : Nat) (hf : f ∈ fs) : OnlyRegs fs s (t.wr f v) :=
  ⟨h.1.wr v hf, h.2⟩

theorem OnlyRegs.wrB {fs : List Fld} {s t : State} (h : OnlyRegs fs s t) {f : Fld} (b : Bool) (hf : f ∈ fs) : OnlyRegs fs s (t.wrB f b) :=
  h.wr _ hf

theorem OnlyRegs.bump {fs : List Fld} {s t : State} (h : OnlyRegs fs s t) {f : Fld} (hf : f ∈ fs) : OnlyRegs fs s (t.bump f) :=
  h.wr _ hf

/-- Clearing listed fields. -/
theorem OnlyRegs.clearAll {fs : List Fld} {s t : State} (h : OnlyRegs fs s t) {gs : List Fld} (hg : ∀ f ∈ gs, f ∈ fs) :
    OnlyRegs fs s (t.clearAll gs) := by
  unfold State.clearAll
  induction gs generalizing t with
  | nil => exact h
  | cons g gs ih =>
    simp only [List.foldl_cons]
    exact ih (h.wr 0 (hg g List.mem_cons_self)) (fun f hf => hg f (List.mem_cons_of_mem _ hf))

end Sys2Proof.Safety
end

