-- ==== Sys2Proof/WellFormed.lean ====
section
/-!
DEFINITION. What the outside world can send. The operands' types bound every unit number and field; these checks bound the operands that are
lists or sizes, by what the interface they come over can carry.
-/
namespace Sys2Proof

/-- A register access carries 1 to 64 bytes. -/
def sizeOk (size : Fin 65) : Bool := size.val != 0

/-- A pixel of a RAW type: RAW8, RAW10, RAW12, RAW14 and RAW16 carry 8 to 16 bits (spec/14 R381). -/
def pixelOk (type : Fin 5) (p : BitVec 16) : Bool := decide (p.toNat < 2 ^ (8 + 2 * type.val))

/-- The lengths a CSI-2 long packet can carry: its word count is 16 bits. -/
def packetOk : CsiPacket → Bool
  | .raw t ps _ => ps.all (pixelOk t) && decide (ps.length * (8 + 2 * t.val) ≤ 8 * 65535)
  | .embedded bs _ => decide (bs.length ≤ 65535)
  | _ => true

/-- No entry of a PMBus list answers one poll twice (spec/19 R518). -/
def repliesOk (rs : List RegReply) : Bool := decide ((rs.map (fun r => r.entry)).Nodup)

/-- An image slot holds a header of 352 bytes (spec/17 R451). -/
def imageOk : Option Image → Bool
  | none => true
  | some i => i.header.length == 352

/-- A scan reaches at most 32 phases to either side and 64 offsets up or down (spec/08 R234, R235). -/
def eyeOk (p : EyePoints) : Bool :=
  decide (p.left.length ≤ 32 ∧ p.right.length ≤ 32 ∧ p.down.length ≤ 64 ∧ p.up.length ≤ 64)

/-- A slot of the flash is read once. -/
def slotsOk {α : Type} [DecidableEq α] (slots : List (α × List Byte)) : Bool := decide ((slots.map (·.1)).Nodup)

/-- Whether a command's operands are ones that its interface can carry. -/
def WellFormed : Instr → Bool
  | .configWrite _ _ size _ => sizeOk size
  | .csiPacket _ _ pkt _ _ _ => packetOk pkt
  | .pmbusPoll replies => repliesOk replies
  | .bootComplete a b _ => imageOk a && imageOk b
  | .bootFail a b => imageOk a && imageOk b
  | .eyeScanDone _ pts => eyeOk pts
  | .ledgerRestore _ slots _ => slotsOk slots
  | .dropRestoreDone slots _ => slotsOk slots
  | .doorbellFetch _ (some es) => decide ((es.map (·.1)).Nodup)
  | _ => true

end Sys2Proof
end

