-- ==== Sys2Proof/Laws/PerInstr.lean ====
section
/-!
SUPPORT. Which commands the well-formedness checks bear on: only those with an operand that is a list, an image or a size. The types of
every other operand already bound it, so that all values of them can be sent.
-/
namespace Sys2Proof.Laws.Operands

open Sys2Proof

/-- Commands with an operand that its type does not bound. -/
def hasOpenOperand : Instr → Bool
  | .configWrite .. => true
  | .doorbellFetch .. => true
  | .eyeScanDone .. => true
  | .csiPacket .. => true
  | .pmbusPoll .. => true
  | .bootComplete .. => true
  | .ledgerRestore .. => true
  | .dropRestoreDone .. => true
  | .bootFail .. => true
  | _ => false

/-- A command whose operands are bounded by their types is well formed whatever they are. -/
def Statement (i : Instr) : Prop := hasOpenOperand i = false → WellFormed i = true

theorem configWrite (who : Sender) (addr : Place) (size : Fin 65) (value : Option Word) : Statement (.configWrite who addr size value) := fun h => nomatch h
theorem ownershipWrite (who : Sender) (kind : OwnKind) (word : Fin 10) (value : Word) : Statement (.ownershipWrite who kind word value) := fun _ => rfl
theorem adminTakeover (who : CtxId) (value : CtxId) : Statement (.adminTakeover who value) := fun _ => rfl
theorem perstAssert (p : PortId) : Statement (.perstAssert p) := fun _ => rfl
theorem perstDeassert (p : PortId) : Statement (.perstDeassert p) := fun _ => rfl
theorem crsTimeout (p : PortId) : Statement (.crsTimeout p) := fun _ => rfl
theorem functionLevelReset (k : CtxId) : Statement (.functionLevelReset k) := fun _ => rfl
theorem portLinkDownTimeout (p : PortId) : Statement (.portLinkDownTimeout p) := fun _ => rfl
theorem busMasterClear (k : CtxId) : Statement (.busMasterClear k) := fun _ => rfl
theorem watchdogExpiry (k : CtxId) : Statement (.watchdogExpiry k) := fun _ => rfl
theorem l1Exit (p : PortId) : Statement (.l1Exit p) := fun _ => rfl
theorem ctxEnable (who : Sender) (k : CtxId) (busMaster : Bool) (flrDone : Bool) : Statement (.ctxEnable who k busMaster flrDone) := fun _ => rfl
theorem ctxDisable (who : Sender) (k : CtxId) : Statement (.ctxDisable who k) := fun _ => rfl
theorem kick (who : Sender) (k : CtxId) : Statement (.kick who k) := fun _ => rfl
theorem pollExpiry (k : CtxId) : Statement (.pollExpiry k) := fun _ => rfl
theorem doorbellFetch (k : CtxId) (result : Option (List (RingId × BitVec 16))) : Statement (.doorbellFetch k result) := fun h => nomatch h
theorem descriptorFetch (q : RingId) (result : ReadResult) : Statement (.descriptorFetch q result) := fun _ => rfl
theorem ringEnable (who : Sender) (q : RingId) : Statement (.ringEnable who q) := fun _ => rfl
theorem ringDisable (who : Sender) (q : RingId) : Statement (.ringDisable who q) := fun _ => rfl
theorem ringAbort (who : Sender) (q : RingId) : Statement (.ringAbort who q) := fun _ => rfl
theorem nop (q : RingId) : Statement (.nop q) := fun _ => rfl
theorem page (n : CellId) : Statement (.page n) := fun _ => rfl
theorem strip (n : CellId) : Statement (.strip n) := fun _ => rfl
theorem mapload (n : CellId) (result : ReadResult) : Statement (.mapload n result) := fun _ => rfl
theorem maploadLock (n : CellId) : Statement (.maploadLock n) := fun _ => rfl
theorem wave (n : CellId) (result : ReadResult) : Statement (.wave n result) := fun _ => rfl
theorem trim (n : CellId) (result : ReadResult) : Statement (.trim n result) := fun _ => rfl
theorem ladder (n : CellId) : Statement (.ladder n) := fun _ => rfl
theorem sync (q : RingId) : Statement (.sync q) := fun _ => rfl
theorem syncTimeReached (q : RingId) : Statement (.syncTimeReached q) := fun _ => rfl
theorem syncTimeout (q : RingId) : Statement (.syncTimeout q) := fun _ => rfl
theorem buf (q : RingId) : Statement (.buf q) := fun _ => rfl
theorem launch (q : RingId) (result : ReadResult) : Statement (.launch q result) := fun _ => rfl
theorem launchDue (k : NetId) : Statement (.launchDue k) := fun _ => rfl
theorem loadDpcMap (p : PipeId) (result : ReadResult) : Statement (.loadDpcMap p result) := fun _ => rfl
theorem loadShading (p : PipeId) (result : ReadResult) : Statement (.loadShading p result) := fun _ => rfl
theorem loadMatrix (p : PipeId) (result : ReadResult) : Statement (.loadMatrix p result) := fun _ => rfl
theorem setExposure (p : PipeId) (result : ReadResult) : Statement (.setExposure p result) := fun _ => rfl
theorem inspCommit (p : PipeId) : Statement (.inspCommit p) := fun _ => rfl
theorem inspArm (p : PipeId) : Statement (.inspArm p) := fun _ => rfl
theorem inspDisarm (p : PipeId) : Statement (.inspDisarm p) := fun _ => rfl
theorem eventRingSpace (k : CtxId) (pi : Option (BitVec 16)) : Statement (.eventRingSpace k pi) := fun _ => rfl
theorem moderationHoldoff (k : CtxId) (vec : Fin 64) : Statement (.moderationHoldoff k vec) := fun _ => rfl
theorem entryRead (n : CellId) (result : ReadResult) : Statement (.entryRead n result) := fun _ => rfl
theorem entryRepoll (n : CellId) : Statement (.entryRepoll n) := fun _ => rfl
theorem rowFetchStart (n : CellId) : Statement (.rowFetchStart n) := fun _ => rfl
theorem blockRead (n : CellId) (result : ReadResult) : Statement (.blockRead n result) := fun _ => rfl
theorem blockRowReady (n : CellId) : Statement (.blockRowReady n) := fun _ => rfl
theorem nougatDispatch (lane : Fin 16) : Statement (.nougatDispatch lane) := fun _ => rfl
theorem nougatBlockCoded (lane : Fin 16) (result : ReadResult) (mismatch : Bool) (eccErr : Bool) : Statement (.nougatBlockCoded lane result mismatch eccErr) := fun _ => rfl
theorem nougatCommit (k : CtxId) : Statement (.nougatCommit k) := fun _ => rfl
theorem arenaTail (who : Sender) (k : CtxId) (value : BitVec 28) : Statement (.arenaTail who k value) := fun _ => rfl
theorem nougatLaneRestore (who : Sender) (mask : BitVec 16) : Statement (.nougatLaneRestore who mask) := fun _ => rfl
theorem cellEnable (who : Sender) (n : CellId) : Statement (.cellEnable who n) := fun _ => rfl
theorem cellDisable (who : Sender) (n : CellId) : Statement (.cellDisable who n) := fun _ => rfl
theorem softTrig (who : Sender) (n : CellId) : Statement (.softTrig who n) := fun _ => rfl
theorem printStart (n : CellId) : Statement (.printStart n) := fun _ => rfl
theorem rowStep (n : CellId) (parityErr : Bool) (err : Option RowErr) : Statement (.rowStep n parityErr err) := fun _ => rfl
theorem fireSend (n : CellId) (row : Fin 8) : Statement (.fireSend n row) := fun _ => rfl
theorem pageComplete (n : CellId) : Statement (.pageComplete n) := fun _ => rfl
theorem lockstepMismatch (n : CellId) : Statement (.lockstepMismatch n) := fun _ => rfl
theorem cellRelease (who : Sender) (n : CellId) (alive : Bool) : Statement (.cellRelease who n alive) := fun _ => rfl
theorem cellSelftestDone (n : CellId) (pass : Bool) : Statement (.cellSelftestDone n pass) := fun _ => rfl
theorem swapReq (who : Sender) (n : CellId) : Statement (.swapReq who n) := fun _ => rfl
theorem retiringEnd (n : CellId) : Statement (.retiringEnd n) := fun _ => rfl
theorem mirrorDone (n : CellId) : Statement (.mirrorDone n) := fun _ => rfl
theorem bgTableWrite (who : Sender) (n : CellId) (merge : Bool) (word : Fin 1024) (value : Word) : Statement (.bgTableWrite who n merge word value) := fun _ => rfl
theorem tempHoldExpiry (n : CellId) : Statement (.tempHoldExpiry n) := fun _ => rfl
theorem markEdge (m : Fin 4) (rising : Bool) (age : Fin 2001) : Statement (.markEdge m rising age) := fun _ => rfl
theorem govLatchClear (who : Sender) : Statement (.govLatchClear who) := fun _ => rfl
theorem ttsMinReset (who : Sender) : Statement (.ttsMinReset who) := fun _ => rfl
theorem dsFrameSend (n : CellId) : Statement (.dsFrameSend n) := fun _ => rfl
theorem frameReceive (n : CellId) (wire : List Bool) (stamp : Nat) : Statement (.frameReceive n wire stamp) := fun _ => rfl
theorem replayTimeout (n : CellId) : Statement (.replayTimeout n) := fun _ => rfl
theorem ackTimer (n : CellId) : Statement (.ackTimer n) := fun _ => rfl
theorem ocAdjust (n : CellId) : Statement (.ocAdjust n) := fun _ => rfl
theorem eyeScanStart (who : Sender) (n : CellId) : Statement (.eyeScanStart who n) := fun _ => rfl
theorem eyeScanDone (n : CellId) (pts : EyePoints) : Statement (.eyeScanDone n pts) := fun h => nomatch h
theorem eyeAutoSweep (n : CellId) : Statement (.eyeAutoSweep n) := fun _ => rfl
theorem dozeEntry (n : CellId) : Statement (.dozeEntry n) := fun _ => rfl
theorem sleepEntry (n : CellId) (up : Bool) : Statement (.sleepEntry n up) := fun _ => rfl
theorem wake (n : CellId) : Statement (.wake n) := fun _ => rfl
theorem squelchAssert (n : CellId) : Statement (.squelchAssert n) := fun _ => rfl
theorem falseWakeTimeout (n : CellId) : Statement (.falseWakeTimeout n) := fun _ => rfl
theorem lossOfSignal (n : CellId) : Statement (.lossOfSignal n) := fun _ => rfl
theorem laneEnable (who : Sender) (n : CellId) : Statement (.laneEnable who n) := fun _ => rfl
theorem laneDisable (who : Sender) (n : CellId) : Statement (.laneDisable who n) := fun _ => rfl
theorem timeSyncSend (n : CellId) : Statement (.timeSyncSend n) := fun _ => rfl
theorem timeReplyTimeout (n : CellId) : Statement (.timeReplyTimeout n) := fun _ => rfl
theorem lockLossTimeout (n : CellId) : Statement (.lockLossTimeout n) := fun _ => rfl
theorem retrain (who : Sender) (n : CellId) : Statement (.retrain who n) := fun _ => rfl
theorem rateChangeTimeout (n : CellId) : Statement (.rateChangeTimeout n) := fun _ => rfl
theorem trainTimeout (n : CellId) : Statement (.trainTimeout n) := fun _ => rfl
theorem retrainDelayExpiry (n : CellId) : Statement (.retrainDelayExpiry n) := fun _ => rfl
theorem authVerifyDone (n : CellId) : Statement (.authVerifyDone n) := fun _ => rfl
theorem authTimeout (n : CellId) : Statement (.authTimeout n) := fun _ => rfl
theorem ident (who : Sender) (n : CellId) (arg : BitVec 224) : Statement (.ident who n arg) := fun _ => rfl
theorem ping (who : Sender) (n : CellId) (arg : BitVec 224) : Statement (.ping who n arg) := fun _ => rfl
theorem trimSelect (who : Sender) (n : CellId) (arg : BitVec 224) : Statement (.trimSelect who n arg) := fun _ => rfl
theorem levelMap (who : Sender) (n : CellId) (arg : BitVec 224) : Statement (.levelMap who n arg) := fun _ => rfl
theorem sense (who : Sender) (n : CellId) (arg : BitVec 224) : Statement (.sense who n arg) := fun _ => rfl
theorem heater (who : Sender) (n : CellId) (arg : BitVec 224) : Statement (.heater who n arg) := fun _ => rfl
theorem headDefinedCmd (who : Sender) (n : CellId) (op : Fin 64) (arg : BitVec 224) : Statement (.headDefinedCmd who n op arg) := fun _ => rfl
theorem mailboxRefused (who : Sender) (n : CellId) (op : BitVec 8) (arg : BitVec 224) : Statement (.mailboxRefused who n op arg) := fun _ => rfl
theorem cmdTimeout (n : CellId) (cid : BitVec 16) : Statement (.cmdTimeout n cid) := fun _ => rfl
theorem upwr (n : CellId) (wake : Bool) : Statement (.upwr n wake) := fun _ => rfl
theorem tlmGap (n : CellId) : Statement (.tlmGap n) := fun _ => rfl
theorem observerSample (input : EncId) (b : EncBalls) : Statement (.observerSample input b) := fun _ => rfl
theorem disturbFault (input : EncId) : Statement (.disturbFault input) := fun _ => rfl
theorem wireFault (input : EncId) : Statement (.wireFault input) := fun _ => rfl
theorem amplFault (input : EncId) : Statement (.amplFault input) := fun _ => rfl
theorem coastFault (input : EncId) : Statement (.coastFault input) := fun _ => rfl
theorem pwrFault (input : EncId) : Statement (.pwrFault input) := fun _ => rfl
theorem pwrSettleExpiry (input : EncId) : Statement (.pwrSettleExpiry input) := fun _ => rfl
theorem missingIndex (input : EncId) : Statement (.missingIndex input) := fun _ => rfl
theorem acquisitionEnd (input : EncId) : Statement (.acquisitionEnd input) := fun _ => rfl
theorem encRestart (who : Sender) (input : EncId) : Statement (.encRestart who input) := fun _ => rfl
theorem encEnable (who : Sender) (input : EncId) : Statement (.encEnable who input) := fun _ => rfl
theorem encDisable (who : Sender) (input : EncId) (pwr : Bool) : Statement (.encDisable who input pwr) := fun _ => rfl
theorem dualEnable (who : Sender) (p : PairId) (on : Bool) : Statement (.dualEnable who p on) := fun _ => rfl
theorem dualMismatch (p : PairId) : Statement (.dualMismatch p) := fun _ => rfl
theorem dualRearm (who : Sender) (p : PairId) : Statement (.dualRearm who p) := fun _ => rfl
theorem virtualLoad (who : Sender) : Statement (.virtualLoad who) := fun _ => rfl
theorem calTempCheck (input : EncId) (temp : BitVec 16) : Statement (.calTempCheck input temp) := fun _ => rfl
theorem calStart (who : Sender) (input : EncId) : Statement (.calStart who input) := fun _ => rfl
theorem calTrimEnd (input : EncId) (zs : BitVec 16) (zc : BitVec 16) (ds : Fin 65536) (dc : Fin 65536) : Statement (.calTrimEnd input zs zc ds dc) := fun _ => rfl
theorem calAccumulateEnd (input : EncId) : Statement (.calAccumulateEnd input) := fun _ => rfl
theorem calApply (input : EncId) : Statement (.calApply input) := fun _ => rfl
theorem calTimeout (input : EncId) : Statement (.calTimeout input) := fun _ => rfl
theorem calLoad (who : Sender) (input : EncId) : Statement (.calLoad who input) := fun _ => rfl
theorem axisLoadTable (n : CellId) (result : ReadResult) : Statement (.axisLoadTable n result) := fun _ => rfl
theorem axisStart (via : AxisVia) : Statement (.axisStart via) := fun _ => rfl
theorem axisStop (via : AxisVia) : Statement (.axisStop via) := fun _ => rfl
theorem axisResume (via : AxisVia) : Statement (.axisResume via) := fun _ => rfl
theorem axisHome (via : AxisVia) : Statement (.axisHome via) := fun _ => rfl
theorem axisEnable (via : AxisVia) : Statement (.axisEnable via) := fun _ => rfl
theorem axisDisable (via : AxisVia) : Statement (.axisDisable via) := fun _ => rfl
theorem tblCommit (who : Sender) (a : AxisId) (value : Word) : Statement (.tblCommit who a value) := fun _ => rfl
theorem posLoad (who : Sender) (a : AxisId) : Statement (.posLoad who a) := fun _ => rfl
theorem axisTick (a : AxisId) : Statement (.axisTick a) := fun _ => rfl
theorem axisAtRest (a : AxisId) : Statement (.axisAtRest a) := fun _ => rfl
theorem moveEnd (a : AxisId) : Statement (.moveEnd a) := fun _ => rfl
theorem lambPeriod (a : AxisId) (ia ib : BitVec 12) : Statement (.lambPeriod a ia ib) := fun _ => rfl
theorem chopWindow (a : AxisId) (f : Fin 256) : Statement (.chopWindow a f) := fun _ => rfl
theorem overcurrent (a : CoilSamples) : Statement (.overcurrent a) := fun _ => rfl
theorem limitChange (a : AxisId) (input : AxisInput) (high : Bool) (age : Fin 65537) : Statement (.limitChange a input high age) := fun _ => rfl
theorem homeTimeout (a : AxisId) : Statement (.homeTimeout a) := fun _ => rfl
theorem holdDelayExpiry (a : AxisId) : Statement (.holdDelayExpiry a) := fun _ => rfl
theorem bridgeReleaseTimer (a : AxisId) : Statement (.bridgeReleaseTimer a) := fun _ => rfl
theorem loopEnable (who : Sender) (slot : SlotId) : Statement (.loopEnable who slot) := fun _ => rfl
theorem loopDisable (who : Sender) (slot : SlotId) : Statement (.loopDisable who slot) := fun _ => rfl
theorem loopCommit (who : Sender) (slot : SlotId) : Statement (.loopCommit who slot) := fun _ => rfl
theorem loopInputFault (slot : SlotId) : Statement (.loopInputFault slot) := fun _ => rfl
theorem loopFeFault (slot : SlotId) : Statement (.loopFeFault slot) := fun _ => rfl
theorem auxPwmPeriod (k : Fin 16) : Statement (.auxPwmPeriod k) := fun _ => rfl
theorem ainConvert (k : Fin 16) (code : BitVec 12) : Statement (.ainConvert k code) := fun _ => rfl
theorem csiPacket (port : PipeId) (vc : Fin 16) (pkt : CsiPacket) (corrected : Bool) (sot : Bool) (held : CsiHeld) : Statement (.csiPacket port vc pkt corrected sot held) := fun h => nomatch h
theorem inspEnable (who : Sender) (p : PipeId) (on : Bool) : Statement (.inspEnable who p on) := fun _ => rfl
theorem cciAck (m : PipeId) : Statement (.cciAck m) := fun _ => rfl
theorem cciFail (m : CciFailure) : Statement (.cciFail m) := fun _ => rfl
theorem cciMailbox (who : Sender) (m : PipeId) : Statement (.cciMailbox who m) := fun _ => rfl
theorem inspEccError (p : PipeId) (uncorr : Bool) : Statement (.inspEccError p uncorr) := fun _ => rfl
theorem ladderAnalysed (p : PipeId) : Statement (.ladderAnalysed p) := fun _ => rfl
theorem nhApply (who : Sender) (n : CellId) : Statement (.nhApply who n) := fun _ => rfl
theorem nhClear (who : Sender) (n : CellId) : Statement (.nhClear who n) := fun _ => rfl
theorem vetoHoldExpiry (n : CellId) : Statement (.vetoHoldExpiry n) := fun _ => rfl
theorem nhVeto (who : Sender) (n : CellId) (value : BitVec 16) : Statement (.nhVeto who n value) := fun _ => rfl
theorem policyWrite (n : CellId) (ecc : Option Bool) : Statement (.policyWrite n ecc) := fun _ => rfl
theorem setGo (who : Sender) : Statement (.setGo who) := fun _ => rfl
theorem adjGo (who : Sender) : Statement (.adjGo who) := fun _ => rfl
theorem adjCancel (who : Sender) : Statement (.adjCancel who) := fun _ => rfl
theorem netFrameReceive (k : NetId) (bytes : List Byte) (fcsOk : Bool) : Statement (.netFrameReceive k bytes fcsOk) := fun _ => rfl
theorem netLinkLoss (k : NetId) : Statement (.netLinkLoss k) := fun _ => rfl
theorem ppsInEdge (age : Fin 2001) : Statement (.ppsInEdge age) := fun _ => rfl
theorem unwrap (who : Sender) (k : CtxId) : Statement (.unwrap who k) := fun _ => rfl
theorem unwrapDone (k : CtxId) (result : ReadResult) (ecc : Option Bool) : Statement (.unwrapDone k result ecc) := fun _ => rfl
theorem unwrapHoldExpiry (k : CtxId) : Statement (.unwrapHoldExpiry k) := fun _ => rfl
theorem clearSlot (who : Sender) (k : CtxId) (slot : Fin 64) : Statement (.clearSlot who k slot) := fun _ => rfl
theorem attest (who : Sender) (k : CtxId) : Statement (.attest who k) := fun _ => rfl
theorem attestDone (k : CtxId) (result : ReadResult) : Statement (.attestDone k result) := fun _ => rfl
theorem keyExpiry (slot : Fin 64) : Statement (.keyExpiry slot) := fun _ => rfl
theorem rollback (who : Sender) (target : BitVec 7) : Statement (.rollback who target) := fun _ => rfl
theorem rollbackDone (otpErr : Option (BitVec 16)) : Statement (.rollbackDone otpErr) := fun _ => rfl
theorem revoke (who : Sender) (req : BitVec 4) : Statement (.revoke who req) := fun _ => rfl
theorem debugToken (who : Sender) : Statement (.debugToken who) := fun _ => rfl
theorem relock (who : Sender) : Statement (.relock who) := fun _ => rfl
theorem ownerProg (who : Sender) : Statement (.ownerProg who) := fun _ => rfl
theorem tamper (cause : Fin 6) : Statement (.tamper cause) := fun _ => rfl
theorem safeRelArm (who : Sender) (alive : Bool) : Statement (.safeRelArm who alive) := fun _ => rfl
theorem safeRelGo (who : Sender) : Statement (.safeRelGo who) := fun _ => rfl
theorem safeRelSelftestDone (pass : Bool) : Statement (.safeRelSelftestDone pass) := fun _ => rfl
theorem faultInject (who : Sender) : Statement (.faultInject who) := fun _ => rfl
theorem armAny (who : Sender) : Statement (.armAny who) := fun _ => rfl
theorem armReal (who : Sender) : Statement (.armReal who) := fun _ => rfl
theorem clrCnt (who : Sender) : Statement (.clrCnt who) := fun _ => rfl
theorem gooseScrub (ok : Bool) : Statement (.gooseScrub ok) := fun _ => rfl
theorem heartbeatLoss (unit : HbUnit) : Statement (.heartbeatLoss unit) := fun _ => rfl
theorem controlCycle (healthA : Bool) (healthB : Bool) : Statement (.controlCycle healthA healthB) := fun _ => rfl
theorem stateCopy (good : Bool) : Statement (.stateCopy good) := fun _ => rfl
theorem beatWindow (mailbox : Option Word) (board : Option Word) (coop : Bool) (standby : Bool) : Statement (.beatWindow mailbox board coop standby) := fun _ => rfl
theorem arbGntChange (a : Bool) (b : Bool) : Statement (.arbGntChange a b) := fun _ => rfl
theorem takeoverComplete (us : BitVec 24) (ckptOk : Bool) : Statement (.takeoverComplete us ckptOk) := fun _ => rfl
theorem checkpoint (ok : Bool) : Statement (.checkpoint ok) := fun _ => rfl
theorem repairSelftestDone (core : YokeCore) (pass : Bool) : Statement (.repairSelftestDone core pass) := fun _ => rfl
theorem repairSyncDone (core : YokeCore) (pass : Bool) : Statement (.repairSyncDone core pass) := fun _ => rfl
theorem switchCore (who : Sender) : Statement (.switchCore who) := fun _ => rfl
theorem supplyExcursion (rail : Fin 9) (mv : BitVec 16) : Statement (.supplyExcursion rail mv) := fun _ => rfl
theorem pmbusPoll (replies : List RegReply) : Statement (.pmbusPoll replies) := fun h => nomatch h
theorem pmbusAlert (seg : Bool) (reply : Option RegReply) : Statement (.pmbusAlert seg reply) := fun _ => rfl
theorem pmbusMailbox (who : Sender) : Statement (.pmbusMailbox who) := fun _ => rfl
theorem sequencerStep (mv : BitVec 16) : Statement (.sequencerStep mv) := fun _ => rfl
theorem sequenceDown (who : Sender) : Statement (.sequenceDown who) := fun _ => rfl
theorem thermRead (temps : Vector (BitVec 16) 16) : Statement (.thermRead temps) := fun _ => rfl
theorem coopSelfFail (cause : Fin 3) : Statement (.coopSelfFail cause) := fun _ => rfl
theorem gate (who : Sender) (hi : Bool) (value : Word) : Statement (.gate who hi value) := fun _ => rfl
theorem headPwr (who : Sender) (value : BitVec 8) : Statement (.headPwr who value) := fun _ => rfl
theorem referenceLoss (present : Bool) : Statement (.referenceLoss present) := fun _ => rfl
theorem coopResetRelease (table : List Byte) : Statement (.coopResetRelease table) := fun _ => rfl
theorem coreResetRelease (mode : BitVec 2) : Statement (.coreResetRelease mode) := fun _ => rfl
theorem bootComplete (slotA : Option Image) (slotB : Option Image) (matchB : Bool) : Statement (.bootComplete slotA slotB matchB) := fun h => nomatch h
theorem memTrainDone (channels : BitVec 4) (gib : BitVec 5) : Statement (.memTrainDone channels gib) := fun _ => rfl
theorem sysInitDone (ok : Bool) : Statement (.sysInitDone ok) := fun _ => rfl
theorem cellTestDone (engine : BitVec 64) (memory : BitVec 64) : Statement (.cellTestDone engine memory) := fun _ => rfl
theorem ledgerRestore (flashKiB : BitVec 20) (slots : List (Fin 30 × List Byte)) (readErr : Bool) : Statement (.ledgerRestore flashKiB slots readErr) := fun h => nomatch h
theorem hostReady (ms : BitVec 16) : Statement (.hostReady ms) := fun _ => rfl
theorem discoveryNoSignal (n : CellId) : Statement (.discoveryNoSignal n) := fun _ => rfl
theorem resetN (table : List Byte) : Statement (.resetN table) := fun _ => rfl
theorem rstKey (who : Sender) (table : List Byte) : Statement (.rstKey who table) := fun _ => rfl
theorem blkRst (who : Sender) (value : Word) : Statement (.blkRst who value) := fun _ => rfl
theorem flush (who : Sender) : Statement (.flush who) := fun _ => rfl
theorem flushDone (ok : Bool) : Statement (.flushDone ok) := fun _ => rfl
theorem ledgerExport (who : Sender) : Statement (.ledgerExport who) := fun _ => rfl
theorem dropRestoreDone (slots : List (BitVec 8 × List Byte)) (readErr : Bool) : Statement (.dropRestoreDone slots readErr) := fun h => nomatch h
theorem portLinkDown (p : PortId) : Statement (.portLinkDown p) := fun _ => rfl
theorem portLinkUp (p : PortId) (width : Fin 9) (rate : Fin 6) (sris : Bool) : Statement (.portLinkUp p width rate sris) := fun _ => rfl
theorem aspmL1Entry (p : PortId) : Statement (.aspmL1Entry p) := fun _ => rfl
theorem netLinkUp (k : NetId) : Statement (.netLinkUp k) := fun _ => rfl
theorem ptpMessageDue (k : NetId) (kind : Fin 3) : Statement (.ptpMessageDue k kind) := fun _ => rfl
theorem supplyInRange (rail : Fin 9) (mv : BitVec 16) : Statement (.supplyInRange rail mv) := fun _ => rfl
theorem bootFail (slotA : Option Image) (slotB : Option Image) : Statement (.bootFail slotA slotB) := fun h => nomatch h
theorem maploadWriteDone (n : CellId) : Statement (.maploadWriteDone n) := fun _ => rfl
theorem policyWriteDone (n : CellId) : Statement (.policyWriteDone n) := fun _ => rfl
theorem chopperCompare (a : AxisId) (coilB : Bool) (microvolts : Int) : Statement (.chopperCompare a coilB microvolts) := fun _ => rfl
theorem cciMailboxDone (m : PipeId) (nack : Bool) (lowUs : Fin 65536) (data : Word) : Statement (.cciMailboxDone m nack lowUs data) := fun _ => rfl
theorem pmbusMailboxDone (nack : Bool) (pecErr : Bool) (data : Word) : Statement (.pmbusMailboxDone nack pecErr data) := fun _ => rfl
theorem pllLockTimeout (present : Bool) : Statement (.pllLockTimeout present) := fun _ => rfl
theorem boundaryScan (drive : Bool) : Statement (.boundaryScan drive) := fun _ => rfl
theorem stopFireFall : Statement .stopFireFall := fun _ => rfl
theorem stopFireRise : Statement .stopFireRise := fun _ => rfl
theorem stopFireClear : Statement .stopFireClear := fun _ => rfl
theorem govUpdate : Statement .govUpdate := fun _ => rfl
theorem slowReqPeriod : Statement .slowReqPeriod := fun _ => rfl
theorem speedFramePeriodic : Statement .speedFramePeriodic := fun _ => rfl
theorem speedFrameEvent : Statement .speedFrameEvent := fun _ => rfl
theorem virtualStep : Statement .virtualStep := fun _ => rfl
theorem loopTick : Statement .loopTick := fun _ => rfl
theorem domainTriggerPresent : Statement .domainTriggerPresent := fun _ => rfl
theorem holdoverExpiry : Statement .holdoverExpiry := fun _ => rfl
theorem ppsInMissing : Statement .ppsInMissing := fun _ => rfl
theorem ppsOutRise : Statement .ppsOutRise := fun _ => rfl
theorem ppsOutFall : Statement .ppsOutFall := fun _ => rfl
theorem faultReport : Statement .faultReport := fun _ => rfl
theorem safeRelArmTimeout : Statement .safeRelArmTimeout := fun _ => rfl
theorem gooseSelfFail : Statement .gooseSelfFail := fun _ => rfl
theorem resign : Statement .resign := fun _ => rfl
theorem arbTimeout : Statement .arbTimeout := fun _ => rfl
theorem sequencerWaitExpiry : Statement .sequencerWaitExpiry := fun _ => rfl
theorem arbAliveToggle : Statement .arbAliveToggle := fun _ => rfl
theorem vsafeRise : Statement .vsafeRise := fun _ => rfl
theorem vsafeLoss : Statement .vsafeLoss := fun _ => rfl
theorem powerCycle : Statement .powerCycle := fun _ => rfl
theorem pllLock : Statement .pllLock := fun _ => rfl
theorem memInitDone : Statement .memInitDone := fun _ => rfl
theorem discoveryDone : Statement .discoveryDone := fun _ => rfl
theorem tapReset : Statement .tapReset := fun _ => rfl
theorem ledgerSecond : Statement .ledgerSecond := fun _ => rfl
theorem ptpMasterLost : Statement .ptpMasterLost := fun _ => rfl
theorem slewEnd : Statement .slewEnd := fun _ => rfl
theorem exportDone : Statement .exportDone := fun _ => rfl

end Sys2Proof.Laws.Operands
end

