-- ==== Sys2Proof/Machine/Pins.lean ====
section
/-!
DEFINITION. The balls of the package (spec/23 R566 to R570) and the pulls of the balls (R575). Nothing here is state: the block's own
pins are fields of State, under the names of the rules that drive or read them.
-/
namespace Sys2Proof.Machine

/-- The letters of one round of row names: I, O, Q, R, S, X and Z are skipped (spec/00, the table of names of things with numbers). -/
def rowLetters : List Char :=
  ['A', 'B', 'C', 'D', 'E', 'F', 'G', 'H', 'J', 'K', 'L', 'M', 'N', 'P', 'T', 'U', 'V', 'W', 'Y']

/-- The name of row index `r`, 1 to 46: A to Y, then AA to AY, then BA to BH. -/
def rowName (r : Nat) : List Char :=
  let one := (rowLetters[(r - 1) % 19]?).toList
  if r ≤ 19 then one else if r ≤ 38 then 'A' :: one else 'B' :: one

/-- A ball of the grid: row index and column, both 1 to 46 (R565). -/
structure Ball where
  row : Nat
  col : Nat
  deriving DecidableEq, Repr

/-- The four balls of a Mirold Link lane, in the order of R567. -/
inductive LaneBall
  | txp
  | txn
  | rxp
  | rxn
  deriving DecidableEq, Repr

/-- Where a ball of lane `n` lies (R567): TX in rows B, D, F, H, K, RX in rows BG, BE, BC, BA, AW, 15 lanes a row. -/
def laneBall (n : Nat) (b : LaneBall) : Ball :=
  let k := n / 15
  let j := n % 15
  let tx := 2 * (k + 1)
  match b with
  | .txp => ⟨tx, 3 * j + 1⟩
  | .txn => ⟨tx, 3 * j + 2⟩
  | .rxp => ⟨47 - tx, 3 * j + 1⟩
  | .rxn => ⟨47 - tx, 3 * j + 2⟩

/-- The groups of the two strips (R568). -/
inductive PinGroup
  | hostPort (i : Nat)
  | ethernet
  | refClock
  | ddr (c : Nat)
  | qspi
  | pmbus
  | pps
  | jtag
  | resetMode
  | camera (m : Nat)
  | safety
  | mark
  | encoder (i : Nat)
  | axis (a : Nat)
  | auxIn
  | auxPwm
  | gpio
  deriving DecidableEq, Repr

/-- A group's strip, its first position and how many positions it takes (R568, R569). -/
def PinGroup.place : PinGroup → Bool × Nat × Nat
  | .hostPort i => (true, 37 * i, 37)
  | .ethernet => (true, 74, 10)
  | .refClock => (true, 84, 3)
  | .ddr c => (true, 87 + 36 * c, 36)
  | .qspi => (true, 231, 6)
  | .pmbus => (true, 237, 6)
  | .pps => (true, 243, 2)
  | .jtag => (true, 245, 5)
  | .resetMode => (true, 250, 5)
  | .camera m => (false, 12 * m, 12)
  | .safety => (false, 48, 26)
  | .mark => (false, 74, 4)
  | .encoder i => (false, 78 + 8 * i, 8)
  | .axis a => (false, 110 + 12 * a, 12)
  | .auxIn => (false, 206, 16)
  | .auxPwm => (false, 222, 16)
  | .gpio => (false, 238, 16)

/-- The ball of position `p` of a strip (R568): eleven a row from row M, from the package edge inward. -/
def stripBall (left : Bool) (p : Nat) : Ball :=
  ⟨12 + p / 11, if left then 1 + p % 11 else 46 - p % 11⟩

/-- The ball of the signal at offset `off` of a group (R569). -/
def PinGroup.ball (g : PinGroup) (off : Nat) : Ball := stripBall g.place.1 (g.place.2.1 + off)

/-- Every group, in the order of R568. -/
def pinGroups : List PinGroup :=
  [.hostPort 0, .hostPort 1, .ethernet, .refClock, .ddr 0, .ddr 1, .ddr 2, .ddr 3, .qspi, .pmbus, .pps, .jtag, .resetMode,
   .camera 0, .camera 1, .camera 2, .camera 3, .safety, .mark, .encoder 0, .encoder 1, .encoder 2, .encoder 3,
   .axis 0, .axis 1, .axis 2, .axis 3, .axis 4, .axis 5, .axis 6, .axis 7, .auxIn, .auxPwm, .gpio]

/-- The signals of a group in the order of their offsets (R569), without the prefix that names the group's number; a signal of a differential
pair ends in P or N, T or C. -/
def PinGroup.signals : PinGroup → List String
  | .hostPort _ =>
    ["TX0_P", "TX0_N", "RX0_P", "RX0_N", "TX1_P", "TX1_N", "RX1_P", "RX1_N", "TX2_P", "TX2_N", "RX2_P", "RX2_N", "TX3_P", "TX3_N", "RX3_P",
     "RX3_N"] ++
    ["TX4_P", "TX4_N", "RX4_P", "RX4_N", "TX5_P", "TX5_N", "RX5_P", "RX5_N", "TX6_P", "TX6_N", "RX6_P", "RX6_N", "TX7_P", "TX7_N", "RX7_P",
     "RX7_N"] ++
    ["REFCLK_P", "REFCLK_N", "PERST_N", "CLKREQ_N", "WAKE_N"]
  | .ethernet => ["NET0_TXP", "NET0_TXN", "NET0_RXP", "NET0_RXN", "NET1_TXP", "NET1_TXN", "NET1_RXP", "NET1_RXN", "NET_REFCLK_P", "NET_REFCLK_N"]
  | .refClock => ["REFCLK_P", "REFCLK_N", "CLK_OBS"]
  | .ddr _ =>
    ["DQ0", "DQ1", "DQ2", "DQ3", "DQ4", "DQ5", "DQ6", "DQ7", "DQ8", "DQ9", "DQ10", "DQ11", "DQ12", "DQ13", "DQ14", "DQ15"] ++
    ["DMI0", "DMI1", "RDQS0_T", "RDQS0_C", "RDQS1_T", "RDQS1_C", "WCK0_T", "WCK0_C", "WCK1_T", "WCK1_C", "CK_T", "CK_C"] ++
    ["CA0", "CA1", "CA2", "CA3", "CA4", "CA5", "CA6", "CS"]
  | .qspi => ["SCK", "CS_N", "IO0", "IO1", "IO2", "IO3"]
  | .pmbus => ["PMB0_SCL", "PMB0_SDA", "PMB0_ALERT_N", "PMB1_SCL", "PMB1_SDA", "PMB1_ALERT_N"]
  | .pps => ["PPS_IN", "PPS_OUT"]
  | .jtag => ["TCK", "TMS", "TDI", "TDO", "TRST_N"]
  | .resetMode => ["RESET_N", "RESET_OUT_N", "MODE0", "MODE1", "DDR_RESET_N"]
  | .camera _ => ["CK_P", "CK_N", "D0_P", "D0_N", "D1_P", "D1_N", "D2_P", "D2_N", "D3_P", "D3_N", "CCI_SCL", "CCI_SDA"]
  | .safety =>
    ["STOP_FIRE_N", "FIRE_EN0", "FIRE_EN1", "FIRE_EN2", "FIRE_EN3", "FIRE_EN4", "FIRE_EN5", "FIRE_EN6", "FIRE_EN7"] ++
    ["HEAD_PWR_EN0", "HEAD_PWR_EN1", "HEAD_PWR_EN2", "HEAD_PWR_EN3", "HEAD_PWR_EN4", "HEAD_PWR_EN5", "HEAD_PWR_EN6", "HEAD_PWR_EN7"] ++
    ["SAFE_N", "SLOW_REQ", "STOP_REQ", "ARB_REQ", "ARB_GNT_A", "ARB_GNT_B", "ARB_ALIVE", "HB_OUT", "HB_IN"]
  | .mark => ["MARK0", "MARK1", "MARK2", "MARK3"]
  | .encoder _ => ["SIN_P", "SIN_N", "COS_P", "COS_N", "IDX_P", "IDX_N", "PWR_EN", "PWR_FLT_N"]
  | .axis _ => ["PWM_A1", "PWM_A2", "PWM_B1", "PWM_B2", "ISA_P", "ISA_N", "ISB_P", "ISB_N", "LIM_P", "LIM_N", "HOME", "BRAKE_N"]
  | .auxIn => (List.range 16).map (fun k => "AUX_AIN" ++ toString k)
  | .auxPwm => (List.range 16).map (fun k => "AUX_PWM" ++ toString k)
  | .gpio => (List.range 16).map (fun k => "GPIO" ++ toString k)

/-- The nets of the balls (R566 to R570). -/
inductive Net
  | vss
  | vddCore
  | vddSrd
  | vddSrdh
  | vddDdr
  | vddqDdr
  | vddIo18
  | vddaEnc
  | vsafeA
  | vsafeB
  | lane (n : Nat) (b : LaneBall)
  | signal (g : PinGroup) (off : Nat)
  deriving DecidableEq, Repr

/-- The net of position `p` of a strip: a position that no group uses is VSS (R568). -/
def stripNet (left : Bool) (p : Nat) : Net :=
  match pinGroups.find? (fun g => g.place.1 == left && g.place.2.1 ≤ p && p < g.place.2.1 + g.place.2.2) with
  | some g => .signal g (p - g.place.2.1)
  | none => .vss

/-- The net of a ball of the middle rows M to AU, columns 12 to 35 (R570). -/
def supplyNet (b : Ball) : Net :=
  if 14 ≤ b.col && b.col ≤ 33 then (if (b.row + b.col) % 2 == 0 then .vddCore else .vss)
  else if b.col ≤ 13 then
    let first := b.col == 12
    if b.row ≤ 18 then (if first then .vddSrd else .vddSrdh)
    else if b.row ≤ 32 then (if first then .vddDdr else .vddqDdr)
    else (if first then .vsafeA else .vsafeB)
  else
    let first := b.col == 34
    if b.row ≤ 16 then (if first then .vddSrdh else .vddIo18)
    else if b.row ≤ 18 then (if first then .vsafeA else .vsafeB)
    else if b.row ≤ 21 then .vddaEnc
    else if b.row ≤ 32 then (if first then .vddIo18 else .vddaEnc)
    else .vddIo18

/-- The net of a ball of the downstream or upstream region (R567): the lanes' rows, VDD_SRD and VDD_SRDH in rows L and AV, else VSS. -/
def linkNet (b : Ball) : Net :=
  let tx := b.row ≤ 11
  let r := if tx then b.row else 47 - b.row
  if r == 11 then (if b.col % 2 == 1 then .vddSrd else .vddSrdh)
  else if r % 2 == 1 || b.col % 3 == 0 then .vss
  else
    let n := 15 * (r / 2 - 1) + (b.col - 1) / 3
    if 64 ≤ n || 45 < b.col then .vss
    else .lane n (if b.col % 3 == 1 then (if tx then .txp else .rxp) else (if tx then .txn else .rxn))

/-- The net of a ball: every ball belongs to exactly one region (R566). -/
def Ball.net (b : Ball) : Net :=
  if b.row ≤ 11 || 36 ≤ b.row then linkNet b
  else if b.col ≤ 11 then stripNet true (11 * (b.row - 12) + (b.col - 1))
  else if 36 ≤ b.col then stripNet false (11 * (b.row - 12) + (46 - b.col))
  else supplyNet b

/-- The level that a ball's internal pull gives it while nothing drives it and its bank is powered; none where it has no pull (R575). -/
def pull : PinGroup → Nat → Option Bool
  | .safety, off => if off == 0 || off == 21 || off == 22 || off == 25 then some false else none
  | .resetMode, off => if off == 2 || off == 3 then some false else if off == 0 then some true else none
  | .jtag, off => if off == 0 || off == 4 then some false else if off == 1 || off == 2 then some true else none
  | .mark, _ => some false
  | .pps, off => if off == 0 then some false else none
  | .qspi, off => if off == 1 then some true else none
  | .axis _, off => if off == 8 || off == 9 || off == 10 then some true else none
  | .encoder _, off => if off == 7 then some true else none
  | .pmbus, off => if off == 2 || off == 5 then some true else none
  | _, _ => none

end Sys2Proof.Machine
end

