-- ==== Sys2Proof/Tests/Slice0.lean ====
section
/-!
SUPPORT. The smoke test of the well-formedness checks, and witnesses: for each statement of Certificates/Slice0/Obligations.lean, concrete
states and operands that meet the hypotheses of its clauses, with what the command then does where the spec gives it. A clause whose only
hypothesis is that a free cryptographic check passes has no closed witness; its other branch has.
-/
namespace Sys2Proof.Tests

open Sys2Proof Sys2Proof.Machine Sys2Proof.Safety

/-! ## Small states -/

/-- A running device out of its core reset with some register fields set. -/
def st (fs : List (Fld × Nat)) : State :=
  fs.foldl (fun s e => s.wr e.1 e.2)
    { State.reset with
      stopFireN := true, stopFireLatch := false,
      coop := { Coop.reset with running := true, hold := false, coreReset := false, pllOn := true } }

/-- The same with the host interface ready, both ports up, discovery over, and contexts 1 and 2 with Bus Master Enable. -/
def live (fs : List (Fld × Nat)) : State :=
  ((st ([(GLOBAL_READY_SEQ, 1), (GLOBAL_READY_PLL, 1), (GLOBAL_READY_BOOT, 1), (GLOBAL_READY_HOST, 1), (GLOBAL_READY_DISC, 1),
    (HOST_PORT_PERST 0, 0), (HOST_PORT_PERST 1, 0), (HOST_PORT_UP 0, 1), (HOST_PORT_UP 1, 1)] ++ fs)).updCtx 1
    (fun c => { c with busMaster := true })).updCtx 2 (fun c => { c with busMaster := true, fn := { c.fn with msixOn := true } })

/-- A command answers a next state with a property. -/
def ok (c : Instr) (s : State) (p : State → Bool) : Bool :=
  match exec c s with
  | .next t => p t
  | _ => false

/-- A command answers exactly a state. -/
def gives (c : Instr) (s t : State) : Bool := ok c s (fun u => u == t)

/-- A step answers exactly a state. -/
def stepGives (s t : State) : Bool :=
  match step s with
  | .next u => u == t
  | _ => false

/-- A descriptor of 32 bytes from its first ones. -/
def desc (idx : Nat) (phase : DescPhase) (bs : List Byte) : Desc := ⟨idx, (bs ++ List.replicate 32 0).take 32, phase, 0⟩

/-- A ring that has been taken, with descriptors in it. -/
def ringOf (fetch pi : Nat) (ds : List Desc) : Ring := { Ring.reset with known := true, fetch := fetch, pi := pi, held := ds }

/-! ## The step -/

theorem test_step_runs_front : step { State.reset with pending := [.stopFireFall, .govUpdate] } = exec .stopFireFall { State.reset with pending := [.govUpdate] } := by
  rfl

theorem test_idle_step : (live []).pending = [] ∧ (live []).on TIME_STAT_RUNNING = false ∧ stepGives (live []) (live []) := by decide

theorem test_idle_step_ticks : let s := live [(TIME_STAT_RUNNING, 1), (TIME_RATE_LIM, 500)]
    s.pending = [] ∧ s.on TIME_STAT_RUNNING = true ∧ s.time.step = none ∧ s.time.adj = 0 ∧
    -(((max 1 (s.rd TIME_RATE_LIM) * 2 ^ 33 : Nat) : Int) / 1000000) ≤ s.rdS TIME_INCR_OFF ∧
    s.rdS TIME_INCR_OFF ≤ ((max 1 (s.rd TIME_RATE_LIM) * 2 ^ 33 : Nat) : Int) / 1000000 := by decide

/-! ## The fabric, contexts and rings -/

theorem test_write_of_a_field_drop_and_hold :
    writeOf (.ledgerExport (.ctx 0)) = some (.ctx 0, LEDGER_CTL_EXPORT, 1) ∧
    (let s := live [(YOKE_STAT_HOLDING, 1)]
     s.gateWrite (.ctx 0) LEDGER_CTL_EXPORT.addr 4 = .hold ∧
     gives (.ledgerExport (.ctx 0)) s { s with heldWrites := [⟨.ctx 0, LEDGER_CTL_EXPORT.addr, LEDGER_CTL_EXPORT.lo, 1⟩] }) ∧
    (let s := st []
     s.gateWrite (.ctx 0) LEDGER_CTL_EXPORT.addr 4 = .drop s ∧ gives (.ledgerExport (.ctx 0)) s s) := by decide

theorem test_context_write_passes :
    decodeAddr (CELL_CTL_EN 5).addr = some (.cell 5, (CELL_CTL_EN 5).addr % 0x10000) ∧ (live []).fused 5 = false ∧
    (live []).on GLOBAL_READY_HOST = true ∧ (live []).on YOKE_STAT_HOLDING = false ∧
    (live [(HOST_OWN_CELL 5, 3)]).gateWrite (.ctx 3) (CELL_CTL_EN 5).addr 4 = .pass ∧
    (live [(HOST_OWN_CELL 5, 3)]).gateWrite (.ctx 2) (CELL_CTL_EN 5).addr 4 ≠ .pass := by decide

theorem test_empty_address : decodeAddr 0x3000000 = none ∧ (live []).readWord (.ctx 1) 0x3000000 = 0 ∧
    gives (.configWrite (.ctx 1) (.reg 0x3000000) 4 (some 7)) (live []) (live []) := by decide

theorem test_other_size : gives (.configWrite (.ctx 1) (.reg 0x10000) 2 (some 7)) (live []) ((live []).hostXs (.ctx 1) xsSize 0x10000 true) ∧
    gives (.configWrite (.yoke .a) (.reg 0x10002) 4 (some 7)) (live []) ((live []).hostXs (.yoke .a) xsSize 0x10002 true) := by decide

theorem test_xs_last : let t := (live []).hostXs (.ctx 6) xsRule 0x123C true
    t.rd HOST_XS_LAST_OFFSET = 0x123C % 2 ^ HOST_XS_LAST_OFFSET.width ∧ t.rd HOST_XS_LAST_CTX = 6 ∧ t.on HOST_XS_LAST_WRITE = true ∧
    t.rd (HOST_XS_CNT_COUNT 6) = 1 := by decide

theorem test_ports : let s := live [(HOST_PORT_PERST 1, 0), (HOST_PORT_UP 1, 1), (HOST_PORT_L1 1, 1)]
    s.on VAULT_STAT_TAMPER = false ∧ s.on (HOST_PORT_PERST 1) = false ∧ s.on (HOST_PORT_UP 1) = true ∧ s.on (HOST_PORT_L1 1) = true ∧
    ok (.portLinkUp 1 8 5 true) s (fun t => t.rd (HOST_PORT_WIDTH 1) == 8 && t.rd (HOST_PORT_RATE 1) == 5 && t.on (HOST_PORT_SRIS 1)) ∧
    ok (.portLinkDown 1) s (fun t => t.rd (HOST_PORT_DOWN 1) == 1) ∧ ok (.l1Exit 1) s (fun t => t.rd (HOST_PORT_L1_EXITS 1) == 1) ∧
    ok (.aspmL1Entry 1) s (fun t => t.on (HOST_PORT_L1 1)) ∧ ok (.crsTimeout 1) s (fun t => !t.on (HOST_PORT_CRS 1)) := by decide

theorem test_port_down_and_perst : let s := live [(HOST_CTX_EN 4, 1), (HOST_PORT_UP 1, 0)]
    s.on (HOST_PORT_UP 1) = false ∧ ok (.portLinkDownTimeout 1) s (fun t => t.rd (HOST_CTX_LOSS_CAUSE 4) == 3) ∧
    ok (.perstAssert 1) s (fun t => t.rd (HOST_CTX_LOSS_CAUSE 4) == 2 && t.on (HOST_PORT_CRS 1)) ∧
    ok (.perstDeassert 1) s (fun t => !t.on (HOST_PORT_CRS 1) && !t.on (HOST_PORT_PERST 1)) := by decide

theorem test_host_loss : let s := live [(HOST_CTX_EN 1, 1), (HOST_CTX_MS 1, 5), (HOST_RING_EN 0, 1), (HOST_OWN_CELL 0, 1)]
    s.on (HOST_CTX_EN 1) = true ∧ (s.ctx 1).inLoss = false ∧ s.ownRings 1 ≠ [] ∧ s.rd (HOST_CTX_MS 1) ≠ 0 ∧
    ok (.functionLevelReset 1) s (fun t => t.rd (HOST_CTX_LOSS_CAUSE 1) == 1 && t.on (HOST_CTX_LOST 1)) ∧
    ok (.busMasterClear 1) s (fun t => t.rd (HOST_CTX_LOSS_CAUSE 1) == 4) ∧ ok (.watchdogExpiry 1) s (fun t => t.rd (HOST_CTX_LOSS_CAUSE 1) == 6) := by
  decide

theorem test_admin_takeover : let s := (live [(HOST_ADMIN_TAKEOVER, 1)]).updCtx 0 (fun c => { c with inLoss := true })
    s.on GLOBAL_READY_HOST = true ∧ s.admin ≠ 3 ∧ (s.ctx s.admin).inLoss = true ∧ gives (.adminTakeover 3 3) s (s.wr HOST_ADMIN_CTX 3) ∧
    gives (.adminTakeover 3 2) s (s.hostXs (.ctx 3) xsRule HOST_ADMIN_CTX.addr true) := by decide

theorem test_context_commands :
    (let s := live []
     Passes s (.ctx 0) (HOST_CTX_EN 2) ∧ (s.ctx 2).inLoss = false ∧ s.on (HOST_CTX_EN 2) = false ∧
     ok (.ctxEnable (.ctx 0) 2 true true) s (fun t => t.on (HOST_CTX_EN 2) && (t.ctx 2).busMaster && !(t.ctx 2).flrBusy)) ∧
    (let s := live [(HOST_CTX_EN 2, 1), (HOST_CTX_POLL_US 2, 10)]
     Passes s (.ctx 0) (HOST_CTX_EN 2) ∧ s.on (HOST_CTX_EN 2) = true ∧ s.ownRings 2 = [] ∧ (s.ctx 2).held = [] ∧ s.hasHeld 2 = false ∧
     ok (.ctxDisable (.ctx 0) 2) s (fun t => !t.on (HOST_CTX_EN 2)) ∧
     Passes s (.ctx 2) (HOST_CTX_KICK 2) ∧ ok (.kick (.ctx 2) 2) s (fun t => (t.ctx 2).fetching) ∧
     s.rd (HOST_CTX_POLL_US 2) ≠ 0 ∧ ok (.pollExpiry 2) s (fun t => (t.ctx 2).fetching)) := by decide

theorem test_one_further_fetch : let s := (live [(HOST_CTX_EN 2, 1), (HOST_CTX_POLL_US 2, 10)]).updCtx 2 (fun c => { c with fetching := true })
    s.on (HOST_CTX_EN 2) = true ∧ (s.ctx 2).inLoss = false ∧ (s.ctx 2).fetching = true ∧ s.on (HOST_PORT_L1 0) = false ∧ s.ownRings 2 = [] ∧
    ok (.pollExpiry 2) s (fun t => ok (.pollExpiry 2) t (fun t => ok (.doorbellFetch 2 (some [])) t (fun u => (u.ctx 2).fetching &&
      !u.on (HOST_CTX_KICK_PEND 2) && ok (.doorbellFetch 2 (some [])) u (fun w => !(w.ctx 2).fetching)))) := by decide

theorem test_ownership : let s := live []
    8 * 7 < ownCount .cell ∧ Passes s (.ctx 0) (ownFld .cell 56) ∧ s.ownBusy .cell 63 = false ∧
    ok (.ownershipWrite (.ctx 0) .cell 7 0x70000000) s (fun t => t.rd (ownFld .cell 63) == 7 && t.rd (ownFld .cell 56) == 0) ∧
    gives (.ownershipWrite (.ctx 0) .cell 7 0x80000000) s (s.hostXs (.ctx 0) xsValue (ownFld .cell 56).addr true) ∧
    (let u := live [(CELL_CTL_EN 63, 1)]
     u.ownBusy .cell 63 = true ∧ u.rd (ownFld .cell 63) ≠ 3 ∧
     gives (.ownershipWrite (.ctx 0) .cell 7 0x3FFFFFF2) u ((u.wr (ownFld .cell 56) 2).cfgLive (.ctx 0) (ownFld .cell 56).addr)) := by decide

theorem test_fused_owner :
    let s := (({ live [] with part := .kv6432 } : State).wr (ownFld .cell 40) 15)
    s.fused 40 = true ∧ Passes s (.ctx 0) (ownFld .cell 40) ∧
    ok (.ownershipWrite (.ctx 0) .cell 5 2) s (fun t => t.rd (ownFld .cell 40) == 15) ∧
    ok (.ownershipWrite (.ctx 0) .axis 0 2) s (fun t => t.rd (ownFld .axis 0) == 2) := by decide

theorem test_ring_commands :
    (let s := live [(HOST_OWN_CELL 0, 1)]
     Passes s (.ctx 1) (HOST_RING_EN 0) ∧ s.on (HOST_RING_EN 0) = false ∧ s.ringExists 0 = true ∧
     ok (.ringEnable (.ctx 1) 0) s (fun t => t.on (HOST_RING_EN 0) && t.on (HOST_RING_RUN 0))) ∧
    (let s := live [(HOST_OWN_CELL 0, 1), (HOST_RING_EN 0, 1), (HOST_RING_ERR 0, 1)]
     Passes s (.ctx 1) (HOST_RING_EN 0) ∧ (s.ring 0).held = [] ∧ (s.ctx (s.ringOwner 0)).closing = false ∧
     ok (.ringDisable (.ctx 1) 0) s (fun t => !t.on (HOST_RING_EN 0)) ∧ Passes s (.ctx 1) (HOST_RING_ABORT 0) ∧
     ok (.ringAbort (.ctx 1) 0) s (fun t => !t.on (HOST_RING_ERR 0))) := by decide

theorem test_doorbell_and_descriptor :
    (let s := ((live [(HOST_OWN_CELL 0, 1), (HOST_CTX_EN 1, 1), (HOST_RING_EN 0, 1), (HOST_RING_SIZE_LOG2 0, 4)]).setRing 0 (ringOf 0 0 [])).updCtx 1
       (fun c => { c with fetching := true })
     (s.ctx 1).fetching = true ∧ s.ownRings 1 = [0] ∧ (s.ring 0).known = true ∧ s.rd (HOST_RING_CI 0) = 0 ∧ 16 ≤ s.ringSize 0 ∧
     ok (.doorbellFetch 1 (some [(0, 16)])) s (fun t => (t.ring 0).pi == 16 && !(t.ctx 1).fetching)) ∧
    (let s := (live [(HOST_OWN_CELL 0, 1), (HOST_CTX_EN 1, 1), (HOST_RING_EN 0, 1), (HOST_RING_SIZE_LOG2 0, 4), (HOST_RING_BASE_LO 0, 0x4000)]).setRing 0
       (ringOf 15 16 [])
     let bs := (desc 0 .queued [BitVec.ofNat 8 tyNop]).bytes
     s.ringOwner 0 = 1 ∧ s.safe = false ∧ isLocal (s.ringBase 0) = false ∧ byteAt bs 0 ≠ tyStrip ∧ s.roomFor 0 (byteAt bs 0) = true ∧
     (s.ring 0).guard = 0 ∧ s.cellState 0 ≠ csFenced ∧ checkDesc (ringKind 0) ⟨15, bs, .queued, 0⟩ = none ∧
     ok (.descriptorFetch 0 (.ok bs)) s (fun t => (t.ring 0).held == [⟨15, bs, .queued, 0⟩] && (t.ring 0).fetch == 16 && t.rd (HOST_RING_HELD 0) == 1)) := by
  decide

theorem test_bad_producer_index : let s := (live [(HOST_OWN_CELL 0, 1), (HOST_CTX_EN 1, 1), (HOST_RING_EN 0, 1), (HOST_RING_SIZE_LOG2 0, 4)]).setRing 0 (ringOf 0 0 []);
    s.on (HOST_RING_ERR 0) = false ∧ (s.ring 0).known = true ∧ s.takePi 0 0 = s ∧ s.ringSize 0 = 16 ∧
    (s.takePi 0 17).rd (HOST_RING_ERR_CODE 0) = 1 ∧ (s.takePi 0 16).on (HOST_RING_ERR 0) = false := by decide

theorem test_nop_and_sync :
    (let s := (live [(HOST_OWN_CELL 0, 1), (HOST_RING_EN 0, 1)]).setRing 0 (ringOf 1 1 [desc 0 .queued [BitVec.ofNat 8 tyNop]])
     s.takeable 0 tyNop = some (desc 0 .queued [BitVec.ofNat 8 tyNop]) ∧ ok (.nop 0) s (fun t => (t.ring 0).held == [] && t.rd (HOST_RING_CI 0) == 1)) ∧
    (let d := desc 0 .queued [BitVec.ofNat 8 tySync, 0, 0, 0, 1]
     let s := (live [(HOST_OWN_CELL 0, 1), (HOST_RING_EN 0, 1)]).setRing 0 (ringOf 1 1 [d])
     s.takeable 0 tySync = some d ∧ bitsOf (d.u8 4) 0 4 = 1) ∧
    (let d := desc 0 .started [BitVec.ofNat 8 tySync, 0, 0, 0, 0, 0, 0, 0, 9, 0, 0, 0, 0, 0, 0, 0, 1]
     let s : State := { (live [(HOST_OWN_CELL 0, 1), (HOST_RING_EN 0, 1), (TIME_STAT_VALID, 1)]).setRing 0 (ringOf 1 1 [d]) with timeNs := 9 }
     (s.ring 0).held.find? (fun d => waitingSync 0 d && decide (d.u64 8 ≤ s.now)) = some d ∧
     ok (.syncTimeReached 0) s (fun t => (t.ring 0).held == []) ∧
     (s.ring 0).held.find? (fun d => d.type == tySync && d.phase == .started && d.u32 16 != 0) = some d ∧
     ok (.syncTimeout 0) s (fun t => (t.ring 0).held == [])) := by decide

theorem test_completion : let d := desc 3 .started [BitVec.ofNat 8 tyNop]
    let s := (live [(HOST_OWN_CELL 0, 1), (HOST_CTX_EN 1, 1), (HOST_RING_EN 0, 1)]).setRing 0 (ringOf 4 4 [d])
    (s.ring 0).held = [d] ∧ d.evt = false ∧ s.ringOwner 0 = 1 ∧ (s.ctx 1).closing = false ∧ isLocal (s.slotAddr 0 3) = false ∧
    (s.finishRaw 0 3 ⟨stOk, 0, 0, 0, 0⟩).rd (HOST_RING_CI 0) = 4 ∧ (s.finishRaw 0 3 ⟨stOk, 0, 0, 0, 0⟩).out.length = 1 := by decide

theorem test_event_commands : let s := (live [(HOST_CTX_EN 2, 1), (HOST_RING_EN 154, 1)]).updCtx 2 (fun c => { c with unsig := [(63, 4)], fn := { c.fn with vecs := [(63, ⟨0, 0, false⟩)] } })
    s.on (HOST_CTX_EN 2) = true ∧ s.on (HOST_RING_EN 154) = true ∧ s.on (HOST_PORT_L1 0) = false ∧
    ok (.eventRingSpace 2 (some 8)) s (fun t => (t.ctx 2).evtHost == 8) ∧
    Store.get 0 (s.ctx 2).unsig 63 ≠ 0 ∧ ok (.moderationHoldoff 2 63) s (fun t => t.out == [.msix 2 63]) ∧
    (s.ctx 2).fn.msixOn = true ∧ (s.ctx 2).fn.fnMask = false ∧ (s.msixVec 2 63).masked = false ∧ s.reaches 2 = true ∧
    ok (.moderationHoldoff 2 62) (s.updCtx 2 (fun c => { c with unsig := [(62, 1)] })) (fun t => t.out == [] && (t.ctx 2).fn.pending == [62]) := by decide

/-! ## CONFIG_WRITE -/

theorem test_word_by_field : let s := live [(MARK_EN 3, 1), (MARK_FILT 3, 5)]
    (BitVec.toNat (BitVec.ofNat 26 (MARK_EN 3).addr) = (MARK_EN 3).addr) ∧ s.gateWrite (.yoke .a) (MARK_EN 3).addr 4 = .pass ∧
    gives (.configWrite (.yoke .a) (.reg (BitVec.ofNat 26 (MARK_EN 3).addr)) 4 (some 0x51)) s s ∧
    gives (.configWrite (.yoke .a) (.reg (BitVec.ofNat 26 (MARK_EN 3).addr)) 4 (some 0x60)) s ((s.wr (MARK_EN 3) 0).cfgLive (.yoke .a) (MARK_EN 3).addr) ∧
    gives (.configWrite (.yoke .a) (.reg (BitVec.ofNat 26 (MARK_RISE_SEQ 3).addr)) 4 (some 0x60)) s s := by decide

theorem test_shadow : let s := live [(HOST_OWN_CELL 9, 1)]
    s.gateWrite (.ctx 1) (CELL_WIN_BASE 9).addr 4 = .pass ∧
    gives (.configWrite (.ctx 1) (.reg (BitVec.ofNat 26 (CELL_WIN_BASE 9).addr)) 4 (some 0x40FFFF)) s ((s.wr (CELL_WIN_BASE 9) 0xFFFF).wr (CELL_WIN_WIDTH 9) 0x40) := by
  decide

theorem test_window_and_system_region : let s := live [(GLOBAL_MEM_SYS_BASE, 512), (HOST_CTX_LMEM_SIZE 1, 2)]
    s.gateWrite (.ctx 0) (HOST_CTX_LMEM_BASE 1).addr 4 = .pass ∧ s.on (HOST_CTX_EN 1) = false ∧ 512 < 511 + s.rd (HOST_CTX_LMEM_SIZE 1) ∧
    gives (.configWrite (.ctx 0) (.reg (BitVec.ofNat 26 (HOST_CTX_LMEM_BASE 1).addr)) 4 (some 511)) s (s.hostXs (.ctx 0) xsValue (HOST_CTX_LMEM_BASE 1).addr true) ∧
    ok (.configWrite (.ctx 0) (.reg (BitVec.ofNat 26 (HOST_CTX_LMEM_BASE 1).addr)) 4 (some 510)) s (fun t => t.rd (HOST_CTX_LMEM_BASE 1) == 510) ∧
    gives (.configWrite (.ctx 0) (.reg (BitVec.ofNat 26 (HOST_CTX_LMEM_SIZE 1).addr)) 4 (some 513)) s (s.hostXs (.ctx 0) xsValue (HOST_CTX_LMEM_SIZE 1).addr true) ∧
    s.on HOST_LMEM_SHARED_EN = false ∧ s.gateWrite (.ctx 0) HOST_LMEM_SHARED_BASE.addr 4 = .pass ∧
    gives (.configWrite (.ctx 0) (.reg (BitVec.ofNat 26 HOST_LMEM_SHARED_BASE.addr)) 4 (some 0x00020200)) s (s.hostXs (.ctx 0) xsValue HOST_LMEM_SHARED_BASE.addr true) := by
  decide

theorem test_phy_ctl_in_discovery : let s := (live [(GLOBAL_READY_DISC, 0), (HOST_OWN_CELL 7, 1)]).updCoop (fun c => { c with disc := [7] })
    s.on GLOBAL_READY_DISC = false ∧ s.coop.disc.contains 7 = true ∧ s.fused 7 = false ∧ s.gated 7 = false ∧
    s.ctxMayWrite 1 (.link 7) ((LINK_PHY_CTL_EN 7).addr % 0x10000) = true ∧
    gives (.laneDisable (.ctx 1) 7) s (s.report srcCfgLive 0 1 initCtx 1 accConfig (LINK_PHY_CTL_EN 7).addr) ∧
    gives (.configWrite (.ctx 1) (.reg (BitVec.ofNat 26 (LINK_PHY_CTL_EN 7).addr)) 4 (some 0)) s (s.report srcCfgLive 0 1 initCtx 1 accConfig (LINK_PHY_CTL_EN 7).addr) := by
  decide

theorem test_mem_fail : let s := live [(GLOBAL_READY_MEM_FAIL, 1), (HOST_OWN_CELL 7, 1), (HOST_OWN_INSP 3, 1)]
    s.on GLOBAL_READY_MEM_FAIL = true ∧ Passes s (.ctx 1) (CELL_CTL_EN 7) ∧ Passes s (.ctx 1) (INSP_CTL_EN 3) ∧
    gives (.cellEnable (.ctx 1) 7) s (s.hostXs (.ctx 1) xsRule (CELL_CTL_EN 7).addr true) ∧
    gives (.inspEnable (.ctx 1) 3 true) s (s.hostXs (.ctx 1) xsRule (INSP_CTL_EN 3).addr true) := by decide

/-! ## Page data -/

/-- A cell on a lane that is UP, with a head of 8 nozzles in one row and its page ring enabled for context 1. -/
def cellRegs (n state : Nat) : List (Fld × Nat) :=
  [(HOST_OWN_CELL n, 1), (HOST_CTX_EN 1, 1), (HOST_RING_EN (2 * n), 1), (HOST_RING_EN (2 * n + 1), 1), (CELL_CTL_EN n, 1),
   (CELL_STATE_STATE n, state), (CELL_GEOM_NOZZLES n, 8), (LINK_HEAD_IDENT1 n 1, 0x10008), (CELL_WIN_WIDTH n, 1),
   (LINK_LL_STAT_STATE n, lsUp), (LINK_PWR_STAT_DS n, pwOn), (LINK_LL_STAT_TLOCK n, 1), (CELL_FE_ROWS_EN n, 1), (CELL_FE_PITCH_INT n, 1000),
   (CELL_FE_CTL_SRC n, 0), (CELL_NH_CTL_OVERLAY n, 0), (ENC_STAT_VALID 0, 1)]

/-- A PAGE of 40 lines and one strip, without a key, with a SOFT trigger. -/
def pageDesc (idx : Nat) : Desc :=
  desc idx .queued [1, 8, 0, 0, 0, 0x10, 0, 0, 0, 0, 0, 0, 0, 0, 0, 0, 0, 0, 0, 0, 40, 0, 0, 0, 0, 7, 1, 0, 1, 0]

/-- Cell 5 IDLE with descriptors on its page ring, and what it becomes by commands. -/
def idle5 (ds : List Desc) : State := (live (cellRegs 5 csIdle)).setRing 10 (ringOf ds.length ds.length ds)

/-- The state a command answers. -/
def after (c : Instr) (s : State) : State :=
  match exec c s with
  | .next t => t
  | _ => s

/-- Cell 5 ARMED with the page. -/
def armed5 : State := after (.page 5) (idle5 [pageDesc 0])

/-- The page in it. -/
def page5 : PageRun := ((armed5.cell 5).cur).getD (armed5.newRun 5 (pageDesc 0) (armed5.fireParams 5 false 0) 1 0 40 1 0 1 7 false none)

theorem test_page_is_taken : let s := idle5 [pageDesc 0]
    s.takeable 10 tyPage = some (pageDesc 0) ∧ s.ganged 5 = false ∧ (s.cell 5).cur = none ∧ s.cellState 5 = csIdle ∧ s.mayTake 5 1 = true ∧
    s.pageBad 5 (pageDesc 0) = none ∧ s.mayReadMem 1 0x1000 (tableSize (pageDesc 0)) = true ∧ (pageDesc 0).bit 1 3 = true ∧
    (armed5.cell 5).cur = some page5 ∧ page5.lines = 40 ∧ page5.table = 0x1000 ∧ armed5.cellState 5 = csArmed := by decide

/-- A STRIP of 32 lines from host memory to the arena of context 1. -/
def stripDesc : Desc :=
  ⟨0, [2, 0, 0, 0, 0, 0, 2, 0, 0, 0, 0, 0, 0, 0, 0, 0, 0, 0, 0, 0x80, 0, 0, 0, 0, 32, 0, 0, 0, 0, 0, 0, 0, 0x82] ++ List.replicate 31 0, .queued, 0⟩

theorem test_strip_is_taken : let s := (live (cellRegs 5 csIdle ++ [(HOST_CTX_LMEM_SIZE 1, 16), (NOUGAT_ARENA_EN 1, 1)])).setRing 10 (ringOf 2 2 [stripDesc])
    s.takeable 10 tyStrip = some stripDesc ∧ s.cellState 5 ≠ csFenced ∧ s.stripBad 1 stripDesc = none ∧
    ok (.strip 5) s (fun t => t.nougat.jobs.length == 1) := by decide

/-- A MAPLOAD of two MAP entries. -/
def mapDesc (phase : DescPhase) : Desc := desc 0 phase [3, 0, 0, 0, 0, 0x20, 0, 0, 0, 0, 0, 0, 1, 0, 0, 0, 2, 0]

theorem test_mapload :
    (let s := idle5 [mapDesc .queued]
     s.takeable 10 tyMapload = some (mapDesc .queued) ∧ isLocal ((mapDesc .queued).u64 4) = false ∧
     ok (.mapload 5 (.ok [1, 0, 2, 0])) s (fun t => (t.cell 5).bgWait == [.mapload 0 [1, 2]])) ∧
    (let s := (idle5 [mapDesc .started]).updCell 5 (fun c => { c with bgWait := [.mapload 0 [1, 2]] })
     s.rd (CELL_BANK_STAT_BG_STATE 5) = bgReady ∧ s.on (CELL_NH_CTL_OVERLAY 5) = false ∧
     ok (.maploadLock 5) s (fun t => (t.cell 5).holder == some (0, [1, 2]) && t.rd (CELL_BANK_STAT_BG_STATE 5) == bgHost)) ∧
    (let s := (idle5 [mapDesc .started]).updCell 5 (fun c => { c with holder := some (0, [1, 2]) })
     s.descAt 10 0 = some (mapDesc .started) ∧ (mapDesc .started).bit 1 2 = false ∧
     ok (.maploadWriteDone 5) s (fun t => (t.cell 5).holder == none && (t.ring 10).held == [])) := by decide

/-- A LADDER of pattern 0 over 8 nozzles. -/
def ladderDesc : Desc := desc 1 .queued [6, 0, 0, 0, 200, 0, 0, 0, 0, 0, 8, 0, 1, 1]

theorem test_ladder : let s := (idle5 [ladderDesc]).updCell 5 (fun c => { c with prev := some ⟨false, 0, 39, 1000 * 2 ^ 32, 0, 1⟩ })
    s.takeable 10 tyLadder = some ladderDesc ∧ (s.cell 5).prev = some ⟨false, 0, 39, 1000 * 2 ^ 32, 0, 1⟩ ∧ s.mayTake 5 1 = true ∧ s.takeOk 5 1 = true ∧
    ladderDesc.u8 6 < 4 ∧ ladderDesc.u8 13 % 16 < 2 ^ 1 ∧ ladderDesc.u16 8 + ladderDesc.u16 10 ≤ 2048 ∧
    max 1 (s.rd (CELL_NH_LADDER_BLANK 5)) + 2 * (if ladderDesc.u8 12 % 64 = 0 then 64 else ladderDesc.u8 12 % 64) ≤ ladderDesc.u16 4 ∧
    ok (.ladder 5) s (fun t => match (t.cell 5).cur with | some p => p.lines == 200 && p.ladder.isSome | none => false) := by decide

theorem test_transfers :
    (let d := desc 0 .queued [4, 0, 0, 0, 0, 0x20, 0, 0, 0, 0, 0, 0, 32, 0, 0, 0, 3, 1]
     let s := (live (cellRegs 5 csIdle)).setRing 11 (ringOf 1 1 [d])
     s.takeable 11 tyWave = some d ∧ s.linkState 5 = lsUp ∧ isLocal (d.u64 4) = false ∧
     ok (.wave 5 (.ok (List.replicate 32 7))) s (fun t => (t.link 5).cmds.length == 4)) ∧
    (let d := desc 0 .queued [5, 0, 0, 0, 0, 0x20, 0, 0, 0, 0, 0, 0, 0, 0, 8, 0, 0, 0]
     let s := (live (cellRegs 5 csIdle)).setRing 11 (ringOf 1 1 [d])
     s.takeable 11 tyTrim = some d ∧ ok (.trim 5 (.ok (List.replicate 16 7))) s (fun t => (t.link 5).cmds.length == 3)) ∧
    (let d := desc 0 .queued [9, 0, 0, 0, 0, 0x20, 0, 0, 0, 0, 0, 0, 64]
     let s := (live [(HOST_OWN_INSP 0, 1), (HOST_CTX_EN 1, 1), (HOST_RING_EN 132, 1)]).setRing 132 (ringOf 1 1 [d])
     s.takeable 132 tyBuf = some d ∧ s.mayWriteMem (s.ringOwner 132) (d.u64 4) (d.u32 12) = true ∧
     ok (.buf 132) s (fun t => (t.ring 132).held == [{ d with phase := .started }])) := by decide

/-- The block of row 0: 32 lines of zeros, stored. -/
def block5 : List Byte := kbcHeader true false 4096 4096 0 32 0 (crc32 (List.replicate 4096 0)) ++ List.replicate 4096 0

/-- Cell 5 with the entry of its block read and the row in fetch. -/
def fetch5 : State :=
  after (.rowFetchStart 5) (after (.entryRead 5 (.ok ([0, 0x40, 0, 0, 0, 0, 0, 0, 0x20, 0x10, 0, 1] ++ List.replicate 4 0))) armed5)

theorem test_fetch_page : (armed5.cell 5).fetchPage = some page5 ∧ page5.row = none := by decide

theorem test_fetch_entry : page5.entWait = false ∧ page5.entB < page5.blockRows ∧
    page5.entB ≤ page5.entryLimit ∧ isLocal (page5.entryAddr page5.entB page5.entS) = false ∧
    judgeEntry ([0, 0x40, 0, 0, 0, 0, 0, 0, 0x20, 0x10, 0, 1] ++ List.replicate 4 0) = some (0x4000, 4128, false) := by decide

theorem test_fetch_slots : armed5.cellState 5 ≠ csFenced ∧
    (armed5.cell 5).pages.foldl (fun u q => u + q.slots) 0 + page5.lb ≤ lbCapacity (64 * page5.winWidth) page5.depth := by decide

theorem test_fetch_repoll : ok (.entryRepoll 5) (armed5.updPage 5 0 (fun p => { p with entWait := true }))
    (fun t => (t.cell 5).cur.any (fun p => !p.entWait)) := by decide

theorem test_fetch_row : ((fetch5.cell 5).fetchPage.any (fun p => p.row == some ⟨0, [], false, false⟩ &&
    p.entries == [⟨0, 0, 0x4000, 4128, false, false⟩] && p.rowLines 0 == 32 &&
    p.nextBlock (p.fillZeros ⟨0, [], false, false⟩) == some ⟨0, 0, 0x4000, 4128, false, false⟩)) = true := by decide

theorem test_fetch_ready : let s := fetch5.updPage 5 0 (fun p => { p with row := some ⟨0, [(0, .zeros)], false, false⟩ })
    (s.cell 5).cur.any (fun p => p.winStrips == [0]) = true ∧ s.on (CELL_LB_CTL_EVT_LOW 5) = false ∧
    ok (.blockRowReady 5) s (fun t => (t.cell 5).cur.any (fun q => q.row == none && q.ready.length == 1)) := by decide

/-- A STRIP job of 32 one-bit lines of context 1. -/
def job1 (lines : Nat) : StripJob := ⟨1, 10, 0, false, 0x20000, 2 ^ 63 + 0x100, 0, lines, 0, 1, 0, 0, 0, 0, 0, 0, 0, none, 0⟩

theorem test_nougat_dispatch : let s := { live [(NOUGAT_CTL_EN, 1), (NOUGAT_SCHED_MAX_LANES 1, 1)] with nougat := { Nougat.reset with jobs := [job1 32] } }
    s.on NOUGAT_CTL_EN = true ∧ s.laneFree 15 = true ∧ s.turns[s.nougat.rrTurn % max 1 s.turns.length]? = some 1 ∧ s.nextJob 1 = some (job1 32) ∧
    ok (.nougatDispatch 15) s (fun t => t.laneBlock 15 == some ⟨1, 10, 0, 0, 0, false, none⟩) := by decide

theorem test_nougat_coded : let s := { live [] with nougat := { Nougat.reset with jobs := [{ job1 32 with next := 1 }], lanes := [(15, ⟨1, 10, 0, 0, 0, false, none⟩)] } }
    s.laneBlock 15 = some ⟨1, 10, 0, 0, 0, false, none⟩ ∧ s.jobOf ⟨1, 10, 0, 0, 0, false, none⟩ = some { job1 32 with next := 1 } ∧
    isLocal 0x20000 = false ∧ (job1 32).blockLines 0 * lineBytes 1 = 4096 ∧ (lzwEncode [7, 7, 7, 7, 7, 7, 7, 7]).length ≤ 8 := by decide

/-- The same with the block coded as 36 bytes and an arena of 1 MiB. -/
def coded1 : State :=
  { live [(NOUGAT_ARENA_SIZE 1, 1), (NOUGAT_ARENA_BASE 1, 4), (NOUGAT_ARENA_EN 1, 1), (HOST_OWN_CELL 5, 1)] with
    nougat := { Nougat.reset with jobs := [{ job1 64 with next := 2 }], lanes := [(15, ⟨1, 10, 0, 0, 0, false, some (List.replicate 36 9)⟩)] } }

theorem test_nougat_commit : coded1.nextCommit 1 = some (15, ⟨1, 10, 0, 0, 0, false, some (List.replicate 36 9)⟩, List.replicate 36 9) ∧
    coded1.jobOf ⟨1, 10, 0, 0, 0, false, some (List.replicate 36 9)⟩ = some { job1 64 with next := 2 } ∧ coded1.arenaFits 1 1 = true ∧
    coded1.badWords = [] ∧ coded1.on (NOUGAT_ARENA_EVT_FULL 1) = false ∧ ({ job1 64 with next := 2 } : StripJob).blocks = 2 ∧
    ok (.nougatCommit 1) coded1 (fun t => t.laneBlock 15 == none && t.rd (NOUGAT_ARENA_HEAD 1) == 1 && t.memByte (4 * 2 ^ 20 + 35) == 9 &&
      t.memByte (4 * 2 ^ 20 + 36) == 0 && t.memRead 0x100 16 == entryBytes (2 ^ 63 + 4 * 2 ^ 20) 36) := by decide

theorem test_arena_tail_and_lanes : let s := live [(NOUGAT_ARENA_SIZE 1, 1), (NOUGAT_ARENA_HEAD 1, 9), (NOUGAT_ARENA_TAIL 1, 3), (NOUGAT_LANE_STAT_FENCED, 0x8001)]
    Passes s (.ctx 1) (NOUGAT_ARENA_TAIL 1) ∧ s.tailOk 1 9 = true ∧ s.tailOk 1 10 = false ∧
    ok (.arenaTail (.ctx 1) 1 9) s (fun t => t.rd (NOUGAT_ARENA_TAIL 1) == 9) ∧
    gives (.arenaTail (.ctx 1) 1 10) s (s.hostXs (.ctx 1) xsValue (NOUGAT_ARENA_TAIL 1).addr true) ∧ Passes s (.ctx 0) NOUGAT_LANE_CTL_RESTORE ∧
    ok (.nougatLaneRestore (.ctx 0) 0x8000) s (fun t => t.rd NOUGAT_LANE_STAT_FENCED == 1) := by decide

set_option maxRecDepth 20000 in
theorem test_crc32 : crc32 [0x31, 0x32, 0x33, 0x34, 0x35, 0x36, 0x37, 0x38, 0x39] = 0xCBF43926 ∧ crc32 [] = 0 := by decide

/-! ## The print cell and the fire engine -/

theorem test_cell_enable :
    (let s := live [(HOST_OWN_CELL 63, 1), (CELL_CNT_MUTE 63, 4)]
     Passes s (.ctx 1) (CELL_CTL_EN 63) ∧ s.on GLOBAL_READY_MEM_FAIL = false ∧ s.cellState 63 = csOff ∧ (s.cell 63).goingOff = false ∧
     ok (.cellEnable (.ctx 1) 63) s (fun t => t.cellState 63 == csIdle && t.rd (CELL_CNT_MUTE 63) == 0)) ∧
    (let s := (live [(HOST_OWN_CELL 63, 1), (CELL_STATE_STATE 63, csPrinting)]).updCell 63 (fun c => { c with goingOff := true })
     (s.cell 63).goingOff = true ∧ s.cellState 63 ≠ csFenced ∧ ok (.cellEnable (.ctx 1) 63) s (fun t => (t.cell 63).enHeld)) ∧
    (let s := live [(HOST_OWN_CELL 63, 1), (CELL_STATE_STATE 63, csIdle), (CELL_CTL_EN 63, 1)]
     gives (.cellDisable (.ctx 1) 63) s ((s.wr (CELL_CTL_EN 63) 0).wr (CELL_STATE_STATE 63) csOff)) := by decide

theorem test_banks :
    (let s := live (cellRegs 5 csIdle)
     Passes s (.ctx 1) (CELL_CTL_SWAP_REQ 5) ∧ s.cellState 5 ≠ csFenced ∧ s.on (CELL_NH_CTL_OVERLAY 5) = false ∧
     gives (.swapReq (.ctx 1) 5) s (s.wr (CELL_BANK_STAT_SWAP_PEND 5) 1)) ∧
    (let s := live (cellRegs 5 csFenced)
     s.cellState 5 = csFenced ∧ gives (.swapReq (.ctx 1) 5) s s ∧ gives (.lockstepMismatch 5) s s) ∧
    (let s := live (cellRegs 5 csIdle ++ [(CELL_BANK_STAT_BG_STATE 5, bgRetiring), (CELL_CTL_MIRROR 5, 1)])
     s.retiringLeft 5 (1 - s.fgBank 5) = false ∧ gives (.retiringEnd 5) s (s.wr (CELL_BANK_STAT_BG_STATE 5) bgMirroring)) ∧
    (let s := (live (cellRegs 5 csIdle ++ [(CELL_BANK_STAT_BG_STATE 5, bgMirroring)])).updCell 5 (fun c => { c with bank0 := [(2047, 4)] })
     s.fgBank 5 ≤ 1 ∧ ok (.mirrorDone 5) s (fun t => (t.cell 5).bank1 == [(2047, 4)] && t.rd (CELL_BANK_STAT_BG_STATE 5) == bgReady)) := by decide

theorem test_bank_window : let addr := 0x1000000 + 0x10000 * 5 + 0x4000 + 0x1000 + 4 * 1023
    (let s := live (cellRegs 5 csIdle)
     s.gateWrite (.ctx 1) addr 4 = .pass ∧ s.rd (CELL_BANK_STAT_BG_STATE 5) = bgReady ∧
     ok (.bgTableWrite (.ctx 1) 5 true 1023 0x00030004) s (fun t => (t.cell 5).bank1 == [(4094, 4), (4095, 3)])) ∧
    (let s := live (cellRegs 5 csIdle ++ [(CELL_BANK_STAT_BG_STATE 5, bgHost)])
     s.rd (CELL_BANK_STAT_BG_STATE 5) ≠ bgReady ∧
     gives (.bgTableWrite (.ctx 1) 5 true 1023 3) s ((s.bump (CELL_BANK_STAT_BG_WR_DROP 5)).cfgLive (.ctx 1) addr)) ∧
    (let s := live (cellRegs 5 csIdle ++ [(CELL_TEMP_STAT_TRIP 5, 1), (CELL_TEMP_CLR_TEMP_CLEAR 5, 100)])
     s.rdS (CELL_TEMP_STAT_TEMP 5) < s.rdS (CELL_TEMP_CLR_TEMP_CLEAR 5) ∧
     ok (.tempHoldExpiry 5) s (fun t => !t.on (CELL_TEMP_STAT_TRIP 5))) := by decide

theorem test_fence : let s := armed5
    s.cellState 5 ≠ csFenced ∧ s.ganged 5 = false ∧ ok (.lockstepMismatch 5) s (fun t => t.cellState 5 == csFenced &&
      t.rd (CELL_STATE_FENCE_CAUSE 5) == fcLockstep && (t.cell 5).cur == none && (t.ring 10).held == []) := by decide

theorem test_release :
    (let s := live (cellRegs 5 csFenced ++ [(GOOSE_STATUS_SAFE, 1)])
     Passes s (.ctx 1) (CELL_CTL_RELEASE 5) ∧ (s.cell 5).selfTest = false ∧
     gives (.cellRelease (.ctx 1) 5 true) s (s.wr (GOOSE_FENCE_STAT_REL_DENIED 5) 1)) ∧
    (let s := live (cellRegs 5 csFenced ++ [(CELL_STATE_FENCE_CAUSE 5, fcLockstep), (GOOSE_CTL_FENCE_MAX, 2), (GOOSE_FENCE_STAT_FENCES 5, 1)])
     s.rd (GOOSE_FENCE_STAT_FENCES 5) < s.rd GOOSE_CTL_FENCE_MAX ∧ ok (.cellRelease (.ctx 1) 5 true) s (fun t => (t.cell 5).selfTest) ∧
     s.rd (CELL_STATE_FENCE_CAUSE 5) ≠ fcMapEcc ∧
     (let u := s.updCell 5 (fun c => { c with selfTest := true })
      (u.cell 5).selfTest = true ∧ ok (.cellSelftestDone 5 true) u (fun t => t.cellState 5 == csIdle && !t.on (CELL_STATE_FENCE_CAUSE 5)) ∧
      ok (.cellSelftestDone 5 false) u (fun t => t.cellState 5 == csFenced))) := by decide

theorem test_fire_en : let s := live [(CELL_CTL_EN 63, 1), (CELL_FE_CTL_FIRE_EN_REQ 63, 1)]
    s.fireEn 7 = true ∧ s.fireEn 6 = false ∧ s.stopFireN = true ∧
    ok .stopFireFall s (fun t => !t.fireEn 7 && ok .stopFireRise t (fun u => !u.fireEn 7 && ok .stopFireClear u (fun v => v.fireEn 7))) := by decide

theorem test_soft_trigger : Passes armed5 (.ctx 1) (CELL_FE_CTL_SOFT_TRIG 5) ∧ (armed5.cell 5).cur = some page5 ∧ page5.started = false ∧
    page5.trig = none ∧ page5.ladder = none ∧ page5.trigKind = 7 ∧ armed5.srcOk 5 (armed5.rd (CELL_FE_CTL_SRC 5)) = true ∧ (armed5.cell 5).tails = [] ∧
    ok (.softTrig (.ctx 1) 5) armed5 (fun t => ok (.printStart 5) t (fun u => u.cellState 5 == csPrinting &&
      u.rdF (CELL_FE_PITCH_INT 5) == 1000)) := by decide

/-- Cell 5 PRINTING. -/
def printing5 : State := after (.printStart 5) (after (.softTrig (.ctx 1) 5) armed5)

theorem test_fire_send_and_complete :
    (let c : Commit := ⟨0, 0, 0, false, false, 3, false, List.replicate 8 1, []⟩
     let s := printing5.updPage 5 0 (fun p => { p with rows := p.rows.map (fun r => { r with fly := [c] }) })
     s.ganged 5 = false ∧ s.cellState 5 = csPrinting ∧ (s.dueSend 5 0).isSome = true ∧ s.on (LINK_LL_STAT_HALTED 5) = false ∧
     ok (.fireSend 5 0) s (fun t => (t.link 5).fireNew.length == 1)) ∧
    (let s := printing5.updPage 5 0 (fun p => { p with entered := 40, flight := [], rows := p.rows.map (fun r => { r with next := 40 }) })
     s.ganged 5 = false ∧ s.cellState 5 ≠ csFenced ∧
     ((((s.fireDue 5).cell 5).tails ++ ((s.fireDue 5).cell 5).cur.toList).find? (·.over)).isSome = true ∧
     ok (.pageComplete 5) s (fun t => (t.ring 10).held == [])) := by decide

theorem test_row_step_idle : let s := live (cellRegs 5 csIdle)
    s.cellState 5 = csIdle ∧ (s.cell 5).cur = none ∧ (s.cell 5).nxt = none ∧ (s.cell 5).tails = [] ∧ (s.cell 5).orphans = [] ∧
    ok (.rowStep 5 true none) s (fun t => (t.cell 5).badSamples == 1) ∧ ok (.rowStep 5 false none) s (fun t => (t.cell 5).badSamples == 0) := by decide

theorem test_row_step_order : printing5.follower 5 = false ∧ printing5.cellState 5 ≠ csFenced ∧ printing5.cellState 5 ≠ csOff ∧
    ok (.rowStep 63 false none) (live []) (fun t => t == (live []).fireDue 63) := by decide

/-! ## The governor -/

theorem test_governor :
    (let s := live [(GOV_CTL_EN, 1), (GOV_CTL_SW_STOP, 1)]
     ok .govUpdate s (fun t => t.on GOV_STAT_STOP && t.rd GOV_STAT_DEMAND == 0)) ∧
    ok .govUpdate (live []) (fun t => t.rd GOV_STAT_DEMAND == 1024 && t.rd GOV_STAT_WORST_CELL == 255) ∧
    (let s := (live [(GOV_TTS_MIN, 5)]).latchStop true
     Passes s (.ctx 0) GOV_STAT_LATCH ∧ s.on GOV_STAT_LATCH = true ∧ ok (.govLatchClear (.ctx 0)) s (fun t => !t.on GOV_STAT_LATCH) ∧
     Passes s (.ctx 0) GOV_TTS_MIN ∧ ok (.ttsMinReset (.ctx 0)) s (fun t => t.rd GOV_TTS_MIN == 0xFFFFFFFF)) ∧
    ok .slowReqPeriod (live [(GOV_CTL_SLOW_EN, 1), (GOV_STAT_DEMAND, 100)]) (fun t => t.gov.pwm == 100 && t.on GOV_STAT_SLOW) := by decide

theorem test_speed_frames : let s := live [(COOP_SUP_STAT_IN_RANGE, 1), (GOV_NET_EN, 1), (TIME_STAT_VALID, 1), (GOV_NET_PORT, 1), (NET_CTL_EN 1, 1), (NET_STAT_LINK 1, 1)]
    s.on GOV_NET_EN = true ∧ s.rd GOV_NET_PORT < 2 ∧ s.periodicDue = some 0 ∧ s.netUp 1 = true ∧
    ok .speedFramePeriodic s (fun t => t.gov.lastPeriodic == some 0 && t.out.length == 1) ∧
    (let u := { s with gov := { s.gov with safeDue := true } }
     u.gov.safeDue = true ∧ u.coreRuns = true ∧ ok .speedFrameEvent u (fun t => !t.gov.safeDue && t.out.length == 1)) ∧
    (let u := { s with gov := { s.gov with eventDue := true } }
     u.gov.eventDue = true ∧ u.gov.lastEvent = none ∧ ok .speedFrameEvent u (fun t => !t.gov.eventDue && t.out.length == 1)) ∧
    (let u := s.wr (NET_STAT_LINK 1) 0
     u.netUp 1 = false ∧ ok .speedFramePeriodic u (fun t => t.rd GOV_NET_LOST == 1)) := by decide

/-! ## The Mirold Link -/

/-- The registers of a lane that is UP in both directions, of a cell of context 1. -/
def laneRegs (n state : Nat) : List (Fld × Nat) :=
  [(HOST_OWN_CELL n, 1), (LINK_PHY_CTL_EN n, 1), (LINK_LL_STAT_STATE n, state), (LINK_PWR_STAT_DS n, pwOn), (LINK_PWR_STAT_US n, pwOn),
   (LINK_LL_STAT_TLOCK n, 1), (CELL_STATE_STATE n, csIdle)]

/-- Lane 5 UP with some more register fields and a change of its hidden state. -/
def lane5 (fs : List (Fld × Nat)) (f : Link → Link) : State := (live (laneRegs 5 lsUp ++ fs)).updLink 5 f

set_option maxRecDepth 20000 in
set_option exponentiation.threshold 512 in
theorem test_wire_carries_a_frame :
    let t : TxWire := ⟨0x1F0F0F0F0F0, 35, true⟩
    let r : RxWire := { RxWire.reset with hist := 0x1F0F0F0F0F0, run := 35, last := true }
    let f := frameBits 5 255 0xFFFFFFFFFF00000000
    let r' := (t.sendAll (msbBits 288 f)).2.foldl (fun r w => (r.take w).1) r
    r'.sr = f ∧ crcOk r'.sr = true ∧ frameType r'.sr = 5 ∧ frameSeq r'.sr = 255 ∧ framePayload r'.sr = 0xFFFFFFFFFF00000000 := by decide

theorem test_boundary : let s := lane5 [] id
    s.rd (LINK_PWR_STAT_DS 5) ≠ pwOff ∧ s.rd (LINK_PWR_STAT_DS 5) ≠ pwSleep ∧ ok (.dsFrameSend 5) s (fun t => t.out.length == 1) ∧
    (let u := s.wr (LINK_PWR_STAT_DS 5) pwSleep
     u.rd (LINK_PWR_STAT_DS 5) = pwSleep ∧ gives (.dsFrameSend 5) u u) := by decide

theorem test_bits_received : let s := lane5 [(LINK_RX_STAT_INV 5, 1)] id
    s.rd (LINK_PWR_STAT_US 5) ≠ pwOff ∧ s.rd (LINK_PWR_STAT_US 5) ≠ pwSleep ∧
    ok (.frameReceive 5 [false, false] 0) s (fun t => t.on (LINK_RX_STAT_SIGNAL 5) && (t.link 5).rx.bits == 2 && (t.link 5).rx.ones == 2) := by decide

set_option maxRecDepth 20000 in
set_option exponentiation.threshold 512 in
theorem test_reserved_frame : let s := lane5 [(LINK_LL_STAT_STATE 5, lsDetect), (LINK_RX_STAT_FROZEN 5, 1)] id
    upstreamType (frameType (frameBits 13 0 0)) = false ∧ s.linkState 5 < lsTimeAcq ∧
    (s.rxFrame 5 (frameBits 13 0 0) true 0).rd (LINK_LL_CNT_PROTO 5) = 1 := by decide

theorem test_replay_and_ack : let f : HeldFrame := ⟨ftCmd, 9, 0, none, []⟩
    (let s := lane5 [] (fun l => { l with heldTx := [f], rpBase := 8 })
     (s.link 5).heldTx = [f] ∧ (s.link 5).rpBase ≠ f.seq ∧ ok (.replayTimeout 5) s (fun t => (t.link 5).replay == some 0)) ∧
    (let s := lane5 [(LINK_LL_REPLAY_MAX 5, 2)] (fun l => { l with heldTx := [f], rpBase := 9, rpCount := 2 })
     (s.link 5).rpBase = f.seq ∧ max 1 (s.rd (LINK_LL_REPLAY_MAX 5)) ≤ (s.link 5).rpCount ∧ s.linkState 5 = lsUp ∧
     ok (.replayTimeout 5) s (fun t => t.linkState 5 != lsUp && t.rd (LINK_LL_STAT_DOWN_CAUSE 5) == dcReplay)) ∧
    (let s := lane5 [] (fun l => { l with unacked := 1 })
     0 < (s.link 5).unacked ∧ ok (.ackTimer 5) s (fun t => (t.link 5).ackDue)) := by decide

theorem test_offset_and_eye :
    (let s := lane5 [] (fun l => { l with rx := { l.rx with wins := [2081, 2080] } })
     (s.link 5).rx.wins = [2081, 2080] ∧ s.ocHeld 5 = false ∧
     ok (.ocAdjust 5) s (fun t => t.rdS (LINK_RX_STAT_OC 5) == 1 && (t.link 5).rx.wins == [2080] &&
       ok (.ocAdjust 5) t (fun u => u.rdS (LINK_RX_STAT_OC 5) == 1)) ∧
     (let u := s.wr (LINK_RX_EQ_OC_HOLD 5) 1
      u.ocHeld 5 = true ∧ ok (.ocAdjust 5) u (fun t => t.rdS (LINK_RX_STAT_OC 5) == 0))) ∧
    (let s := lane5 [(LINK_EYE_CTL_MODE 5, 2), (LINK_EYE_AUTO_PERIOD_S 5, 1)] id
     Passes s (.ctx 1) (LINK_EYE_CTL_START 5) ∧ (s.link 5).scan = none ∧ s.rd (LINK_EYE_CTL_MODE 5) = 2 ∧ s.usLive 5 = true ∧
     ok (.eyeScanStart (.ctx 1) 5) s (fun t => t.on (LINK_EYE_STAT_BUSY 5)) ∧ ok (.eyeAutoSweep 5) s (fun t => (t.link 5).scan == some .auto) ∧
     ok (.eyeScanStart (.ctx 1) 5) (s.wr (LINK_PWR_STAT_US 5) pwOff) (fun t => t.on (LINK_EYE_STAT_NO_SIGNAL 5))) ∧
    (let s := lane5 [(LINK_EYE_AUTO_PERIOD_S 5, 1)] (fun l => { l with scan := some (.host 2) })
     (s.link 5).scan = some (.host 2) ∧ (s.link 5).autoDue = false ∧ ok (.eyeAutoSweep 5) s (fun t => (t.link 5).autoDue) ∧
     ok (.eyeScanDone 5 ⟨0, [0, 9], [0], [], [0, 0]⟩) s (fun t => t.on (LINK_EYE_STAT_DONE 5) && !t.on (LINK_EYE_STAT_BUSY 5))) := by decide

theorem test_downstream_idle :
    (let s := lane5 [(LINK_PWR_CTL_DS_IDLE 5, 1), (LINK_PWR_CTL_DOZE_AFTER 5, 4)] (fun l => { l with idleTx := 4 })
     s.rd (LINK_PWR_STAT_DS 5) = pwOn ∧ s.rd (LINK_PWR_CTL_DS_IDLE 5) = 1 ∧ s.dsMayIdle 5 = true ∧
     gives (.dozeEntry 5) s (s.wr (LINK_PWR_STAT_DS 5) pwDoze)) ∧
    (let s := lane5 [(LINK_PWR_STAT_DS 5, pwEntering), (LINK_PWR_STAT_US 5, pwEntering)] (fun l => { l with wakeIdle := 8 })
     8 ≤ (s.link 5).wakeIdle ∧ ok (.sleepEntry 5 false) s (fun t => t.rd (LINK_PWR_STAT_DS 5) == pwSleep) ∧
     ok (.sleepEntry 5 true) s (fun t => t.rd (LINK_PWR_STAT_US 5) == pwSleep)) ∧
    (let s := lane5 [(LINK_PWR_STAT_DS 5, pwSleep)] (fun l => { l with cmds := [deviceCmd opUpwr 0] })
     s.linkState 5 ≠ lsRate ∧ s.wantsWake 5 = true ∧ s.on GOOSE_STATUS_SAFE = false ∧
     ok (.wake 5) s (fun t => t.rd (LINK_PWR_STAT_DS 5) == pwWaking && t.rd (LINK_PWR_STAT_WAKES 5) == 1) ∧
     (let u := s.wr GOOSE_STATUS_SAFE 1
      u.wantsWake 5 = true ∧ gives (.wake 5) u u)) := by decide

theorem test_upstream_idle :
    (let s := lane5 [(LINK_PWR_STAT_US 5, pwSleep)] id
     ok (.squelchAssert 5) s (fun t => t.rd (LINK_PWR_STAT_US 5) == pwWaking && ok (.falseWakeTimeout 5) t (fun u =>
       u.rd (LINK_PWR_STAT_US 5) == pwSleep && !u.on (LINK_RX_STAT_SIGNAL 5)))) ∧
    (let s := lane5 [] id
     s.usLive 5 = true ∧ (s.link 5).usNotice = false ∧ s.rd (LINK_RX_STAT_ALIGN 5) ≠ 2 ∧
     ok (.lossOfSignal 5) s (fun t => (t.link 5).los && t.rd (LINK_PHY_CNT_LOS 5) == 1)) := by decide

theorem test_lane_enable :
    (let s := live [(HOST_OWN_CELL 63, 1), (LINK_LL_CNT_CRC 63, 4)]
     Passes s (.ctx 1) (LINK_PHY_CTL_EN 63) ∧ s.on (LINK_PHY_CTL_EN 63) = false ∧ s.fused 63 = false ∧
     ok (.laneEnable (.ctx 1) 63) s (fun t => t.linkState 63 == lsDetect && t.rd (LINK_LL_CNT_CRC 63) == 0)) ∧
    (let s : State := { live [(HOST_OWN_CELL 63, 1)] with part := .kv6416 }
     s.fused 63 = true ∧ s.activeCore = .a ∧
     gives (.laneEnable (.yoke .a) 63) s (s.hostXs (.yoke .a) xsRule (LINK_PHY_CTL_EN 63).addr true)) ∧
    (let s := live (laneRegs 5 lsDetect)
     s.linkState 5 ≠ lsUp ∧ ok (.laneDisable (.ctx 1) 5) s (fun t => t.linkState 5 == lsOff && t.rd (LINK_PWR_STAT_DS 5) == pwOff)) := by decide

theorem test_training_events :
    (let s := lane5 [] id
     s.rd (LINK_PWR_STAT_DS 5) = pwOn ∧ ok (.timeSyncSend 5) s (fun t => (t.link 5).syncDue) ∧ s.rd (LINK_RX_STAT_ALIGN 5) ≠ 2 ∧ s.usLive 5 = true ∧
     ok (.lockLossTimeout 5) s (fun t => t.rd (LINK_LL_STAT_DOWN_CAUSE 5) == dcAlign) ∧ Passes s (.ctx 1) (LINK_LL_CTL_RETRAIN 5) ∧
     ok (.retrain (.ctx 1) 5) s (fun t => t.linkState 5 == lsDetect)) ∧
    (let s := lane5 [(LINK_LL_STAT_STATE 5, lsTimeAcq)] (fun l => { l with sync := [(3, 4), (5, 6)] })
     (s.link 5).sync = [(3, 4), (5, 6)] ∧ s.linkState 5 ≠ lsUp ∧ ok (.timeReplyTimeout 5) s (fun t => (t.link 5).missRun == 1 && (t.link 5).sync == [(5, 6)]) ∧
     1 ≤ s.linkState 5 ∧ s.linkState 5 ≤ lsTimeAcq ∧
     ok (.trainTimeout 5) s (fun t => t.linkState 5 == lsWait && t.rd (LINK_LL_STAT_TRAIN_FAIL 5) == lsTimeAcq)) ∧
    (let s := lane5 [(LINK_LL_STAT_STATE 5, lsRate)] (fun l => { l with train := { l.train with changed := true, rate := 2 } })
     (s.link 5).train.changed = true ∧ ok (.rateChangeTimeout 5) s (fun t => t.linkState 5 == lsDetect && (t.link 5).train.limit == 2)) ∧
    (let s := lane5 [(LINK_LL_STAT_STATE 5, lsWait), (LINK_LL_CTL_RETRAIN_MAX 5, 3)] (fun l => { l with train := { l.train with fails := 2 } })
     (s.link 5).train.hold = false ∧ (s.link 5).train.fails < max 1 (s.rd (LINK_LL_CTL_RETRAIN_MAX 5)) ∧
     ok (.retrainDelayExpiry 5) s (fun t => t.linkState 5 == lsDetect)) := by decide

theorem test_head_authentication : let s := lane5 [] (fun l => { l with auth := some ⟨[1], [], [], true⟩ })
    (s.link 5).auth = some ⟨[1], [], [], true⟩ ∧ s.headPasses 5 ⟨[1], [], [], true⟩ = false ∧
    ok (.authVerifyDone 5) s (fun t => t.reports.any (fun r => r.src == srcLinkAuth && r.cls == 2)) ∧
    ok (.authTimeout 5) s (fun t => (t.link 5).auth == some ⟨[], [], [], false⟩) := by decide

theorem test_mailbox : let s := lane5 [] id
    Passes s (.ctx 1) (LINK_CMD_CTL_GO 5) ∧ s.on (LINK_CMD_CTL_BUSY 5) = false ∧
    ok (.ident (.ctx 1) 5 3) s (fun t => (t.link 5).cmds == [⟨opIdent + 3 * 2 ^ 32, true, .mailbox⟩] && t.on (LINK_CMD_CTL_BUSY 5)) ∧
    ok (.headDefinedCmd (.ctx 1) 5 63 1) s (fun t => (t.link 5).cmds == [⟨0xFF + 2 ^ 32, true, .mailbox⟩]) ∧
    s.zoneBound 5 2 = false ∧ ok (.heater (.ctx 1) 5 2) s (fun t => (t.link 5).cmds == [⟨opHeater + 2 * 2 ^ 32, false, .none⟩]) ∧
    s.boxAccepts 5 0 0 = false ∧ ok (.mailboxRefused (.ctx 1) 5 0 0) s (fun t => t.on (LINK_CMD_CTL_REFUSED 5) && (t.link 5).cmds == []) := by decide

theorem test_mailbox_others : let s := lane5 [] id
    ok (.ping (.ctx 1) 5 1) s (fun t => (t.link 5).cmds.length == 1) ∧ ok (.trimSelect (.ctx 1) 5 1) s (fun t => (t.link 5).cmds.length == 1) ∧
    ok (.levelMap (.ctx 1) 5 1) s (fun t => (t.link 5).cmds.length == 1) ∧ ok (.sense (.ctx 1) 5 1) s (fun t => (t.link 5).cmds.length == 1) := by decide

theorem test_timeouts_and_telemetry :
    (let s := lane5 [] (fun l => { l with waits := [⟨7, opPing, .mailbox⟩] })
     (s.link 5).waits.find? (fun w => w.cid == 7) = some ⟨7, opPing, .mailbox⟩ ∧
     ok (.cmdTimeout 5 7) s (fun t => t.on (LINK_CMD_CTL_TIMEOUT 5) && (t.link 5).waits == [])) ∧
    (let s := lane5 [] (fun l => { l with tlmSeen := true })
     s.linkState 5 = lsUp ∧ (s.link 5).tlmSeen = true ∧ ok (.upwr 5 false) s (fun t => (t.link 5).cmds.length == 1) ∧
     ok (.tlmGap 5) s (fun t => !(t.link 5).tlmSeen)) ∧
    (let s := lane5 [(LINK_PWR_STAT_US 5, pwSleep)] id
     s.rd (LINK_PWR_STAT_US 5) = pwSleep ∧ ok (.upwr 5 true) s (fun t => (t.link 5).cmds == [deviceCmd opUpwr 0])) := by decide

/-! ## Encoder inputs -/

/-- Input 3 enabled and supplied, of context 1, with more register fields and a change of its hidden state. -/
def enc3 (fs : List (Fld × Nat)) (f : Enc → Enc) : State :=
  (live ([(HOST_OWN_ENC 3, 1), (ENC_CTL_EN 3, 1), (ENC_CTL_PWR 3, 1)] ++ fs)).updEnc 3 (fun e => f { e with settled := true })

theorem test_acquisition :
    (let s := enc3 [] (fun e => { e with settled := false })
     s.on (ENC_CTL_PWR 3) = true ∧ (s.enc 3).settled = false ∧ ok (.pwrSettleExpiry 3) s (fun t => t.on (ENC_STAT_PWR_OK 3))) ∧
    (let s := enc3 [(ENC_STAT_ACQ 3, 1), (ENC_CAL_CTL_AUTO 3, 0)] id
     s.on (ENC_STAT_ACQ 3) = true ∧ NoPages s ∧ s.on (ENC_CAL_CTL_AUTO 3) = false ∧ s.on (ENC_CAL_STAT_PEND 3) = false ∧
     ok (.acquisitionEnd 3) s (fun t => t.on (ENC_STAT_VALID 3) && (t.enc 3).cal == none)) ∧
    (let s := enc3 [(ENC_STAT_ACQ 3, 1), (ENC_CAL_CTL_AUTO 3, 1), (ENC_CTL_MODE 3, 0), (ENC_CAL_CTL_HOLD 3, 0)] id
     s.on (ENC_CAL_CTL_AUTO 3) = true ∧ s.on (ENC_CTL_MODE 3) = false ∧ s.on (ENC_CAL_CTL_HOLD 3) = false ∧ (s.enc 3).cal = none ∧
     ok (.acquisitionEnd 3) s (fun t => t.rd (ENC_CAL_STAT_CAUSE 3) == 3 && (t.enc 3).cal.isSome)) := by decide

/-- Converters at the middle, lines low, and wires that mirror each other within 1.0 V to 4.0 V. -/
def quiet : EncBalls := ⟨0, 0, false, false, false, ⟨2600000, 2400000, 2500000⟩, ⟨2600000, 2400000, 2500000⟩, ⟨2600000, 2400000, 2500000⟩⟩

theorem test_observer :
    (let s := live [] 
     s.on (ENC_CTL_EN 3) = false ∧ gives (.observerSample 3 quiet) s s) ∧
    (let s := enc3 [(ENC_CTL_MODE 3, 1), (ENC_CFG_EDGE_MIN 3, 2)] (fun e => { e with phi := some 0, count := 9 })
     s.on (ENC_CTL_IDX_EN 3) = false ∧ s.pairOn 1 = false ∧ (s.enc 3).cal = none ∧ (s.enc 3).phi = some 0 ∧ (s.enc 3).lineB = ⟨false, 0⟩ ∧
     (s.enc 3).lineA = ⟨false, 0⟩) ∧
    (let s := enc3 [(ENC_CTL_MODE 3, 1), (ENC_CFG_EDGE_MIN 3, 2)] (fun e => { e with phi := some 0, count := 9, lineA := ⟨false, 1⟩ })
     (s.enc 3).lineA.level ≠ true ∧ max 1 (s.rd (ENC_CFG_EDGE_MIN 3)) ≤ (s.enc 3).lineA.run + 1) := by decide

theorem test_encoder_faults :
    (let s := enc3 [(ENC_STAT_VALID 3, 1)] (fun e => { e with dist := [1123, 200, 150, 100], disSin := 0xFFFFFF, outl := 16, coast := 0xFFFFFF })
     s.rd (ENC_STAT_CAUSE 3) = 0 ∧ s.pairOn 1 = false ∧ (s.enc 3).cal = none ∧ NoPages s ∧
     max 1 (s.rd (ENC_CFG_WIRE_T 3)) ≤ max (s.enc 3).disSin (max (s.enc 3).disCos (s.enc 3).disIdx) ∧
     max 40 (s.rd (ENC_OBS_COAST_MAX 3)) * 50 < (s.enc 3).coast ∧ 1123 - 100 < 1024 ∧
     ok (.disturbFault 3) s (fun t => t.rd (ENC_STAT_CAUSE 3) == 1 && !t.on (ENC_STAT_VALID 3)) ∧
     ok (.wireFault 3) s (fun t => t.rd (ENC_STAT_CAUSE 3) == 2) ∧ ok (.amplFault 3) s (fun t => t.rd (ENC_STAT_CAUSE 3) == 3) ∧
     ok (.coastFault 3) s (fun t => t.rd (ENC_STAT_CAUSE 3) == 4 && t.rd (LEDGER_ENC_FAULTS 28) == 1) ∧
     ok (.pwrFault 3) s (fun t => t.rd (ENC_STAT_CAUSE 3) == 5 && t.reports == [⟨srcEncFault, 3, 2, initNone, 0, accNone, 3, 0, 0⟩])) ∧
    (let s := enc3 [(ENC_STAT_CAUSE 3, 4)] id
     s.rd (ENC_STAT_CAUSE 3) ≠ 0 ∧ gives (.pwrFault 3) s (s.wr (ENC_STAT_PWR_OK 3) 0)) := by decide

theorem test_missing_index : let s := enc3 [(ENC_IDX_PERIOD 3, 100), (ENC_IDX_CFG_INDEX_STRICT 3, 0)] (fun e => { e with idxRef := some 0, count := -151 })
    (s.enc 3).idxRef = some 0 ∧ s.rd (ENC_IDX_PERIOD 3) ≠ 0 ∧ 3 * s.rd (ENC_IDX_PERIOD 3) < 2 * ((s.enc 3).count - 0).natAbs ∧
    s.on (ENC_IDX_CFG_INDEX_STRICT 3) = false ∧ ok (.missingIndex 3) s (fun t => t.rd (ENC_CNT3_MISSING 3) == 1 && (t.enc 3).idxRef == some (-151)) := by
  decide

theorem test_encoder_control :
    (let s := live [(HOST_OWN_ENC 3, 1), (ENC_STAT_CAUSE 3, 2)]
     s.pairOn 1 = false ∧ (s.enc 3).cal = none ∧ NoPages s ∧ Passes s (.ctx 1) (ENC_CTL_EN 3) ∧ s.on (ENC_CTL_EN 3) = false ∧
     ok (.encEnable (.ctx 1) 3) s (fun t => t.on (ENC_CTL_EN 3) && t.rd (ENC_STAT_CAUSE 3) == 0) ∧ Passes s (.ctx 1) (ENC_CTL_RESTART 3) ∧
     gives (.encRestart (.ctx 1) 3) s (s.wr (ENC_STAT_CAUSE 3) 0)) ∧
    (let s := enc3 [(ENC_STAT_VALID 3, 1), (ENC_STAT_CAUSE 3, 2)] id
     s.on (ENC_CTL_EN 3) = true ∧ Passes s (.ctx 1) (ENC_CTL_PWR 3) ∧ s.on (ENC_CTL_PWR 3) = true ∧
     ok (.encDisable (.ctx 1) 3 false) s (fun t => !t.on (ENC_STAT_VALID 3) && t.rd (ENC_STAT_CAUSE 3) == 2) ∧
     ok (.encDisable (.ctx 1) 3 true) s (fun t => !t.on (ENC_CTL_PWR 3) && !(t.enc 3).settled) ∧
     ok (.encRestart (.ctx 1) 3) s (fun t => t.rd (ENC_STAT_CAUSE 3) == 0 && !t.on (ENC_STAT_VALID 3))) := by decide

theorem test_pairs :
    (let s := live [(HOST_OWN_ENC 2, 1), (HOST_OWN_ENC 3, 1), (ENC_DUAL_PRIMARY 2, 1)]
     Passes s (.ctx 1) (ENC_DUAL_EN 2) ∧ s.pairOn 1 = false ∧ ok (.dualEnable (.ctx 1) 1 true) s (fun t => t.pairOn 1 && t.rd (ENC_DUAL_ACTIVE 2) == 1)) ∧
    (let s := (live [(HOST_OWN_ENC 2, 1), (HOST_OWN_ENC 3, 1), (ENC_DUAL_EN 2, 1), (ENC_DUAL_SAMPLES 2, 2), (ENC_DUAL_EXCLUDED 2, 1)]).updPair 1
       (fun e => { e with run := 2 })
     s.pairOn 1 = true ∧ NoPages s ∧ ok (.dualEnable (.ctx 1) 1 false) s (fun t => !t.pairOn 1) ∧ Passes s (.ctx 1) (ENC_DUAL_REARM 2) ∧
     gives (.dualRearm (.ctx 1) 1) s (s.wr (ENC_DUAL_EXCLUDED 2) 0) ∧ max 1 (s.rd (ENC_DUAL_SAMPLES 2)) ≤ (s.pair 1).run ∧
     ok (.dualMismatch 1) s (fun t => t.on (ENC_DUAL_EXCLUDED 2) && t.rd (ENC_DUAL_ACTIVE 2) == 0)) := by decide

theorem test_virtual :
    (let s := live []
     s.virtOk = false ∧ ok .virtualStep s (fun t => t.virt.v == 0) ∧ Passes s (.ctx 0) VIRT_LOAD ∧
     ok (.virtualLoad (.ctx 0)) s (fun t => t.virt.x == s.virtPos)) ∧
    (let s := { live [(VIRT_EN, 1), (TIME_STAT_VALID, 1), (VIRT_VIRT_VEL, 3), (VIRT_VIRT_ACC, 0)] with virt := { Virt.reset with load := true } }
     s.virtOk = true ∧ s.virt.load = true ∧ s.rd VIRT_VIRT_ACC = 0) ∧
    (let s := live [(VIRT_EN, 1), (TIME_STAT_VALID, 1), (VIRT_VIRT_VEL, 3), (VIRT_VIRT_ACC, 7)]
     s.virtOk = true ∧ s.rd VIRT_VIRT_ACC ≠ 0) := by decide

theorem test_calibration_start :
    (let s := enc3 [(ENC_CAL_DT 3, 5), (ENC_CAL_TEMP_TREF 3, 100), (ENC_CAL_CTL_AUTO 3, 1), (ENC_STAT_VALID 3, 1)] id
     s.on (ENC_CAL_STAT_PEND 3) = false ∧ ((sext 16 105 - s.rdS (ENC_CAL_TEMP_TREF 3)).natAbs : Int) ≤ s.rdS (ENC_CAL_DT 3) ∧
     ok (.calTempCheck 3 105) s (fun t => (t.enc 3).cal == none && t.rd (ENC_CAL_TEMP_TEMP 3) == 105) ∧ s.calReady 3 = true ∧
     s.rdS (ENC_CAL_DT 3) < ((sext 16 106 - s.rdS (ENC_CAL_TEMP_TREF 3)).natAbs : Int) ∧
     ok (.calTempCheck 3 106) s (fun t => (t.enc 3).cal.isSome && t.rd (ENC_CAL_STAT_CAUSE 3) == 1) ∧
     Passes s (.ctx 1) (ENC_CAL_CTL_START 3) ∧
     ok (.calStart (.ctx 1) 3) s (fun t => (t.enc 3).cal.any (fun c => c.binMin == 16 || c.binMin == s.rd (ENC_CAL_BIN_MIN 3)) && t.rd (ENC_CAL_CNT_RUNS 3) == 1)) ∧
    (let s := enc3 [(ENC_CTL_MODE 3, 1)] id
     s.on (ENC_CTL_MODE 3) = true ∧ gives (.calStart (.ctx 1) 3) s ((s.wr (ENC_CAL_STAT_RESULT 3) 8).wr (ENC_CAL_STAT_DONE 3) 1)) := by decide

/-- A run with every bin full. -/
def fullRun (phase : Nat) : CalRun := ⟨phase, 256, 16, 256, (List.range 64).map (fun b => (b, (16, 0, 0))), false, false⟩

theorem test_calibration_phases :
    (let s := enc3 [] (fun e => { e with cal := some (fullRun 1) })
     (s.enc 3).cal = some (fullRun 1) ∧ ok (.calTrimEnd 3 5 6 65535 2) s (fun t => t.rd (ENC_ADC_TRIM_ZS 3) == 5 && t.rdS (ENC_CAL_COEF_OFF_S 3) == -1 &&
       t.rdS (ENC_CAL_COEF_OFF_C 3) == 2 && t.rd (ENC_CAL_STAT_PHASE 3) == 2)) ∧
    (let s := enc3 [] (fun e => { e with cal := some (fullRun 2) })
     (fullRun 2).periods ≤ (fullRun 2).wraps ∧ (∀ b, b < 64 → (fullRun 2).binMin ≤ (Store.get (0, 0, 0) (fullRun 2).bins b).1) ∧
     ok (.calAccumulateEnd 3) s (fun t => t.rd (ENC_CAL_STAT_PHASE 3) == 3) ∧ ok (.calTimeout 3) s (fun t => t.rd (ENC_CAL_STAT_RESULT 3) == 6)) ∧
    (let s := enc3 [] (fun e => { e with cal := some (fullRun 3) })
     (s.enc 3).cal = some (fullRun 3)) := by decide

theorem test_calibration_load :
    (let s := enc3 [(ENC_CAL_SET_GAIN_C 3, 32768), (ENC_CAL_SET_PH_SEC 3, 32768), (ENC_CAL_SET_PH_SIN 3, 0), (ENC_CAL_SET_OFF_S 3, 0xFFFF), (ENC_CAL_SET_OFF_C 3, 0)] id
     Passes s (.ctx 1) (ENC_CAL_CTL_LOAD 3) ∧ (s.enc 3).cal = none ∧
     ok (.calLoad (.ctx 1) 3) s (fun t => t.rd (ENC_CAL_STAT_RESULT 3) == 1 && t.rdS (ENC_CAL_COEF_OFF_S 3) == -1)) ∧
    (let s := enc3 [(ENC_CAL_SET_GAIN_C 3, 1)] id
     ok (.calLoad (.ctx 1) 3) s (fun t => t.rd (ENC_CAL_STAT_RESULT 3) == 9 && t.coef 3 == s.coef 3)) := by decide

/-! ## Motion axes -/

/-- Axis 7 of context 1 in a state, with more register fields and a change of its hidden state. -/
def axis7 (state : Nat) (fs : List (Fld × Nat)) (f : Axis → Axis) : State :=
  (live ([(HOST_OWN_AXIS 7, 1), (AXIS_STAT_STATE 7, state), (AXIS_CTL_EN 7, 1)] ++ fs)).updAxis 7 (fun x => f { x with on := true })

/-- A table of two rows. -/
def table7 : List (Nat × SegRow) := [(1022, ⟨4, 0, 65536⟩), (1023, ⟨4, 0, 131072⟩)]

theorem test_axis_start : let s := axis7 axReady [(AXIS_CMD_ROWS_FIRST_ROW 7, 1022), (AXIS_CMD_ROWS_ROWS 7, 2)] (fun x => { x with table := table7 })
    (s.axis 7).waits = [] ∧ s.rings = [] ∧ (s.axis 7).disabling = false ∧ Passes s (.ctx 1) (AXIS_CMD_GO 7) ∧ s.axState 7 = axReady ∧ s.rd (AXIS_ARG 7) < 2 ∧
    s.rd (AXIS_CMD_ROWS_FIRST_ROW 7) + s.rd (AXIS_CMD_ROWS_ROWS 7) ≤ 1024 ∧
    ok (.axisStart (.cmd (.ctx 1) 7)) s (fun t => t.axState 7 == axMoving && (t.axis 7).move == some ⟨1022, 1023, ⟨0, 0, 4, 65536, 0, 0⟩, false⟩ &&
      t.on (AXIS_CMD_RES_DONE 7)) := by decide

theorem test_axis_stop_and_resume :
    (let s := axis7 axMoving [(AXIS_STOP_DECEL 7, 9)] (fun x => { x with vel := 5 })
     s.axState 7 = axMoving ∧ s.rd (AXIS_ARG 7) = 0 ∧ ok (.axisStop (.cmd (.ctx 1) 7)) s (fun t => t.axState 7 == axStopping &&
       (t.axis 7).ramp == some ⟨0, 5, 9, 0, 0⟩)) ∧
    (let s := axis7 axStopping [] id
     s.axState 7 = axStopping ∧ ok (.axisResume (.cmd (.ctx 1) 7)) s (fun t => t.on (AXIS_STAT_RESUME_PEND 7))) ∧
    (let s := axis7 axStopped [(AXIS_ARG 7, 1)] id
     s.axState 7 = axStopped ∧ s.rd (AXIS_ARG 7) = 1 ∧ ok (.axisResume (.cmd (.ctx 1) 7)) s (fun t => t.axState 7 == axReady)) := by decide

theorem test_axis_home_enable_disable :
    (let s := axis7 axReady [(AXIS_ARG 7, 1), (AXIS_HOME_VEL 7, 8), (AXIS_HOME_ACC 7, 2)] id
     s.limActive 7 (Homing.source ⟨1, bitOf (s.rd (AXIS_ARG 7)) 0, bitOf (s.rd (AXIS_ARG 7)) 1, none, []⟩) = false ∧ s.rd (AXIS_ARG 7) < 4 ∧
     ok (.axisHome (.cmd (.ctx 1) 7)) s (fun t => t.axState 7 == axHoming && (t.axis 7).ramp.any (fun r => r.goal == -8))) ∧
    (let s := live [(HOST_OWN_AXIS 7, 1)]
     Passes s (.ctx 1) (AXIS_CTL_EN 7) ∧ s.axState 7 = axOff ∧ ok (.axisEnable (.ctl (.ctx 1) 7)) s (fun t => t.axState 7 == axReady && (t.axis 7).on)) ∧
    (let s := axis7 axReady [] id
     (s.axis 7).vel = 0 ∧ ok (.axisDisable (.ctl (.ctx 1) 7)) s (fun t => t.on (AXIS_STAT_BRAKE 7) && (t.axis 7).disabling)) := by decide

theorem test_axis_table :
    (let s := axis7 axReady [(AXIS_TBL_IDX 7, 1023), (AXIS_TBL_W 7 0, 5), (AXIS_TBL_W 7 2, 9)] id
     Passes s (.ctx 1) (AXIS_TBL_W 7 3) ∧ (s.axis 7).hitsLock 1023 1 = false ∧
     segRow (leBytes 4 5 ++ leBytes 4 0 ++ leBytes 4 9 ++ leBytes 4 0) = some ⟨5, 0, 9⟩ ∧
     ok (.tblCommit (.ctx 1) 7 0) s (fun t => (t.axis 7).rowAt 1023 == ⟨5, 0, 9⟩ && t.rd (AXIS_CMD_RES_STATUS 7) == stOk)) ∧
    (let s := axis7 axReady [(AXIS_TBL_W 7 0, 0)] id
     segRow (leBytes 4 0 ++ leBytes 4 0 ++ leBytes 4 0 ++ leBytes 4 0) = none ∧
     ok (.tblCommit (.ctx 1) 7 0) s (fun t => t.rd (AXIS_CMD_RES_STATUS 7) == stBadDesc)) ∧
    (let s := axis7 axReady [(AXIS_POS_SET_LO 7, 77)] id
     Passes s (.ctx 1) (AXIS_CTL_POS_LOAD 7) ∧ ok (.posLoad (.ctx 1) 7) s (fun t => (t.axis 7).pos == 77 && t.on (AXIS_STAT_POS_VALID 7))) := by decide

theorem test_axis_load_table : let d := desc 0 .queued [7, 0, 0, 0, 7, 0, 0, 0, 0, 0x20, 0, 0, 0, 0, 0, 0, 0xFF, 3, 1, 0]
    let s := (axis7 axReady (cellRegs 5 csIdle) id).setRing 11 (ringOf 1 1 [d]);
    s.axDesc 5 0 = some d ∧ s.axOwned 5 d = true ∧ isLocal (d.u64 8) = false ∧ s.mayReadMem (s.ringOwner 11) (d.u64 8) (16 * d.u16 18) = true ∧
    d.u32 20 = 0 ∧ (s.axis (d.u8 4 % 8)).hitsLock (d.u16 16) (d.u16 18) = false ∧
    ok (.axisLoadTable 5 (.ok ([5] ++ List.replicate 15 0))) s (fun t => (t.axis 7).rowAt 1023 == ⟨5, 0, 0⟩ && (t.ring 11).held == []) ∧
    segRows 1 (List.replicate 16 0) = none ∧ ok (.axisLoadTable 5 (.ok (List.replicate 16 0))) s (fun t => (t.axis 7).table == []) := by decide

theorem test_axis_motion :
    gives (.axisTick 7) (live []) (live []) ∧
    (let s := axis7 axMoving [(AXIS_LIM_LIM_P_EN 7, 0), (AXIS_LIM_LIM_N_EN 7, 0)] (fun x =>
       { x with table := table7, move := some ⟨1022, 1023, ⟨0, 0, 4, 65536, 0, 3⟩, false⟩ })
     s.axState 7 = axMoving ∧ (∀ i, i < 3 → s.on (limFlds 7 i).1 = false) ∧ (s.axis 7).ramp = none) ∧
    (let s := axis7 axMoving [] (fun x => { x with move := some ⟨1022, 1023, ⟨0, 0, 4, 65536, 0, 4⟩, true⟩ })
     (s.axis 7).chain = none ∧ (s.axis 7).waits = [] ∧ ok (.moveEnd 7) s (fun t => t.axState 7 == axReady && (t.axis 7).move == none)) ∧
    (let s := axis7 axStopping [] (fun x => { x with ramp := some ⟨0, 0, 9, 0, 0⟩ })
     Ramp.atRest ⟨0, 0, 9, 0, 0⟩ = true ∧ (s.axis 7).disabling = false ∧ s.on (AXIS_STAT_RESUME_PEND 7) = false) := by decide

theorem test_axis_timers :
    (let s := axis7 axReady [] (fun x => { x with holding := false })
     (s.axis 7).vel = 0 ∧ ok (.holdDelayExpiry 7) s (fun t => (t.axis 7).holding)) ∧
    (let s := axis7 axReady [(AXIS_STAT_POS_VALID 7, 1), (AXIS_STAT_BRAKE 7, 0)] (fun x => { x with releaseDue := true, disabling := true })
     (s.axis 7).releaseDue = true ∧ (s.axis 7).disabling = true ∧ s.on (AXIS_STAT_BRAKE 7) = false ∧
     ok (.bridgeReleaseTimer 7) s (fun t => t.axState 7 == axOff && !t.on (AXIS_STAT_POS_VALID 7)) ∧
     ok (.bridgeReleaseTimer 7) (s.wr (AXIS_STAT_BRAKE 7) 1) (fun t => t.on (AXIS_STAT_POS_VALID 7))) := by decide

set_option maxRecDepth 20000 in
theorem test_axis_faults :
    (let s := axis7 axMoving [(AXIS_LIM_LIM_P_EN 7, 1), (AXIS_LIM_LIM_P_POL 7, 1), (AXIS_LIM_LIM_FILT 7, 5), (AXIS_ISNS_IMAX 7, 900)] (fun x => { x with vel := 1, levels := 6 })
     (s.axis 7).on = true ∧ (s.axis 7).waits = [] ∧ s.rings = [] ∧ (s.axis 7).home = none ∧ s.on (AXIS_LIM_LIM_P_EN 7) = true ∧
     s.on (AXIS_LIM_LIM_P_POL 7) = true ∧ s.rd (AXIS_LIM_LIM_FILT 7) ≤ 5 ∧ bitOf (s.axis 7).levels 0 = false ∧
     ok (.limitChange 7 .limP true 5) s (fun t => t.axState 7 == axFault && t.rd (AXIS_STAT_FAULT_CAUSE 7) == 1) ∧
     s.overImax 7 ⟨1024, 0⟩ = true ∧ s.overImax 7 ⟨0, 3072⟩ = true ∧ ok (.overcurrent ⟨7, ⟨1024, 0⟩, ⟨0, 3072⟩, ⟨1024, 0⟩⟩) s (fun t => t.rd (AXIS_STAT_FAULT_CAUSE 7) == 3 && !(t.axis 7).on && t.on (AXIS_STAT_BRAKE 7))) ∧
    (let s := axis7 axHoming [] (fun x => { x with home := some ⟨2, false, false, none, []⟩ })
     (s.axis 7).home = some ⟨2, false, false, none, []⟩ ∧ ok (.homeTimeout 7) s (fun t => t.rd (AXIS_STAT_FAULT_CAUSE 7) == 5)) := by decide

theorem test_axis_drive :
    (let s := axis7 axReady [(AXIS_STAT_DRIVE_NOW 7, drLamb)] id
     s.rd (AXIS_STAT_DRIVE_NOW 7) ≠ drBull ∧ (s.axis 7).on = true) ∧
    (let s := axis7 axReady [(AXIS_STAT_DRIVE_NOW 7, drBull), (AXIS_CHOP_H_NOW 7, 10), (AXIS_BULL_H_MIN 7, 5), (AXIS_BULL_H_MAX 7, 15), (AXIS_PWM_CHOP_F 7, 20)]
       (fun x => { x with refA := 100 * 65536, coilA := .slow, changes := 256 })
     (s.axis 7).blankA ≤ s.timeNs ∧ 0 ≤ (s.axis 7).refA ∧ s.sensed 7 0 < ((s.axis 7).refA - (s.rd (AXIS_CHOP_H_NOW 7) : Int) * 65536) * 900000 ∧
     ok (.chopperCompare 7 false 0) s (fun t => (t.axis 7).coilA == .drive true && (t.axis 7).changes == 257) ∧ s.rd (AXIS_BULL_H_MIN 7) ≤ s.rd (AXIS_BULL_H_MAX 7) ∧
     256 ≤ (s.axis 7).changes ∧ s.chopFreqOk 7 40 = true ∧ ok (.chopWindow 7 40) s (fun t => t.rd (AXIS_CHOP_H_NOW 7) == 15)) := by decide

/-! ## The loop engine -/

/-- Slot 79 of context 1 in a state. -/
def slot79 (state : Nat) (fs : List (Fld × Nat)) (f : Slot → Slot) : State :=
  (live ([(HOST_OWN_LOOP 79, 1), (LOOP_STAT_STATE 79, state), (LOOP_RATE_DIV 79, 10)] ++ fs)).updSlot 79 f

theorem test_loop_enable :
    (let s := slot79 lpOff [(LOOP_BIND_IN_SEL 79, 3)] id
     Passes s (.ctx 1) (LOOP_CTL_EN 79) ∧ s.on (LOOP_CTL_EN 79) = false ∧ s.lpRefused 79 = false ∧ s.lpState 79 = lpOff ∧
     ok (.loopEnable (.ctx 1) 79) s (fun t => t.lpState 79 == lpWait && t.on (LOOP_CTL_EN 79))) ∧
    (let s := slot79 lpOff [(LOOP_RATE_DIV 79, 0)] id
     s.rd (LOOP_RATE_DIV 79) = 0 ∧ gives (.loopEnable (.ctx 1) 79) s (s.hostXs (.ctx 1) xsRule (LOOP_CTL_EN 79).addr true)) ∧
    (let s := slot79 lpRun [(LOOP_CTL_EN 79, 1)] id
     s.on (LOOP_CTL_EN 79) = true ∧ ok (.loopDisable (.ctx 1) 79) s (fun t => (t.slot 79).stopping)) := by decide

theorem test_loop_commit :
    (let s := slot79 lpRun [(LOOP_LIM_OUT_MIN 79, 5), (LOOP_LIM_OUT_MAX 79, 4)] id
     Passes s (.ctx 1) (LOOP_CTL_COMMIT 79) ∧ s.rdS (LOOP_LIM_OUT_MAX 79) < s.rdS (LOOP_LIM_OUT_MIN 79) ∧
     gives (.loopCommit (.ctx 1) 79) s (s.hostXs (.ctx 1) xsValue (LOOP_CTL_COMMIT 79).addr true)) ∧
    (let s := slot79 lpRun [(LOOP_LIM_OUT_MIN 79, 4), (LOOP_LIM_OUT_MAX 79, 4)] id
     s.rdS (LOOP_LIM_OUT_MIN 79) ≤ s.rdS (LOOP_LIM_OUT_MAX 79) ∧ s.lpState 79 ≠ lpOff ∧ gives (.loopCommit (.ctx 1) 79) s (s.wr (LOOP_STAT_COMMIT_PEND 79) 1)) ∧
    (let s := slot79 lpOff [(LOOP_LIM_OUT_MIN 79, 4), (LOOP_LIM_OUT_MAX 79, 4)] id
     s.lpState 79 = lpOff ∧ ok (.loopCommit (.ctx 1) 79) s (fun t => t.rdF (LOOP_LIM_OUT_MAX 79) == 4)) := by decide

set_option maxRecDepth 20000 in
theorem test_loop_tick :
    (let s := live []
     (∀ i, i < 80 → s.lpDue i = false) ∧ ok .loopTick s (fun t => t.loopTick == 1)) ∧
    (let s := slot79 lpRun [] (fun l => { l with stopping := true })
     s.lpDue 79 = true ∧ (∀ j, j < 80 → j ≠ 79 → s.lpDue j = false) ∧ s.lpHeater 79 = false ∧ (s.slot 79).stopping = true ∧
     (s.lpSample 79 0 true).lpState 79 = lpOff) ∧
    (let s := slot79 lpFault [] id
     (s.slot 79).stopping = false ∧ s.lpState 79 = lpFault ∧ s.lpSample 79 0 true = s) ∧
    (let s := slot79 lpRun [] id
     s.on (LOOP_STAT_COMMIT_PEND 79) = false ∧ (s.lpSample 79 0 false).lpState 79 = lpHold) := by decide

theorem test_loop_faults :
    (let s := slot79 lpRun [(LOOP_STALE_STALE_N 79, 3), (LOOP_FE_FE_LIMIT 79, 1), (LOOP_FE_FE_TIME 79, 2)] (fun l => { l with staleRun := 3, feUs := 2000 })
     s.lpState 79 ≠ lpOff ∧ s.lpState 79 ≠ lpFault ∧ max 1 (s.rd (LOOP_STALE_STALE_N 79)) ≤ (s.slot 79).staleRun ∧
     ok (.loopInputFault 79) s (fun t => t.lpState 79 == lpFault && t.rd (LOOP_STAT_FAULT_CAUSE 79) == 2) ∧ s.rd (LOOP_FE_FE_LIMIT 79) ≠ 0 ∧
     max 1 (s.rd (LOOP_FE_FE_TIME 79)) * 1000 ≤ (s.slot 79).feUs ∧ ok (.loopFeFault 79) s (fun t => t.rd (LOOP_STAT_FAULT_CAUSE 79) == 1)) := by decide

theorem test_auxiliary :
    (let s := live []
     s.on (AUXPWM_EN 15) = false ∧ ok (.auxPwmPeriod 15) s (fun t => t.rd (AUXPWM_DUTY_NOW 15) == 0) ∧ Store.get none s.ainFirst 15 = none ∧
     ok (.ainConvert 15 100) s (fun t => ok (.ainConvert 15 101) t (fun u => u.rd (AIN_VALUE 15) == 804))) ∧
    (let s := live [(AUXPWM_EN 15, 1), (AUXPWM_IDLE 15, 0x8000)]
     s.on (AUXPWM_EN 15) = true ∧ s.auxDriver 15 = none ∧ ok (.auxPwmPeriod 15) s (fun t => t.rd (AUXPWM_DUTY_NOW 15) == 0x8000)) := by decide

/-! ## Inspection -/

/-- Pipeline 2 of context 1, enabled, on port 3 and virtual channel 1, 4 pixels wide, with more register fields and a change of its hidden state. -/
def pipe2 (fs : List (Fld × Nat)) (ds : List Desc) (f : Pipe → Pipe) : State :=
  ((live ([(HOST_OWN_INSP 2, 1), (INSP_CTL_EN 2, 1), (INSP_CTL_ARMED 2, 1), (INSP_BIND_PORT 2, 3), (INSP_BIND_VC 2, 1), (INSP_BIND_DT 2, 1),
    (INSP_PORT_CTL_EN 3, 1), (INSP_GEOM_WIDTH 2, 4), (INSP_GEOM_MAX_LINES 2, 2)] ++ fs)).setRing 136 (ringOf ds.length ds.length ds)).updPipe 2 f

/-- A descriptor of an inspection operation with a length. -/
def inspOp (op len : Nat) : Desc :=
  desc 0 .queued ([BitVec.ofNat 8 tyInsp, 0, 0, 0, BitVec.ofNat 8 op] ++ List.replicate 11 0 ++ leBytes 4 len)

/-- What an open frame of pipeline 2 holds. -/
def frame2 : Frame := ⟨⟨7, 0, 0, 0, 0, 0, 0, 0, 0, 0, false⟩, [], [], [], false, none, none, none, none, 0, false⟩

theorem test_inspection_loads :
    (let d := inspOp 0 8
     let s := pipe2 [] [d] id
     s.inspDesc 2 0 = some d ∧ d.u32 16 = 8 ∧ isLocal (d.u64 8) = false ∧ s.mayReadMem (s.ringOwner 136) (d.u64 8) 8 = true ∧
     mapSorted (words32 ([1, 0, 0, 0, 2, 0, 0, 0] : List Byte)) = true ∧ mapSorted (words32 ([2, 0, 0, 0, 1, 0, 0, 0] : List Byte)) = false ∧
     ok (.loadDpcMap 2 (.ok [1, 0, 0, 0, 2, 0, 0, 0])) s (fun t => (t.pipe 2).dpc == [1, 2] && (t.ring 136).held == []) ∧
     ok (.loadDpcMap 2 (.ok [2, 0, 0, 0, 1, 0, 0, 0])) s (fun t => (t.pipe 2).dpc == [] && (t.ring 136).held == [])) ∧
    (let d := inspOp 1 6600
     (pipe2 [] [d] id).inspDesc 2 1 = some d ∧ d.u32 16 = 6600) ∧
    (let d := inspOp 2 24
     (pipe2 [] [d] id).inspDesc 2 2 = some d ∧
     ok (.loadMatrix 2 (.ok (List.replicate 24 1))) (pipe2 [] [d] id) (fun t => (t.pipe 2).mat == List.replicate 12 257)) ∧
    (let d := inspOp 3 8
     (pipe2 [] [d] id).inspDesc 2 3 = some d ∧
     ok (.setExposure 2 (.ok [0x10, 0x05, 0x34, 0x12, 9, 0, 0, 0])) (pipe2 [] [d] id) (fun t => (t.pipe 2).cci == [⟨0x10, 1, 1, 0x1234, 9⟩])) := by decide

theorem test_inspection_operations :
    (let d := inspOp 4 0
     let s := pipe2 [] [d] id
     s.inspDesc 2 4 = some d ∧ (s.pipe 2).commit = none ∧ ok (.inspCommit 2) s (fun t => t.on (INSP_SET_STAT_PEND 2) && (t.pipe 2).commit.any (·.acked))) ∧
    (let d := inspOp 5 0
     let s := pipe2 [(INSP_CTL_ARMED 2, 0)] [d] id
     s.inspDesc 2 5 = some d ∧ ok (.inspArm 2) s (fun t => t.on (INSP_CTL_ARMED 2))) ∧
    (let d := inspOp 6 0
     let s := pipe2 [] [d] id
     s.inspDesc 2 6 = some d ∧ (s.pipe 2).frame = none ∧ ok (.inspDisarm 2) s (fun t => !t.on (INSP_CTL_ARMED 2))) ∧
    (let d := inspOp 6 0
     let s := pipe2 [] [d] (fun x => { x with frame := some frame2 })
     s.inspDesc 2 6 = some d ∧ (s.pipe 2).frame = some frame2 ∧ ok (.inspDisarm 2) s (fun t => t.on (INSP_CTL_ARMED 2) && (t.pipe 2).disarmDue)) := by decide

theorem test_camera_packets :
    (let s := pipe2 [(INSP_PORT_CTL_EN 3, 0)] [] id
     s.on (INSP_PORT_CTL_EN 3) = false ∧ gives (.csiPacket 3 1 .other true false .none) s s) ∧
    (let s := pipe2 [] [] id
     s.on (INSP_PORT_CTL_EN 3) = true ∧ s.pipeFor 3 1 = some 2 ∧ s.pipeFor 3 0 = none ∧ (s.pipe 2).frame = none ∧ (s.pipe 2).commit = none ∧
     s.on (INSP_CTL_ARMED 2) = true ∧ ok (.csiPacket 3 0 .frameEnd false false .none) s (fun t => t.rd (INSP_PORT_CNT0_NO_PIPE 3) == 1)) ∧
    (let s := pipe2 [(INSP_CTL_ARMED 2, 0)] [] id
     s.pipeFor 3 1 = some 2 ∧ s.on (INSP_CTL_ARMED 2) = false ∧
     ok (.csiPacket 3 1 .frameEnd false false .none) s (fun t => t.rd (INSP_CNT_DROP_DISARMED 2) == 1)) ∧
    (let s := pipe2 [] [] (fun x => { x with frame := some frame2 })
     (1 : Nat) = s.boundType 2 ∧ (s.pipe 2).frame = some frame2 ∧ frame2.dropping = false ∧ 2 ≤ s.rd (INSP_GEOM_WIDTH 2) ∧
     frame2.rows.length < s.rd (INSP_GEOM_MAX_LINES 2) ∧
     ok (.csiPacket 3 1 (.raw 1 [5, 6] true) false false .none) s (fun t => (t.pipe 2).frame.any (fun f => f.rows == [[5, 6, 0, 0]]))) := by decide

theorem test_pipeline_enable :
    (let s := pipe2 [(INSP_CTL_EN 2, 0), (INSP_CNT_DROP_DT 2, 3)] [] id
     Passes s (.ctx 1) (INSP_CTL_EN 2) ∧ s.on GLOBAL_READY_MEM_FAIL = false ∧ s.on (INSP_CTL_EN 2) = false ∧ s.pipeClash 2 = false ∧
     ok (.inspEnable (.ctx 1) 2 true) s (fun t => t.on (INSP_CTL_EN 2) && t.rd (INSP_STAT_SLOTS 2) == 8 && t.rd (INSP_CNT_DROP_DT 2) == 0)) ∧
    (let s := pipe2 [(INSP_CTL_EN 2, 0), (INSP_CTL_EN 0, 1), (INSP_BIND_PORT 0, 3), (INSP_BIND_VC 0, 1)] [] id
     Passes s (.ctx 1) (INSP_CTL_EN 2) ∧ s.pipeClash 2 = true ∧
     ok (.inspEnable (.ctx 1) 2 true) s (fun t => !t.on (INSP_CTL_EN 2))) := by decide

/-- Two entries of a write list. -/
def writes2 : List CciWrite := [⟨16, 1, 1, 5, 6⟩, ⟨16, 1, 1, 7, 8⟩]

theorem test_cci :
    (let s := (pipe2 [] [] id).setCci 3 [⟨2, writes2, true, false⟩]
     s.on (INSP_CCI_STAT_BUSY 3) = false ∧ s.on (INSP_CCI_STAT_WAIT 3) = false ∧ s.cci 3 = [⟨2, writes2, true, false⟩] ∧
     ok (.cciAck 3) s (fun t => t.out == [.cci 3 ⟨16, 1, 1, 5, 6⟩ false]) ∧ ok (.cciFail ⟨3, true, 0⟩) s (fun t => t.cci 3 == []) ∧ (∀ j ∈ s.cci 3, j.live = false) ∧
     s.stretched 3 65535 = true ∧ ok (.cciFail ⟨3, false, 65535⟩) s (fun t => t.cci 3 == [])) ∧
    (let s := pipe2 [(INSP_CCI_MB0_READ 3, 1)] [] id
     Passes s (.ctx 0) (INSP_CCI_MB0_GO 3) ∧ s.cciHeld 3 = false ∧ ok (.cciMailbox (.ctx 0) 3) s (fun t => t.on (INSP_CCI_STAT_BUSY 3))) ∧
    (let s := pipe2 [(INSP_SET_STAT_PEND 2, 1)] [] id
     Passes s (.ctx 0) (INSP_CCI_MB0_GO 3) ∧ s.cciHeld 3 = true ∧ ok (.cciMailbox (.ctx 0) 3) s (fun t => t.on (INSP_CCI_STAT_WAIT 3))) ∧
    (let s := pipe2 [(INSP_CCI_STAT_BUSY 3, 1), (INSP_CCI_MB0_READ 3, 1)] [] id
     s.on (INSP_CCI_STAT_BUSY 3) = true ∧ s.stretched 3 0 = false ∧ ok (.cciMailboxDone 3 false 0 77) s (fun t => t.rd (INSP_CCI_MB2_DATA 3) == 77)) ∧
    (let s := pipe2 [] [] id
     (s.pipe 2).frame = none ∧ (s.pipe 2).commit = none ∧ ok (.inspEccError 2 false) s (fun t => t.rd (INSP_CNT_ECC_ECC 2) == 1)) := by decide

/-! ## Nozzle health -/

/-- Cell 5 in AUTO mode with nozzle 3 OUT and a foreground entry for it. -/
def nh5 (fs : List (Fld × Nat)) (f : Cell → Cell) : State :=
  (live (cellRegs 5 csIdle ++ [(CELL_NH_CTL_MODE 5, 2), (CELL_CTL_MIRROR 5, 1)] ++ fs)).updCell 5 (fun c =>
    f ({ c with bank0 := [(3, 0x8003)] }.setNozzle 3 ⟨9, nzOut, 2, false⟩))

theorem test_ladder_analysis : let s := live [(INSP_NH_SCORE_OUT_AT 1, 4), (CELL_NH_PIN 5 3, 2)]
    s.ladders = [] ∧ ok (.ladderAnalysed 1) s (fun t => t == s) ∧ (s.cell 5).nozzle 3 = Noz.reset ∧ s.rd (CELL_NH_PIN 5 3) = 2 := by decide

theorem test_policy_forms :
    (let s := nh5 [] id
     Passes s (.ctx 1) (CELL_NH_CTL_APPLY 5) ∧ s.rd (CELL_NH_CTL_MODE 5) = 2 ∧ (s.cell 5).nhBlind = false ∧ s.nhCover 5 = [3] ∧ s.on (CELL_CTL_MIRROR 5) = true ∧
     s.safe = false ∧ s.rd (CELL_NH_CTL_VETO_HOLD 5) = 0 ∧ (s.cell 5).nhQ = [] ∧ (s.cell 5).bgWait = [] ∧ s.rd (CELL_BANK_STAT_BG_STATE 5) ≠ bgPolicy ∧
     ok (.nhApply (.ctx 1) 5) s (fun t => (t.cell 5).nhQ == [⟨1, [3], false, false⟩] && (t.cell 5).bgWait == [.policy])) ∧
    (let s := nh5 [(CELL_NH_CTL_MODE 5, 1)] id
     Passes s (.ctx 1) (CELL_NH_CTL_CLEAR 5) ∧ s.rd (CELL_NH_CTL_MODE 5) ≠ 2 ∧ gives (.nhApply (.ctx 1) 5) s s ∧
     ok (.nhClear (.ctx 1) 5) s (fun t => (t.cell 5).nozzle 3 == Noz.reset)) := by decide

theorem test_policy_goes_on :
    (let s := nh5 [] (fun c => { c with nhQ := [⟨7, [3], true, false⟩] })
     (s.cell 5).nhQ = [⟨7, [3], true, false⟩] ∧ (s.cell 5).bgWait = [] ∧ ok (.vetoHoldExpiry 5) s (fun t => (t.cell 5).bgWait == [.policy]) ∧
     Passes s (.ctx 1) (CELL_NH_VETO_VETO 5) ∧ ok (.nhVeto (.ctx 1) 5 7) s (fun t => (t.cell 5).nhQ == [] && ((t.cell 5).nozzle 3).vetoed)) ∧
    (let s := nh5 [(CELL_BANK_STAT_BG_STATE 5, bgReady)] (fun c => { c with nhQ := [⟨7, [3], false, false⟩], bgWait := [.policy] })
     s.rd (CELL_BANK_STAT_BG_STATE 5) = bgReady ∧ ok (.policyWrite 5 none) s (fun t => t.rd (CELL_BANK_STAT_BG_STATE 5) == bgPolicy) ∧
     ok (.policyWrite 5 (some true)) s (fun t => (t.cell 5).nhBlind && (t.cell 5).noz == [])) ∧
    (let s := nh5 [(CELL_BANK_STAT_BG_STATE 5, bgPolicy)] (fun c => { c with nhQ := [⟨7, [3], false, false⟩] })
     s.cellState 5 ≠ csFenced ∧ s.ganged 5 = false ∧
     ok (.policyWriteDone 5) s (fun t => (t.cell 5).nhSwap == [7] && t.on (CELL_BANK_STAT_SWAP_PEND 5))) := by decide

/-! ## Time and network -/

theorem test_steps_and_slews :
    (let s := live [(TIME_SET_LO, 7), (TIME_ADJ, 5)]
     Passes s (.ctx 0) TIME_CTL_SET_GO ∧ s.timeSrc = 0 ∧ ok (.setGo (.ctx 0)) s (fun t => t.time.step == some 7) ∧ Passes s (.ctx 0) TIME_CTL_ADJ_GO ∧
     Passes s (.ctx 0) TIME_CTL_ADJ_CANCEL ∧ ok (.adjGo (.ctx 0)) s (fun t => t.time.adj == 5 * 4294967296 && t.on TIME_STAT_SLEWING) ∧
     ok (.adjCancel (.ctx 0)) s (fun t => t.time.adj == 0)) ∧
    (let s := live [(TIME_CTL_SRC, 1)]
     Passes s (.ctx 0) TIME_CTL_SET_GO ∧ s.timeSrc ≠ 0 ∧ ok (.setGo (.ctx 0)) s (fun t => t.time.step == none)) ∧
    (let s : State := { live [(TIME_STAT_RUNNING, 1)] with time := { TimeSt.reset with step := some 7 } }
     s.pending = [] ∧ s.on TIME_STAT_RUNNING = true ∧ s.stepBlocked = false ∧ s.rings = [] ∧ s.time.pend = [] ∧
     (match step s with | .next t => decide (t.timeNs = 7 ∧ t.on TIME_STAT_VALID = true) | _ => false) = true) ∧
    (let s : State := { live [(TIME_STAT_RUNNING, 1), (CELL_STATE_STATE 9, csArmed)] with time := { TimeSt.reset with step := some 7 } }
     s.stepBlocked = true ∧ (match step s with | .next t => decide (t.timeNs = 0 ∧ t.on TIME_STAT_STEP_REFUSED = true) | _ => false) = true) := by decide

/-- A running clock that is to slew by 9 units more. -/
def slewing : State := { live [(TIME_STAT_RUNNING, 1), (TIME_RATE_LIM, 1000)] with time := { TimeSt.reset with adj := 9 } }

theorem test_slew : slewing.on TIME_STAT_RUNNING = true ∧ slewing.time.step = none ∧ slewing.time.adj ≠ 0 ∧ slewing.tickShare.1 = slewing.time.adj := by
  refine ⟨by decide, by decide, by decide, ?_⟩
  have h : slewing.free % 2 < 2 := Nat.mod_lt _ (by decide)
  unfold State.tickShare State.slewStep State.ppm State.divOpen
  generalize slewing.free % 2 = b at h
  have h' : b = 0 ∨ b = 1 := by omega
  rcases h' with rfl | rfl <;> decide

theorem test_servo_and_pulses :
    (let s := live [(TIME_CTL_SRC, 1), (TIME_PTP_CFG_EN, 1), (TIME_STAT_LOCKED, 1)]
     s.timeSrc = 1 ∧ s.rd TIME_STAT_SERVO ≠ svHoldover ∧ s.time.incrs = [] ∧ ok .ptpMasterLost s (fun t => t.rd TIME_STAT_SERVO == svHoldover && t.on TIME_STAT_LOCKED)) ∧
    (let s := live [(TIME_STAT_SERVO, svHoldover), (TIME_STAT_LOCKED, 1)]
     s.rd TIME_STAT_SERVO = svHoldover ∧ s.on TIME_STAT_LOCKED = true ∧ ok .holdoverExpiry s (fun t => !t.on TIME_STAT_LOCKED)) ∧
    (let s := live [(TIME_CTL_SRC, 2)]
     s.timeSrc = 2 ∧ ok .ppsInMissing s (fun t => t.rd TIME_STAT_SERVO == svHoldover)) ∧
    (let s : State := { live [(TIME_PPS_CTL_IN_EN, 1), (TIME_PPS_CTL_IN_FILT, 31)] with timeNs := 100 }
     s.on TIME_PPS_CTL_IN_EN = true ∧ s.timeSrc ≠ 2 ∧ ok (.ppsInEdge 30) s (fun t => t.rd TIME_PPS_IN_TIME_LO == 70)) ∧
    (let s : State := { live [(TIME_PPS_CTL_OUT_EN, 1), (TIME_STAT_VALID, 1), (TIME_PPS_CTL_OUT_REQ_LOCK, 0), (TIME_PPS_OFF, 5)] with timeNs := 1000000007 }
     s.ppsDue = some 1000000005 ∧ s.now < 1000000005 + 3 ∧ s.time.ppsRise ≠ some 1000000005 ∧ s.ppsRuns = true ∧ ok .ppsOutRise s (fun t => t.time.ppsOut)) ∧
    (let s : State := { live [(TIME_PPS_CTL_OUT_EN, 1), (TIME_PPS_OFF, 5)] with timeNs := 1000000007 }
     s.ppsDue = some 1000000005 ∧ s.ppsRuns = false ∧ gives .ppsOutRise s s) ∧
    (let s : State := { live [] with timeNs := 20, time := { TimeSt.reset with ppsOut := true, ppsRise := some 5, ppsLen := 15 } }
     s.time.ppsRise = some 5 ∧ s.time.ppsOut = true ∧ 5 + s.time.ppsLen ≤ s.now ∧ ok .ppsOutFall s (fun t => !t.time.ppsOut)) := by decide

set_option maxRecDepth 20000 in
theorem test_mark_edges :
    (let s := live [(MARK_FILT 2, 5)]
     s.on (MARK_EN 2) = false ∧ Store.get false s.time.marks 2 = false ∧ gives (.markEdge 2 true 3) s s ∧ gives (.markEdge 2 false 9) s s ∧
     ok (.markEdge 2 true 4) s (fun t => t.time.marks == [(2, true)] && t.rd (MARK_RISE_SEQ 2) == 0)) ∧
    (let s : State := { live [(MARK_EN 2, 1), (MARK_FILT 2, 5)] with timeNs := 50 }
     s.on (MARK_EN 2) = true ∧ NoPages s ∧ s.rings = [] ∧ ok (.markEdge 2 true 9) s (fun t => t.rd (MARK_RISE_TIME_LO 2) == 41 && t.rd (MARK_RISE_SEQ 2) == 1) ∧
     ok (.markEdge 2 false 9) { s with time := { s.time with marks := [(2, true)] } } (fun t => t.rd (MARK_FALL_TIME_LO 2) == 41)) := by decide

/-- A domain trigger at time 1000 in an Ethernet frame to the address that domain triggers have. -/
def trigFrame : List Byte :=
  [1, 0, 0, 0, 0, 9, 2, 0, 0, 0, 0, 1, 0x88, 0xB5, 0x44, 0x54, 1, 3, 7, 0, 6, 0, 8, 0, 0, 0, 0, 0, 0, 0, 0xE8, 3] ++ List.replicate 18 0

/-- A LAUNCH descriptor of 60 bytes at time 5. -/
def launchDesc (phase : DescPhase) : Desc :=
  desc 0 phase [BitVec.ofNat 8 tyLaunch, 0, 0, 0, 0, 0, 1, 0, 0, 0, 0, 0, 60, 0, 0, 0, 5]

theorem test_ethernet :
    (let s := live [(NET_CTL_EN 1, 1), (NET_STAT_LINK 1, 1), (NET_CTL_MODE 1, 0)]
     s.netUp 1 = true ∧ (s.net 1).untimed = [] ∧ ok (.netLinkLoss 1) s (fun t => t.rd (NET_DOWN 1) == 1) ∧ s.on (NET_CTL_EN 1) = true ∧
     ok (.netLinkUp 1) s (fun t => t.on (NET_STAT_LINK 1)) ∧ ok (.netFrameReceive 1 [] false) s (fun t => t.rd (NET_RX_FCS 1) == 1)) ∧
    (let s := live [(NET_CTL_EN 1, 1), (NET_STAT_LINK 1, 1), (TIME_DT_MAC_LO, 1), (TIME_DT_MAC_HI, 0x900), (TIME_DT_ETYPE, 0x88B6), (TIME_DT_UDP, 0)]
     trigFrame.length ≤ 1518 ∧ etherType trigFrame ≠ 0x8808 ∧ s.macOk 1 trigFrame = true ∧ s.isPtp 1 trigFrame = false ∧ s.dtPayload trigFrame = none ∧
     ok (.netFrameReceive 1 trigFrame true) s (fun t => t.rd (NET_RX_DROP 1) == 1)) ∧
    (let s := live [(NET_CTL_EN 1, 1), (NET_STAT_LINK 1, 1), (TIME_DT_MAC_LO, 1), (TIME_DT_MAC_HI, 0x900), (TIME_DT_ETYPE, 0x88B5), (TIME_DT_CFG_EN, 1),
       (TIME_DT_CFG_REQ_LOCK, 0), (TIME_STAT_VALID, 1), (TIME_STATION_PRESS_DOM, 6)]
     s.dtPayload trigFrame = some (trigFrame.drop 14) ∧ dtFormOk (trigFrame.drop 14) = true ∧ byteAt (trigFrame.drop 14) 6 = s.rd TIME_STATION_PRESS_DOM ∧
     s.dtSeen (trigFrame.drop 14) = false ∧ s.dtBlocked (trigFrame.drop 14) = false ∧ s.now ≤ leAt (trigFrame.drop 14) 16 8 ∧
     ok (.netFrameReceive 1 trigFrame true) s (fun t => t.time.pend == [⟨3, 1000⟩])) := by decide

theorem test_launches :
    (let s := (live [(HOST_OWN_LQ 6, 1), (HOST_RING_EN 150, 1)]).setRing 150 (ringOf 1 1 [launchDesc .queued])
     s.takeable 150 tyLaunch = some (launchDesc .queued) ∧ (s.headDesc 150).map (·.idx) = some 0 ∧ (launchDesc .queued).u16 12 = 60 ∧
     s.mayReadMem (s.ringOwner 150) ((launchDesc .queued).u64 4) 60 = true ∧ isLocal ((launchDesc .queued).u64 4) = false ∧
     (launchDesc .queued).bit 1 3 = false ∧
     ok (.launch 150 (.ok (List.replicate 60 1))) s (fun t => (t.net 1).launches == [⟨150, 0, List.replicate 60 1, false⟩])) ∧
    (let s : State := { ((live [(TIME_STAT_VALID, 1), (HOST_OWN_LQ 6, 1), (NET_CTL_EN 1, 1), (NET_STAT_LINK 1, 1)]).setRing 150 (ringOf 1 1 [launchDesc .started])).updNet 1
       (fun x => { x with launches := [⟨150, 0, List.replicate 60 1, false⟩] }) with timeNs := 5 }
     s.speedDue 1 = false ∧ s.dueLaunch 1 = some (⟨150, 0, List.replicate 60 1, false⟩, launchDesc .started) ∧ s.netUp 1 = true ∧ s.wireFree 1 = true ∧
     s.txStamp 1 ≤ (launchDesc .started).u64 16 * 65536 + 419430 ∧ ok (.launchDue 1) s (fun t => t.out.any (fun o => match o with | .netFrame 1 bs => bs.take 60 == List.replicate 60 1 && bs.length == 64 | _ => false))) ∧
    (let s : State := { ((live [(TIME_STAT_VALID, 1), (HOST_OWN_LQ 6, 1)]).setRing 150 (ringOf 1 1 [launchDesc .started])).updNet 1
       (fun x => { x with launches := [⟨150, 0, List.replicate 60 1, false⟩] }) with timeNs := 5 }
     s.dueLaunch 1 = some (⟨150, 0, List.replicate 60 1, false⟩, launchDesc .started) ∧ s.netUp 1 = false ∧
     ok (.launchDue 1) s (fun t => t.rd (NET_LQ_CNT_DROPPED 1 2) == 1)) := by decide

set_option maxRecDepth 20000 in
theorem test_messages_and_triggers :
    (let s := (live [(TIME_PTP_CFG_EN, 1), (TIME_PTP_CFG_PORTS, 3), (TIME_PTP_CFG_SLAVE_ONLY, 0), (TIME_PTP_CFG_P2P, 0)]).updNet 1 (fun x => { x with busyTill := 99 })
     s.on TIME_PTP_CFG_EN = true ∧ bitOf (s.rd TIME_PTP_CFG_PORTS) 1 = true ∧ s.on YOKE_STAT_HOLDING = false ∧ s.on TIME_PTP_CFG_SLAVE_ONLY = false ∧
     s.on TIME_PTP_CFG_P2P = false ∧ s.wireFree 1 = false) ∧
    (let s := (live [(TIME_PTP_CFG_EN, 1), (TIME_PTP_CFG_PORTS, 3), (TIME_PTP_CFG_P2P, 1)]).updNet 1 (fun x => { x with busyTill := 99 })
     s.on TIME_PTP_CFG_P2P = true ∧ s.wireFree 1 = false) ∧
    (let s : State := { live [(TIME_STAT_VALID, 1)] with timeNs := 9, time := { TimeSt.reset with pend := [⟨3, 8⟩, ⟨4, 9⟩] } }
     s.on TIME_STAT_VALID = true ∧ (∀ e ∈ s.time.pend, 8 ≤ e.time) ∧ 8 ≤ s.now ∧ NoPages s ∧
     ok .domainTriggerPresent s (fun t => t.time.pend == [⟨4, 9⟩])) := by decide

/-! ## The Vault -/

theorem test_key_unwrap :
    (let s := live [(VAULT_CTX_STAT_BUSY 2, 1)]
     Passes s (.ctx 2) (VAULT_CTX_CTL_GO 2) ∧ s.on (VAULT_CTX_STAT_BUSY 2) = true ∧ gives (.unwrap (.ctx 2) 2) s (s.wr (VAULT_CTX_CTL_OP 2) 1)) ∧
    (let s := live [(VAULT_CTX_ADDR_LO 2, 64)]
     Passes s (.ctx 2) (VAULT_CTX_CTL_GO 2) ∧ s.on (VAULT_CTX_STAT_BUSY 2) = false ∧ s.on (VAULT_CTX_STAT_HOLD 2) = false ∧
     ok (.unwrap (.ctx 2) 2) s (fun t => t.vault.ops == [(2, ⟨1, 64⟩)])) ∧
    (let s := live [(VAULT_CTX_STAT_HOLD 2, 1)]
     s.on (VAULT_CTX_STAT_HOLD 2) = true ∧ ok (.unwrap (.ctx 2) 2) s (fun t => t.rd (VAULT_CTX_STAT_RESULT 2) == vrHeld) ∧
     ok (.unwrapHoldExpiry 2) s (fun t => !t.on (VAULT_CTX_STAT_HOLD 2))) := by decide

theorem test_unwrap_fails : let s : State := { live [(VAULT_CTX_STAT_BUSY 2, 1), (VAULT_CTX_STAT_FAILS 2, 15)] with
      vault := { Vault.reset with ops := [(2, ⟨1, 64⟩)] } }
    s.vaultOp 2 1 = some ⟨1, 64⟩ ∧ s.mayReadMem 2 64 160 = true ∧ isLocal 64 = false ∧
    (match s.unwrapCheck 2 (List.replicate 160 0) with | .inl r => r == vrFormat | .inr _ => false) = true ∧ vrFormat ≠ vrBusy ∧ vrFormat ≠ vrDmaErr ∧
    ok (.unwrapDone 2 (.ok (List.replicate 160 0)) none) s (fun t => t.rd (VAULT_CTX_STAT_RESULT 2) == vrFormat && t.on (VAULT_CTX_STAT_HOLD 2)) := by
  decide

theorem test_key_slots :
    (let s := live [(VAULT_SLOT_STAT_VALID 9, 1), (VAULT_SLOT_STAT_OWNER 9, 2)]
     Passes s (.ctx 2) (VAULT_CTX_CTL_GO 2) ∧ s.on (VAULT_SLOT_STAT_VALID 9) = true ∧ s.rd (VAULT_SLOT_STAT_OWNER 9) = (2 : CtxId).val ∧
     s.on TIME_STAT_VALID = false ∧ gives (.keyExpiry 9) s s ∧ ok (.clearSlot (.ctx 2) 2 9) s (fun t => !t.on (VAULT_SLOT_STAT_VALID 9))) ∧
    (let s : State := { live [(TIME_STAT_VALID, 1), (VAULT_SLOT_STAT_VALID 9, 1), (VAULT_SLOT_STAT_OWNER 9, 2)] with
       timeNs := 7, vault := { Vault.reset with expiry := [(9, 6)] } }
     s.on TIME_STAT_VALID = true ∧ Store.get 0 s.vault.expiry 9 ≠ 0 ∧ Store.get 0 s.vault.expiry 9 ≤ s.now ∧
     ok (.keyExpiry 9) s (fun t => !t.on (VAULT_SLOT_STAT_VALID 9) && t.rd (VAULT_SLOT_STAT_OWNER 9) == 15)) := by decide

theorem test_attestation :
    (let s : State := { live [(VAULT_STAT_TAMPER, 1)] with vault := { Vault.reset with ops := [(2, ⟨3, 64⟩)] } }
     s.vaultOp 2 3 = some ⟨3, 64⟩ ∧ s.on VAULT_STAT_TAMPER = true ∧ ok (.attestDone 2 (.ok [])) s (fun t => t.rd (VAULT_CTX_STAT_RESULT 2) == vrBlocked)) ∧
    (let s : State := { live [(HOST_CTX_EN 2, 1)] with vault := { Vault.reset with ops := [(2, ⟨3, 64⟩)] } }
     s.on VAULT_STAT_TAMPER = false ∧ s.mayWriteMem 2 64 256 = true ∧ s.on (VAULT_CTX_STAT_BUSY 2) = false ∧
     ((s.updCtx 2 (fun c => { c with busMaster := true })).wr (HOST_PORT_UP 0) 1).reaches 2 = true ∧
     ok (.attest (.ctx 2) 2) s (fun t => t.on (VAULT_CTX_STAT_BUSY 2))) := by decide

theorem test_otp :
    (let s := live [(VAULT_STAT_RB_COUNT, 3), (VAULT_STAT_SVN, 5)]
     Passes s (.ctx 0) VAULT_ROLLBACK_GO ∧ s.on VAULT_STAT_RB_BUSY = false ∧ s.rd VAULT_STAT_RB_COUNT < (5 : BitVec 7).toNat ∧
     (5 : BitVec 7).toNat ≤ s.rd VAULT_STAT_SVN ∧ s.rd VAULT_STAT_SVN < (6 : BitVec 7).toNat ∧
     ok (.rollback (.ctx 0) 5) s (fun t => t.on VAULT_STAT_RB_BUSY && t.vault.rbTarget == 5) ∧
     ok (.rollback (.ctx 0) 6) s (fun t => !t.on VAULT_STAT_RB_BUSY)) ∧
    (let s : State := { live [(VAULT_STAT_RB_BUSY, 1)] with vault := { Vault.reset with rbTarget := 5 } }
     s.on VAULT_STAT_RB_BUSY = true ∧ ok (.rollbackDone none) s (fun t => t.otp.rbCount == 5 && t.rd VAULT_STAT_RB_COUNT == 5)) ∧
    (let s := live [(VAULT_STAT_BOOT_SLOT, 1), (VAULT_STAT_KEY_IDX, 0)]
     Passes s (.ctx 0) VAULT_REVOKE_REQ ∧ bitOf 6 (s.rd VAULT_STAT_KEY_IDX) = false ∧ BitVec.ofNat 4 s.otp.revoked ||| (6 : BitVec 4) ≠ 15 ∧
     BitVec.ofNat 4 s.otp.revoked ||| (15 : BitVec 4) = 15 ∧ ok (.revoke (.ctx 0) 6) s (fun t => t.otp.revoked == 6) ∧
     ok (.revoke (.ctx 0) 15) s (fun t => t.otp.revoked == 0) ∧ bitOf 1 (s.rd VAULT_STAT_KEY_IDX) = true ∧
     gives (.revoke (.ctx 0) 1) s (s.hostXs (.ctx 0) xsRule (Fld.addr VAULT_REVOKE_REQ) true) ∧ Passes s (.ctx 0) VAULT_DBG_CTL_OWNER_PROG ∧ s.otp.ownerHash = none) ∧
    (let s : State := { live [] with otp := { State.reset.otp with ownerHash := some [1] } }
     s.otp.ownerHash = some [1] ∧ gives (.ownerProg (.ctx 0)) s s) := by decide

theorem test_debug_and_tamper :
    (let s := live [(VAULT_DBG_CTL_ATTEMPTS, 3), (VAULT_STAT_DEBUG, 1)]
     Passes s (.ctx 0) VAULT_DBG_CTL_GO ∧ gives (.debugToken (.ctx 0)) s s ∧ Passes s (.ctx 0) VAULT_DBG_CTL_RELOCK ∧
     ok (.relock (.ctx 0)) s (fun t => t.rd VAULT_STAT_DEBUG == 0)) ∧
    (let s := live [(VAULT_DBG_CTL_ATTEMPTS, 2)]
     Passes s (.ctx 0) VAULT_DBG_CTL_GO ∧ s.rd VAULT_DBG_CTL_ATTEMPTS < 3 ∧ s.tokenOk s.tokenBytes = false) := by decide

/-! ## The Goose -/

/-- A report of a source of no unit. -/
def rep (src cls : Nat) : Report := ⟨src, 0, cls, initNone, 0, accNone, 0, 0, 0⟩

theorem test_fault_reports :
    (let s := live []
     s.goose.storeBad = false ∧ s.reports = [] ∧ gives .faultReport s s) ∧
    (let s : State := { live [] with reports := [rep srcTimeStep 1, rep srcTimeLock 1] }
     firstReport s.reports = some (rep srcTimeStep 1, [rep srcTimeLock 1]) ∧ s.rd (GOOSE_SRC_CFG_PROMOTE srcTimeStep) = 0 ∧
     s.on (GOOSE_SRC_CFG_FENCE srcTimeStep) = false ∧ srcTimeStep < 256 ∧ s.badWords = []) ∧
    (let s : State := { live [] with reports := [rep srcCoopPll 3] }
     firstReport s.reports = some (rep srcCoopPll 3, []) ∧ s.on GOOSE_STATUS_SAFE = false ∧ srcCoopPll < 256) := by decide

theorem test_injection_and_capture :
    (let s := live [(GOOSE_CTL_INJ_LOCK, 1)]
     Passes s (.ctx 0) GOOSE_INJ_CTL_GO ∧ s.on GOOSE_CTL_INJ_LOCK = true ∧ ok (.faultInject (.ctx 0)) s (fun t => t.on GOOSE_INJ_STAT_REFUSED)) ∧
    (let s := live [(GOOSE_INJ_CTL_SRC, srcTimeStep), (GOOSE_INJ_CTL_CLASS, 2)]
     s.on GOOSE_CTL_INJ_LOCK = false ∧ isSource (s.rd GOOSE_INJ_CTL_SRC) = true ∧ s.rd GOOSE_INJ_CTL_CLASS ≤ 4 ∧ s.rd GOOSE_INJ_INIT_TYPE ≤ 7 ∧
     s.on GOOSE_INJ_CTL_REACT = false) ∧
    (let s := live [(GOOSE_FIRST_ANY 7, 0x80000001), (GOOSE_FIRST_REAL 7, 0x80000001), (GOOSE_FIRST_ANY 0, 77)]
     Passes s (.ctx 0) GOOSE_FIRST_CTL_ARM_ANY ∧ Passes s (.ctx 0) GOOSE_FIRST_CTL_ARM_REAL ∧ Passes s (.ctx 0) GOOSE_CTL_CLR_CNT ∧
     bitOf (s.rd (GOOSE_FIRST_ANY 7)) 31 = true ∧ bitOf (s.rd (GOOSE_FIRST_REAL 7)) 31 = true ∧
     ok (.armAny (.ctx 0)) s (fun t => t.rd (GOOSE_FIRST_ANY 7) == 1 && t.rd (LEDGER_COPY 8) == 77 && t.rd LEDGER_COPY_IDX == 1) ∧
     ok (.armReal (.ctx 0)) s (fun t => t.rd (GOOSE_FIRST_REAL 7) == 1)) := by decide

set_option maxRecDepth 20000 in
theorem test_safe_release :
    (let s := live [(GOOSE_STATUS_SAFE, 1)]
     Passes s (.ctx 0) GOOSE_SAFE_REL_KEY ∧ s.goose.relTest = false ∧ (∀ i, i < 256 → s.on (GOOSE_SRC_STAT_PRESENT i) = false) ∧ s.stopFireLatch = false ∧
     s.on GOOSE_STATUS_LATCH4 = false ∧ s.on GOOSE_STATUS_REL_ARMED = false ∧
     ok (.safeRelGo (.ctx 0)) s (fun t => t.rd GOOSE_STATUS_REL_ERR == 1)) ∧
    (let s := live [(GOOSE_STATUS_SAFE, 1), (GOOSE_STATUS_LATCH4, 1)]
     Passes s (.ctx 0) GOOSE_SAFE_REL_KEY ∧ s.on GOOSE_STATUS_LATCH4 = true ∧ s.stopFireLatch = false) ∧
    (let s := live [(GOOSE_STATUS_SAFE, 1), (GOOSE_STATUS_REL_ARMED, 1)]
     Passes s (.ctx 0) GOOSE_SAFE_REL_KEY ∧ ok (.safeRelGo (.ctx 0)) s (fun t => t.goose.relTest) ∧
     ok .safeRelArmTimeout s (fun t => !t.on GOOSE_STATUS_REL_ARMED)) ∧
    (let s := (live [(GOOSE_STATUS_SAFE, 1), (GOOSE_STATUS_REL_ARMED, 1)]).updGoose (fun g => { g with relTest := true })
     s.goose.relTest = true ∧ s.goose.relBad = false ∧ ok (.safeRelSelftestDone true) s (fun t => !t.on GOOSE_STATUS_SAFE) ∧
     ok (.safeRelSelftestDone false) s (fun t => t.on GOOSE_STATUS_SAFE && t.rd GOOSE_STATUS_REL_ERR == 4)) ∧
    (let s := (live [(GOOSE_STATUS_SAFE, 1)]).updGoose (fun g => { g with relTest := true, relBad := true })
     s.goose.relBad = true ∧ ok (.safeRelSelftestDone true) s (fun t => t.on GOOSE_STATUS_SAFE && t.rd GOOSE_STATUS_REL_ERR == 5)) := by decide

theorem test_heartbeats :
    (let s := live (cellRegs 5 csIdle)
     (∀ i ∈ [srcCoopRef, srcCoopPll, srcCoopSupply], s.on (GOOSE_SRC_STAT_PRESENT i) = false) ∧ s.watched (.cell 5) = true ∧
     s.cellState (5 : CellId) ≠ csFenced ∧ s.ganged (5 : CellId) = false ∧
     ok (.heartbeatLoss (.cell 5)) s (fun t => t.cellState 5 == csFenced && (t.cell 5).fenceSrc == srcGooseHb)) ∧
    (let s := live [(YOKE_STAT_ROLE_B, 4)]
     s.coop.coreReset = false ∧ ok (.heartbeatLoss .time) s (fun t => t.reports == [⟨srcGooseHb, 149, 3, initNone, 0, accNone, 0, 0, 0⟩]) ∧
     s.standbyReady (otherCore s.activeCore) = false ∧ gives (.heartbeatLoss (.core .a)) s (s.yokeBoth .a)) := by decide

/-! ## The Yoke -/

theorem test_takeovers :
    (let s := live [(YOKE_STAT_HOT_READY, 1)]
     s.rd YOKE_CTL_DET ≠ 2 ∧ Passes s (.ctx 0) YOKE_CTL_SWITCH ∧ s.on YOKE_STAT_HOT_READY = true ∧ s.coop.failed = false ∧ s.standbyReady s.standby = true ∧
     ok .resign s (fun t => t.activeCore == .b && t.on YOKE_STAT_HOLDING && t.rd YOKE_LAST_CAUSE == 4) ∧
     ok (.switchCore (.ctx 0)) s (fun t => t.activeCore == .b && t.rd YOKE_LAST_CAUSE == 6)) ∧
    (let s : State := { live [] with yoke := { Yoke.reset with bothMiss := 2 } }
     s.rd YOKE_CTL_DET = 0 ∧ s.yoke.bothMiss = 2 ∧ s.standbyReady s.standby = true ∧
     ok (.beatWindow none none false true) s (fun t => t.activeCore == .b && t.rd YOKE_LAST_CAUSE == 1)) ∧
    (let s := live [(YOKE_CTL_DET, 2), (YOKE_STAT_ACTIVE, 1), (YOKE_STAT_ROLE_A, 2), (YOKE_STAT_ROLE_B, 0)]
     s.rd YOKE_CTL_DET = 2 ∧ s.activeCore = .b ∧ s.standbyReady s.standby = true ∧
     ok (.arbGntChange true false) s (fun t => t.activeCore == .a && t.rd YOKE_LAST_CAUSE == 5)) ∧
    (let s := live [(YOKE_CTL_DET, 2)]
     s.activeCore = .a ∧ s.standbyReady s.standby = true ∧ ok (.arbGntChange false true) s (fun t => t.activeCore == .b)) := by decide

theorem test_switch_and_completion :
    (let s := live [(YOKE_STAT_ROLE_B, 4)]
     Passes s (.ctx 0) YOKE_CTL_SWITCH ∧ s.on YOKE_STAT_HOT_READY = false ∧ s.standbyReady s.standby = false ∧
     ok (.switchCore (.ctx 0)) s (fun t => t.activeCore == .a) ∧ gives .resign s (s.yokeBoth .a)) ∧
    (let s := live [(YOKE_CTL_DET, 2)]
     s.rd YOKE_STAT_ARB_GNT = 0 ∧ ok .resign s (fun t => t.on YOKE_STAT_ARB_REQ)) ∧
    (let s := live [(YOKE_STAT_HOLDING, 1)]
     s.on YOKE_STAT_HOLDING = true ∧ s.heldWrites = [] ∧ s.ledger.flush = none ∧ s.rings = []) := by decide

set_option maxRecDepth 20000 in
theorem test_standby_and_repair :
    (let s := { live [(YOKE_STAT_HOT_MODE, 1)] with part := .kv6432 }
     s.on YOKE_STAT_HOT_MODE = true ∧ s.standbyReady s.standby = true ∧ s.enabledCells ≤ 32 ∧ s.yoke.syncWait = false ∧
     ok (.stateCopy true) s (fun t => t.on YOKE_STAT_HOT_READY && t.role .b == 1)) ∧
    (let s := live [(YOKE_STAT_ROLE_B, 4)]
     s.role .b = 4 ∧ ok (.repairSelftestDone .b true) s (fun t => t.role .b == 3) ∧ ok (.repairSelftestDone .b false) s (fun t => t.role .b == 6)) ∧
    (let s := live [(YOKE_STAT_ROLE_B, 3), (YOKE_STAT_HOT_MODE, 0)]
     s.role .b = 3 ∧ s.on YOKE_STAT_HOT_MODE = false ∧ ok (.repairSyncDone .b true) s (fun t => t.role .b == 2 && t.repairs .b == 1)) ∧
    (let s := live [(YOKE_STAT_ROLE_B, 3), (YOKE_STAT_HOT_MODE, 1)]
     s.on YOKE_STAT_HOT_MODE = true ∧ ok (.repairSyncDone .b true) s (fun t => t.yoke.syncWait)) := by decide

/-! ## The Coop -/

theorem test_supplies :
    (let s := live []
     railIn 7 3000 = false ∧ s.railWatched 7 = true ∧ 10 * 3000 ≤ (railLimits 7).2.2 ∧ (railLimits 7).2.2 < 10 * 4000 ∧ railIn 7 4000 = false ∧
     railIn 7 3300 = true ∧ ok (.supplyExcursion 7 4000) s (fun t => t.reports.any (fun r => r.src == srcCoopSupply && r.cls == 4)) ∧
     ok (.supplyInRange 7 3300) s (fun t => bitOf (t.rd COOP_SUP_STAT_IN_RANGE) 7)) ∧
    (let s := live [(COOP_SUP_STAT_IN_RANGE, 0x1FF)]
     bitOf (s.rd COOP_SUP_STAT_IN_RANGE) (15 - 7) = true ∧ ok (.supplyExcursion 7 3000) s (fun t => t.reports.any (fun r => r.src == srcCoopVsafe))) ∧
    (let s := (live []).updCoop (fun c => { c with watched := 127 })
     railIn 1 800 = false ∧ s.railWatched 1 = true ∧ 10 * 800 ≤ (railLimits 1).2.2 ∧
     ok (.supplyExcursion 1 800) s (fun t => t.reports.any (fun r => r.src == srcCoopSupply && r.cls == 3))) := by decide

theorem test_pmbus :
    (let s := live []
     (∀ e, e < 32 → s.pmbPolled e = false) ∧ gives (.pmbusPoll []) s s) ∧
    (let s := live [(COOP_PMB_LIST 1, 0x9000)]
     (∀ e, e < 32 → (s.pmbPolled e = true ↔ e = 5)) ∧ bitOf (s.rd COOP_PMB_STAT_FAILED) 5 = false ∧
     ok (.pmbusPoll [⟨5, true, 0, 0⟩]) s (fun t => bitOf (t.rd COOP_PMB_STAT_FAILED) 5 && t.out.length == 3)) ∧
    (let s := live [(COOP_PMB_MB0_CMD, 0x8B)]
     Passes s (.ctx 0) COOP_PMB_MB0_GO ∧ s.on COOP_PMB_MB2_BUSY = false ∧ s.rd COOP_PMB_MB0_CMD ∈ pmbusCmds ∧
     ok (.pmbusMailbox (.ctx 0)) s (fun t => t.on COOP_PMB_MB2_BUSY)) ∧
    (let s := live [(COOP_PMB_MB0_CMD, 0x8B), (COOP_PMB_MB2_BUSY, 1), (COOP_PMB_MB0_READ, 1), (COOP_PMB_MB0_LEN, 2)]
     s.on COOP_PMB_MB2_BUSY = true ∧ gives (.pmbusMailbox (.ctx 0)) s s ∧
     ok (.pmbusMailboxDone false false 0x12345) s (fun t => t.rd COOP_PMB_MB1_DATA == 0x2345)) := by decide

/-- A table of one step for rail 0, with its CRC. -/
def seqTable : List Byte := [0x51, 0x53, 1, 1] ++ leBytes 4 0x50700e7f ++ List.replicate 8 0 ++ [0, 32, 0, 0, 0, 0, 10, 0]

/-- Two steps. -/
def steps2 : List SeqStep := [⟨0, 32, 0, 0, 0, 10⟩, ⟨0, 33, 0, 9, 0, 10⟩]

theorem test_sequencer :
    (let s := (live [(COOP_SEQ_STAT_STATE, 1)]).updCoop (fun c => { c with steps := steps2 })
     s.coop.failed = false ∧ s.rd COOP_SEQ_STAT_STATE = 1 ∧ s.coop.down = false ∧ s.coop.steps[s.rd COOP_SEQ_STAT_STEP]? = some ⟨0, 32, 0, 0, 0, 10⟩ ∧
     railIn 0 750 = true ∧ s.rd COOP_SEQ_STAT_STEP + 1 < s.coop.steps.length ∧ bitOf (s.rd COOP_SUP_STAT_IN_RANGE) 0 = false ∧
     ok (.sequencerStep 750) s (fun t => t.rd COOP_SEQ_STAT_STEP == 1) ∧
     ok .sequencerWaitExpiry s (fun t => t.rd COOP_SEQ_STAT_STATE == 3 && t.rd COOP_SEQ_STAT_ERR == 1) ∧ Passes s (.ctx 0) COOP_SEQ_CTL_DOWN ∧
     (∀ n, n < 64 → s.cellState n ≠ csArmed ∧ s.cellState n ≠ csPrinting) ∧ s.coop.done = []) ∧
    (let s := (live [(COOP_SEQ_STAT_STATE, 1), (COOP_SEQ_STAT_STEP, 1)]).updCoop (fun c => { c with steps := steps2, done := [1, 0] })
     s.coop.steps[s.rd COOP_SEQ_STAT_STEP]? = some ⟨0, 33, 0, 9, 0, 10⟩ ∧ s.rd COOP_SEQ_STAT_STEP + 1 = s.coop.steps.length ∧ s.coop.done = [1, 0] ∧
     ok (.sequencerStep 0) s (fun t => t.rd COOP_SEQ_STAT_STATE == 2 && t.on GLOBAL_READY_SEQ) ∧
     ok (.sequenceDown (.ctx 0)) s (fun t => t.coop.done == [0] && t.out == [.pmbus 0 33 0x01 [0x00] false])) := by decide

/-- Readings with sensor 3 at T_TRIP. -/
def hot : Vector (BitVec 16) 16 := Vector.ofFn (fun i => if i.val = 3 then 7168 else 5000)

set_option maxRecDepth 20000 in
theorem test_coop_commands :
    (let s := live []
     s.coop.tripped = false ∧ s.rdS COOP_THERM_T_TRIP ≤ (hot[3] : BitVec 16).toInt ∧
     ok (.thermRead hot) s (fun t => t.rd (COOP_TEMP_TEMP 3) == 7168) ∧
     s.coop.running = true ∧ s.coop.failed = false ∧ ok .arbAliveToggle s (fun t => t.coop.alive) ∧ s.on GLOBAL_READY_PLL = true ∧ s.part = .kv6464 ∧
     Passes s (.ctx 0) COOP_GATE_LO ∧ Passes s (.ctx 0) COOP_HEAD_PWR_EN ∧ s.on (CELL_CTL_EN 4) = false ∧ s.on (LINK_PHY_CTL_EN 4) = false ∧
     (∀ n, n < 32 → bitOf (16 : Word).toNat n = true → n = 4) ∧ ok (.gate (.ctx 0) false 16) s (fun t => t.gated 4) ∧
     ok (.headPwr (.ctx 0) 3) s (fun t => t.rd COOP_HEAD_PWR_EN == 3)) ∧
    (let s := live [(CELL_CTL_EN 4, 1)]
     bitOf (16 : Word).toNat 4 = true ∧ s.fused 4 = false ∧ s.gated 4 = false ∧ s.on (CELL_CTL_EN 4) = true ∧
     ok (.gate (.ctx 0) false 16) s (fun t => !t.gated 4)) := by decide

/-! ## Start-up, reset and the Ledger -/

theorem test_coop_starts :
    (let s : State := State.reset
     s.coop.running = false ∧ ok .vsafeRise s (fun t => t.coop.rising)) ∧
    (let s := State.reset.updCoop (fun c => { c with rising := true })
     s.coop.running = false ∧ s.coop.rising = true ∧ s.coop.failed = false ∧ parseTable seqTable = some [⟨0, 32, 0, 0, 0, 10⟩] ∧ parseTable [] = none ∧
     ok (.coopResetRelease seqTable) s (fun t => t.coop.running && t.rd COOP_SEQ_STAT_STATE == 1) ∧
     ok (.coopResetRelease []) s (fun t => t.rd COOP_SEQ_STAT_ERR == 0x1F)) ∧
    (let s := State.reset.updCoop (fun c => { c with running := true, pllOn := true })
     s.coop.pllOn = true ∧ s.on GLOBAL_READY_PLL = false ∧ ok .pllLock s (fun t => t.on GLOBAL_READY_PLL && t.on TIME_STAT_RUNNING)) ∧
    (let s := ((State.reset.updCoop (fun c => { c with running := true })).wr GLOBAL_READY_SEQ 1).wr GLOBAL_READY_PLL 1
     s.coop.coreReset = true ∧ s.on GOOSE_STATUS_LATCH4 = false ∧ ok (.coreResetRelease 0) s (fun t => !t.coop.coreReset)) ∧
    (let s := ((State.reset.updCoop (fun c => { c with running := true })).wr GLOBAL_READY_SEQ 1).wr GLOBAL_READY_PLL 1 |>.wr GOOSE_STATUS_LATCH4 1
     s.coop.coreReset = true ∧ s.on GOOSE_STATUS_LATCH4 = true) := by
  set_option maxRecDepth 20000 in decide

set_option maxRecDepth 20000 in
theorem test_boot_and_stages :
    (let s := st [(GLOBAL_READY_SEQ, 1), (GLOBAL_READY_PLL, 1)]
     s.booting = true ∧ s.imageCheck none ≠ 0 ∧ ok (.bootFail none none) s (fun t => t.on GLOBAL_READY_BOOT_FAIL && t.rd VAULT_BOOT_ERR_ERR_A == 1)) ∧
    (let s := st [(GLOBAL_READY_BOOT, 1)]
     s.on GLOBAL_READY_BOOT = true ∧ s.on GLOBAL_READY_MEM_TRAIN = false ∧ s.on GLOBAL_READY_MEM_FAIL = false ∧ s.on GLOBAL_READY_CELL_TEST = false ∧
     s.on GLOBAL_READY_HOST = false ∧ s.cellState (6 : CellId) ≠ csFenced ∧ s.ganged (6 : CellId) = false ∧ s.fused 6 = false ∧
     ok (.memTrainDone 15 4) s (fun t => t.rd GLOBAL_MEM_SYS_BASE == 2560) ∧ ok (.memTrainDone 7 4) s (fun t => t.on GLOBAL_READY_MEM_FAIL) ∧
     ok (.memTrainDone 15 5) s (fun t => t.on GLOBAL_READY_MEM_FAIL) ∧
     (let u := s.wr GLOBAL_READY_SYS_INIT 1
      u.memStaged = true ∧ gives (.cellTestDone 0 0) u (u.wr GLOBAL_READY_CELL_TEST 1))) := by decide

set_option maxRecDepth 20000 in
theorem test_host_ready : let s := { st [(GLOBAL_READY_BOOT, 1), (GLOBAL_READY_SYS_INIT, 1), (GLOBAL_READY_CELL_TEST, 1)] with part := .kv6416 }
    s.on GLOBAL_READY_BOOT = true ∧ s.memStaged = true ∧ s.on GLOBAL_READY_CELL_TEST = true ∧ s.on GLOBAL_READY_HOST = false ∧
    s.rd GLOBAL_READY_MODE = 0 ∧ ok (.hostReady 7) s (fun t => t.on GLOBAL_READY_HOST && t.rd GLOBAL_BOOT_TIME_MS == 7) := by decide

set_option maxRecDepth 20000 in
theorem test_stages :
    (let s := st [(GLOBAL_READY_MEM_TRAIN, 1), (GLOBAL_MEM_SYS_BASE, 2560)]
     s.on GLOBAL_READY_MEM_TRAIN = true ∧ s.on GLOBAL_READY_SYS_INIT = false ∧ s.rd GLOBAL_MEM_SYS_BASE ≤ 14848 ∧
     ok (.sysInitDone false) s (fun t => t.on GLOBAL_READY_MEM_FAIL)) ∧
    (let s := st [(GLOBAL_READY_SYS_INIT, 1)]
     s.on GLOBAL_READY_SYS_INIT = true ∧ ok .memInitDone s (fun t => t.on GLOBAL_READY_MEM_INIT)) ∧
    (let s := (st [(GLOBAL_READY_HOST, 1), (LINK_PHY_CTL_EN 6, 1)]).updCoop (fun c => { c with disc := [6] })
     s.discovering 6 = true ∧ s.on (LINK_PHY_CTL_EN 6) = true ∧ s.on (LINK_RX_STAT_SIGNAL 6) = false ∧ s.gated 6 = false ∧
     ok (.discoveryNoSignal 6) s (fun t => t.gated 6 && t.coop.discGated == [6])) ∧
    (let s := (st [(GLOBAL_READY_HOST, 1)]).updCoop (fun c => { c with disc := [6] })
     s.rd GLOBAL_READY_MODE = 0 ∧ (∀ n ∈ s.coop.disc, s.laneSettled n = true) ∧ ok .discoveryDone s (fun t => t.on GLOBAL_READY_DISC)) := by decide

set_option maxRecDepth 20000 in
theorem test_resets :
    (let s := live [(CELL_CTL_EN 3, 1), (LEDGER_ON_SECONDS, 8)]
     Passes s (.ctx 0) GLOBAL_RST_KEY ∧ s.on GLOBAL_RST_FORCE = false ∧ (∀ n, n < 64 → s.cellState n ≠ csArmed ∧ s.cellState n ≠ csPrinting) ∧
     Passes s (.ctx 0) GLOBAL_BLK_RST_NOUGAT ∧ s.on NOUGAT_CTL_EN = false ∧ (∀ k, k < 8 → s.on (NOUGAT_ARENA_EN k) = false)) ∧
    (let s := live [(GLOBAL_RST_FORCE, 1)]
     Passes s (.ctx 0) GLOBAL_RST_KEY ∧ s.on GLOBAL_RST_FORCE = true) ∧
    (let s := live [(CELL_STATE_STATE 3, csArmed), (NOUGAT_CTL_EN, 1)]
     s.cellState 3 = csArmed ∧ s.on NOUGAT_CTL_EN = true ∧ ok (.rstKey (.ctx 0) []) s (fun t => !t.coop.coreReset) ∧
     ok (.boundaryScan true) s (fun t => t.bscan)) := by decide

set_option maxRecDepth 20000 in
theorem test_ledger_flushes :
    (let s := live [(COOP_SUP_STAT_IN_RANGE, 1)]
     s.ledger.after = none ∧ bitOf (s.rd COOP_SUP_STAT_IN_RANGE) 0 = true ∧ ok .ledgerSecond s (fun t => t.rd LEDGER_ON_SECONDS == 1) ∧
     Passes s (.ctx 0) LEDGER_CTL_FLUSH ∧ s.on LEDGER_STAT_BUSY = false) ∧
    (let s := live [(COOP_SUP_STAT_IN_RANGE, 2)]
     bitOf (s.rd COOP_SUP_STAT_IN_RANGE) 0 = false ∧ ok .ledgerSecond s (fun t => t.rd LEDGER_ON_SECONDS == 0)) ∧
    (let s := live [(VAULT_STAT_TAMPER, 1)]
     s.on VAULT_STAT_TAMPER = true ∧ ok (.flush (.ctx 0)) s (fun t => t.on LEDGER_STAT_SIGN_BLOCKED)) ∧
    (let s := live [(LEDGER_STAT_BUSY, 1)]
     s.on LEDGER_STAT_BUSY = true ∧ ok (.flush (.ctx 0)) s (fun t => t.ledger.again == some true)) ∧
    (let s := (live [(LEDGER_STAT_BUSY, 1)]).updLedger (fun l => { l with flush := some ⟨1, 4, 0, [], none⟩ })
     s.ledger.flush = some ⟨1, 4, 0, [], none⟩ ∧ s.ledger.exp = none ∧ s.ledger.again = none ∧ s.on YOKE_STAT_HOLDING = false ∧
     ok (.flushDone true) s (fun t => t.ledger.newSum == some (4, s.nextGen 1) && t.on LEDGER_STAT_DONE) ∧
     ok (.flushDone false) s (fun t => t.rd LEDGER_STAT_ERR == 1 && t.ledger.flush.any (fun f => f.slot == 5))) := by decide

theorem test_ledger_restore_and_export :
    (let s := st [(GLOBAL_READY_BOOT, 1), (GLOBAL_READY_MEM_TRAIN, 1), (GLOBAL_READY_CELL_TEST, 1), (GLOBAL_RST_CAUSE_CAUSE, 1)]
     s.on GLOBAL_READY_MEM_TRAIN = true ∧ s.on GLOBAL_READY_CELL_TEST = true ∧ s.on LEDGER_STAT_FRESH = false ∧ s.ledger.newSum = none ∧
     s.on GLOBAL_READY_HOST = false ∧ s.rd GLOBAL_RST_CAUSE_CAUSE = 1 ∧ s.newest 1 [] = none) ∧
    (let s := st [(GLOBAL_READY_BOOT, 1), (GLOBAL_RST_CAUSE_CAUSE, 3)]
     s.rd GLOBAL_RST_CAUSE_CAUSE ≠ 1) ∧
    (let s := (live []).updLedger (fun l => { l with loading := true })
     s.ledger.loading = true ∧ s.on GLOBAL_READY_HOST = true ∧ s.newest 2 [] = none ∧ ok (.dropRestoreDone [] false) s (fun t => !t.ledger.loading)) ∧
    (let s := (live []).updLedger (fun l => { l with flush := some ⟨1, 4, 0, [], none⟩ })
     Passes s (.ctx 0) LEDGER_CTL_EXPORT ∧ s.ledger.exp = none ∧ s.ledger.flush = some ⟨1, 4, 0, [], none⟩ ∧
     ok (.ledgerExport (.ctx 0)) s (fun t => t.ledger.exp == some (1, none))) ∧
    (let s := ((live [(HOST_CTX_EN 0, 1), (HOST_PORT_UP 0, 1), (LEDGER_EXP_ADDR_LO, 128)]).updCtx 0 (fun c => { c with busMaster := true })).updLedger
       (fun l => { l with exp := some (1, some [5, 6]) })
     s.ledger.exp = some (1, some [5, 6]) ∧ s.ledger.again = none ∧ s.admin = 0 ∧ addrOk 128 = true ∧ isLocal 128 = false ∧ s.mayWriteMem 0 128 2 = true ∧
     s.reaches 0 = true ∧ ok .exportDone s (fun t => t.out == [.hostWrite 0 128 [5, 6]] && t.rd LEDGER_EXP_LEN == 2)) := by decide

/-! ## Further cases of the statements above -/

theorem test_reads :
    ok (.configWrite (.ctx 1) (.reg 0x3000000) 4 none) (live []) (fun t => t.out == [.answer (.ctx 1) 0]) ∧
    gives (.configWrite (.ctx 1) (.reg 0x10002) 4 none) (live []) ((live []).hostXs (.ctx 1) xsSize 0x10002 false) := by decide

/-- A device with 32 cells and the debug port at FULL. -/
def fused40 : State := { live [(VAULT_STAT_DEBUG, 2)] with part := .kv6432 }

theorem test_fused_windows :
    fused40.portReset 1 = false ∧ fused40.rd VAULT_STAT_DEBUG = 2 ∧ fused40.activeCore = .a ∧ fused40.fused 40 = true ∧
    decodeAddr (CELL_CTL_EN 40).addr = some (.cell 40, (CELL_CTL_EN 40).addr % 0x10000) ∧
    gives (.configWrite (.yoke .a) (.reg (BitVec.ofNat 26 (CELL_CTL_EN 40).addr)) 4 (some 1)) fused40 (fused40.hostXs (.yoke .a) xsRule (CELL_CTL_EN 40).addr true) ∧
    ok (.configWrite .debug (.reg (BitVec.ofNat 26 (CELL_CTL_EN 40).addr)) 4 none) fused40 (fun t => t.out == [.answer .debug 0]) := by decide

theorem test_configuration_space :
    ok (.configWrite (.ctx 1) (.pci .classCode) 4 none) (live [(HOST_PORT_CRS 0, 0)]) (fun t => t.out == [.answer (.ctx 1) 0x118000]) ∧
    ok (.configWrite (.ctx 1) (.pci .vendorId) 4 none) (live [(HOST_PORT_CRS 0, 1)]) (fun t => t.out == [.retryStatus 1]) ∧
    ok (.configWrite (.ctx 1) (.pci .bar0) 4 (some 0xFFFFFFFF)) (live [(HOST_PORT_CRS 0, 0)]) (fun t => (t.ctx 1).fn.bar0 == 0xFC000000) ∧
    ok (.configWrite (.ctx 2) (.bar2 0x3FC) 4 (some 0)) ((live []).updCtx 2 (fun c => { c with fn := { c.fn with pending := [63] } }))
      (fun t => t.out == [.msix 2 63] && (t.ctx 2).fn.pending == []) := by decide

theorem test_host_loss_ends :
    (let s := (live [(HOST_CTX_EN 2, 1), (HOST_CTX_LOST 2, 1)]).updCtx 2 (fun c => { c with inLoss := true, seq := 9, lostSince := 4 })
     Passes s (.ctx 0) (HOST_CTX_EN 2) ∧ (s.ctx 2).inLoss = true ∧ s.on (HOST_PORT_PERST 0) = false ∧ s.on (HOST_PORT_UP 0) = true ∧
     ok (.ctxEnable (.ctx 0) 2 true true) s (fun t => !(t.ctx 2).inLoss && (t.ctx 2).seq == 9 && (t.ctx 2).lostSince == 4) ∧
     ok (.ctxEnable (.ctx 0) 2 false true) s (fun t => (t.ctx 2).inLoss && t.rd HOST_XS_LAST_OFFSET == (HOST_CTX_EN 2).addr)) ∧
    (let s := (live [(HOST_CTX_EN 1, 1)]).updCtx 1 (fun c => { c with fetching := true })
     (s.ctx 1).fetching = true ∧ s.readEnds 1 (s.doorbellAddr 1 0) (.failed 0) = true) := by decide

theorem test_kick_and_poll_at_one_time : let s := live [(HOST_CTX_EN 2, 1), (HOST_CTX_POLL_US 2, 10)]
    ok (.kick (.ctx 2) 2) s (fun t => (t.ctx 2).trigAt == some (0, true) && gives (.pollExpiry 2) t t &&
      ok (.kick (.ctx 2) 2) t (fun u => u.on (HOST_CTX_KICK_PEND 2))) = true := by decide

theorem test_sync_forms : let sync (cond : Nat) := desc 0 .queued ([BitVec.ofNat 8 tySync, 0, 0, 0, BitVec.ofNat 8 cond, BitVec.ofNat 8 (63 * (cond % 4))] ++ List.replicate 2 0 ++ leBytes 8 9)
    let s (d : Desc) : State := { (live [(HOST_OWN_CELL 0, 1), (HOST_RING_EN 0, 1), (TIME_STAT_VALID, 1)]).setRing 0 (ringOf 1 1 [d]) with timeNs := 5 }
    (s (sync 0)).takeable 0 tySync = some (sync 0) ∧ (s (sync 0)).syncOwned 0 (sync 0) = true ∧ (s (sync 0)).now ≤ (sync 0).u64 8 ∧
    ok (.sync 0) (s (sync 0)) (fun t => (t.ring 0).held.length == 1) ∧
    (s (sync 4)).takeable 0 tySync = some (sync 4) ∧ (s (sync 4)).syncOwned 0 (sync 4) = true ∧ ((s (sync 0)).wr (HOST_RING_CI 63) 9).ciReached (sync 5) = true ∧
    (s (sync 1)).takeable 0 tySync = some (sync 1) ∧ (s (sync 1)).syncOwned 0 (sync 1) = false ∧ ok (.sync 0) (s (sync 1)) (fun t => (t.ring 0).held == []) := by decide

theorem test_reads_end : let s := live [(HOST_OWN_CELL 5, 1), (HOST_CTX_EN 1, 1)]
    s.readEnds 1 0x2000 (.ok []) = true ∧ s.readEnds 1 0x2000 (.failed 0) = true ∧ s.reaches 1 = true ∧
    (s.wr (HOST_PORT_L1 0) 1).readEnds 1 0x2000 (.ok []) = false ∧ s.earlierStrip 1 0 = false := by decide

theorem test_arena_room : let s := live [(NOUGAT_ARENA_SIZE 1, 1), (NOUGAT_ARENA_HEAD 1, 16000), (NOUGAT_ARENA_TAIL 1, 16200)]
    s.arenaFits 1 199 = true ∧ s.arenaFits 1 200 = false ∧ s.arenaFits 1 500 = false := by decide

theorem test_waiting_release_lapses : let s := (live (cellRegs 5 csFenced ++ [(CELL_STATE_FENCE_CAUSE 5, fcLockstep)])).updCell 4 (fun c => { c with relPending := true })
    s.rd (GOOSE_FENCE_STAT_FENCES 5) < s.rd GOOSE_CTL_FENCE_MAX ∧ s.on GOOSE_STATUS_SAFE = false ∧ s.ganged 5 = false ∧
    ok (.cellRelease (.ctx 1) 5 true) s (fun t => (t.cell 5).selfTest && !(t.cell 4).relPending) := by decide

theorem test_upwr_waits : let f : HeldFrame := ⟨ftCmd, 9, opUpwr, none, []⟩
    (let s := lane5 [(LINK_RX_STAT_ALIGN 5, 1)] (fun l => { l with heldTx := [f], rpBase := 8 })
     s.replayWaits 5 f = true ∧ gives (.replayTimeout 5) s s) ∧
    (let s := lane5 [(LINK_PWR_STAT_US 5, pwSleep)] id
     s.linkState 5 = lsUp ∧ s.rd (LINK_PWR_STAT_DS 5) = pwOn ∧ ok (.upwr 5 true) s (fun t => (t.link 5).cmds.length == 1)) := by decide

theorem test_point_measurement : let s := lane5 [(LINK_EYE_CTL_MODE 5, 1), (LINK_EYE_STAT_EYE_W 5, 3)] (fun l => { l with scan := some (.host 1) })
    (s.link 5).scan = some (.host 1) ∧ (s.link 5).autoDue = false ∧
    ok (.eyeScanDone 5 ⟨7, [0, 9], [0], [], [0, 0]⟩) s (fun t => t.rd (LINK_EYE_RES_ERRORS 5) == 7 && t.rd (LINK_EYE_STAT_EYE_W 5) == 3) := by decide

theorem test_wires :
    (let s := enc3 [(ENC_CTL_MODE 3, 1)] (fun e => { e with phi := some 0, count := 9 })
     s.disagree 3 quiet = ⟨false, false, false⟩ ∧ (s.disagree 3 { quiet with sinW := ⟨3000000, 3000000, 2500000⟩ }).sin = true ∧ s.pairOn 1 = false ∧
     (s.enc 3).settled = true ∧ s.on (ENC_CTL_IDX_EN 3) = false ∧ (s.enc 3).cal = none) := by decide

theorem test_pair_ends_waits_and_switches :
    (let s := (live [(HOST_OWN_ENC 2, 1), (HOST_OWN_ENC 3, 1), (ENC_DUAL_EN 2, 1)]).updEnc 3 (fun e => { e with cal := some { fullRun 1 with waits := true } })
     Passes s (.ctx 1) (ENC_DUAL_EN 2) ∧ s.pairOn 1 = true ∧ NoPages s ∧
     ok (.dualEnable (.ctx 1) 1 false) s (fun t => (t.enc 3).cal == some (fullRun 1))) ∧
    (let s := ((live [(ENC_DUAL_EN 2, 1), (ENC_DUAL_SAMPLES 2, 2)]).updPair 1 (fun e => { e with run := 2, offK := 6 })).updEnc 2
       (fun e => { e with innov := [9], x := 0 })
     let u := s.updEnc 3 (fun e => { e with innov := [4] })
     s.pairOn 1 = true ∧ s.pairActive 1 = 2 ∧ max 1 (s.rd (ENC_DUAL_SAMPLES 2)) ≤ (s.pair 1).run ∧
     ok (.dualMismatch 1) u (fun t => t.rd (ENC_DUAL_ACTIVE 2) == 0 && (t.pair 1).due == some (wrapPos ((u.enc 2).predicted + 6)))) := by decide

/-! ## The package (R566 to R570, R575) -/

theorem test_balls : laneBall 37 .txp = ⟨6, 22⟩ ∧ (PinGroup.hostPort 1).ball 34 = ⟨18, 6⟩ ∧ PinGroup.safety.ball 6 = ⟨16, 36⟩ ∧
    (PinGroup.encoder 2).ball 0 = ⟨20, 40⟩ ∧ (PinGroup.axis 3).ball 0 = ⟨25, 43⟩ ∧ (PinGroup.axis 3).place.2.2 = 12 ∧
    (pinGroups.all (fun g => g.signals.length == g.place.2.2)) = true ∧ pull .safety 0 = some false := by decide

/-! ## The whole machine -/

theorem test_whole_machine :
    MemOk State.reset ∧ State.reset.on GOOSE_STATUS_SAFE = false ∧ State.reset.otp.tampers ≤ 32 ∧
    (let s := live [(GOOSE_STATUS_SAFE, 1)]
     s.on GOOSE_STATUS_SAFE = true ∧ MemOk { s with mem := [(5, 9)] }) := by decide

/-! ## Published algorithms, against the vectors of their standards -/

set_option maxRecDepth 100000 in
theorem test_sha384 : (sha384 [0x61, 0x62, 0x63]).take 8 = [0xCB, 0x00, 0x75, 0x3F, 0x45, 0xA3, 0x5E, 0x8B] := by decide

set_option maxRecDepth 100000 in
theorem test_aes_substitution : (List.range 4).map (fun i => aesSub (BitVec.ofNat 8 (0x53 + i))) = [0xED, 0x20, 0xFC, 0xB1] ∧ aesUnsub 0xED = 0x53 := by
  decide

set_option exponentiation.threshold 512 in
theorem test_base_point : (pointOf (pointBytes g384)).isSome = true ∧ (pointOf []).isNone = true := by decide

/-! ## What well-formedness refuses -/

/-- A RAW10 line with a pixel of more than 10 bits. -/
def wideLine : CsiPacket := .raw 1 [0x400] true

theorem test_malformed_refused :
    WellFormed (.configWrite (.ctx 0) (.reg 0) 0 (some 1)) = false ∧
    WellFormed (.csiPacket 0 0 wideLine false false .none) = false ∧ WellFormed (.csiPacket 0 0 (.raw 1 [0x3FF] true) false false .none) = true ∧
    WellFormed (.pmbusPoll [⟨3, false, 0, 0⟩, ⟨3, true, 0, 0⟩]) = false ∧ WellFormed (.pmbusPoll [⟨3, false, 0, 0⟩, ⟨4, true, 0, 0⟩]) = true ∧
    WellFormed (.bootComplete (some ⟨[], []⟩) none true) = false ∧ WellFormed (.bootFail none (some ⟨[], []⟩)) = false ∧
    WellFormed (.bootFail none none) = true ∧ WellFormed (.ledgerRestore 0 [(1, []), (1, [])] false) = false ∧
    WellFormed (.dropRestoreDone [(1, []), (1, [])] false) = false ∧ WellFormed (.dropRestoreDone [(1, []), (2, [])] false) = true ∧
    WellFormed (.doorbellFetch 0 (some [(1, 0), (1, 4)])) = false ∧ WellFormed (.nop 5) = true := by decide

theorem test_long_packet_refused : packetOk (.embedded (List.replicate 65536 0) true) = false := by
  have h : ¬ (65536 : Nat) ≤ 65535 := by decide
  simp only [packetOk, List.length_replicate, h, decide_false]

theorem test_eye_scan_refused : ∀ p : EyePoints, 32 < p.left.length → WellFormed (.eyeScanDone 0 p) = false := by
  intro p h
  simp only [WellFormed, eyeOk, decide_eq_false_iff_not]
  omega

end Sys2Proof.Tests
end

section
/-!
PROOFS. The stop of a ring on an error, and the producer indices that a doorbell fetch brings (spec/02 R59).
-/
namespace Sys2Proof.Machine

open Sys2Proof

/-! ## A ring stops on an error (R59) -/

/-- The ownership fields lie below the windows of the contexts and the rings. -/
theorem ownFld_key_lt (kind : OwnKind) {i : Nat} (hi : i < ownCount kind) : (ownFld kind i).key < 0xE1000 * 32 := by
  cases kind <;>
    simp only [ownFld, ownCount, Fld.key, HOST_OWN_CELL, HOST_OWN_AXIS, HOST_OWN_LOOP, HOST_OWN_INSP, HOST_OWN_LQ, HOST_OWN_ENC] at hi ⊢ <;>
    omega

theorem State.owner_wr (s : State) {f : Fld} (v : Nat) (hf : 0xE1000 * 32 ≤ f.key) (kind : OwnKind) {i : Nat} (hi : i < ownCount kind) :
    (s.wr f v).owner kind i = s.owner kind i := by
  have hkey : (ownFld kind i).key ≠ f.key := Nat.ne_of_lt (Nat.lt_of_lt_of_le (ownFld_key_lt kind hi) hf)
  unfold State.owner
  rw [State.rd_wr_ne s v hkey]
  rfl

/-- A write above the ownership fields leaves the owner of every ring. -/
theorem State.ringOwner_wr (s : State) {f : Fld} (v : Nat) (hf : 0xE1000 * 32 ≤ f.key) (q : Nat) :
    (s.wr f v).ringOwner q = s.ringOwner q := by
  unfold State.ringOwner
  refine ite_congr rfl (fun _ => ?page) (fun _ => ite_congr rfl (fun _ => ?inspection) (fun _ => ite_congr rfl (fun _ => ?launch) (fun _ => rfl)))
  case page => exact s.owner_wr v hf .cell (by simp only [ownCount]; omega)
  case inspection => exact s.owner_wr v hf .insp (by simp only [ownCount]; omega)
  case launch => exact s.owner_wr v hf .lq (by simp only [ownCount]; omega)

theorem State.faultTime_wr (s : State) {f : Fld} (v : Nat) (h : TIME_STAT_VALID.key ≠ f.key) : (s.wr f v).faultTime = s.faultTime := by
  simp only [State.faultTime, State.on_wr_ne s v h, State.wr_timeNs]

/-- A report joins the pending ones with the time of the fault (R477). -/
theorem State.report_reports (s : State) (src unit cls initType initNum access addr : Nat) :
    (s.report src unit cls initType initNum access addr).reports =
      addReport s.reports ⟨src, unit, cls, initType, initNum, access, addr, s.faultTime, 0⟩ := rfl

@[simp] theorem State.ringErr_ring (s : State) (q code j : Nat) : (s.ringErr q code).ring j = s.ring j := by
  unfold State.ringErr
  dsimp only
  split <;> simp only [State.wr_ring, State.report_ring]

/-- RUN, which a ring without descriptors loses, is another field of the word. -/
theorem State.ringErr_rd (s : State) (q code : Nat) {g : Fld} (hg : g.key ≠ (HOST_RING_RUN q).key) :
    (s.ringErr q code).rd g = ((s.wr (HOST_RING_ERR q) 1).wr (HOST_RING_ERR_CODE q) code).rd g := by
  unfold State.ringErr
  dsimp only
  split
  · rw [State.rd_wr_ne _ _ hg, State.report_rd]
  · rw [State.report_rd]

theorem State.ringErr_rd_err (s : State) (q code : Nat) : (s.ringErr q code).rd (HOST_RING_ERR q) = 1 := by
  rw [State.ringErr_rd _ _ _ (by simp only [Fld.key, HOST_RING_ERR, HOST_RING_RUN]; omega),
    State.rd_wr_ne _ _ (by simp only [Fld.key, HOST_RING_ERR, HOST_RING_ERR_CODE]; omega), State.rd_wr_self]
  rfl

theorem State.ringErr_rd_errCode (s : State) (q : Nat) {code : Nat} (h : code < 16) : (s.ringErr q code).rd (HOST_RING_ERR_CODE q) = code := by
  rw [State.ringErr_rd _ _ _ (by simp only [Fld.key, HOST_RING_ERR_CODE, HOST_RING_RUN]; omega), State.rd_wr_self]
  exact Nat.mod_eq_of_lt h

theorem State.ringErr_reports (s : State) (q code : Nat) :
    (s.ringErr q code).reports =
      addReport s.reports ⟨srcRingErr, 0, 1, initCtx, s.ringOwner q, accFetch, q, s.faultTime, 0⟩ := by
  have hErr : 0xE1000 * 32 ≤ (HOST_RING_ERR q).key := by simp only [Fld.key, HOST_RING_ERR]; omega
  have hCode : 0xE1000 * 32 ≤ (HOST_RING_ERR_CODE q).key := by simp only [Fld.key, HOST_RING_ERR_CODE]; omega
  have hValid : TIME_STAT_VALID.key < 0xE1000 * 32 := by decide
  unfold State.ringErr
  dsimp only
  split <;> simp only [State.wr_reports, State.report_reports, State.ringOwner_wr _ _ hErr, State.ringOwner_wr _ _ hCode,
    State.faultTime_wr _ _ (Nat.ne_of_lt (Nat.lt_of_lt_of_le hValid hErr)), State.faultTime_wr _ _ (Nat.ne_of_lt (Nat.lt_of_lt_of_le hValid hCode))]

/-! ## What a doorbell entry gives a ring whose index is known (R59) -/

/-- A producer index equal to the last one read. -/
theorem State.takePi_same (s : State) {q : Nat} (hq : q < 152) (hErr : s.on (HOST_RING_ERR q) = false) (hKnown : (s.ring q).known = true) :
    s.takePi q (s.ring q).pi = s := by
  simp only [State.takePi, Nat.not_le.2 hq, hErr, hKnown, Bool.not_true, Bool.false_eq_true, if_false, BEq.rfl, if_true]

/-- A producer index that names more descriptors than the ring has slots. -/
theorem State.takePi_beyond (s : State) {q pi : Nat} (hq : q < 152) (hErr : s.on (HOST_RING_ERR q) = false)
    (hKnown : (s.ring q).known = true) (hNew : pi ≠ (s.ring q).pi)
    (hFar : s.ringSize q < (pi + 65536 - s.rd (HOST_RING_CI q)) % 65536) : s.takePi q pi = s.ringErr q 1 := by
  simp only [State.takePi, Nat.not_le.2 hq, hErr, hKnown, Bool.not_true, Bool.false_eq_true, if_false, beq_iff_eq, hNew, hFar, if_true]

end Sys2Proof.Machine

open Sys2Proof Sys2Proof.Machine

/-- Settles O10: an equal index leaves the state, and one out of range is the ring's error PI_BAD. -/
theorem badProducerIndex : Obligations.BadProducerIndex := by
  intro s q pi hq hErr hKnown
  refine ⟨fun hSame => ?_, fun hNew hFar => ?_⟩
  · rw [hSame]
    exact s.takePi_same hq hErr hKnown
  · intro t
    have ht : t = s.ringErr q 1 := s.takePi_beyond hq hErr hKnown hNew hFar
    rw [ht]
    exact ⟨s.ringErr_rd_err q 1, s.ringErr_rd_errCode q (by decide), by rw [State.ringErr_ring], s.ringErr_reports q 1⟩

end

section
/-!
PROOFS. A write of one register word, as the block accepts it or discards it, and the windows of the page store (spec/02 R51, spec/22 R555, R590).
-/
namespace Sys2Proof.Machine

open Sys2Proof

/-! ## A write of one word (R13, R590) -/

/-- A write of a register word that the filter passes. -/
theorem exec_configWrite_of_pass (s : State) (who : Sender) (addr : BitVec 26) (size : Fin 65) (v : Word)
    (h : s.gateWrite who addr.toNat size.val = .pass) :
    exec (.configWrite who (.reg addr) size (some v)) s = .next (s.applyWord who addr.toNat v.toNat) := by
  simp only [exec, execConfigWrite, State.writeAccess, h]

theorem decodeAddr_host {a : Nat} (hlo : 0xE0000 ≤ a) (hhi : a < 0xF0000) : decodeAddr a = some (.host, a - 0xE0000) := by
  unfold decodeAddr
  repeat rw [if_neg (by omega)]
  rw [if_pos hhi]

/-- The ownership words end below LMEM_SHARED. -/
theorem ownWordAt_eq_none {a : Nat} (h : 0xE0180 ≤ a) : ownWordAt a = none := by
  refine List.findSome?_eq_none_iff.2 fun kind _ => if_neg ?_
  cases kind <;>
    simp only [ownFld, ownCount, HOST_OWN_CELL, HOST_OWN_AXIS, HOST_OWN_LOOP, HOST_OWN_INSP, HOST_OWN_LQ, HOST_OWN_ENC] <;>
    omega

/-- A word of HOST above ADMIN and the ownership words is written field by field. -/
theorem State.applyWord_host (s : State) (who : Sender) {addr : Nat} (word : Nat) (hlo : 0xE0180 ≤ addr) (hhi : addr < 0xF0000) :
    s.applyWord who addr word = s.writeFields who .host addr word := by
  have hAdmin : addr ≠ HOST_ADMIN_CTX.addr := by simp only [HOST_ADMIN_CTX]; omega
  have hHost : 0xE0000 ≤ addr := by omega
  unfold State.applyWord
  simp only [decodeAddr_host hHost hhi, ownWordAt_eq_none hlo]
  cases who <;> simp only [hAdmin, false_and, if_false]

/-- A read-write field of a disabled block is neither locked nor refused under class S. -/
theorem State.takes_of_disabled (s : State) (b : Block) (x : FieldAt) (v : Nat) (hrw : x.acc = .rw) (hoff : s.enabledFor b x.fld = false) :
    s.lockedFld x = false ∧ s.refusesS b x v = false := by
  have hacc : (Acc.rw == Acc.rwl) = false := rfl
  simp only [State.lockedFld, State.refusesS, hrw, hoff, hacc, Bool.and_false, Bool.false_and, and_self]

/-- Read-write fields take their bits of the word. -/
theorem foldl_setPlain_eq_foldl_wr (word : Nat) {xs : List FieldAt} (s : State) (hrw : ∀ x ∈ xs, x.acc = .rw) :
    xs.foldl (fun t x => t.setPlain x (x.fld.bits word)) s = xs.foldl (fun t x => t.wr x.fld (x.fld.bits word)) s := by
  induction xs generalizing s with
  | nil => rfl
  | cons x xs ih =>
    have hx : s.setPlain x (x.fld.bits word) = s.wr x.fld (x.fld.bits word) := by
      simp only [State.setPlain, hrw x List.mem_cons_self]
    rw [List.foldl_cons, List.foldl_cons, hx, ih _ (fun y hy => hrw y (List.mem_cons_of_mem _ hy))]

/-- Values that the block does not accept discard the whole write, in a word whose fields are all plain and whose block is disabled. -/
theorem State.writeFields_discarded (s : State) (who : Sender) (b : Block) (addr word : Nat)
    (hrw : ∀ x ∈ b.fieldsAt addr, x.acc = .rw) (hoff : ∀ x ∈ b.fieldsAt addr, s.enabledFor b x.fld = false)
    (hplain : ∀ x ∈ b.fieldsAt addr, ∀ h ∈ b.hooks who addr, h.1 ≠ x.fld)
    (hbad : ((b.fieldsAt addr).foldl (fun t x => t.wr x.fld (x.fld.bits word)) s).accepts b addr = false) :
    s.writeFields who b addr word = s.hostXs who xsValue addr true := by
  have hlive : (b.fieldsAt addr).filter (fun x => !s.lockedFld x && !s.refusesS b x (x.fld.bits word)) = b.fieldsAt addr := by
    refine List.filter_eq_self.2 fun x hx => ?_
    obtain ⟨hlock, href⟩ := s.takes_of_disabled b x (x.fld.bits word) (hrw x hx) (hoff x hx)
    simp only [hlock, href, Bool.not_false, Bool.and_self]
  have hset : (b.fieldsAt addr).filter (fun x => !(b.hooks who addr).any (fun h => h.1 == x.fld)) = b.fieldsAt addr := by
    refine List.filter_eq_self.2 fun x hx => ?_
    simpa only [Bool.not_eq_true', List.any_eq_false, beq_iff_eq] using hplain x hx
  have hfold := foldl_setPlain_eq_foldl_wr word s hrw
  simp only [State.writeFields, hlive, hset, hfold, hbad, Bool.not_false, if_true]

/-! ## The windows of the page store (R51) -/

/-- The word of a window's base. -/
theorem fieldsAt_lmemBase (k : CtxId) : Block.host.fieldsAt (HOST_CTX_LMEM_BASE k).addr = [⟨HOST_CTX_LMEM_BASE k, .s, .rw⟩] := by
  revert k; decide

theorem fieldsAt_lmemSize (k : CtxId) : Block.host.fieldsAt (HOST_CTX_LMEM_SIZE k).addr = [⟨HOST_CTX_LMEM_SIZE k, .s, .rw⟩] := by
  revert k; decide

theorem fieldsAt_lmemShared : Block.host.fieldsAt HOST_LMEM_SHARED_BASE.addr =
    [⟨HOST_LMEM_SHARED_BASE, .s, .rw⟩, ⟨HOST_LMEM_SHARED_SIZE, .s, .rw⟩, ⟨HOST_LMEM_SHARED_EN, .l, .rw⟩] := by
  decide

theorem State.inSystem_eq_true (s : State) {base size : Nat} :
    s.inSystem base size = true ↔ 0 < size ∧ s.rd GLOBAL_MEM_SYS_BASE < base + size := by
  rw [State.inSystem, decide_eq_true_eq]

theorem State.inSystem_wr (s : State) {f : Fld} (v : Nat) (h : GLOBAL_MEM_SYS_BASE.key ≠ f.key) (base size : Nat) :
    (s.wr f v).inSystem base size = s.inSystem base size := by
  simp only [State.inSystem, State.rd_wr_ne s v h]

/-- The registers of context `k` in HOST. -/
def InCtx (k : CtxId) (addr : Nat) : Prop := 0xE1000 + 64 * k.val ≤ addr ∧ addr < 0xE1000 + 64 * k.val + 64

theorem inCtx_lmemBase (k : CtxId) : InCtx k (HOST_CTX_LMEM_BASE k).addr := by
  simp only [InCtx, HOST_CTX_LMEM_BASE]; omega

theorem inCtx_lmemSize (k : CtxId) : InCtx k (HOST_CTX_LMEM_SIZE k).addr := by
  simp only [InCtx, HOST_CTX_LMEM_SIZE]; omega

/-- The class S fields of a context's registers follow its enable. -/
theorem State.enabledFor_ctx (s : State) {k : CtxId} {f : Fld} (h : InCtx k f.addr) : s.enabledFor .host f = s.on (HOST_CTX_EN k) := by
  obtain ⟨hlo, hhi⟩ := h
  have hk := k.isLt
  simp only [State.enabledFor]
  rw [if_neg (by omega), if_pos (by omega), show (f.addr - 0xE0000 - 0x1000) / 0x40 = k.val by omega]

/-- A write in a context's registers is accepted when it leaves the context's window clear of the system region (R51). -/
theorem State.accepts_ctx (s : State) {k : CtxId} {addr : Nat} (h : InCtx k addr) :
    s.accepts .host addr = !s.inSystem (s.rd (HOST_CTX_LMEM_BASE k)) (s.rd (HOST_CTX_LMEM_SIZE k)) := by
  obtain ⟨hlo, hhi⟩ := h
  have hk := k.isLt
  simp only [State.accepts]
  rw [if_neg (by omega), if_pos (by omega), show (addr - 0xE0000 - 0x1000) / 0x40 = k.val by omega]

/-- In a context's registers a write of EN or KICK alone does more than set the field. -/
theorem hooksHost_ctx {who : Sender} {k : CtxId} {addr : Nat} (h : InCtx k addr) {e : Fld × (Nat → State → State)}
    (he : e ∈ hooksHost who addr) : e.1 = HOST_CTX_EN k ∨ e.1 = HOST_CTX_KICK k := by
  obtain ⟨hlo, hhi⟩ := h
  have hk := k.isLt
  rw [hooksHost, if_pos (by omega), show (addr - 0xE1000) / 0x40 = k.val by omega] at he
  simp only [List.mem_cons, List.not_mem_nil, or_false] at he
  exact he.imp (congrArg Prod.fst) (congrArg Prod.fst)

/-- A write of a context's base or size that makes its window overlap the system region. -/
theorem State.writeFields_ctxWindow (s : State) (who : Sender) {k : CtxId} {f : Fld} (word : Nat) (hoff : s.on (HOST_CTX_EN k) = false)
    (hin : InCtx k f.addr) (hword : Block.host.fieldsAt f.addr = [⟨f, .s, .rw⟩]) (hen : f.addr ≠ (HOST_CTX_EN k).addr)
    (hkick : f.addr ≠ (HOST_CTX_KICK k).addr)
    (hover : (s.wr f (f.bits word)).inSystem ((s.wr f (f.bits word)).rd (HOST_CTX_LMEM_BASE k))
      ((s.wr f (f.bits word)).rd (HOST_CTX_LMEM_SIZE k)) = true) :
    s.writeFields who .host f.addr word = s.hostXs who xsValue f.addr true := by
  apply State.writeFields_discarded <;> simp only [hword, List.mem_singleton, forall_eq, List.foldl_cons, List.foldl_nil]
  · rw [s.enabledFor_ctx hin, hoff]
  · intro e he hef
    rw [← hef] at hen hkick
    exact (hooksHost_ctx hin he).elim (fun h => hen (congrArg Fld.addr h)) (fun h => hkick (congrArg Fld.addr h))
  · rw [State.accepts_ctx _ hin, hover, Bool.not_true]

/-- A field reads its bits of the word that was written. -/
theorem State.rd_wr_bits (s : State) (f : Fld) (word : Nat) : (s.wr f (f.bits word)).rd f = bitsOf word f.lo f.width := by
  rw [State.rd_wr_self]
  exact Nat.mod_mod _ _

theorem bitsOf_zero_lo (v w : Nat) : bitsOf v 0 w = v % 2 ^ w := by
  rw [bitsOf, Nat.pow_zero, Nat.div_one]

/-- A write of LMEM_BASE that takes the window into the system region. -/
theorem State.writeFields_lmemBase (s : State) (who : Sender) (k : CtxId) (word : Nat) (hoff : s.on (HOST_CTX_EN k) = false)
    (hover : s.inSystem (word % 2 ^ 14) (s.rd (HOST_CTX_LMEM_SIZE k)) = true) :
    s.writeFields who .host (HOST_CTX_LMEM_BASE k).addr word = s.hostXs who xsValue (HOST_CTX_LMEM_BASE k).addr true := by
  refine s.writeFields_ctxWindow who word hoff (inCtx_lmemBase k) (fieldsAt_lmemBase k)
    (by simp only [HOST_CTX_LMEM_BASE, HOST_CTX_EN]; omega)
    (by simp only [HOST_CTX_LMEM_BASE, HOST_CTX_KICK]; omega) ?_
  have hSize : (HOST_CTX_LMEM_SIZE k).key ≠ (HOST_CTX_LMEM_BASE k).key := by simp only [Fld.key, HOST_CTX_LMEM_SIZE, HOST_CTX_LMEM_BASE]; omega
  have hSys : GLOBAL_MEM_SYS_BASE.key ≠ (HOST_CTX_LMEM_BASE k).key := by
    simp only [Fld.key, GLOBAL_MEM_SYS_BASE, HOST_CTX_LMEM_BASE]; omega
  rw [State.inSystem_wr _ _ hSys, State.rd_wr_bits, State.rd_wr_ne _ _ hSize]
  exact bitsOf_zero_lo word 14 ▸ hover

/-- A write of LMEM_SIZE that takes the window into the system region. -/
theorem State.writeFields_lmemSize (s : State) (who : Sender) (k : CtxId) (word : Nat) (hoff : s.on (HOST_CTX_EN k) = false)
    (hover : s.inSystem (s.rd (HOST_CTX_LMEM_BASE k)) (word % 2 ^ 15) = true) :
    s.writeFields who .host (HOST_CTX_LMEM_SIZE k).addr word = s.hostXs who xsValue (HOST_CTX_LMEM_SIZE k).addr true := by
  refine s.writeFields_ctxWindow who word hoff (inCtx_lmemSize k) (fieldsAt_lmemSize k)
    (by simp only [HOST_CTX_LMEM_SIZE, HOST_CTX_EN]; omega)
    (by simp only [HOST_CTX_LMEM_SIZE, HOST_CTX_KICK]; omega) ?_
  have hBase : (HOST_CTX_LMEM_BASE k).key ≠ (HOST_CTX_LMEM_SIZE k).key := by simp only [Fld.key, HOST_CTX_LMEM_SIZE, HOST_CTX_LMEM_BASE]; omega
  have hSys : GLOBAL_MEM_SYS_BASE.key ≠ (HOST_CTX_LMEM_SIZE k).key := by
    simp only [Fld.key, GLOBAL_MEM_SYS_BASE, HOST_CTX_LMEM_SIZE]; omega
  rw [State.inSystem_wr _ _ hSys, State.rd_wr_bits, State.rd_wr_ne _ _ hBase]
  exact bitsOf_zero_lo word 15 ▸ hover

/-- A write of LMEM_SHARED that takes the shared window into the system region. -/
theorem State.writeFields_lmemShared (s : State) (who : Sender) (word : Nat) (hoff : s.on HOST_LMEM_SHARED_EN = false)
    (hover : s.inSystem (word % 2 ^ 14) (bitsOf word 16 15) = true) :
    s.writeFields who .host HOST_LMEM_SHARED_BASE.addr word = s.hostXs who xsValue HOST_LMEM_SHARED_BASE.addr true := by
  have hHooks : Block.host.hooks who HOST_LMEM_SHARED_BASE.addr = [] := rfl
  have hDisabled : ∀ f : Fld, f.addr = HOST_LMEM_SHARED_BASE.addr → s.enabledFor .host f = false := by
    intro f hf
    simp only [State.enabledFor]
    rw [hf, if_pos (by decide), hoff]
  have hAccepts : ∀ t : State, t.accepts .host HOST_LMEM_SHARED_BASE.addr =
      !t.inSystem (t.rd HOST_LMEM_SHARED_BASE) (t.rd HOST_LMEM_SHARED_SIZE) := by
    intro t
    simp only [State.accepts]
    rw [if_pos (by decide)]
  apply State.writeFields_discarded <;>
    simp only [fieldsAt_lmemShared, hHooks, List.forall_mem_cons, List.foldl_cons, List.foldl_nil]
  · decide
  · exact ⟨hDisabled _ rfl, hDisabled _ rfl, hDisabled _ rfl, List.forall_mem_nil _⟩
  · exact ⟨List.forall_mem_nil _, List.forall_mem_nil _, List.forall_mem_nil _, List.forall_mem_nil _⟩
  · rw [hAccepts, State.inSystem_wr _ _ (by decide), State.inSystem_wr _ _ (by decide), State.inSystem_wr _ _ (by decide),
      State.rd_wr_ne _ _ (by decide), State.rd_wr_ne _ _ (by decide), State.rd_wr_bits, State.rd_wr_ne _ _ (by decide), State.rd_wr_bits,
      Bool.not_eq_false']
    exact bitsOf_zero_lo word 14 ▸ hover

end Sys2Proof.Machine

open Sys2Proof Sys2Proof.Machine

/-- Settles O12: each write reaches the fields of its word, whose new values the window check refuses. -/
theorem windowsStayClearOfTheSystemRegion : Obligations.WindowsStayClearOfTheSystemRegion := by
  intro s who k addr v hpass overlaps
  have hwrite := exec_configWrite_of_pass s who addr 4 v hpass
  have hover : ∀ {base size : Nat}, overlaps base size → s.inSystem base size = true := s.inSystem_eq_true.2
  have hk := k.isLt
  refine ⟨fun hoff haddr hbad => ?_, fun hoff haddr hbad => ?_, fun hoff haddr hbad => ?_⟩
  · rw [hwrite, haddr, State.applyWord_host _ _ _ (by simp only [HOST_CTX_LMEM_BASE]; omega) (by simp only [HOST_CTX_LMEM_BASE]; omega),
      s.writeFields_lmemBase who k v.toNat hoff (hover hbad)]
  · rw [hwrite, haddr, State.applyWord_host _ _ _ (by simp only [HOST_CTX_LMEM_SIZE]; omega) (by simp only [HOST_CTX_LMEM_SIZE]; omega),
      s.writeFields_lmemSize who k v.toNat hoff (hover hbad)]
  · rw [hwrite, haddr, State.applyWord_host _ _ _ (by decide) (by decide), s.writeFields_lmemShared who v.toNat hoff (hover hbad)]

end

section
/-!
PROOFS. The writes that the filter drops, and PHY_CTL of a lane in discovery (spec/20 R538, spec/22 R555).
-/
namespace Sys2Proof.Machine

open Sys2Proof

/-! ## A write that the filter drops -/

/-- A dropped write of a register word leaves what the filter recorded, and nothing else. -/
theorem exec_configWrite_of_drop (s t : State) (who : Sender) (addr : BitVec 26) (size : Fin 65) (v : Word)
    (h : s.gateWrite who addr.toNat size.val = .drop t) : exec (.configWrite who (.reg addr) size (some v)) s = .next t := by
  simp only [exec, execConfigWrite, State.writeAccess, h]

/-- A dropped write of a field that has a command of its own does not reach the command's effect. -/
theorem State.gatedWrite_of_drop (s t : State) (who : Sender) (f : Fld) (v : Nat) (eff : State → State)
    (h : s.gateWrite who f.addr 4 = .drop t) : s.gatedWrite who f v eff = t := by
  simp only [State.gatedWrite, h]

/-! ## The lanes in the address map, and PHY_CTL of a lane in discovery (R538) -/

theorem decodeAddr_link {a : Nat} (hlo : 0x2000000 ≤ a) (hhi : a < 0x2400000) :
    decodeAddr a = some (.link ((a - 0x2000000) / 0x10000), a % 0x10000) := by
  unfold decodeAddr
  repeat rw [if_neg (by omega)]
  rw [if_pos hhi]

/-- PHY_CTL is the first word of its lane's window. -/
theorem decodeAddr_phyCtl (n : CellId) : decodeAddr (LINK_PHY_CTL_EN n).addr = some (.link n, (LINK_PHY_CTL_EN n).addr % 0x10000) := by
  have hn := n.isLt
  have haddr : (LINK_PHY_CTL_EN n).addr = 0x2000000 + 0x10000 * n.val := rfl
  rw [decodeAddr_link (by omega) (by omega), show ((LINK_PHY_CTL_EN n).addr - 0x2000000) / 0x10000 = n.val by omega]

/-- PHY_CTL is a whole word. -/
theorem phyCtl_aligned (n : CellId) : (LINK_PHY_CTL_EN n).addr % 4 = 0 := by
  simp only [LINK_PHY_CTL_EN]; omega

theorem State.discovering_eq_true (s : State) {n : Nat} :
    s.discovering n = true ↔ s.coop.disc.contains n = true ∧ s.on GLOBAL_READY_DISC = false := by
  rw [State.discovering, Bool.and_eq_true, Bool.not_eq_true']

/-- The last check of the filter refuses a context PHY_CTL of a lane in discovery. -/
theorem State.gateBlock_phyCtl_of_discovering (s : State) (k : CtxId) {n : Nat} (hgated : s.gated n = false) (hdisc : s.discovering n = true) :
    s.gateBlock (.ctx k) (.link n) (LINK_PHY_CTL_EN n).addr = .drop (s.cfgLive (.ctx k) (LINK_PHY_CTL_EN n).addr) := by
  have hlive : (Block.link n).cell?.filter s.gated = none := by simp only [Block.cell?, Option.filter, hgated, Bool.false_eq_true, if_false]
  simp only [State.gateBlock, hlive, hdisc, BEq.rfl, Bool.and_self, if_true]

/-- A context's write of PHY_CTL of a lane in discovery passes the checks before the last and is dropped there with CFG_LIVE. -/
theorem State.gateWrite_phyCtl_of_discovering (s : State) (k : CtxId) (n : CellId) (hport : s.portReset k = false)
    (hfused : s.fused n = false) (hready : s.on GLOBAL_READY_HOST = true)
    (hmay : s.ctxMayWrite k (.link n) ((LINK_PHY_CTL_EN n).addr % 0x10000) = true) (hgated : s.gated n = false)
    (hdisc : s.discovering n = true) :
    s.gateWrite (.ctx k) (LINK_PHY_CTL_EN n).addr 4 = .drop (s.cfgLive (.ctx k) (LINK_PHY_CTL_EN n).addr) := by
  have hword : ¬((4 : Nat) ≠ 4 ∨ (LINK_PHY_CTL_EN n).addr % 4 ≠ 0) := by simp only [phyCtl_aligned, ne_eq, not_true, or_self, not_false_eq_true]
  have hexists : ((Block.link n).cell?.filter s.fused).isSome = false := by
    simp only [Block.cell?, Option.filter, hfused, Bool.false_eq_true, if_false, Option.isSome_none]
  simp only [State.gateWrite, hport, hword, decodeAddr_phyCtl, hexists, hready, hmay, Bool.not_true, Bool.false_eq_true, if_false]
  exact s.gateBlock_phyCtl_of_discovering k hgated hdisc

end Sys2Proof.Machine

open Sys2Proof Sys2Proof.Machine

/-- Settles O13: the filter drops the write with CFG_LIVE as class 1, so neither the word nor either command of its enable takes effect. -/
theorem phyCtlDuringDiscovery : Obligations.PhyCtlDuringDiscovery := by
  intro s k n addr v hunready hset hready hport hfused hgated hmay haddr t
  rw [haddr] at hmay
  have hdrop : s.gateWrite (.ctx k) (LINK_PHY_CTL_EN n).addr 4 = .drop (s.cfgLive (.ctx k) (LINK_PHY_CTL_EN n).addr) :=
    s.gateWrite_phyCtl_of_discovering k n hport hfused hready hmay hgated (s.discovering_eq_true.2 ⟨hset, hunready⟩)
  have ht : t = s.cfgLive (.ctx k) (LINK_PHY_CTL_EN n).addr := by
    simp only [t, haddr, State.cfgLive, senderInit]
  rw [ht]
  refine ⟨exec_configWrite_of_drop s _ _ addr 4 v (haddr ▸ hdrop), ?enable, ?disable⟩
  case enable => exact congrArg Host.Outcome.next (s.gatedWrite_of_drop _ _ _ 1 _ hdrop)
  case disable => exact congrArg Host.Outcome.next (s.gatedWrite_of_drop _ _ _ 0 _ hdrop)

end
